-- ==== Sys2Proof/Word.lean ====
section
/-! DEFINITION. Word.lean: the word types of the WTM-2464 (R4 to R9). -/

namespace Sys2Proof

/-- One byte of a byte-addressed memory or of a frame (R8). -/
abbrev Byte := BitVec 8

/-- One 32-bit register, program, scratch or result-SRAM word (R9). -/
abbrev Word := BitVec 32

/-- A timebase value in ticks of 5 ns (R312). -/
abbrev Tick := BitVec 64

/-- A byte string, in the order in which it is sent or stored. -/
abbrev Bytes := List Byte

end Sys2Proof
end

