-- ==== Sys2Proof/Syntax/Operands.lean ====
section
/-! DEFINITION. Syntax/Operands.lean: the types of the commands' operands, and the decoded form of a Balrax word. -/

namespace Sys2Proof

/-- Who sends a register access: the eleven requesters of R154 and R464, with jets numbered 0 to 7. DEDUCED, log entry 35. -/
inductive Requester where
  | chain
  | service
  | steward
  | jet (n : Nat)
deriving DecidableEq, Repr, Inhabited

/-- The two Ecpor ports of a device (R275). -/
inductive PortId where
  | north
  | south
deriving DecidableEq, Repr, Inhabited

/-- What follows the payload of a received frame (R280, R281): the check value, two or four bytes as a number, and INFO; and whether the
device was receiving by its other port when the frame's squelch opened (R290). -/
structure Tail where
  check : Nat
  info  : Byte
  busy  : Bool
deriving DecidableEq, Repr, Inhabited

/-- The header of a received frame without TYPE, which the command's row gives (R282), and what follows its payload. DEDUCED, log entry 83. -/
structure Header where
  cnt  : Nat
  addr : Nat
  cls  : Nat
  tag  : Nat
  tail : Tail
deriving DecidableEq, Repr, Inhabited

/-- A frame as a port buffer holds it: header fields and payload, without the check value (R281, R282). DEDUCED, log entry 83. -/
structure Frame where
  typ     : Nat
  cnt     : Nat
  addr    : Nat
  cls     : Nat
  tag     : Nat
  payload : Bytes
deriving DecidableEq, Repr, Inhabited

/-- What a slice measures besides its signature (R390, R391), as far as its kind measures it: a modulator's offset in 1/64 LSB, its gain as a
coefficient and its noise at OSR 8,192 in 0.1 µV rms; the current of a balance switch in 0.1 mA or of an open-wire sink in 0.1 µA; whether
the overcurrent comparator tripped. DEDUCED, log entry 6. -/
structure SliceMeas where
  offset  : Int
  gain    : Nat
  noise   : Nat
  current : Nat
  tripped : Bool
deriving DecidableEq, Repr, Inhabited

/-- What is wrong with a host-port transaction (R307): nothing, a wrong CRC, or a bit count or length that does not fit. -/
inductive HostErr where
  | none
  | crc
  | format
deriving DecidableEq, Repr, Inhabited

/-- The rows of Table 10.7 that a received transmission can fall under before its content is looked at, with its INFO where one was
received (R280). -/
inductive RxFail where
  | code                   -- code violation, disparity error, lost squelch, a symbol that is neither EOF nor ABT
  | header (info : Byte)   -- invalid header or wrong direction
  | abt (info : Byte)      -- ended with ABT
deriving DecidableEq, Repr, Inhabited

/-- A transmission that fails a receive check: its symbols, its header as received, 0 where it did not come so far, whether the device
was receiving by its other port when its squelch opened (R290), and the check. -/
structure BadRx where
  syms : Nat
  head : Word
  busy : Bool
  kind : RxFail
deriving DecidableEq, Repr, Inhabited

/-- A port on whose pair a transmission is to start, and whether its squelch is open then, or a copy of a frame still being received
occupies it (R288, R290). DEDUCED, log entries 83 and 85. -/
structure TxAt where
  port : PortId
  sq   : Bool
deriving DecidableEq, Repr, Inhabited

/-- The start of step 1 after VSTK has risen: the ticks that pass before it, and the level of TEST then (R442). -/
structure TestAt where
  dt   : Nat
  test : Bool
deriving DecidableEq, Repr, Inhabited

/-- A level at a filtered input: the ticks that pass before it is judged, and those for which it has been there (R453). -/
structure PulseAt where
  dt  : Nat
  len : Nat
deriving DecidableEq, Repr, Inhabited

/-- A gap on the service port: the ticks that pass up to the last byte before it, and the bytes that have come since the last gap (R424). -/
structure GapAt where
  dt  : Nat
  got : Bytes
deriving DecidableEq, Repr, Inhabited

/-- A crossing of a threshold by VSTK: the ticks that pass before it, and the voltage in mV. -/
structure VstkAt where
  dt : Nat
  mv : Nat
deriving DecidableEq, Repr, Inhabited

/-- What the balance-path sensing gives for one internal cell over one slot (R241, R243, R246). -/
structure SlotMeas where
  cell  : Nat
  cur   : Nat   -- mean switch current, units of 0.1 mA
  drop  : Nat   -- mean switch drop, mV
  vcell : Nat   -- mean cell voltage, mV
deriving DecidableEq, Repr, Inhabited

/-- A current phasor of the chain, real and imaginary part, in µA (Table 9.4). -/
structure Phasor where
  re : Int
  im : Int
deriving DecidableEq, Repr, Inhabited

/-- What the current sense of one cell shows for the on-die 100 mA reference (R258), in µA. -/
structure TrimMeas where
  cell  : Nat
  sense : Nat
deriving DecidableEq, Repr, Inhabited

/-- What the switch-current sense of one cell has given in a pass of run kind 0, before its trim (R258, R262): the timebase instant
that each sample represents, and the sample in 1/1000 µA, positive when it discharges the cell. -/
structure CurSense where
  cell : Nat
  xs   : List (Nat × Int)
deriving DecidableEq, Repr, Inhabited

/-- One discovery slot of a rill query (R344). -/
inductive SlotReply where
  | empty
  | clean (id : BitVec 64)
  | garbled
deriving DecidableEq, Repr, Inhabited

/-- The head of a service request (R423): the interface it arrives on (true: service port) and its SEQ and SID;
`tag` and `port` are those of the SVC frame that carried it. -/
structure SvcReq where
  srv  : Bool
  seq  : Nat
  sid  : Nat
  tag  : Nat
  port : PortId
deriving DecidableEq, Repr, Inhabited

/-- A general register number g0 to g15 (R158). -/
abbrev Reg := BitVec 4

/-- An instruction field of 18 bits (R165). -/
abbrev Imm18 := BitVec 18

/-- An instruction field of 26 bits (R165). -/
abbrev Imm26 := BitVec 26

/-- The ALU functions of Table 6.3. -/
inductive AluOp where
  | add | sub | and | or | xor | shl | shr | sar | mul | min | max
deriving DecidableEq, Repr, Inhabited

/-- The conditions of the conditional branches of Table 6.4. -/
inductive BrOp where
  | eq | ne | lt | ge
deriving DecidableEq, Repr, Inhabited

/-- A decoded Balrax instruction: the rows of Table 6.2 with the fields of Tables 6.1, 6.3 and 6.6. -/
inductive Balrax where
  | alu (op : AluOp) (dst a b : Reg)
  | addi (ra rb : Reg) (imm : Imm18)
  | lui (ra : Reg) (imm : Imm18)
  | br (op : BrOp) (ra rb : Reg) (imm : Imm18)
  | loop (ra : Reg) (imm : Imm18)
  | jmp (imm : Imm26)
  | call (imm : Imm26)
  | ret
  | ld (ra rb : Reg) (imm : Imm18)
  | st (ra rb : Reg) (imm : Imm18)
  | rdreg (ra rb : Reg) (imm : Imm18)
  | wrreg (ra rb : Reg) (imm : Imm18)
  | conv (rd : Reg) (w : Bool) (group : BitVec 4)
  | syncv (rd ra : Reg) (w : Bool) (group : BitVec 4)
  | getr (rd ra : Reg) (ch : BitVec 6) (rsel v n : Bool)
  | strm (rd ra rb : Reg) (len1 : BitVec 6) (rsel : Bool) (stream : BitVec 4)
  | lim (rd ra : Reg) (ch : BitVec 6) (rsel : Bool)
  | bal (ra rb : Reg)
  | balq (rd ra rb : Reg)
  | exc (rd : Reg) (kind : BitVec 2)
  | corr (rd ra : Reg) (bin : BitVec 3) (im : Bool)
  | wait (rb : Reg) (imm : Imm18)
  | waitt (dst a : Reg)
  | waittRd (dst : Reg)
  | waittRdh (dst : Reg)
  | waite (rd ra rb : Reg) (flag : BitVec 6) (rsel c : Bool)
  | sig (ra : Reg) (flag : BitVec 6) (rsel c : Bool)
  | yield
  | halt (code : BitVec 16)
deriving DecidableEq, Repr, Inhabited

end Sys2Proof
end

