-- ==== Sys2Proof/Syntax.lean ====
section
/-! DEFINITION. Syntax.lean: the commands of the block. One constructor of `Instr` per row of spec/opcode_table.json.
The first operand of every command is, or holds, `dt`: the number of core-clock ticks of 5 ns that pass before it takes effect. -/

namespace Sys2Proof

/-- The commands, in the order of spec/opcode_table.json. DESIGN CHOICE, log entry 122. -/
inductive Instr where
  /-- REGISTER_WRITE (R11). A register write to a register with no behaviour of its own takes effect under its access codes, lock and overlay rules. -/
  | registerWrite (dt : Nat) (rq : Requester) (addr : Nat) (val : Word)
  /-- POWER_ON_RESET (R41). VSTK rises from below the VAON collapse threshold and everything except MRAM content is reset. -/
  | powerOnReset (dt : Nat) (test : Bool)
  /-- SUPPLY_RESET (R41). VSTK falls below 7.5 V, a rail supervisor trips, or PLL relock fails, and all domains except always-on are reset. -/
  | supplyReset (dt : Nat) (src : Nat) (test : Bool)
  /-- COMMAND_RESET (R41). A write of 0x9E3A to PWR_RESET.KEY while the lock is open resets all domains except always-on. -/
  | commandReset (dt : Nat) (rq : Requester) (test : Bool)
  /-- WAKE_RESET (R41). A qualified wake ends SHIP or STILL with a reset of all domains except always-on. -/
  | wakeReset (dt : Nat) (cause : Nat) (test : Bool)
  /-- LOADER_START (R43). At start-up step 5 a loader copy is checked and started, copy B if copy A fails. -/
  | loaderStart (dt : Nat) (aOk : Bool) (bOk : Bool)
  /-- IMAGE_COPY_DONE (R44). At start-up step 6 the firmware image has been copied and block-checked, or no image passed and the device stays in RESET. -/
  | imageCopyDone (dt : Nat) (ok : Bool)
  /-- CONFIG_LOAD (R63). At start-up step 7 the valid configuration copy with the higher generation, or the built-in defaults, is put in effect. -/
  | configLoad (dt : Nat)
  /-- PORT_ENABLE (R43). At start-up step 8 the chain ports are enabled. -/
  | portEnable (dt : Nat)
  /-- START_MODE_ENTRY (R466). At start-up step 9 the device enters LOCKOUT, SAFE or START_MODE by overlay commit. -/
  | startModeEntry (dt : Nat)
  /-- AUTOLOAD (R198). After start-up step 9, with AUTOLOAD set, the program store is loaded and the autostart jets are started. -/
  | autoload (dt : Nat)
  /-- SUPPLY_DIP_START (R36). VSTK falls below the warning threshold: SUPPLY_WARN is raised, MRAM writes are held and the dip record starts. -/
  | supplyDipStart (v : VstkAt)
  /-- SUPPLY_DIP_END (R36). After VSTK has stayed 1 ms above the warning threshold plus hysteresis, MRAM_HOLD clears and the dip is logged. -/
  | supplyDipEnd (dt : Nat) (vmin : Nat)
  /-- RAIL_SUPERVISOR_TRIP (R34). A VPRE, VDDA or VDDC supervisor trips and a supply reset follows after its delay. -/
  | railSupervisorTrip (dt : Nat) (rail : Nat)
  /-- VREG_FAULT (R34). VREG under-voltage or over-current limits VREG and flags AUX results SUSPECT. -/
  | vregFault (dt : Nat)
  /-- STACK_OV (R34). VSTK rises above the 140 V stack limit and STACK_OV is presented. -/
  | stackOv (dt : Nat)
  /-- VCHN_UNDERVOLTAGE (R34). VCHN falls below 2.8 V and both ports are released to high impedance. -/
  | vchnUndervoltage (dt : Nat)
  /-- PLL_UNLOCK (R40). PLL lock loss switches the core to the reference, stops the modulators and the ports, and starts relock retries. -/
  | pllUnlock (dt : Nat)
  /-- PLL_RELOCK_RETRY (R40). Every 1 ms a relock is tried; success restarts modulators and ports, and the eighth failure causes a supply reset. -/
  | pllRelockRetry (dt : Nat) (ok : Bool)
  /-- CLOCK_MONITOR (R40). The reference oscillator is outside ±5 % and the core falls back to the LPO. -/
  | clockMonitor (dt : Nat)
  /-- LPO_FAULT (R40). The LPO is outside ±10 % and FLOW is held low. -/
  | lpoFault (dt : Nat)
  /-- LOCAL_MODE_REQUEST (R54). A write of PWR_MODE_REQ checks the route and starts an overlay commit or records a refusal. -/
  | localModeRequest (dt : Nat) (rq : Requester) (target : Nat)
  /-- OVERLAY_COMMIT (R60). An overlay commit moves pending RWO values, withdraws and applies overlays and updates the mode as one indivisible step. -/
  | overlayCommit (dt : Nat)
  /-- STILL_SCAN (R47). Every 4 ms in STILL one cell is compared with the STILL limits and may cause a wake. -/
  | stillScan (dt : Nat) (cell : Nat) (mv : Int)
  /-- WAKE_TIMER_EXPIRY (R41). The STILL wake timer expires and causes a wake reset. -/
  | wakeTimerExpiry (dt : Nat)
  /-- WATCH_BURST_START (R48). At each WATCH_INTERVAL a burst begins with core and jets clocked from the reference. -/
  | watchBurstStart (dt : Nat)
  /-- WATCH_BURST_END (R48). When the triggers due in it are served the burst ends and the core clock is gated off. -/
  | watchBurstEnd (dt : Nat)
  /-- BUCK_BURST_ENABLE (R444). 200 µs before each WATCH burst the buck is enabled and the rails regulate. -/
  | buckBurstEnable (dt : Nat)
  /-- SUPERVISOR_UNMASK (R444). 150 µs after the buck is enabled in WATCH the rail supervisors are unmasked. -/
  | supervisorUnmask (dt : Nat)
  /-- WAKE_PIN (R453). A WAKE level passes its glitch filter and causes a wake reset or the WATCH to MEASURE route. -/
  | wakePin (e : PulseAt)
  /-- LPO_SHIP_START (R49). In SHIP a WAKE level change or a tone starts the LPO to qualify a wake. -/
  | lpoShipStart (dt : Nat)
  /-- LPO_SHIP_STOP (R49). 1 ms after an unqualified wake condition ends the LPO stops again in SHIP. -/
  | lpoShipStop (dt : Nat)
  /-- WAKE_TONE_DETECTED (R298). A tone present for 50 LPO cycles is taken as a wake from SHIP, STILL or WATCH. -/
  | wakeToneDetected (dt : Nat) (p : PortId)
  /-- LOCK_OPEN (R56). The key sequence 0x1F2E then 0x3D4C written to PWR_LOCK.KEY opens the configuration lock for its requester. -/
  | lockOpen (dt : Nat) (rq : Requester)
  /-- LOCK_CLOSE (R57). The owner writes 0x0000 to PWR_LOCK.KEY and the lock closes. -/
  | lockClose (dt : Nat) (rq : Requester)
  /-- LOCK_TIMEOUT (R57). 250 ms without an RWL write from the owner closes the configuration lock. -/
  | lockTimeout (dt : Nat)
  /-- CONFIG_SAVE (R63). A write of OVL_CTRL.SAVE starts writing the underlying values and overlays into the other copy. -/
  | configSave (dt : Nat) (rq : Requester)
  /-- CONFIG_SAVE_DONE (R63). The saved copy is verified and becomes the copy in use, or SAVE_ERR is set. -/
  | configSaveDone (dt : Nat) (ok : Bool)
  /-- CONFIG_DISCARD (R467). A write of OVL_CTRL.DISCARD reloads underlying values and stored overlays from the copy in use or the defaults. -/
  | configDiscard (dt : Nat) (rq : Requester)
  /-- OVL_ENTRY_WRITE (R61). A write of OVL_ENT_ADDR is checked against the refused addresses and the entry limits before it takes effect. -/
  | ovlEntryWrite (dt : Nat) (rq : Requester) (val : Word)
  /-- PREPARE (R65). A MODE frame with OP PREPARE is taken, judged by Table 2.9 and answered with MODE_ACK. -/
  | modePrepare (dt : Nat) (p : PortId) (h : Header) (target : Nat) (epoch : Nat) (tc : Tick)
  /-- COMMIT (R66). A MODE frame with OP COMMIT is recorded for its epoch, or raises a miss when it is late or unprepared. -/
  | modeCommit (dt : Nat) (p : PortId) (h : Header) (target : Nat) (epoch : Nat) (tc : Tick)
  /-- CHAIN_COMMIT_TIME (R66). The timebase reaches T of a prepared change, which commits or raises MODE_CHANGE_MISSED. -/
  | chainCommitTime (dt : Nat)
  /-- NCELLS_WRITE (R77). A change of CFE_STACK.NCELLS takes effect at once and clears the result registers of cells that become unused. -/
  | ncellsWrite (dt : Nat) (rq : Requester) (n : Nat)
  /-- OW_START (R88). A write of CFE_OW_CTRL.START starts an open-wire check, or holds it where checks cannot run. -/
  | owStart (dt : Nat) (rq : Requester)
  /-- OW_PERIOD_EXPIRY (R88). PERIOD × 100 ms after the last check started, a periodic check falls due. -/
  | owPeriodExpiry (dt : Nat)
  /-- OW_PHASE_START (R84). An open-wire phase begins by holding the balance outputs of its affected set off. -/
  | owPhaseStart (dt : Nat)
  /-- OW_BASELINE_START (R84). 50 µs into a phase the baseline conversions of the affected set are requested. -/
  | owBaselineStart (dt : Nat)
  /-- OW_SINKS_ON (R84). When the last baseline conversion completes the sinks of the phase switch on. -/
  | owSinksOn (dt : Nat)
  /-- OW_CHECK_START (R84). After the settle time the check conversions of the affected set start. -/
  | owCheckStart (dt : Nat)
  /-- OW_EVALUATE (R87). When the last check conversion completes the sinks switch off, the criteria are evaluated and OPEN is updated. -/
  | owEvaluate (dt : Nat)
  /-- OW_PHASE_END (R84). 100 µs after the sinks switch off the balance hold is released and the phase ends. -/
  | owPhaseEnd (dt : Nat)
  /-- DECIMATED_SAMPLE (R100). A decimation chain delivers a raw sample after OSR modulator edges, and the sample is corrected and averaged. -/
  | decimatedSample (dt : Nat) (m : Nat) (xs : (List Int)) (overload : Bool)
  /-- ROTATION_VISIT_START (R111). Every INTERVAL a free spare starts a visit to the next cell modulator in turn. -/
  | rotationVisitStart (dt : Nat) (sp : Nat)
  /-- SPARE_CAL_DONE (R114). The spare has converted its three points and is checked, then parks or connects to the cell. -/
  | spareCalDone (dt : Nat) (sp : Nat) (off : Int) (gain : Nat)
  /-- MATCH_WINDOW_END (R113). A match window ends, and the match criterion is evaluated and the window repeated or the visit abandoned. -/
  | matchWindowEnd (dt : Nat) (sp : Nat) (diff : Int)
  /-- HANDOVER (R115). At a window boundary the spare takes the side and the visited modulator goes to its calibration inputs. -/
  | handover (dt : Nat) (sp : Nat)
  /-- MODULATOR_CAL_DONE (R114). The visited modulator's new offset and gain are computed and checked. -/
  | modulatorCalDone (dt : Nat) (sp : Nat) (off : Int) (gain : Nat)
  /-- HAND_BACK (R115). At a window boundary the modulator takes its side back and the spare parks. -/
  | handBack (dt : Nat) (sp : Nat)
  /-- XMOD_IN_PLACE_CAL (R119). The steward calibrates an idle AUX, DIAG or STACK modulator in place against the internal references. -/
  | xmodInPlaceCal (dt : Nat) (m : Nat) (off : Int) (gain : Nat)
  /-- COEFF_HOURLY_COPY (R110). Once per hour of rotation the steward copies the live coefficients into the stored set of the band in effect. -/
  | coeffHourlyCopy (dt : Nat)
  /-- CAL_RUN_START (R120). A write of MOD_CAL.START requests a calibration run, which is accepted or refused. -/
  | calRunStart (dt : Nat) (rq : Requester) (val : Word)
  /-- CAL_TRIM_DONE (R122). The reference trim completes and keeps the ratio or fails the run. -/
  | calTrimDone (dt : Nat) (mean : Int)
  /-- CAL_POINT_DONE (R121). A calibration point of a modulator completes, and after the third point the coefficients are computed and checked. -/
  | calPointDone (dt : Nat) (mean : Int)
  /-- CAL_RUN_COMMIT (R123). When every named modulator is taken, the new calibration copy is written, verified and made the copy in use. -/
  | calRunCommit (dt : Nat) (ok : Bool)
  /-- SNAPSHOT (R130). A write of RES_SNAP_CTRL.TAKE copies all 36 latest-result registers in one cycle. -/
  | snapshot (dt : Nat) (rq : Requester)
  /-- RESULT_READ (R128). A read of a latest-result register counts the word as read. -/
  | resultRead (dt : Nat) (rq : Requester) (ch : Nat)
  /-- NET_TBL_READ (R312). A read of NET_TBL latches timebase[63:32] for the requester's next NET_TBH read. -/
  | netTblRead (dt : Nat) (rq : Requester)
  /-- NET_RING_READ (R307). A host-port read of NET_RING on the bridge clears HSTAT.ATTN. -/
  | netRingRead (dt : Nat)
  /-- WINDOW_AUTOINC_ACCESS (R193). A data access of a window with AUTOINC set advances the requester's own index. -/
  | windowAutoincAccess (dt : Nat) (rq : Requester) (addr : Nat) (wr : (Option Word))
  /-- PAGE_ACK (R148). A write of BSN_ACK frees the closed pages of a stream up to UPTO. -/
  | pageAck (dt : Nat) (rq : Requester) (stream : Nat) (upto : Nat)
  /-- PAGE_CLOSE_REQUEST (R147). A write of BSN_CLOSE closes the open page of each named stream. -/
  | pageCloseRequest (dt : Nat) (rq : Requester) (mask : Nat)
  /-- PAGE_AGE_CLOSE (R147). A page open for CLOSE_AGE × 10 ms is closed. -/
  | pageAgeClose (dt : Nat) (stream : Nat)
  /-- STREAM_CFG_WRITE (R139). A write of BSN_CFGm re-examines the stream's acceptance. -/
  | streamCfgWrite (dt : Nat) (rq : Requester) (stream : Nat) (val : Word)
  /-- STREAM_RESET (R150). A write of BSN_CFGm.RESET frees every page of the stream and clears its counters. -/
  | streamReset (dt : Nat) (rq : Requester) (stream : Nat)
  /-- ADD (R167). Sets dst to srcA + srcB. -/
  | add (dt : Nat) (j : Nat) (dst : Reg) (a : Reg) (b : Reg)
  /-- SUB (R167). Sets dst to srcA − srcB. -/
  | sub (dt : Nat) (j : Nat) (dst : Reg) (a : Reg) (b : Reg)
  /-- AND (R167). Sets dst to the bitwise AND of srcA and srcB. -/
  | andOp (dt : Nat) (j : Nat) (dst : Reg) (a : Reg) (b : Reg)
  /-- OR (R167). Sets dst to the bitwise OR of srcA and srcB. -/
  | orOp (dt : Nat) (j : Nat) (dst : Reg) (a : Reg) (b : Reg)
  /-- XOR (R167). Sets dst to the bitwise exclusive OR of srcA and srcB. -/
  | xorOp (dt : Nat) (j : Nat) (dst : Reg) (a : Reg) (b : Reg)
  /-- SHL (R167). Shifts srcA left by srcB[4:0]. -/
  | shl (dt : Nat) (j : Nat) (dst : Reg) (a : Reg) (b : Reg)
  /-- SHR (R167). Shifts srcA right logically by srcB[4:0]. -/
  | shr (dt : Nat) (j : Nat) (dst : Reg) (a : Reg) (b : Reg)
  /-- SAR (R167). Shifts srcA right arithmetically by srcB[4:0]. -/
  | sar (dt : Nat) (j : Nat) (dst : Reg) (a : Reg) (b : Reg)
  /-- MUL (R167). Sets dst to the low 32 bits of srcA × srcB. -/
  | mul (dt : Nat) (j : Nat) (dst : Reg) (a : Reg) (b : Reg)
  /-- MIN (R167). Sets dst to the signed lesser of srcA and srcB. -/
  | minOp (dt : Nat) (j : Nat) (dst : Reg) (a : Reg) (b : Reg)
  /-- MAX (R167). Sets dst to the signed greater of srcA and srcB. -/
  | maxOp (dt : Nat) (j : Nat) (dst : Reg) (a : Reg) (b : Reg)
  /-- ADDI (R168). Sets ra to rb plus the sign-extended immediate. -/
  | addi (dt : Nat) (j : Nat) (ra : Reg) (rb : Reg) (imm : Imm18)
  /-- LUI (R168). Sets ra to the unsigned immediate shifted left by 14. -/
  | lui (dt : Nat) (j : Nat) (ra : Reg) (imm : Imm18)
  /-- BEQ (R169). Branches when ra equals rb. -/
  | beq (dt : Nat) (j : Nat) (ra : Reg) (rb : Reg) (imm : Imm18)
  /-- BNE (R169). Branches when ra differs from rb. -/
  | bne (dt : Nat) (j : Nat) (ra : Reg) (rb : Reg) (imm : Imm18)
  /-- BLT (R169). Branches when ra is less than rb, signed. -/
  | blt (dt : Nat) (j : Nat) (ra : Reg) (rb : Reg) (imm : Imm18)
  /-- BGE (R169). Branches when ra is at least rb, signed. -/
  | bge (dt : Nat) (j : Nat) (ra : Reg) (rb : Reg) (imm : Imm18)
  /-- LOOP (R169). Decrements ra and branches while the new ra is not 0. -/
  | loop (dt : Nat) (j : Nat) (ra : Reg) (imm : Imm18)
  /-- JMP (R169). Jumps to imm26. -/
  | jmp (dt : Nat) (j : Nat) (imm : Imm26)
  /-- CALL (R169). Pushes PC + 1 and jumps to imm26, faulting on a full stack. -/
  | callOp (dt : Nat) (j : Nat) (imm : Imm26)
  /-- RET (R169). Pops the return address, faulting on an empty stack. -/
  | retOp (dt : Nat) (j : Nat)
  /-- LD (R170). Loads a scratch word into ra. -/
  | ld (dt : Nat) (j : Nat) (ra : Reg) (rb : Reg) (imm : Imm18)
  /-- ST (R170). Stores ra into a scratch word. -/
  | st (dt : Nat) (j : Nat) (ra : Reg) (rb : Reg) (imm : Imm18)
  /-- RDREG (R171). Reads a device register into ra as jet requester. -/
  | rdreg (dt : Nat) (j : Nat) (ra : Reg) (rb : Reg) (imm : Imm18)
  /-- WRREG (R171). Writes ra to a device register as jet requester, faulting when refused. -/
  | wrreg (dt : Nat) (j : Nat) (ra : Reg) (rb : Reg) (imm : Imm18)
  /-- CONV (R173). Triggers a conversion group with an immediate start. -/
  | conv (dt : Nat) (j : Nat) (rd : Reg) (w : Bool) (group : BitVec 4)
  /-- SYNCV (R173). Triggers a conversion group with a grid start at or after a deadline. -/
  | syncv (dt : Nat) (j : Nat) (rd : Reg) (ra : Reg) (w : Bool) (group : BitVec 4)
  /-- CONV_WAIT_END (R174). The conversion awaited by CONV.W or SYNCV.W completes or aborts, and the outcome is written to rd. -/
  | convWaitEnd (dt : Nat) (j : Nat)
  /-- GETR (R175). Reads a latest-result register into rd, or waits with N for the next word. -/
  | getr (dt : Nat) (j : Nat) (rd : Reg) (ra : Reg) (ch : BitVec 6) (rsel : Bool) (v : Bool) (n : Bool)
  /-- GETR_N_WAKE (R175). A word written to the awaited register completes a waiting GETR.N. -/
  | getrNWake (dt : Nat) (j : Nat)
  /-- STRM (R176). Reads LEN scratch words and offers them as a record to a stream. -/
  | strm (dt : Nat) (j : Nat) (rd : Reg) (ra : Reg) (rb : Reg) (len1 : BitVec 6) (rsel : Bool) (stream : BitVec 4)
  /-- STRM_DECISION (R176). The basin manager's decision on a jet record writes 0 or 1 to rd. -/
  | strmDecision (dt : Nat) (j : Nat)
  /-- LIM (R177). Writes a limit word to RES_LIMn of a channel. -/
  | lim (dt : Nat) (j : Nat) (rd : Reg) (ra : Reg) (ch : BitVec 6) (rsel : Bool)
  /-- BAL (R179). Sets a balancing level request for each cell in a mask. -/
  | bal (dt : Nat) (j : Nat) (ra : Reg) (rb : Reg)
  /-- BALQ (R180). Sets a balancing quota request on one cell and returns the replaced quota. -/
  | balq (dt : Nat) (j : Nat) (rd : Reg) (ra : Reg) (rb : Reg)
  /-- EXC (R182). Starts a spectrum run of the selected kind and returns its tag or a refusal code. -/
  | exc (dt : Nat) (j : Nat) (rd : Reg) (kind : BitVec 2)
  /-- CORR (R183). Reads a published impedance word of a cell and bin. -/
  | corr (dt : Nat) (j : Nat) (rd : Reg) (ra : Reg) (bin : BitVec 3) (im : Bool)
  /-- WAIT (R184). Holds the jet for a number of timebase ticks. -/
  | waitOp (dt : Nat) (j : Nat) (rb : Reg) (imm : Imm18)
  /-- WAIT_END (R184). The tick count of a WAIT expires and the jet continues. -/
  | waitEnd (dt : Nat) (j : Nat)
  /-- WAITT (R185). Holds the jet until a deadline is reached. -/
  | waitt (dt : Nat) (j : Nat) (dst : Reg) (a : Reg)
  /-- WAITT_DEADLINE (R185). The awaited deadline is reached and the lateness is written to dst. -/
  | waittDeadline (dt : Nat) (j : Nat)
  /-- WAITT_RD (R185). Writes timebase[31:0] to dst and latches timebase[63:32]. -/
  | waittRd (dt : Nat) (j : Nat) (dst : Reg)
  /-- WAITT_RDH (R185). Writes the latched timebase[63:32] to dst. -/
  | waittRdh (dt : Nat) (j : Nat) (dst : Reg)
  /-- WAITE (R186). Waits on an event flag, with optional timeout and take. -/
  | waite (dt : Nat) (j : Nat) (rd : Reg) (ra : Reg) (rb : Reg) (flag : BitVec 6) (rsel : Bool) (c : Bool)
  /-- WAITE_WAKE (R186). The awaited flag is set and the waiting jet wakes, taking the flag with C. -/
  | waiteWake (dt : Nat) (j : Nat)
  /-- WAITE_TIMEOUT (R186). The WAITE timeout is reached without the flag and rd receives 0. -/
  | waiteTimeout (dt : Nat) (j : Nat)
  /-- SIG (R187). Sets, or with C clears, an event flag. -/
  | sig (dt : Nat) (j : Nat) (ra : Reg) (flag : BitVec 6) (rsel : Bool) (c : Bool)
  /-- YIELD (R188). Does nothing but form a safe point. -/
  | yield (dt : Nat) (j : Nat)
  /-- HALT (R188). Stops the jet with an exit code. -/
  | halt (dt : Nat) (j : Nat) (code : BitVec 16)
  /-- ILLEGAL_INSTRUCTION (R165). An instruction with an undefined opcode, function or non-zero reserved field faults with cause ILLEGAL. -/
  | illegalInstruction (dt : Nat) (j : Nat)
  /-- FLAG_SET_WRITE (R163). A write of SEQ_FSET0 or SEQ_FSET1 sets the flags named. -/
  | flagSetWrite (dt : Nat) (rq : Requester) (k : Nat) (val : Word)
  /-- FLAG_CLEAR_WRITE (R163). A write of SEQ_FCLR0 or SEQ_FCLR1 clears the flags named. -/
  | flagClearWrite (dt : Nat) (rq : Requester) (k : Nat) (val : Word)
  /-- PROGRAM_WINDOW_WRITE (R194). A write of SEQ_PWIN_DATA by the lock owner replaces one program word. -/
  | programWindowWrite (dt : Nat) (rq : Requester) (val : Word)
  /-- PROGRAM_LOAD (R197). A write of SEQ_LOAD.START checks the container and stops the jets of STOPMASK. -/
  | programLoad (dt : Nat) (rq : Requester) (stopMask : Nat)
  /-- LOAD_STOP_TIMEOUT (R197). A jet that has not stopped 10 ms after the load's STOP is killed. -/
  | loadStopTimeout (dt : Nat)
  /-- PROGRAM_LOAD_DONE (R197). The segments are written into program SRAM, the autostart jets start and STATUS becomes 1. -/
  | programLoadDone (dt : Nat)
  /-- JET_START (R200). A write of SEQ_JCTLn.START starts an IDLE or STOPPED jet. -/
  | jetStart (dt : Nat) (rq : Requester) (j : Nat) (addr : Nat)
  /-- JET_STOP (R201). A write of SEQ_JCTLn.STOP moves a running jet to STOPPING. -/
  | jetStop (dt : Nat) (rq : Requester) (j : Nat)
  /-- JET_STOP_TAKE (R201). A STOPPING jet reaches a safe point and stops with cause 13. -/
  | jetStopTake (dt : Nat) (j : Nat)
  /-- JET_KILL (R202). A write of SEQ_JCTLn.KILL stops a jet at once and withdraws its balancing requests. -/
  | jetKill (dt : Nat) (rq : Requester) (j : Nat)
  /-- JET_WATCHDOG_EXPIRY (R204). A jet's watchdog counter reaches its limit and the jet stops with cause 12. -/
  | jetWatchdogExpiry (dt : Nat) (j : Nat)
  /-- GROUP_CFG_WRITE (R205). A write of a group's registers re-examines its definition. -/
  | groupCfgWrite (dt : Nat) (rq : Requester) (which : Nat) (g : Nat) (val : Word)
  /-- HOST_TRIGGER (R207). A write of SEQ_GTRIG triggers each named group whose TRIG is 1. -/
  | hostTrigger (dt : Nat) (rq : Requester) (mask : Nat)
  /-- SYNC_TICK_TRIGGER (R207). The timebase reaches a sync-tick multiple and triggers the groups with TRIG 2. -/
  | syncTickTrigger (dt : Nat)
  /-- SYNC_PIN_EDGE (R209). A counted SYNC edge is time-stamped and triggers the groups with TRIG 3. -/
  | syncPinEdge (dt : Nat) (rising : Bool)
  /-- INTERVAL_TIMER_FIRE (R208). An interval timer fires and triggers the groups that select it. -/
  | intervalTimerFire (dt : Nat) (i : Nat)
  /-- ARBITER_GRANT (R212). A waiting conversion request is granted its sides, preempting conversions of lower standing where allowed. -/
  | arbiterGrant (dt : Nat)
  /-- CMD (R219). A CMD frame is checked and entered in the command queue or refused. -/
  | cmdFrame (dt : Nat) (p : PortId) (h : Header) (body : Bytes)
  /-- TRIG (R220). A due TRIG command triggers the named groups with TRIG 1. -/
  | trigCmd (dt : Nat)
  /-- JSTART (R200). A due JSTART command starts a jet at its address. -/
  | jstartCmd (dt : Nat)
  /-- JSTOP (R201). A due JSTOP command stops each named jet at its next safe point. -/
  | jstopCmd (dt : Nat)
  /-- JKILL (R202). A due JKILL command kills each named jet. -/
  | jkillCmd (dt : Nat)
  /-- FLAGS (R163). A due FLAGS command sets and clears event flags. -/
  | flagsCmd (dt : Nat)
  /-- OP (R226). A due OP command suspends, resumes or cancels a long operation by tag. -/
  | opCmd (dt : Nat)
  /-- LOAD (R197). A due LOAD command from the lock owner starts a program load. -/
  | loadCmd (dt : Nat)
  /-- OP_SUSPEND (R226). A write of SEQ_OPCTL with SUSPEND sets SC_REQ on an operation. -/
  | opSuspend (dt : Nat) (rq : Requester) (tag : Nat)
  /-- OP_RESUME (R226). A write of SEQ_OPCTL with RESUME clears SC_REQ on an operation. -/
  | opResume (dt : Nat) (rq : Requester) (tag : Nat)
  /-- OP_CANCEL (R226). A write of SEQ_OPCTL with CANCEL moves an operation to CANCELLING. -/
  | opCancel (dt : Nat) (rq : Requester) (tag : Nat)
  /-- OP_SUSPENDED (R224). An operation with a suspend cause reaches its safe point and becomes SUSPENDED. -/
  | opSuspended (dt : Nat) (kind : Nat)
  /-- OP_CANCELLED (R224). An operation's clean-up completes and it becomes CANCELLED. -/
  | opCancelled (dt : Nat) (kind : Nat)
  /-- SLUICE_FRAME_START (R240). At each frame start the sluice computes every cell's duty under the budgets. -/
  | sluiceFrameStart (dt : Nat)
  /-- SLOT_START (R242). At each slot the outputs open and close per duty, quotas are debited and column power is delivered. -/
  | slotStart (dt : Nat) (meas : (List SlotMeas))
  /-- BAL_LEVEL_WRITE (R236). A write of SLU_REQn.LEVEL sets or withdraws a level request. -/
  | balLevelWrite (dt : Nat) (rq : Requester) (cell : Nat) (level : Nat)
  /-- BAL_QUOTA_WRITE (R243). A write of SLU_QSETn sets or withdraws a quota request. -/
  | balQuotaWrite (dt : Nat) (rq : Requester) (cell : Nat) (quota : Word)
  /-- XFET_WRITE (R234). A write of SLU_XFET is checked for return-node order and accepted for the next frame or refused. -/
  | xfetWrite (dt : Nat) (rq : Requester) (val : Word)
  /-- BAL_OVERCURRENT (R247). A switch current above the trip opens the switch and presents BAL_FAULT. -/
  | balOvercurrent (dt : Nat) (cell : Nat)
  /-- BAL_CURRENT_CHECK (R247). 50 µs after closing, the switch current is compared with its expected window. -/
  | balCurrentCheck (dt : Nat) (cell : Nat) (cur : Nat)
  /-- BAL_STUCK_ON (R247). A switch commanded open for 50 µs still carries current and BAL_FAULT is presented. -/
  | balStuckOn (dt : Nat) (cell : Nat) (cur : Nat)
  /-- BAL_GATE_CHECK (R247). 20 µs plus the edge time after a gate command, the gate-source voltage is checked. -/
  | balGateCheck (dt : Nat) (cell : Nat) (vgs : Int) (vcell : Int)
  /-- SPECTRUM_START (R250). A write of SPC_CTRL.START requests a spectrum run, which is accepted or refused. -/
  | spectrumStart (dt : Nat) (rq : Requester) (val : Word)
  /-- SPECTRUM_RUN_BEGIN (R252). An accepted run starts at acceptance, at TSTART or at a SYNC edge and requests its sides. -/
  | spectrumRunBegin (dt : Nat)
  /-- CURRENT_TRIM_DONE (R258). After 5 ms of trim each cell's current sense is trimmed or excluded. -/
  | currentTrimDone (dt : Nat) (sense : (List TrimMeas))
  /-- PASS_EXCITE (R255). At t_x of a pass the phase origin is set and excitation starts in run kind 0. -/
  | passExcite (dt : Nat)
  /-- EXCITATION_EDGE (R256). At each half period of F0 the excited switches close or open. -/
  | excitationEdge (dt : Nat)
  /-- WINDOW_OPEN (R255). At t_s the correlation window of a pass opens. -/
  | windowOpen (dt : Nat)
  /-- WINDOW_CLOSE (R255). At t_e the correlation window of a pass closes and excitation ends. -/
  | windowClose (dt : Nat)
  /-- PASS_END (R255). At t_f the pass or ripple window ends and the next begins. -/
  | passEnd (dt : Nat)
  /-- PUBLISH (R263). The bins of every cell of a pass are published to SPC_Z, SPC_ZST and the sweep table in one cycle. -/
  | publish (dt : Nat) (cur : (List CurSense))
  /-- CURRENT_PHASOR_SEND (R264). The current-source device sends the current phasors of a pass in a PEER frame. -/
  | currentPhasorSend (dt : Nat) (n : Nat)
  /-- PEER (R265). A PEER frame is consumed and forwarded, and a matching current-phasor frame is taken. -/
  | peerFrame (dt : Nat) (p : PortId) (h : Header) (payload : Bytes)
  /-- CURRENT_TIMEOUT (R266). No matching current frame arrives by t_f + 10 ms and the voltage phasors are published as VOLT_ONLY. -/
  | currentTimeout (dt : Nat) (n : Nat)
  /-- SPECTRUM_HELD_TIMEOUT (R260). A run HELD for 10 s ends FAILED. -/
  | spectrumHeldTimeout (dt : Nat)
  /-- F1_TRACK_DONE (R268). Seventeen zero crossings give F1 and the first ripple window starts. -/
  | f1TrackDone (dt : Nat) (lay : Nat)
  /-- F1_TRACK_TIMEOUT (R268). F1 is not found within 20 s and the run ends FAILED. -/
  | f1TrackTimeout (dt : Nat)
  /-- REG (R285). A REG frame is executed register by register and answered with REG_RSP. -/
  | regFrame (dt : Nat) (p : PortId) (h : Header) (payload : Bytes)
  /-- REG_RSP (R311). A REG_RSP frame reaches the bridge, releases its tag and enters the receive queue. -/
  | regRspFrame (dt : Nat) (p : PortId) (h : Header) (payload : Bytes)
  /-- CMD_RSP (R311). A CMD_RSP frame reaches the bridge and enters the receive queue. -/
  | cmdRspFrame (dt : Nat) (p : PortId) (h : Header) (payload : Bytes)
  /-- BSN_RD (R155). A BSN_RD frame reads page words and is answered with BSN_HIT or BSN_MISS. -/
  | bsnRdFrame (dt : Nat) (p : PortId) (h : Header) (payload : Bytes)
  /-- BSN_HIT (R311). A BSN_HIT frame reaches the bridge and enters the receive queue. -/
  | bsnHitFrame (dt : Nat) (p : PortId) (h : Header) (payload : Bytes)
  /-- BSN_MISS (R311). A BSN_MISS frame reaches the bridge and enters the receive queue. -/
  | bsnMissFrame (dt : Nat) (p : PortId) (h : Header) (payload : Bytes)
  /-- SYNC (R315). A valid SYNC frame disciplines the node's timebase through its sync states. -/
  | syncFrame (dt : Nat) (p : PortId) (h : Header) (tOrigin : Tick) (corr : Nat) (sseq : Nat) (hops : Nat)
  /-- NOTIFY (R362). A NOTIFY frame reaches the bridge and enters its receive queue. -/
  | notifyFrame (dt : Nat) (p : PortId) (h : Header) (payload : Bytes)
  /-- SVC (R423). An SVC frame carries a service request to the addressed device. -/
  | svcFrame (dt : Nat) (p : PortId) (h : Header) (payload : Bytes)
  /-- SVC_RSP (R311). An SVC_RSP frame reaches the bridge and enters the receive queue. -/
  | svcRspFrame (dt : Nat) (p : PortId) (h : Header) (payload : Bytes)
  /-- FRAME_FORWARD (R290). A frame not consumed is forwarded cut-through or stored and sent later, with own CNT and check value. -/
  | frameForward (dt : Nat) (p : PortId) (f : Frame) (x : Tail)
  /-- LNK_TOKEN (R287). A LNK token is received, answered and used for training and port state. -/
  | lnkToken (dt : Nat) (p : PortId) (info : Byte)
  /-- TRANSMIT_START (R288). A waiting frame starts on the pair at the permitted window or start phase. -/
  | transmitStart (dt : Nat) (x : TxAt)
  /-- TRAINING_LNK (R295). In TRAINING the master end sends a LNK token every 20 µs, later every 10 ms. -/
  | trainingLnk (dt : Nat) (x : TxAt)
  /-- KEEPALIVE (R296). An idle UP hop's master end sends a LNK token. -/
  | keepalive (dt : Nat) (x : TxAt)
  /-- LINK_TIMEOUT (R296). No valid transmission for TIMEOUT returns the port to TRAINING and presents CHAIN_TIMEOUT. -/
  | linkTimeout (dt : Nat) (p : PortId)
  /-- WAKE_TONE_SEND (R297). A write of ECP_CTRL.WAKE_N or WAKE_S sends a wake tone on a port that is not UP. -/
  | wakeToneSend (dt : Nat) (rq : Requester) (north : Bool) (south : Bool)
  /-- WAKE_TONE_END (R297). After WAKE_LEN ms the tone ends and the port is in TRAINING. -/
  | wakeToneEnd (dt : Nat) (p : PortId)
  /-- WAKE_TONE_RELAY (R299). 200 µs after a tone wake, a tone is sent on each port that is not UP. -/
  | wakeToneRelay (dt : Nat)
  /-- COUNTER_CLEAR (R300). A write of ECP_CTRL.CLR_CNT clears every port error and queue counter. -/
  | counterClear (dt : Nat) (rq : Requester)
  /-- ENUM (R306). A write of NET_CTRL.ENUM starts enumeration with optional CLEAR and broadcasts ASSIGN. -/
  | enumStart (dt : Nat) (rq : Requester) (clear : Bool)
  /-- ENUM_ASSIGN_TIMEOUT (R306). No ASSIGNED answer within 1 ms ends the assignment loop and sends DISCOVER. -/
  | enumAssignTimeout (dt : Nat)
  /-- CLEAR (R304). A NET_OUT CLEAR is forwarded and clears the node's address. -/
  | netClear (dt : Nat) (p : PortId) (h : Header) (hops : Nat)
  /-- ASSIGN (R304). A NET_OUT ASSIGN gives an unaddressed node the address HOPS + 1. -/
  | netAssign (dt : Nat) (p : PortId) (h : Header) (hops : Nat)
  /-- DISCOVER (R304). A NET_OUT DISCOVER is forwarded and answered with PRESENT by addressed nodes. -/
  | netDiscover (dt : Nat) (p : PortId) (h : Header) (hops : Nat)
  /-- REVERSE (R321). A NET_OUT REVERSE reverses the node's port roles and is answered with REVERSED. -/
  | netReverse (dt : Nat) (p : PortId) (h : Header) (hops : Nat)
  /-- NORMAL (R304). A NET_OUT NORMAL restores normal port roles and is forwarded. -/
  | netNormal (dt : Nat) (p : PortId) (h : Header) (hops : Nat)
  /-- ASSIGNED (R306). An ASSIGNED answer reaches the bridge and enumeration continues. -/
  | netAssigned (dt : Nat) (p : PortId) (h : Header) (payload : Bytes)
  /-- PRESENT (R306). A PRESENT answer reaches the bridge and is counted. -/
  | netPresent (dt : Nat) (p : PortId) (h : Header) (payload : Bytes)
  /-- REVERSED (R323). A REVERSED answer is collected by the bridge for ring recovery. -/
  | netReversed (dt : Nat) (p : PortId) (h : Header) (payload : Bytes)
  /-- LINK_DOWN (R321). A LINK_DOWN answer triggers ring recovery at the bridge. -/
  | netLinkDown (dt : Nat) (p : PortId) (h : Header) (payload : Bytes)
  /-- HEALED (R322). A HEALED answer reaches the bridge, which sends NORMAL under AUTO_HEAL. -/
  | netHealed (dt : Nat) (p : PortId) (h : Header) (payload : Bytes)
  /-- MODE_ACK (R319). A MODE_ACK answer reaches the bridge and enters the receive queue. -/
  | modeAckFrame (dt : Nat) (p : PortId) (h : Header) (payload : Bytes)
  /-- LINK_DOWN_SEND (R321). A node whose far port leaves UP sends LINK_DOWN, or HEALED when it is UP again. -/
  | linkDownSend (dt : Nat) (p : PortId)
  /-- NOP (R307). A host-port NOP transaction returns HSTAT only. -/
  | hostNop (dt : Nat)
  /-- TXQ_PUT (R308). A host-port TXQ_PUT enters a frame in the bridge's transmit queue. -/
  | txqPut (dt : Nat) (handle : Nat) (typ : Nat) (addr : Nat) (len : Nat) (payload : Bytes) (err : HostErr)
  /-- RXQ_GET (R307). A host-port RXQ_GET returns and removes the oldest receive-queue entry. -/
  | rxqGet (dt : Nat) (full : Bool) (err : HostErr)
  /-- REG_RD (R307). A host-port REG_RD reads registers as chain interface. -/
  | regRd (dt : Nat) (addr : Nat) (count : Nat) (err : HostErr)
  /-- REG_WR (R307). A host-port REG_WR writes registers as chain interface. -/
  | regWr (dt : Nat) (addr : Nat) (data : (List Word)) (err : HostErr)
  /-- TAG_TIMEOUT (R311). No answer within TAG_TO queues a TIMEOUT entry and releases the tag. -/
  | tagTimeout (dt : Nat) (tag : Nat)
  /-- BROADCAST_WINDOW_END (R311). After BCAST_WIN a BCAST_DONE entry closes the broadcast and releases its tag. -/
  | broadcastWindowEnd (dt : Nat) (tag : Nat)
  /-- SYNC_SEND (R313). At each 200,000-tick multiple the bridge sends a SYNC frame. -/
  | syncSend (dt : Nat)
  /-- HOP_DELAY_LNK (R314). Each end of an UP hop sends a LNK token every 1 ms to measure the hop delay. -/
  | hopDelayLnk (dt : Nat) (x : TxAt) (rtt : Nat)
  /-- SYNC_LOSS_EXPIRY (R315). SYNC_LOSS ms without a valid sync moves the node to HOLDOVER and presents CHAIN_SYNC_LOST. -/
  | syncLossExpiry (dt : Nat)
  /-- RING_LOSS_EXPIRY (R321). No SYNC returned on the ring port for RING_LOSS ms declares the ring OPEN and starts recovery. -/
  | ringLossExpiry (dt : Nat)
  /-- REVERSE_COLLECT_CLOSE (R323). The collection of REVERSED answers closes and SPLIT and STATE are set. -/
  | reverseCollectClose (dt : Nat)
  /-- HEAL (R322). A write of NET_CTRL.HEAL sends NORMAL out of both bridge ports. -/
  | heal (dt : Nat) (rq : Requester)
  /-- CHK_START (R329). A write of CHK_CTLn.START claims or restarts a channel and processes the fold block. -/
  | chkStart (dt : Nat) (rq : Requester) (n : Nat) (val : Word)
  /-- CHK_DATA (R330). A write of CHK_DATAn processes four bytes. -/
  | chkData (dt : Nat) (rq : Requester) (n : Nat) (val : Word)
  /-- CHK_BYTE (R330). A write of CHK_BYTEn processes one byte. -/
  | chkByte (dt : Nat) (rq : Requester) (n : Nat) (val : Word)
  /-- CHK_FEED (R332). A write of CHK_CTLn.FEED starts a feed from a basin page or MRAM, or refuses it. -/
  | chkFeed (dt : Nat) (rq : Requester) (n : Nat) (val : Word)
  /-- CHK_FEED_DONE (R333). A feed completes, misses or meets an uncorrectable word. -/
  | chkFeedDone (dt : Nat) (n : Nat)
  /-- CHK_FINISH (R331). A write of CHK_CTLn.FINISH completes the result, compares it and releases the claim. -/
  | chkFinish (dt : Nat) (rq : Requester) (n : Nat)
  /-- CHK_ABORT (R331). A write of CHK_CTLn.ABORT releases the claim without a result. -/
  | chkAbort (dt : Nat) (rq : Requester) (n : Nat)
  /-- CHK_IDLE_RELEASE (R337). 100 ms without a write from the owner releases a channel's claim. -/
  | chkIdleRelease (dt : Nat) (n : Nat)
  /-- SEARCH (R346). A write of RIL_CTRL.SEARCH requests a rill search, which is accepted or refused. -/
  | rilSearch (dt : Nat) (rq : Requester)
  /-- AUTO_SEARCH (R346). The steward starts a search at mode entry from RESET or 5 ms after RLV first turns on. -/
  | autoSearch (dt : Nat)
  /-- RLV_ON (R340). RLV is switched on in modes 4–10 with EN set, and the first break follows 5 ms later. -/
  | rlvOn (dt : Nat)
  /-- QUERY_DONE (R347). A discovery query's sixteen slots are classified and the search proceeds. -/
  | queryDone (dt : Nat) (slots : (List SlotReply))
  /-- ECHO (R344). An ECHO transaction confirms a sensor ID found in a CLEAN slot. -/
  | rilEcho (dt : Nat) (ok : Bool)
  /-- POLL_ROUND (R350). At each PERIOD a poll round sends the GROUP conversion command. -/
  | pollRound (dt : Nat)
  /-- POLL_READ (R351). After CONV_TIME each polled sensor is read by UNIT transaction and its value and status written. -/
  | pollRead (dt : Nat)
  /-- DIRECT_TRANSACTION (R352). A write of RIL_XCTL.START runs a direct GROUP or UNIT transaction. -/
  | directTransaction (dt : Nat) (rq : Requester) (val : Word)
  /-- REPLY_TIMEOUT (R344). No start bit within 300 µs ends a UNIT transaction with NO_ANSWER. -/
  | replyTimeout (dt : Nat)
  /-- RLV_CURRENT_LIMIT (R340). The RLV current limit holds for 1 ms, RLV turns off and RILL_FAULT is presented. -/
  | rlvCurrentLimit (dt : Nat)
  /-- RLV_RETRY (R340). 1 s after a current-limit fault RLV is turned on again. -/
  | rlvRetry (dt : Nat)
  /-- BUS_STUCK (R342). RLD low for more than 150 µs ends the transaction with BUS_FAULT and presents RILL_FAULT. -/
  | busStuck (dt : Nat)
  /-- STICKY_CLEAR (R360). A write of 1 to a FLT_STICKYk bit clears a source whose live bit is 0 and releases its reactions. -/
  | stickyClear (dt : Nat) (rq : Requester) (k : Nat) (val : Word)
  /-- SECONDARY_CLEAR (R364). A write of 1 to a FLT_SECk bit clears the secondary bit and SEC_CNT. -/
  | secondaryClear (dt : Nat) (rq : Requester) (k : Nat) (val : Word)
  /-- CLEAR_ALL (R360). A write of 0xC1EA to FLT_CLRALL applies the clear rule to every source. -/
  | clearAll (dt : Nat) (rq : Requester)
  /-- SHADOW_END (R363). A reaction shadow closes SHADOW × 100 µs after its reaction. -/
  | shadowEnd (dt : Nat) (mode : Bool)
  /-- ALIVE_KEY (R367). The steward writes 0x6C1D to FLT_ALIVE.KEY and restarts the watchdog period. -/
  | aliveKey (dt : Nat)
  /-- STEWARD_WATCHDOG (R367). The steward watchdog period passes without a key write, the source is presented and the steward restarts. -/
  | stewardWatchdog (dt : Nat)
  /-- STEWARD_START (R429). The loader starts the steward and acts on the journal state. -/
  | stewardStart (dt : Nat)
  /-- FLOW_TOGGLE (R368). At each boundary of the 1 kHz divider FLOW toggles while its conditions hold. -/
  | flowToggle (dt : Nat)
  /-- FLOW_DROP (R368). A FLOW condition fails and FLOW goes low within 2 LPO cycles. -/
  | flowDrop (dt : Nat)
  /-- LEDGER_WRITE (R414). The steward writes one queued record or start-up entry into the next ledger slot. -/
  | ledgerWrite (dt : Nat)
  /-- SENSOR_STEP (R370). Every 1 ms the die sensors are converted and the model, limits, throttle controller and band are judged. -/
  | sensorStep (dt : Nat) (readings : (List Int))
  /-- GRACE_EXPIRY (R379). The grace timer expires and the throttle controller enforces or returns to IDLE. -/
  | graceExpiry (dt : Nat)
  /-- THERMAL_SHUTDOWN (R383). After the page write in progress, THERMAL_SHUTDOWN is presented and the chain is parked for classes 2 and 3. -/
  | thermalShutdown (dt : Nat)
  /-- SENSOR_RESTORE (R375). A write of 1 to a THM_SREP.RESTORE bit restores a replaced sensor. -/
  | sensorRestore (dt : Nat) (rq : Requester) (mask : Nat)
  /-- BACKGROUND_SLICE (R393). Every BG_PERIOD × 10 ms a background slice of the next due unit starts. -/
  | backgroundSlice (dt : Nat)
  /-- SLICE_END (R391). A slice completes and its result is PASS or FAIL. -/
  | sliceEnd (dt : Nat) (unit : Nat) (resp : List Word) (meas : SliceMeas)
  /-- SLICE_BUDGET_EXPIRY (R388). A slice reaches its budget unfinished and ends INCOMPLETE. -/
  | sliceBudgetExpiry (dt : Nat) (unit : Nat)
  /-- SLICE_CUT (R395). A slice cut by a service request, suspend or mode exit ends INCOMPLETE at its safe point and the unit is reinitialised. -/
  | sliceCut (dt : Nat) (unit : Nat) (cut : Nat) (reinit : Nat)
  /-- CONFIRM_SLICE (R402). After a FAIL the next slice of the unit runs to confirm it. -/
  | confirmSlice (dt : Nat)
  /-- CAMPAIGN (R398). A write of BST_CTRL.CAMPAIGN requests a self-test campaign. -/
  | campaign (dt : Nat) (rq : Requester)
  /-- REPAIR (R403). A write of BST_CTRL.REPAIR enters a confirmed failure into the repair map. -/
  | repair (dt : Nat) (rq : Requester) (unit : Nat)
  /-- BST_COUNTER_CLEAR (R408). A write of BST_CTRL.CLR_CNT clears BST_CNT and BST_LATE. -/
  | bstCounterClear (dt : Nat) (rq : Requester)
  /-- REPAIR_MAP_STORE (R406). The steward writes the changed repair map into the other copy and makes it the copy in use. -/
  | repairMapStore (dt : Nat) (ok : Bool)
  /-- MRAM_ROW_REPAIR (R405). A reported MRAM row is copied to a spare row and switched over. -/
  | mramRowRepair (dt : Nat) (row : Nat)
  /-- MRAM_PAGE_WRITE (R410). A requested MRAM page write starts when no hold applies and completes within 1 µs. -/
  | mramPageWrite (dt : Nat)
  /-- SCRUB_START (R413). A write of NVM_SCRUB.START, or the PERIOD timer under AUTO, starts an MRAM scrub. -/
  | scrubStart (dt : Nat) (rq : (Option Requester))
  /-- SCRUB_PAGE (R413). Each millisecond the scrub reads one MRAM page through ECC. -/
  | scrubPage (dt : Nat)
  /-- BIND (R418). A write of 0xB1D5 to NVM_BCTL.KEY writes the staged pack binding. -/
  | bind (dt : Nat) (rq : Requester)
  /-- UNBIND (R418). A write of 0x0B1D to NVM_BCTL.KEY writes an empty pack binding. -/
  | unbind (dt : Nat) (rq : Requester)
  /-- BINDING_WRITE_DONE (R418). The binding copy is verified, made the copy in use and logged. -/
  | bindingWriteDone (dt : Nat) (ok : Bool)
  /-- CUSTOMER_WRITE (R423). A write of NVM_CDATA with WEN set stores one customer word by read-modify-write. -/
  | customerWrite (dt : Nat) (rq : Requester) (val : Word)
  /-- OPEN (R425). A service OPEN takes the update lock and opens a session. -/
  | svcOpen (dt : Nat) (q : SvcReq) (target : Nat)
  /-- WRITE (R427). A service WRITE stores a chunk and writes a completed good block under the journal. -/
  | svcWrite (dt : Nat) (q : SvcReq) (block : Nat) (chunk : Nat) (data : Bytes)
  /-- STATUS (R423). A service STATUS returns the session and activation state. -/
  | svcStatus (dt : Nat) (q : SvcReq)
  /-- VERIFY (R421). A service VERIFY applies the image checks and answers within its bound. -/
  | svcVerify (dt : Nat) (q : SvcReq)
  /-- ACTIVATE (R431). A service ACTIVATE applies the compatibility check and schedules activation at T. -/
  | svcActivate (dt : Nat) (q : SvcReq) (tact : Tick) (chainMin : Nat) (chainMax : Nat)
  /-- CLOSE (R430). A service CLOSE ends the session and rolls back the stored parts. -/
  | svcClose (dt : Nat) (q : SvcReq)
  /-- CONFIRM (R432). A service CONFIRM supplies the host confirmation of a new image. -/
  | svcConfirm (dt : Nat) (q : SvcReq)
  /-- RESTART (R28). A service RESTART restarts the steward. -/
  | svcRestart (dt : Nat) (q : SvcReq)
  /-- READ (R416). A service READ returns MRAM bytes, the ledger included. -/
  | svcRead (dt : Nat) (q : SvcReq) (addr : Nat) (count : Nat)
  /-- KEYSLOT (R422). A service KEYSLOT from the lock owner writes the customer key slot once. -/
  | svcKeyslot (dt : Nat) (q : SvcReq) (require : Bool) (x : Bytes) (y : Bytes)
  /-- ACTIVATION (R431). The timebase reaches the activation time T and the target's effect is carried out. -/
  | activation (dt : Nat)
  /-- SESSION_TIMEOUT (R426). 30 s without a packet ends the session FAILED and rolls it back. -/
  | sessionTimeout (dt : Nat)
  /-- IMAGE_CONFIRM (R432). The new image confirms once its conditions hold and writes the journal IDLE. -/
  | imageConfirm (dt : Nat)
  /-- CONFIRM_WINDOW_EXPIRY (R433). The confirmation window ends unconfirmed and the device falls back to the old image. -/
  | confirmWindowExpiry (dt : Nat)
  /-- VSTK_RESET_RISING (R43). After a supply reset from a VSTK fall below 7.5 V that did not collapse VAON, VSTK rises through 8.0 V and the start-up sequence begins at t0. -/
  | vstkResetRising (e : TestAt)
  /-- SUPPLY_DIP_RECOVERY (R36). VSTK rises back above the warning threshold plus hysteresis, setting SUPPLY_OK[0] and starting the 1 ms count that ends the dip. -/
  | supplyDipRecovery (v : VstkAt)
  /-- STACK_LIMIT_RETURN (R354). VSTK falls back below the 140 V stack limit and the supervisor part of the STACK_OV live condition ends. -/
  | stackLimitReturn (dt : Nat)
  /-- VREG_RECOVERY (R34). VREG returns within its window and current limit, SUPPLY_OK[2] is set and the VREG_FAULT live condition ends. -/
  | vregRecovery (dt : Nat)
  /-- VCHN_RESTORED (R295). VCHN rises back above 2.8 V and the enabled ports leave OFF for TRAINING. -/
  | vchnRestored (dt : Nat)
  /-- REFERENCE_OSCILLATOR_RECOVERY (R40). The reference oscillator returns within ±5 % of 25 MHz, REF_OK is set and the CLOCK_MONITOR live condition ends. -/
  | referenceOscillatorRecovery (dt : Nat)
  /-- LPO_RECOVERY (R40). The LPO returns within ±10 % of 250 kHz, LPO_OK is set, the LPO_FAULT live condition ends and FLOW may toggle again. -/
  | lpoRecovery (dt : Nat)
  /-- RECEIVE_CHECK_FAILURE (R294). A transmission arrives that fails a receive check of Table 10.7, has an invalid header or ends in ABT, and is discarded and counted. -/
  | receiveCheckFailure (dt : Nat) (p : PortId) (bad : BadRx)
  /-- SERVICE_FRAME_GAP (R424). A gap of more than 100 µs within a service-port frame discards it and the receiver waits for the next 0x7E. -/
  | serviceFrameGap (e : GapAt)
  /-- RILL_REPLY (R344). A sensor's reply to a UNIT transaction has been read in full, with its CRC byte where one is expected, and the transaction ends. -/
  | rillReply (dt : Nat) (bytes : Bytes) (crc : Byte)
  /-- FAULT_WINDOW_EXPIRY (R357). The counting window of a source runs out after W ms without reaching N and closes, clearing WIN_OPEN. -/
  | faultWindowExpiry (dt : Nat) (i : Nat)
deriving DecidableEq, Repr

end Sys2Proof
end

