-- ==== Sys2Proof/Decode.lean ====
section
/-! DEFINITION. Decode.lean: the decoder of the block's commands, which the table gives no bits, and the encoder and decoder of
the Balrax instructions that the jets fetch (R165 to R172). -/

namespace Sys2Proof

/-- The command that a word of the opcode table spells: no row of this hardware's table has bits. -/
def decodeTableWord (_nbits _w : Nat) : Option Instr := none

/-- A Boolean as one bit. -/
def bit1 (b : Bool) : BitVec 1 := if b then 1#1 else 0#1

/-- One bit as a Boolean. -/
def ofBit1 (b : BitVec 1) : Bool := b == 1#1

/-- The function code of an ALU operation (Table 6.3). -/
def AluOp.code : AluOp → BitVec 14
  | .add => 0 | .sub => 1 | .and => 2 | .or => 3 | .xor => 4 | .shl => 5 | .shr => 6 | .sar => 7 | .mul => 8 | .min => 9
  | .max => 10

/-- The ALU operation of a function code; the other codes are undefined (R167). -/
def AluOp.ofCode (c : BitVec 14) : Option AluOp :=
  match c.toNat with
  | 0 => some .add | 1 => some .sub | 2 => some .and | 3 => some .or | 4 => some .xor | 5 => some .shl | 6 => some .shr
  | 7 => some .sar | 8 => some .mul | 9 => some .min | 10 => some .max | _ => none

/-- The opcode of a conditional branch (Table 6.2). -/
def BrOp.code : BrOp → BitVec 6
  | .eq => 0x04 | .ne => 0x05 | .lt => 0x06 | .ge => 0x07

/-- Format A and format M (Table 6.1): opcode, three registers, fourteen bits. -/
def fmtA (op : BitVec 6) (a b c : Reg) (f : BitVec 14) : Word := op ++ a ++ b ++ c ++ f

/-- Format I (Table 6.1). -/
def fmtI (op : BitVec 6) (ra rb : Reg) (imm : Imm18) : Word := op ++ ra ++ rb ++ imm

/-- Format J (Table 6.1). -/
def fmtJ (op : BitVec 6) (imm : Imm26) : Word := op ++ imm

/-- The word of an instruction (Tables 6.1 to 6.6). -/
def Balrax.encode : Balrax → Word
  | .alu op dst a b => fmtA 0x00 dst a b op.code
  | .addi ra rb imm => fmtI 0x01 ra rb imm
  | .lui ra imm => fmtI 0x02 ra 0 imm
  | .br op ra rb imm => fmtI op.code ra rb imm
  | .loop ra imm => fmtI 0x08 ra 0 imm
  | .jmp imm => fmtJ 0x09 imm
  | .call imm => fmtJ 0x0A imm
  | .ret => fmtJ 0x0B 0
  | .ld ra rb imm => fmtI 0x0C ra rb imm
  | .st ra rb imm => fmtI 0x0D ra rb imm
  | .rdreg ra rb imm => fmtI 0x0E ra rb imm
  | .wrreg ra rb imm => fmtI 0x0F ra rb imm
  | .conv rd w g => fmtA 0x10 rd 0 0 ((0 : BitVec 9) ++ bit1 w ++ g)
  | .syncv rd ra w g => fmtA 0x11 rd ra 0 ((0 : BitVec 9) ++ bit1 w ++ g)
  | .getr rd ra ch rsel v n => fmtA 0x12 rd ra 0 (ch ++ bit1 rsel ++ 0#1 ++ bit1 v ++ bit1 n ++ 0#4)
  | .strm rd ra rb len1 rsel stream => fmtA 0x13 rd ra rb (len1 ++ bit1 rsel ++ 0#3 ++ stream)
  | .lim rd ra ch rsel => fmtA 0x14 rd ra 0 (ch ++ bit1 rsel ++ 0#7)
  | .bal ra rb => fmtA 0x18 0 ra rb 0
  | .balq rd ra rb => fmtA 0x19 rd ra rb 0
  | .exc rd kind => fmtA 0x1C rd 0 0 ((0 : BitVec 12) ++ kind)
  | .corr rd ra bin im => fmtA 0x1D rd ra 0 ((0 : BitVec 10) ++ bin ++ bit1 im)
  | .wait rb imm => fmtI 0x20 0 rb imm
  | .waitt dst a => fmtA 0x21 dst a 0 0
  | .waittRd dst => fmtA 0x21 dst 0 0 1
  | .waittRdh dst => fmtA 0x21 dst 0 0 2
  | .waite rd ra rb flag rsel c => fmtA 0x22 rd ra rb (flag ++ bit1 rsel ++ 0#1 ++ bit1 c ++ 0#5)
  | .sig ra flag rsel c => fmtA 0x23 0 ra 0 (flag ++ bit1 rsel ++ 0#1 ++ bit1 c ++ 0#5)
  | .yield => fmtJ 0x24 0
  | .halt code => fmtJ 0x25 ((0 : BitVec 10) ++ code)

/-- The register of a field that RSEL does not use is 0, and the immediate it replaces is 0 (R165, R172). -/
def rselOk (rsel : Bool) (imm : BitVec 6) (r : Reg) : Bool := if rsel then decide (imm = 0) else decide (r = 0)

/-- The instructions whose fields obey R165 and R182: the ones an encoding admits. -/
def Balrax.wf : Balrax → Bool
  | .getr _ ra ch rsel _ _ => rselOk rsel ch ra
  | .strm _ _ rb len1 rsel _ => rselOk rsel len1 rb
  | .lim _ ra ch rsel => rselOk rsel ch ra
  | .exc _ kind => decide (kind ≠ 3)
  | .waite _ _ rb flag rsel _ => rselOk rsel flag rb
  | .sig ra flag rsel _ => rselOk rsel flag ra
  | _ => true

/-- An instruction where a condition on reserved fields holds. -/
def guardI (c : Bool) (i : Balrax) : Option Balrax := if c then some i else none

/-- The instruction of a fetched word; none is ILLEGAL (R165 to R168, R172, R182, R185). -/
def Balrax.decode (w : Word) : Option Balrax :=
  let f1 : Reg := w.extractLsb' 22 4
  let f2 : Reg := w.extractLsb' 18 4
  let f3 : Reg := w.extractLsb' 14 4
  let fn : BitVec 14 := w.extractLsb' 0 14
  let imm : Imm18 := w.extractLsb' 0 18
  let jimm : Imm26 := w.extractLsb' 0 26
  let six : BitVec 6 := w.extractLsb' 8 6
  let rsel := ofBit1 (w.extractLsb' 7 1)
  let b5 := ofBit1 (w.extractLsb' 5 1)
  let b4 := ofBit1 (w.extractLsb' 4 1)
  let low : BitVec 4 := w.extractLsb' 0 4
  match (w.extractLsb' 26 6).toNat with
  | 0x00 => (AluOp.ofCode fn).map (fun op => .alu op f1 f2 f3)
  | 0x01 => some (.addi f1 f2 imm)
  | 0x02 => guardI (f2 == 0) (.lui f1 imm)
  | 0x04 => some (.br .eq f1 f2 imm)
  | 0x05 => some (.br .ne f1 f2 imm)
  | 0x06 => some (.br .lt f1 f2 imm)
  | 0x07 => some (.br .ge f1 f2 imm)
  | 0x08 => guardI (f2 == 0) (.loop f1 imm)
  | 0x09 => some (.jmp jimm)
  | 0x0A => some (.call jimm)
  | 0x0B => guardI (jimm == 0) .ret
  | 0x0C => some (.ld f1 f2 imm)
  | 0x0D => some (.st f1 f2 imm)
  | 0x0E => some (.rdreg f1 f2 imm)
  | 0x0F => some (.wrreg f1 f2 imm)
  | 0x10 => guardI (f2 == 0 && f3 == 0 && w.extractLsb' 5 9 == 0#9) (.conv f1 b4 low)
  | 0x11 => guardI (f3 == 0 && w.extractLsb' 5 9 == 0#9) (.syncv f1 f2 b4 low)
  | 0x12 => guardI (f3 == 0 && w.extractLsb' 6 1 == 0#1 && low == 0 && rselOk rsel six f2) (.getr f1 f2 six rsel b5 b4)
  | 0x13 => guardI (w.extractLsb' 4 3 == 0#3 && rselOk rsel six f3) (.strm f1 f2 f3 six rsel low)
  | 0x14 => guardI (f3 == 0 && w.extractLsb' 0 7 == 0#7 && rselOk rsel six f2) (.lim f1 f2 six rsel)
  | 0x18 => guardI (f1 == 0 && fn == 0) (.bal f2 f3)
  | 0x19 => guardI (fn == 0) (.balq f1 f2 f3)
  | 0x1C => guardI (f2 == 0 && f3 == 0 && w.extractLsb' 2 12 == 0#12 && w.extractLsb' 0 2 != 3#2) (.exc f1 (w.extractLsb' 0 2))
  | 0x1D => guardI (f3 == 0 && w.extractLsb' 4 10 == 0#10) (.corr f1 f2 (w.extractLsb' 1 3) (ofBit1 (w.extractLsb' 0 1)))
  | 0x20 => guardI (f1 == 0) (.wait f2 imm)
  | 0x21 =>
    match fn.toNat with
    | 0 => guardI (f3 == 0) (.waitt f1 f2)
    | 1 => guardI (f2 == 0 && f3 == 0) (.waittRd f1)
    | 2 => guardI (f2 == 0 && f3 == 0) (.waittRdh f1)
    | _ => none
  | 0x22 => guardI (w.extractLsb' 6 1 == 0#1 && w.extractLsb' 0 5 == 0#5 && rselOk rsel six f3) (.waite f1 f2 f3 six rsel b5)
  | 0x23 =>
    guardI (f1 == 0 && f3 == 0 && w.extractLsb' 6 1 == 0#1 && w.extractLsb' 0 5 == 0#5 && rselOk rsel six f2)
      (.sig f2 six rsel b5)
  | 0x24 => guardI (jimm == 0) .yield
  | 0x25 => guardI (w.extractLsb' 16 10 == 0#10) (.halt (w.extractLsb' 0 16))
  | _ => none

end Sys2Proof
end

