-- ==== Sys2Proof/Machine/State/Basic.lean ====
section
/-! DEFINITION. Machine/State/Basic.lean: containers shared by the blocks' state: sparse tables in one canonical form and
fixed tables read and written by a number. -/

namespace Sys2Proof.Machine

/-- A sparse table: pairs of a number and an entry, numbers strictly rising, no entry equal to the table's default. -/
abbrev Sparse (α : Type) := List (Nat × α)

/-- The entry of number `k`, or `d` where the table lists none. -/
def Sparse.get {α : Type} (d : α) : Sparse α → Nat → α
  | [], _ => d
  | (n, v) :: t, k => if n = k then v else Sparse.get d t k

/-- The table with entry `v` at number `k`; an entry equal to the default `d` is not listed. -/
def Sparse.set {α : Type} [DecidableEq α] (d : α) : Sparse α → Nat → α → Sparse α
  | [], k, v => if v = d then [] else [(k, v)]
  | (n, w) :: t, k, v =>
    if n < k then (n, w) :: Sparse.set d t k v
    else if n = k then (if v = d then t else (k, v) :: t)
    else if v = d then (n, w) :: t else (k, v) :: (n, w) :: t

/-- Every number listed is above `lo`, the numbers rise, and no entry is the default. -/
def Sparse.okFrom {α : Type} [DecidableEq α] (d : α) : Option Nat → Sparse α → Bool
  | _, [] => true
  | lo, (n, v) :: t => (match lo with | none => true | some l => decide (l < n)) && decide (v ≠ d) && Sparse.okFrom d (some n) t

/-- The canonical form of a sparse table. -/
def Sparse.wf {α : Type} [DecidableEq α] (d : α) (t : Sparse α) : Bool := Sparse.okFrom d none t

/-- Entry `i` of a fixed table, `d` outside it. -/
def vget {α : Type} {n : Nat} (v : Vector α n) (d : α) (i : Nat) : α := if h : i < n then v[i] else d

/-- A fixed table with entry `i` replaced; a number outside the table changes nothing. -/
def vset {α : Type} {n : Nat} (v : Vector α n) (i : Nat) (x : α) : Vector α n := if h : i < n then v.set i x else v

/-- A fixed table with `f` applied to entry `i`. -/
def vmod {α : Type} {n : Nat} (v : Vector α n) (i : Nat) (f : α → α) : Vector α n :=
  if h : i < n then v.set i (f v[i]) else v

end Sys2Proof.Machine
end

