-- ==== Sys2Proof/Machine/State/Basin.lean ====
section
/-! DEFINITION. Machine/State/Basin.lean: the state of the basin manager (chapter 05). -/

namespace Sys2Proof.Machine

/-- A page held by a stream (R138). -/
structure BPage where
  seq    : Nat
  phys   : Nat
  isOpen : Bool
  bad    : Bool
  fill   : Nat       -- bytes of the record area in use
  opened : Nat       -- clock at which the page was opened
  recs   : Nat       -- records in the page
deriving DecidableEq, Repr, Inhabited

/-- One stream. -/
structure Strm where
  active    : Bool
  cfgErr    : Bool
  exhausted : Bool
  lastDrop  : Nat
  ackShort  : Bool
  lostPages : Nat
  dropped   : Nat
  nextSeq   : Nat
  nextRseq  : Nat
  gap       : Bool             -- the next page opened carries GAP (Table 5.1)
  pages     : List BPage       -- oldest first
deriving DecidableEq, Repr, Inhabited

/-- A stream after reset. -/
def Strm.init : Strm :=
  { active := false, cfgErr := false, exhausted := false, lastDrop := 0, ackShort := false, lostPages := 0, dropped := 0,
    nextSeq := 0, nextRseq := 0, gap := false, pages := [] }

/-- An area of memory with SECDED words: result SRAM, program SRAM, jet scratch, MRAM, and the steward's SRAM, of which an uncorrectable
word alone is held (R432). -/
inductive EccArea where
  | basin | prog | scratch | mram | steward
deriving DecidableEq, Repr, Inhabited

/-- The basin manager. Result SRAM words are kept by physical page × 256 + word. -/
structure Bsn where
  sram     : Sparse (Option Word)
  free     : List Nat          -- free physical pages, ascending
  retired  : List Nat          -- pages retired and not yet replaced
  spareOut : Nat               -- spare pages assigned into the pool (SPARE_USED)
  testPage : Option Nat        -- page under test (R397)
  ceCount  : Nat
  ue       : Bool
  uePage   : Nat
  streams  : Vector Strm 16
deriving DecidableEq, Repr, Inhabited

end Sys2Proof.Machine
end

