-- ==== Sys2Proof/Machine/State/Fault.lean ====
section
/-! DEFINITION. Machine/State/Fault.lean: the state of the fault collector, FLOW and the steward's liveness (chapter 14). -/

namespace Sys2Proof.Machine

/-- What the collector keeps for one source (R354). -/
structure FltSrc where
  sticky   : Bool
  sec      : Bool          -- bit of FLT_SECk
  esc      : Nat           -- escalation steps since the sticky bit was last cleared (R357)
  escCnt   : Nat           -- FLT_SSTAT.ESC_CNT
  lockDone : Bool          -- a LOCK_ESC escalation has taken place (R357)
  winOpen  : Bool
  winStart : Int           -- timebase value at which the window opened, moved with every step of the timebase (R357)
  cnt      : Nat
  notified : Nat           -- CNT as it stood when it was last incremented (R362)
  secCnt   : Nat
  first    : Option Tick   -- first occurrence; none while it is invalid
  firstReg : Tick          -- what FLT_SFIRSTL and FLT_SFIRSTH read
  last     : Nat           -- timebase [31:0] of the last presentation
  holdT    : Bool          -- holds THROTTLE (R359)
  holdS    : Bool          -- holds STOP_BALANCE (R359)
  secIn    : Option Nat    -- number of the shadow in which the source last had a secondary presentation (R364)
deriving DecidableEq, Repr, Inhabited

/-- A source after reset. -/
def FltSrc.clear : FltSrc :=
  ⟨false, false, 0, 0, false, false, 0, 0, 0, 0, none, 0, 0, false, false, none⟩

/-- An open shadow (R363): its number, the clock of its first cycle and the one at which it ends, and the sources whose reaction opened it. -/
structure Shadow where
  id      : Nat
  opens   : Nat
  ends    : Nat
  openers : List Nat
deriving DecidableEq, Repr, Inhabited

/-- The kinds of fault record (R365). -/
inductive RecKind where
  | first | escalated | secondary | reaction | cleared
deriving DecidableEq, Repr, Inhabited

/-- One record of the queue (R365). -/
structure FltRec where
  kind  : RecKind
  src   : Nat
  cls   : Nat
  react : Nat
  sec   : Bool
  cnt   : Nat
  first : Tick
  time  : Tick
deriving DecidableEq, Repr, Inhabited

/-- The fault collector (chapter 14). -/
structure Flt where
  src      : Sparse FltSrc
  shadowB  : Option Shadow
  shadowM  : Option Shadow
  shadowN  : Nat             -- shadows opened so far
  queue    : List FltRec     -- oldest first, at most 32 (R366)
  lost     : Nat
  lastSrc  : Nat             -- FLT_LASTR.SRC
  lastRe   : Nat             -- FLT_LASTR.REACT
  stwRun   : Bool            -- the steward runs
  stwAlive : Bool            -- R367
  stwKey   : Nat             -- clock of the last key write or steward start
  flowRun  : Bool            -- FLT_STAT.FLOW_RUN
  flow     : Bool            -- level of the FLOW pin
  divAt    : Nat             -- clock of the last boundary of the 1 kHz divider, at a half or a whole period (R368)
  divHigh  : Bool            -- the divider is in the first half of its period
deriving DecidableEq, Repr, Inhabited

end Sys2Proof.Machine
end

