-- ==== Sys2Proof/Machine/State/Seq.lean ====
section
/-! DEFINITION. Machine/State/Seq.lean: the state of the jets, groups, command queue and long operations (chapters 06 and 07). -/

namespace Sys2Proof.Machine

/-- The jet states of Table 7.2. -/
inductive JetSt where
  | idle | running | waiting | stopping | stopped
deriving DecidableEq, Repr, Inhabited

/-- The code of a jet state. -/
def JetSt.num : JetSt → Nat
  | .idle => 0 | .running => 1 | .waiting => 2 | .stopping => 3 | .stopped => 4

/-- What a jet waits for. -/
inductive JWait where
  | none
  | yield                                                           -- at the safe point of a YIELD, to be stopped (R161, R201)
  | time (until_ : Tick)                                            -- WAIT (R184)
  | deadline (dst : Nat) (ra : Word)                                -- WAITT (R185)
  | flag (rd k : Nat) (c : Bool) (limit : Option Tick) (hit : Bool)  -- WAITE (R186)
  | conv (rd g out : Nat) (id : Option Nat) (done : Option Nat)     -- CONV.W, SYNCV.W: conversion, or held trigger (R174)
  | getr (rd ch : Nat) (v : Bool) (word : Option Word)              -- GETR.N (R175)
  | strm (rd st a : Nat) (len : Nat) (last : Nat) (time : Tick) (pay : List Word) (bad : Bool)  -- STRM (R176): clock of issue or of the
                                                                    -- last payload read; an uncorrectable word has been read
deriving DecidableEq, Repr, Inhabited

/-- One jet (R158, R199). -/
structure Jet where
  st       : JetSt
  pc       : Nat
  regs     : Vector Word 16
  stack    : List Nat          -- return addresses, newest first
  tbh      : Word              -- timebase [63:32] latched by WAITT.RD (R185)
  wait     : JWait
  busyTo   : Nat               -- clock of the earliest next issue (R160)
  lastPc   : Nat               -- word index of the last instruction issued
  lastDep  : Nat               -- call-stack entries held as it was issued
  wdFrom   : Nat               -- clock since which the watchdog counts (R204)
  wdCyc    : Nat               -- core cycles that it counted before, on another clock
  cause    : Nat
  exitPc   : Nat
  depth    : Nat
  word     : Word
deriving DecidableEq, Repr, Inhabited

/-- A jet after reset. -/
def Jet.init : Jet :=
  { st := .idle, pc := 0, regs := .replicate 16 0, stack := [], tbh := 0, wait := .none, busyTo := 0, lastPc := 0, lastDep := 0,
    wdFrom := 0, wdCyc := 0, cause := 0, exitPc := 0, depth := 0, word := 0 }

/-- A trigger taken for a group (R207, R215). -/
structure Trig where
  grid  : Bool
  after : Option Nat        -- SYNCV deadline
  stand : Nat
  jet   : Nat               -- 8 where no jet triggered
deriving DecidableEq, Repr, Inhabited

/-- One conversion group's status. -/
structure Grp where
  defined  : Bool
  cfgErr   : Bool
  last     : Nat
  aborts   : Nat
  overruns : Nat
  held     : Option Trig    -- a trigger held under QUEUE1
deriving DecidableEq, Repr, Inhabited

/-- One entry of the command queue (R217 to R221), with the way its answer goes. -/
structure CqEnt where
  code  : Nat
  due   : Option Tick       -- timebase value at which it falls due; none: due
  late  : Bool
  cmdId : Nat
  args  : Bytes
  rq    : Requester
  tag   : Nat               -- TAG of the CMD frame
deriving DecidableEq, Repr, Inhabited

/-- States of a long operation (Table 7.10). -/
inductive OpSt where
  | running | suspended | cancelling | done | cancelled | failed
deriving DecidableEq, Repr, Inhabited

/-- The code of an operation state in SEQ_OPn.STATE. -/
def OpSt.num : OpSt → Nat
  | .running => 1 | .suspended => 2 | .cancelling => 3 | .done => 4 | .cancelled => 5 | .failed => 6

/-- One entry of the operation table (R222 to R229). -/
structure Oper where
  tag      : Nat            -- 0 marks an empty entry
  st       : OpSt
  kind     : Nat
  owner    : Requester
  pend     : Bool
  scReq    : Bool
  scStw    : Bool
  endCause : Nat
  endCode  : Nat
  endAt    : Nat            -- clock at which it became terminal
  modeLeft : Bool           -- cancelled because its mode was left (R228)
deriving DecidableEq, Repr, Inhabited

/-- An empty entry of the operation table. -/
def Oper.empty : Oper :=
  { tag := 0, st := .done, kind := 0, owner := .chain, pend := false, scReq := false, scStw := false, endCause := 0,
    endCode := 0, endAt := 0, modeLeft := false }

/-- A program load in progress (R197): its segments as words by index, AUTOSTART and generation. -/
structure LoadRun where
  words : List (Nat × Word)
  auto  : List (Nat × Nat)       -- jets to start with their addresses
  gen   : Nat
  since : Nat
  stop  : Nat                    -- STOPMASK
deriving DecidableEq, Repr, Inhabited

/-- The sequencer (chapters 06 and 07). -/
structure Seq where
  prog     : Sparse (Option Word)
  scratch  : Sparse (Option Word)   -- jet × 1024 + word
  jets     : Vector Jet 8
  flags    : BitVec 64
  flagClk  : Nat                    -- clock at which a flag was last set
  flagNew  : BitVec 64              -- flags set in that cycle (R163)
  flagTook : BitVec 64              -- flags taken at issue in that cycle (R186)
  ceCount  : Nat                    -- SEQ_ECC
  ue       : Bool
  ueArea   : Bool
  ueIndex  : Nat
  load     : Option LoadRun
  loadSt   : Nat                    -- SEQ_LOAD.STATUS
  loadGen  : Nat
  startIgn : Bool
  groups   : Vector Grp 16
  preempts : Nat
  syncTs   : Word
  queue    : List CqEnt             -- oldest first, at most 64
  cqNext   : Nat                    -- clock from which the queue may execute its next entry (R220)
  fullRef  : Nat
  ops      : Vector Oper 8
  nextTag  : Nat
deriving DecidableEq, Repr, Inhabited

end Sys2Proof.Machine
end

