-- ==== Sys2Proof/Machine/State/Cycle.lean ====
section
/-! DEFINITION. Machine/State/Cycle.lean: what has come about in a core cycle, for the orders that the rules give for it. -/

namespace Sys2Proof.Machine

/-- What has come about in the core cycle in which the clock reads `at_`. A register is named by its address and the part of it
that a requester reaches: a bank or a window's word. DEDUCED, log entry 133. -/
structure Cyc where
  at_     : Nat
  before  : List (Nat × Nat × Word)        -- words that registers showed before the cycle's first write of them (R27)
  ranks   : List (Nat × Nat × Nat)         -- requesters by rank whose writes of a register were applied, latest first (R26)
  wc      : List (Nat × Word)              -- WC bits that the device set (R12)
  freed   : List (Nat × Nat × Bool)        -- result pages freed by acknowledgement: stream, page, BAD; oldest first (R149)
  acked   : List (Nat × Strm × List Nat)   -- streams acknowledged, as they stood before, with UPTO of each acknowledgement, oldest first (R149)
  words   : List Nat                       -- channels whose words were written (R128, R132)
  lapped  : List Nat                       -- those of them whose overrun bit was set by it (R128)
  cells   : List (Nat × Nat)               -- words of this cycle in records: the channel and the word of result SRAM (R132)
  reacts  : List (Nat × Nat)               -- reactions that changed something, with the lowest source that called for each (R358)
  shown   : List Nat                       -- sources presented (R354)
  cleared : List (Nat × FltSrc)            -- sources cleared, as they stood before (R360)
  took    : List (Nat × Nat × Jet)         -- flags taken at issue: flag, jet, the jet as it would wait for the flag (R186)
  killed  : List (Nat × Jet)               -- jets that a kill stops in this cycle, as they stood before (R202)
deriving DecidableEq, Repr, Inhabited

/-- A cycle in which nothing has come about yet. -/
def Cyc.fresh (clk : Nat) : Cyc := ⟨clk, [], [], [], [], [], [], [], [], [], [], [], [], []⟩

end Sys2Proof.Machine
end

