-- ==== Sys2Proof/Machine/State/Link.lean ====
section
/-! DEFINITION. Machine/State/Link.lean: the state of the two Ecpor ports (chapter 10). -/

namespace Sys2Proof.Machine

/-- The three states of a port (R295). -/
inductive PortSt where
  | off | training | up
deriving DecidableEq, Repr, Inhabited

/-- The code of a port state in ECP_xSTAT.STATE. -/
def PortSt.num : PortSt → Nat
  | .off => 0 | .training => 1 | .up => 2

/-- What a port last put on its pair (R281, R291, R297): a frame with its rolling counter, its check value and the BEST of its INFO; a
copy that ended with ABT, by the TYPE and CNT of its first header byte, TYPE 0 where none went out; a LNK token with the RDY and BEST of its INFO; or a wake tone. -/
inductive OnWire where
  | frame (f : Frame) (check best : Nat)
  | abt (typ cnt best : Nat)
  | lnk (rdy : Bool) (best : Nat)
  | tone
deriving DecidableEq, Repr, Inhabited

/-- One Ecpor port (R275 to R300). -/
structure Port where
  st         : PortSt
  rdy        : Bool            -- RDY that this end sends (R280)
  farRdy     : Bool            -- RDY of the last INFO received
  farBest    : Option Nat      -- BEST of the last transmission received, 7 for none; nothing where its INFO was not received (R287)
  bridgeward : Bool
  txcnt      : Nat
  rxexp      : Nat
  rxSet      : Bool            -- a good frame has set RXEXP since the port became UP (R293)
  retrains   : Nat
  crcErr     : Nat
  cntErr     : Nat
  lost       : Nat
  fmtErr     : Nat
  drops      : Nat
  aborts     : Nat
  timeouts   : Nat
  buf        : List Frame      -- frames held, oldest first, at most 16 (R292)
  came       : List (Nat × Frame)  -- frames of the last 1 ms put into the buffers, with the clock then, newest first (R290)
  wire       : Option OnWire   -- last transmission started
  busyTo     : Nat             -- clock until which this end transmits
  trim       : Nat             -- band whose driver trim code the last transmission was sent with (R278, R382)
  sentT      : Nat             -- ticks of the transmissions started, for node 5 of the thermal model (Table 15.1)
  lastRx     : Nat             -- clock of the last valid transmission received, or of the entry into UP (R296)
  rxEnd      : Nat             -- clock at which the last transmission of the far end ended, valid or not (R287)
  trainAt    : Nat             -- clock at which TRAINING was entered
  upAt       : Nat             -- clock at which UP was last entered
  tokens     : Nat             -- consecutive valid LNK tokens with RDY 1 (R295)
  asked      : Bool            -- this end's last transmission was a LNK token that asks for an answer (R287)
  lnkAt      : Nat             -- clock of the last LNK token sent for training (R295)
  hopAt      : Nat             -- clock of the last hop delay measurement (R314)
  toneEnd    : Option Nat      -- clock at which the wake tone being sent ends (R297)
  down       : Bool            -- the port has left UP since it was last UP (R321)
  notice     : Option Bool     -- LINK_DOWN (false) or HEALED (true) is to be sent (R321)
deriving DecidableEq, Repr, Inhabited

/-- A port after reset; `b` marks the south port, which is bridge-ward after reset. -/
def Port.init (b : Bool) : Port :=
  { st := .off, rdy := false, farRdy := false, farBest := some 7, bridgeward := b, txcnt := 0, rxexp := 0, rxSet := false,
    retrains := 0, crcErr := 0, cntErr := 0, lost := 0, fmtErr := 0, drops := 0, aborts := 0, timeouts := 0, buf := [], came := [],
    wire := none, busyTo := 0, trim := 0, sentT := 0, lastRx := 0, rxEnd := 0, trainAt := 0, upAt := 0, tokens := 0, asked := false, lnkAt := 0,
    hopAt := 0, toneEnd := none, down := false, notice := none }

/-- The Ecpor link: both ports, ECP_WAKE.WAKE_IGN and the tones that follow a wake by tone (R299). -/
structure Ecp where
  north    : Port
  south    : Port
  wakeIgn  : Bool
  relayDue : Bool              -- the device has been woken by a tone and its ports are not yet enabled
  relayAt  : Option Nat        -- clock at which the tones follow
deriving DecidableEq, Repr, Inhabited

end Sys2Proof.Machine
end

