-- ==== Sys2Proof/Machine/State/Measure.lean ====
section
/-! DEFINITION. Machine/State/Measure.lean: the state of the cell front end, the modulators, the conversions in progress and
the latest-result registers (chapters 03 and 04, and the conversion arbiter of chapter 07). -/

namespace Sys2Proof.Machine

/-- The steps of a check phase (R84). -/
inductive OwStep where
  | due        -- the phase is about to begin
  | hold       -- balance outputs held off, waiting 50 µs
  | baseline   -- baseline conversions requested
  | settle     -- sinks on
  | check      -- check conversions requested
  | off        -- sinks off and criteria evaluated, 100 µs to the end of the phase
deriving DecidableEq, Repr, Inhabited

/-- A running open-wire check (R84, R90): its phase, its step, when the step began, and the conversions it has. -/
structure OwRun where
  phase  : Nat
  step   : OwStep
  since  : Nat
  cfg    : Word                  -- CFE_OW_CFG at the start of the check
  base   : List (Nat × Int)      -- baseline values by cell, µV
  chk    : List (Nat × Int)      -- check values by cell, µV
  any    : Bool                  -- this check found a tap open
  sinks  : Option Nat            -- clock at which the sinks of the phase switched on
deriving DecidableEq, Repr, Inhabited

/-- The state of a spare's crossbar switch (CFE_XBARn.STATE). -/
inductive XbarSt where
  | parked | precharge | parallel | standing
deriving DecidableEq, Repr, Inhabited

/-- The code of a crossbar state. -/
def XbarSt.num : XbarSt → Nat
  | .parked => 0 | .precharge => 1 | .parallel => 2 | .standing => 3

/-- One spare's crossbar state (R91, R92, R94): the state and source it has or is on its way to. -/
structure Xbar where
  repair : Bool
  st     : XbarSt
  side   : Bool
  source : Nat
  parkAt : Nat         -- clock at which it last came to SOURCE 0
  leftAt : Nat         -- clock at which it leaves SOURCE 0 for its source
  sweep  : Nat         -- ticks of each point while it takes sources 25 to 27 in turn; 0 while it stays
deriving DecidableEq, Repr, Inhabited

/-- The front end (chapter 03). -/
structure Cfe where
  run      : Option OwRun
  phase    : Nat             -- CFE_OW_CTRL.PHASE
  checks   : Nat
  anyOpen  : Bool
  deferred : Bool
  lastRun  : Option Nat      -- clock of the start of the last check that ran (R88)
  first    : Bool            -- no mode where checks run has been entered since reset: a check falls due at the first entry (R88)
  openTaps : Nat             -- CFE_OW_STAT.OPEN
  xbar     : Vector Xbar 4
deriving DecidableEq, Repr, Inhabited

/-- Offset and gain of a modulator (R109), with the clock of the calibration that gave them. -/
structure Coef where
  off  : Int
  gain : Nat
  at_  : Nat
deriving DecidableEq, Repr, Inhabited

/-- What a modulator converts: a cell side, its own channel, or calibration inputs. -/
inductive ModIn where
  | side (cell : Nat) (b : Bool)
  | own (sel : Nat)       -- with the input selection: AUX_DIFF for AUX9, SEL for DIAG
  | cal
deriving DecidableEq, Repr, Inhabited

/-- A running decimator (R101 to R104): its OSR exponent, its input and its start as a timebase value. -/
structure Decim where
  osrK  : Nat
  inp   : ModIn
  start : Tick
  last  : Nat         -- number of the last output delivered or discarded since the start
deriving DecidableEq, Repr, Inhabited

/-- One modulator with its decimation chain. -/
structure Modul where
  live   : Option Coef
  decim  : Option Decim
  busyAt : Nat            -- clock at which a conversion last held it (R119)
  chop   : Nat            -- CHOP_DIV in use (R99)
  calAt  : Option Nat     -- clock of its last calibration in place (R119)
deriving DecidableEq, Repr, Inhabited

/-- Where a rotation visit stands (Table 4.6). -/
inductive VisitStep where
  | sliceSpare  -- before step 1: the SMOD slice of the spare runs (R393)
  | calSpare    -- steps 1 to 4: the spare calibrates itself
  | match1      -- step 5: the spare runs beside the modulator
  | handDue     -- match passed; handover at the next window boundary
  | calMod      -- steps 6 and 7: the modulator calibrates
  | sliceMod    -- after step 7: the CMOD slice of the modulator runs (R393)
  | rejoin      -- that slice has ended in a pause: the modulator is reconnected when rotation resumes (R118)
  | match2      -- step 8
  | backDue     -- match passed; hand-back at the next window boundary
deriving DecidableEq, Repr, Inhabited

/-- A visit of a spare to a modulator (R112, R113). -/
structure Visit where
  m     : Nat
  step  : VisitStep
  tries : Nat
  since : Nat
deriving DecidableEq, Repr, Inhabited

/-- What a spare outside a visit waits for the next window boundary to do (R115). -/
inductive SpareDue where
  | take (m : Nat)   -- to take the side of modulator `m`
  | leave            -- to give back the side it has
deriving DecidableEq, Repr, Inhabited

/-- One spare modulator SP0 to SP3. -/
structure Spare where
  visit : Option Visit
  stand : Option Nat     -- modulator it stands in for without a visit
  due   : Option SpareDue
  bad   : Bool           -- failed its calibration; not used until self-test clears it (R114)
  failed : Bool          -- did not pass its last calibration (R121)
  used  : Option Nat     -- modulator it permanently replaces under the repair map
  startAt : Option Nat   -- clock of the start of its last visit (R111)
deriving DecidableEq, Repr, Inhabited

/-- One calibration copy (Table 4.16): `ok` says that its CRC-32C is correct and `due` that an uncorrectable error is in it. -/
structure CalCopy where
  ok    : Bool
  gen   : Nat
  scale : Nat
  coefs : Sparse (Int × Nat)      -- band × 64 + modulator; unlisted: offset 0, gain 0x40_0000
deriving DecidableEq, Repr, Inhabited

/-- A calibration run in progress (R120 to R125). -/
structure CalRun where
  tag   : Nat
  trim  : Option Nat            -- cell of a reference trim not yet done
  todo  : List Nat              -- modulators still to be calibrated, the one under calibration first
  taken : Bool                  -- the first of them has been taken from its side or channel (R121 step 1)
  point : Nat                   -- point in progress, 0 to 2
  means : List Int              -- means of the points done for the modulator in progress
  cuts  : Nat                   -- cuts of the point in progress (R121)
  scale : Nat
  fresh : List (Nat × Int × Nat)  -- coefficients of the modulators that passed
  failed : Bool                 -- a modulator failed or was skipped
  wait  : Option Nat            -- what the copy write waits for: END_CODE to be set
deriving DecidableEq, Repr, Inhabited

/-- Modulators, rotation and calibration (chapter 04). -/
structure Mod where
  mods     : Vector Modul 64
  spares   : Vector Spare 4
  next     : Nat            -- next modulator of the rotation
  rounds   : Nat
  lastFail : Nat            -- MOD_ROT_STAT.LAST_FAIL
  exhSeen  : Bool           -- pause cause 4 has been presented (Table 4.7)
  run      : Option CalRun
  startRes : Nat            -- MOD_CAL.START_RES
  calTag   : Nat
  calFail  : Nat            -- MOD_CALST.LAST_FAIL
  skipped  : Nat
  copyA    : CalCopy
  copyB    : CalCopy
  useB     : Bool           -- calibration copy in use
  hourAt   : Nat            -- clock of the last hourly copy of live coefficients (R110)
  rotRun   : Nat            -- ticks of rotation since that copy, up to `rotFrom`
  rotFrom  : Option Nat     -- clock since which rotation runs, none in a pause
deriving DecidableEq, Repr, Inhabited

/-- A span of core-clock time; open while it lasts. -/
structure Span where
  from_ : Nat
  to_   : Option Nat
deriving DecidableEq, Repr, Inhabited

/-- What a conversion is for. -/
inductive ConvFor where
  | group (g : Nat)
  | owBase
  | owCheck
  | lock (ch : Nat)      -- one channel of LOCKOUT's continuous conversion (R50)
  | spec                 -- the monitor words and the hold of a spectrum run (R253, R214)
deriving DecidableEq, Repr, Inhabited

/-- One channel of a conversion, with the samples it has taken (R105, R106, R109). -/
structure ConvCh where
  ch    : Nat
  need  : Nat                 -- 2^s
  n     : Nat
  acc   : Int
  half  : Option (Bool × Int) -- MERGE: the side already there, with its corrected sample
  flags : Nat                 -- OR of the flag bits of the samples: 0x20 FALLBACK_CAL, 0x40 SPARE, 0x10 CLIPPED
  coA   : Option (Bool × Int × Nat)  -- coefficients in use on side A since the window began: live, offset, gain (R110)
  coB   : Option (Bool × Int × Nat)
  tFrom : Nat                 -- clock of the first sample
  tSum  : Nat                 -- sum of the samples' timebase instants (R108)
  word  : Option Word         -- word written
  wordAt : Option Nat         -- clock at which it was written
deriving DecidableEq, Repr, Inhabited

/-- A conversion that waits for or holds its sides (R210, R211). -/
structure Conv where
  id    : Nat
  why   : ConvFor
  stand : Nat                 -- standing (R212)
  jet   : Nat                 -- jet number for the arbiter's order; 8 where none
  osrK  : Nat
  s     : Nat
  merge : Bool
  diff  : Bool                -- MOD_CFG.AUX_DIFF as the conversion began (R23)
  grid  : Bool
  after : Option Nat          -- SYNCV deadline (R173)
  start : Option Tick         -- timebase of the start once granted
  at_   : Nat := 0            -- clock of the grant
  strm  : Option Nat          -- stream that takes its record (R143)
  chans : List ConvCh
deriving DecidableEq, Repr, Inhabited

/-- Latest results, limits and SUSPECT conditions (R126 to R132). -/
structure Res where
  latest   : Vector Word 36
  unread   : Vector Bool 36
  seq      : Vector Nat 36
  had      : Nat             -- channels that have had a word since reset, as a mask
  ovr0     : Nat
  ovr1     : Nat
  snap     : Vector Word 36
  snaps    : Nat
  ovMask   : Nat             -- RES_LIMSTAT0
  uvMask   : Nat             -- RES_LIMSTAT1
  aux      : Nat             -- RES_LIMSTAT2.AUX_OUT
  stackOv  : Bool
  stackUv  : Bool
  diagOut  : Bool
  refMis   : Bool            -- reference-mismatch state (R132)
  stackHi  : Bool            -- VSTK above 140 V (R34)
  misSpans : List Span       -- mismatch intervals
  dipSpans : List Span       -- supply dips (R36)
  vrgSpans : List Span       -- VREG_FAULT (R34)
  owSpans  : List (Nat × Span)  -- sink intervals of open-wire phases by cell (R86)
  relock   : Nat             -- channels whose next word is the first after a PLL relock (R40)
deriving DecidableEq, Repr, Inhabited

end Sys2Proof.Machine
end

