-- ==== Sys2Proof/Machine/State/Net.lean ====
section
/-! DEFINITION. Machine/State/Net.lean: the state of the Ecpor network, the timebase discipline, the ring and the bridge's host
port (chapter 11). -/

namespace Sys2Proof.Machine

/-- The sync states of Table 11.8. -/
inductive SyncSt where
  | free | acquire | locked | holdover
deriving DecidableEq, Repr, Inhabited

/-- The code of a sync state in NET_SYNC.STATE. -/
def SyncSt.num : SyncSt → Nat
  | .free => 0 | .acquire => 1 | .locked => 2 | .holdover => 3

/-- A tag that is held (R310, R311). -/
structure TagHold where
  tag    : Nat
  handle : Nat
  addr   : Nat
  since  : Nat
  count  : Nat          -- answers counted, for a broadcast
deriving DecidableEq, Repr, Inhabited

/-- One entry of the host transmit queue (R308). -/
structure TxEnt where
  handle : Nat
  frame  : Frame
deriving DecidableEq, Repr, Inhabited

/-- One entry of the host receive queue (Table 11.6). -/
structure RxEnt where
  handle : Nat
  kind   : Nat
  count  : Nat
  frame  : Option Frame
deriving DecidableEq, Repr, Inhabited

/-- Where a running enumeration stands (R306). -/
inductive EnumStep where
  | clear                     -- CLEAR is on its way out
  | assign                    -- waiting for ASSIGNED
  | discover                  -- collecting PRESENT
deriving DecidableEq, Repr, Inhabited

/-- A running enumeration. -/
structure EnumRun where
  step  : EnumStep
  n     : Nat
  since : Nat
  tag   : Nat                 -- tag of the frame whose answers are awaited
  lone  : Bool                -- no port took that frame: its time runs from `since` and no answer comes
  count : Nat                 -- PRESENT answers
  ring  : Bool                -- DISCOVER came back on the ring port
deriving DecidableEq, Repr, Inhabited

/-- A collection of REVERSED answers (R323). -/
structure Collect where
  last   : Nat                -- clock of REVERSE or of the last answer
  expect : Option (List Nat)  -- addresses still expected; none where the trigger was OPEN
  got    : List Nat
deriving DecidableEq, Repr, Inhabited

/-- The ring states of NET_RING.STATE. -/
inductive RingSt where
  | none | intact | open_ | split
deriving DecidableEq, Repr, Inhabited

/-- The code of a ring state. -/
def RingSt.num : RingSt → Nat
  | .none => 0 | .intact => 1 | .open_ => 2 | .split => 3

/-- The network, its timebase discipline, and the host port. -/
structure Net where
  posErr    : Bool
  hopsSeen  : Nat
  enumRun   : Option EnumRun
  ringSeen  : Bool
  enumRes   : Nat
  enumCount : Nat
  sync      : SyncSt
  stepped   : Bool
  losses    : Nat
  sseq      : Nat
  sseqSet   : Bool            -- a SYNC has been taken since reset
  lastSync  : Nat             -- clock of the last valid sync, or of the entry into FREE
  lockAt    : Nat             -- clock of the last entry into LOCKED
  good      : Nat             -- consecutive syncs with |e| ≤ 20 ns (Table 11.8)
  ofs       : Int             -- last e, 1/256 tick
  delayN    : List Nat        -- last 16 hop delays of the north port, newest first, 1/256 tick (R314)
  delayS    : List Nat
  ring      : RingSt
  split     : Nat
  splits    : Nat
  heals     : Nat
  collect   : Option Collect
  ringLast  : Nat             -- clock of the last SYNC returned on the ring port (R321)
  ringLost  : Bool            -- the loss since then has been declared
  healing   : Bool            -- NORMAL has been sent; INTACT at the next SYNC returned (R322)
  tags      : List TagHold
  nextTag   : Nat
  timeouts  : Nat
  lateRsp   : Nat
  txq       : List TxEnt      -- oldest first, at most 16
  rxq       : List RxEnt      -- oldest first, at most 32
  rxDrop    : Nat
  spiErr    : Nat
  attn      : Bool            -- HSTAT.ATTN
  hErrCrc   : Bool            -- HSTAT.CRC_ERR, DENIED, FORMAT of the previous transaction
  hErrDen   : Bool
  hErrFmt   : Bool
  hTxFull   : Bool            -- a TXQ_PUT found the transmit queue full
  hstat     : Byte            -- HSTAT sent in the last transaction
  hostOut   : Bytes           -- bytes sent after HSTAT in the last transaction, their CRC included
  tickAt    : Nat             -- highest multiple of 200,000 ticks for which a SYNC was sent, as its number (R313)
deriving DecidableEq, Repr, Inhabited

end Sys2Proof.Machine
end

