-- ==== Sys2Proof/Machine/State/Power.lean ====
section
/-! DEFINITION. Machine/State/Power.lean: the state of supplies, clocks, resets, modes, lock and overlays (chapter 02). -/

namespace Sys2Proof.Machine

/-- The twelve modes of Table 2.6. -/
inductive Mode where
  | reset | ship | still | watch | measure | balance | spectrum | calibrate | selftest | service | safe | lockout
deriving DecidableEq, Repr, Inhabited

/-- The number of a mode (Table 2.6). -/
def Mode.num : Mode → Nat
  | .reset => 0 | .ship => 1 | .still => 2 | .watch => 3 | .measure => 4 | .balance => 5
  | .spectrum => 6 | .calibrate => 7 | .selftest => 8 | .service => 9 | .safe => 10 | .lockout => 11

/-- The mode of a number; 12 to 15 name none. -/
def Mode.ofNum : Nat → Option Mode
  | 0 => some .reset | 1 => some .ship | 2 => some .still | 3 => some .watch | 4 => some .measure
  | 5 => some .balance | 6 => some .spectrum | 7 => some .calibrate | 8 => some .selftest
  | 9 => some .service | 10 => some .safe | 11 => some .lockout | _ => none

/-- The core clock source (PWR_CLK.CORE_SRC). -/
inductive CoreSrc where
  | pll | ref | lpo
deriving DecidableEq, Repr, Inhabited

/-- The number of a core clock source in PWR_CLK.CORE_SRC. -/
def CoreSrc.num : CoreSrc → Nat
  | .pll => 0 | .ref => 1 | .lpo => 2

/-- One overlay entry (R58). -/
structure OvlEntry where
  valid : Bool
  addr  : Nat
  mask  : Word
  val   : Word
deriving DecidableEq, Repr, Inhabited

/-- The always-on registers and latches (R41, R42, R49, R70); VSTK's collapse alone loses them. -/
structure Aon where
  resetCause   : Nat          -- PWR_AON.RESET_CAUSE
  supplySrc    : Nat          -- PWR_AON.SUPPLY_SRC
  wakeCause    : Nat          -- PWR_AON.WAKE_CAUSE
  lockout      : Bool         -- the LOCKOUT latch
  appliedEpoch : Nat          -- PWR_EPOCH.APPLIED_EPOCH
  dipDuration  : Nat          -- PWR_DIP.DURATION
  dipVmin      : Nat          -- PWR_DIP.VMIN
  dipOpen      : Bool         -- a dip record has started and not ended (R36, R37)
  dipReset     : Bool         -- the open record ended in a supply reset: ledger entry due (R37)
  dipStart     : Tick         -- timebase at the start of the dip, for its ledger entry
  dipClk       : Nat          -- clock at the start of the dip
  chainAddr    : Option Nat   -- the chain address that resets keep (R41)
  fromStill    : Bool         -- the last wake reset ended STILL: step 9 enters WAKE_TARGET (Table 2.7)
deriving DecidableEq, Repr, Inhabited

/-- What an overlay commit is for. -/
inductive CommitWhy where
  | request                  -- a local request (R54)
  | auto                     -- an automatic route of Table 2.7
  | reaction                 -- a SAFE_MODE or LOCKOUT reaction
  | chain (epoch : Nat)      -- a chain-wide change (R66)
deriving DecidableEq, Repr, Inhabited

/-- A register write that waits for an overlay commit (R60): whether it was accepted when it came (R13), and the clock then. -/
structure HeldWrite where
  rq   : Requester
  addr : Nat
  val  : Word
  ok   : Bool
  at_  : Nat
deriving DecidableEq, Repr, Inhabited

/-- An overlay commit in progress (R60): its target, the snapshot taken when it began, and the writes that wait for it. -/
structure Commit where
  target : Mode
  why    : CommitWhy
  snap   : List OvlEntry
  start  : Nat
  waits  : List HeldWrite
deriving DecidableEq, Repr, Inhabited

/-- Why a PREPARE was refused or a mode change missed: the codes of PWR_PREP.MISSED_CAUSE. -/
inductive MissCause where
  | noPrepare | noCommit | late | preempted | staleEpoch | badTime | route
deriving DecidableEq, Repr, Inhabited

/-- The code of a cause in PWR_PREP.MISSED_CAUSE. -/
def MissCause.num : MissCause → Nat
  | .noPrepare => 1 | .noCommit => 2 | .late => 3 | .preempted => 4 | .staleEpoch => 5 | .badTime => 6 | .route => 7

/-- A chain-wide change that is PREPARED (R65). -/
structure Prepared where
  epoch  : Nat
  target : Nat
  tc     : Tick
deriving DecidableEq, Repr, Inhabited

/-- A COMMIT received before its T (R66, R68): `early` says it came at least 20 µs before T. -/
structure CommitRec where
  epoch  : Nat
  target : Nat
  tc     : Tick
  early  : Bool
deriving DecidableEq, Repr, Inhabited

/-- The last record of a missed change (PWR_PREP, R68). -/
structure Missed where
  epoch  : Nat
  target : Nat
  cause  : Nat
deriving DecidableEq, Repr, Inhabited

/-- Modes, clocks, supplies, lock, wake (chapter 02). -/
structure Pwr where
  mode       : Mode
  prevMode   : Mode
  returnMode : Mode
  localSet   : Bool               -- PWR_MODE.LOCAL
  reqStatus  : Nat                -- PWR_MODE.REQ_STATUS
  commit     : Option Commit
  nextReact  : Option Mode        -- SAFE or LOCKOUT to be entered once the commit in progress completes (R25)
  heldReact  : Option Mode        -- mode reaction held in RESET (R466)
  step       : Nat                -- last start-up step of Table 2.5 that is done; 9 after start-up
  factory    : Bool               -- TEST was sampled high at step 1, or will be once step 1 begins: the factory test state (R442)
  stuck      : Bool               -- no image passed: the loader alone serves requests (R44)
  prepState  : Nat                -- PWR_PREP.PREP_STATE
  prepEpoch  : Nat
  prepTarget : Nat
  prepared   : Option Prepared
  refused    : List (Nat × MissCause)   -- refusal causes by epoch, newest first (R65)
  commits    : List CommitRec     -- COMMITs held until their T
  lapsed     : List (Nat × Bool)  -- epochs PREPARED here and then missed at T (true) or preempted (false), newest first (R68)
  missed     : Missed
  spread     : Nat                -- spread in effect on the PLL (R38); off at lock
  pllLock    : Bool
  refOk      : Bool
  lpoOk      : Bool
  lpoRun     : Bool               -- the LPO runs (R49)
  lpoAt      : Nat                -- clock at which the LPO last started (R453)
  coreSrc    : CoreSrc
  relocks    : Nat                -- PWR_CLK.RELOCK_COUNT
  retries    : Nat                -- failed relock retries since the lock was lost (R40)
  supplyOk   : Nat                -- PWR_SUP_STAT.SUPPLY_OK, six bits
  railTrip   : Option (Nat × Nat) -- a rail supervisor tripped: SUPPLY_SRC and the clock of the trip (R34)
  mramHold   : Bool
  vregLimit  : Bool               -- VREG current-limited: AUX results SUSPECT (R34)
  portsOff   : Bool               -- VCHN under-voltage: both ports high-impedance (R34)
  lockOwner  : Option Requester
  lockLast   : Nat                -- clock of the owner's last RWL write (R57)
  keyArmed   : List Requester     -- requesters whose last register write was the first key (R56)
  scanCell   : Nat                -- next cell of the STILL scan (R47)
  burst      : Bool               -- a WATCH burst is running (R48)
  buckBurst  : Bool               -- the buck is enabled for a WATCH burst (R444)
  supMask    : Bool               -- the rail supervisors are masked in WATCH (R444)
  modeAt     : Nat                -- clock at which the mode was entered
  burstAt    : Nat                -- clock of the last WATCH burst
  gateAt     : Nat                -- clock at which WATCH last gated the core clock off (R48, R204)
  dipRec     : Option Nat         -- clock at which VSTK rose above the warning threshold plus hysteresis (R36)
  pllAt      : Nat                -- clock at which the PLL lock was lost (R40)
  wakeDue    : Option Nat         -- a qualified wake that ends SHIP or STILL: its WAKE_CAUSE (R41)
  scanAt     : Nat                -- clock of the last STILL comparison (R47)
  buckAt     : Nat                -- clock at which the buck was enabled for a burst (R444)
  autoDue    : Bool               -- start-up step 9 is done and AUTOLOAD has not yet been acted on (R198)
deriving DecidableEq, Repr, Inhabited

/-- One stored configuration copy of MRAM (Table 2.8): `ok` says that its CRC-32C is correct. -/
structure CfgCopy where
  ok      : Bool
  schema  : Nat
  gen     : Nat
  base    : Sparse Word          -- stored values of the configurable fields, where they differ from the factory values
  entries : Sparse OvlEntry      -- overlay entries by mode × 128 + index
deriving DecidableEq, Repr, Inhabited

/-- The overlay store (R58 to R64). -/
structure Ovl where
  entries  : Sparse OvlEntry     -- stored entries, by mode × 128 + index
  snap     : List OvlEntry       -- snapshot applied when the current mode was entered
  copyB    : Bool                -- copy in use
  saveBusy : Bool
  saveImg  : Option CfgCopy      -- what the save in progress writes
  saveErr  : Bool
  loadClr  : Bool
  cfgLost  : Bool
  copyA    : CfgCopy             -- copy A in MRAM
  copyB_   : CfgCopy             -- copy B in MRAM
deriving DecidableEq, Repr, Inhabited

end Sys2Proof.Machine
end

