-- ==== Sys2Proof/Machine/State/Services.lean ====
section
/-! DEFINITION. Machine/State/Services.lean: the state of the check-value units, the rill bus, thermal management and
self-test (chapters 12, 13, 15 and 16). -/

namespace Sys2Proof.Machine

/-- A feed in progress (R332, R333). -/
structure Feed where
  src    : Word        -- CHK_FSRCn at the start of the feed
  count  : Nat
  finish : Bool        -- FINISH is held
  got    : Nat         -- words read so far
  last   : Nat         -- clock of the last read, or of the start
deriving DecidableEq, Repr, Inhabited

/-- One check-value channel. -/
structure Chk where
  active   : Bool
  owner    : Option Requester
  cfg      : Word      -- CHK_CFGn copied at START (R329)
  crc      : Nat       -- running value
  feed     : Option Feed
  res      : Word
  mismatch : Bool
  lastEnd  : Nat
  feedSt   : Nat
  cntUsed  : Nat
  cnt      : Nat       -- alive counter (R335)
  last     : Nat       -- clock of the owner's last write (R337)
  startAt  : Option Nat -- clock of the last START (R329)
  fresh    : Bool      -- that START claimed an IDLE channel (R328)
deriving DecidableEq, Repr, Inhabited

/-- A channel after reset (R337). -/
def Chk.init : Chk :=
  { active := false, owner := none, cfg := 0, crc := 0, feed := none, res := 0, mismatch := false, lastEnd := 0,
    feedSt := 0, cntUsed := 0, cnt := 0, last := 0, startAt := none, fresh := false }

/-- One directory entry of the rill bus (R348, R351). POLL and CELL stand in the register file. -/
structure RilEnt where
  id      : BitVec 64
  used    : Bool
  present : Bool
  new     : Bool
  st      : Nat
  val     : Word
deriving DecidableEq, Repr, Inhabited

/-- A running search (R347). `slots` are the CLEAN slots of the last query still to be confirmed by ECHO. -/
structure RilSearch where
  tag      : Nat
  todo     : List (List Nat)         -- prefixes, next first
  cur      : List Nat                -- prefix of the query in progress or last made
  found    : List (BitVec 64)
  clean    : List (Nat × BitVec 64)  -- CLEAN slots not yet confirmed, ascending
  garbled  : List Nat                -- GARBLED slots of the query
  n        : Nat                     -- slots of the query that are not EMPTY
  want     : Bool                    -- next an ECHO to the first CLEAN slot, else a query of `cur`
  before   : List (BitVec 64)        -- sensors present before the search
  restarts : Nat
  shown    : Bool                    -- RILL_CHANGE has been presented in this search
  lost     : Bool                    -- BUS_FAULT or RLV off while it was suspended (R347)
deriving DecidableEq, Repr, Inhabited

/-- A poll round (R350): when its GROUP transaction ended, the entries below the next one to be read, and whether RILL_CHANGE has been
presented in it. -/
structure RilRound where
  convEnd : Option Nat
  cursor  : Nat
  shown   : Bool
deriving DecidableEq, Repr, Inhabited

/-- The transaction on the bus (R345). -/
inductive RilTx where
  | direct
  | conv
  | read (i : Nat)
  | query
  | echo
deriving DecidableEq, Repr, Inhabited

/-- The rill bus. -/
structure Ril where
  bus      : Option RilTx
  busAt    : Nat             -- clock at which its break began
  frame    : Bytes           -- characters of the last request frame after its break
  freeAt   : Nat             -- clock before which no transaction begins (R340, R342)
  gapD     : Bool            -- a direct transaction has been served since the last query (R345)
  gapP     : Bool            -- a poll step has been served since the last query
  rlvEver  : Bool            -- RLV has been on since reset
  ents     : Vector RilEnt 32
  stale    : Bool
  rlv      : Bool
  rlvSince : Nat
  rlvFault : Bool
  rlvRetry : Option Nat      -- clock of the current limit, while RLV waits to be turned on again (R340)
  stuck    : Bool
  search   : Option RilSearch
  srchRes  : Nat
  tag      : Nat
  restarts : Nat
  queries  : Nat
  searches : Nat
  autoFrom : Bool            -- AUTO_SEARCH: a search is due from the entry into modes 4 to 10 (R346)
  autoRlv  : Option Nat      -- AUTO_SEARCH: clock at which RLV first turned on, while the search 5 ms after it is due (R346)
  direct   : Option Word     -- direct transaction waiting or running: RIL_XCTL at its start
  xst      : Nat
  ign      : Bool
  xr0      : Word
  xr1      : Word
  round    : Option RilRound
  rounds   : Nat
  skipped  : Nat
  pts      : Word
deriving DecidableEq, Repr, Inhabited

/-- One die sensor; temperatures are in 1/64 °C. -/
structure Sens where
  meas     : Int
  replaced : Bool
  disSince : Option Nat      -- clock of the first step of the disagreement (R374)
  eff      : Int             -- effective temperature E (R373)
  hot      : Bool            -- live bit of DIE_TEMP
  hotAt    : Option Nat      -- clock of the last DIE_TEMP presentation, none while E is not above HOT_T (R377)
  rise     : Bool            -- live bit of DIE_RISE
  riseAt   : Nat
  hist     : List Int        -- E of the last 250 steps, newest first; empty in WATCH (R378)
deriving DecidableEq, Repr, Inhabited

/-- The throttle controller's states (Table 15.3). -/
inductive ThrSt where
  | idle | requested | enforced
deriving DecidableEq, Repr, Inhabited

/-- The code of a throttle controller state. -/
def ThrSt.num : ThrSt → Nat
  | .idle => 0 | .requested => 1 | .enforced => 2

/-- Thermal management. -/
structure Thm where
  started   : Bool           -- a sensor step has been made since reset
  stepAt    : Nat            -- clock of the last step
  sens      : Vector Sens 6
  model     : Vector Int 8   -- M_k
  powNow    : Vector Nat 5   -- power inputs of nodes 1 to 4 as they are (Table 15.1), then 1; 0 between WATCH bursts (R371)
  powSum    : Vector Nat 5   -- the same times ticks since the last step (R371)
  powAt     : Nat            -- clock up to which powSum counts
  sentAt    : Nat            -- ticks for which the ports had transmitted by the last step
  amb       : Rat            -- A
  thr       : ThrSt
  graceEnd  : Nat            -- timebase value at which the grace timer expires
  enfAt     : Nat            -- clock of the last THROTTLE_ENFORCED presentation
  band      : Nat
  bandAt    : Option Nat     -- clock of the last band change
  bandWas   : Nat            -- band before it
  tmax      : Int
  hottest   : Nat
  parked    : Bool
  nvmHold   : Bool
  shutOver  : Bool           -- TMAX had reached SHUT_T at the last step (R383, R385)
  shutDue   : Bool           -- THERMAL_SHUTDOWN waits for a page write in progress (R383)
  degraded  : Bool
  degAt     : Nat            -- clock of the last presentation under R376
  rateSens  : Nat
  rate      : Int
  cntEnf    : Nat
  cntShut   : Nat
deriving DecidableEq, Repr, Inhabited

/-- Why a slice was cut (BST_LAST.CUT): none, service request, suspend, cancel or mode left, steward stopped, budget. -/
abbrev CutCode := Nat

/-- What a slice belongs to: the background (confirming slices included), a campaign, or a rotation visit of a spare. -/
inductive SliceOf where
  | back
  | camp
  | visit (sp : Nat)
deriving DecidableEq, Repr, Inhabited

/-- A slice in progress (R387). -/
structure Slice where
  unit  : Nat
  since : Nat
  of_   : SliceOf
deriving DecidableEq, Repr, Inhabited

/-- What the device keeps for one testable unit (R392, R408). -/
structure UnitRes where
  last  : Nat
  camp  : Nat
  fails : Nat
  sig   : Word
  first : Bool              -- a first FAIL awaits its confirming slice (R402)
  cause : Nat               -- the map CAUSE of that FAIL: 1 slice, 2 rotation
  conf  : Bool              -- a confirmed FAIL waits for its repair (R403)
  mate  : Nat               -- spare of the visit whose failure the first FAIL was (R402); 4 for none
deriving DecidableEq, Repr, Inhabited

/-- A unit after reset. -/
def UnitRes.none : UnitRes := ⟨0, 0, 0, 0, false, 0, false, 4⟩

/-- One repair map entry (Table 16.6). -/
structure MapEnt where
  kind  : Nat
  cause : Nat
  unit  : Nat
  subst : Nat               -- 0xFFFF for none
deriving DecidableEq, Repr, Inhabited

/-- One repair map copy: `ok` says that its MAGIC and CRC-32C are correct. -/
structure MapCopy where
  ok   : Bool
  gen  : Nat
  ents : List MapEnt
deriving DecidableEq, Repr, Inhabited

/-- A campaign in progress (R398, R399). -/
structure Camp where
  tag    : Nat
  todo   : List Nat          -- units not yet tested, the next first
  reruns : Nat               -- reruns of the unit at the front
  fails  : List Nat          -- units with a confirmed FAIL, repaired when the campaign ends
  inc    : Bool              -- a unit ended INCOMPLETE
deriving DecidableEq, Repr, Inhabited

/-- Self-test and self-repair. -/
structure Bst where
  units    : Sparse UnitRes
  slices   : List Slice      -- slices in progress, oldest first
  camp     : Option Camp
  next     : Nat             -- next background unit
  bgUnit   : Option Nat      -- unit of the last background turn
  tries    : Nat             -- attempts of that unit after INCOMPLETE
  bgAt     : Nat             -- clock of the last background turn
  startRes : Nat
  tag      : Nat
  mapLost  : Bool
  mapPend  : Bool
  mapAt    : Nat             -- clock of the change not yet stored
  lastKind : Nat
  lastRes  : Nat
  lastCut  : Nat
  lastUnit : Nat
  lateN    : Nat
  lateMax  : Nat
  count    : Nat             -- BST_CNT.SLICES
  fails    : Nat
  incs     : Nat
  entries  : List MapEnt     -- the repair map in effect
  copyA    : MapCopy
  copyB    : MapCopy
  useB     : Bool
deriving DecidableEq, Repr, Inhabited

end Sys2Proof.Machine
end

