-- ==== Sys2Proof/Machine/State/Sluice.lean ====
section
/-! DEFINITION. Machine/State/Sluice.lean: the state of the sluice and the balance paths (chapter 08). -/

namespace Sys2Proof.Machine

/-- A stored balance request of a cell (R178 to R181). A quota is kept in units of 0.1 mA × one tick: 1 mC is 2 × 10⁹. -/
inductive BalReq where
  | none
  | level (n : Nat)
  | quota (rem : Rat)
deriving DecidableEq, Repr, Inhabited

/-- The edge of an output (Table 8.2): its shape, a raised cosine or a linear ramp, and its time from 10 % to 90 % in ticks. -/
structure Edge where
  cosine : Bool
  ticks  : Nat
deriving DecidableEq, Repr, Inhabited

/-- One balance path. -/
structure BalCell where
  req     : BalReq
  owner   : Option Requester
  xfet    : Bool       -- external-FET mode in effect (R234)
  xnew    : Bool       -- the mode changed at this frame's start: no duty in it (R234)
  duty    : Nat        -- slots granted in the current frame
  elig    : Bool       -- eligible at the frame start (R236)
  l       : Nat        -- level used at the frame start (R240)
  pd      : Rat        -- die power at full duty, mW (R241)
  ran     : Bool       -- `pd` was measured: the cell was on for a whole slot in the frame before (R241, R257)
  pb      : Rat        -- board power at full duty, mW (R241)
  on      : Bool       -- output closed now
  since   : Nat        -- clock at which the output last opened or closed
  edge    : Edge       -- the edge it made then (R235)
  closedIn : Nat       -- slot in which the present on-interval began (R247)
  mark    : Option Nat -- clock from which on-time in the present slot counts, while closed by the sluice (R243)
  onT     : Nat        -- ticks of the present slot before `mark` in which it was on
  pulse   : Option Nat -- clock at which the closure of a SWITCH slice ends (R45)
  checked : Bool      -- the current checks of this on-interval have been made (R247)
  cur     : Nat        -- measured current, 0.1 mA
  hold    : Bool       -- SLU_FAULT.HOLD
  faulted : Bool       -- BAL_FAULT presented in this frame (R247)
  lowN    : Nat        -- consecutive on-intervals that failed the current-low check
  highN   : Nat        -- consecutive on-intervals that failed the current-high check
  sumCD   : Nat        -- this frame: sum of measured current × drop × ticks on
  sumCB   : Nat        -- this frame: sum of measured current × (cell voltage − drop) × ticks on
  sumT    : Nat        -- this frame: ticks on
  slots   : Nat        -- this frame: whole slots on
deriving DecidableEq, Repr, Inhabited

/-- A balance path after reset (R248). -/
def BalCell.init : BalCell :=
  { req := .none, owner := none, xfet := false, xnew := false, duty := 0, elig := false, l := 0, pd := 0, ran := false, pb := 0,
    on := false, since := 0, edge := ⟨false, 200⟩, closedIn := 0, mark := none, onT := 0, pulse := none, checked := false, cur := 0,
    hold := false, faulted := false, lowN := 0, highN := 0, sumCD := 0, sumCB := 0, sumT := 0, slots := 0 }

/-- The sluice (chapter 08). -/
structure Slu where
  cells      : Vector BalCell 24
  running    : Bool           -- a frame has been computed since BALANCE was entered (R245)
  slot       : Nat            -- slot in progress, 0 to 255
  slotClk    : Nat            -- clock at which it began
  next       : Nat            -- next slot boundary of the frame, 0 to 256; 257 once all are past
  frameU     : Nat            -- usable slots of the current frame (R239)
  frameDie   : Nat            -- die budget taken at the frame start, mW
  frameBoard : Nat            -- board budget taken at the frame start, mW
  frameLen   : Nat            -- FRAME of the current frame, in units of 10 ms
  frameRes   : Option Word    -- SLU_RES taken at the frame start (R238), none before the first frame
  frameGap   : Option Word    -- SLU_GAP taken at the frame start (R238, R239), none before the first frame
  gapSent    : Bool           -- GAP_FLAG set in this frame (R239)
  k256       : Nat            -- SLU_STAT.K
  limDie     : Bool
  limBoard   : Bool
  frames     : Nat            -- SLU_STAT.FRAMES
  boardP     : Nat
  dieP       : Nat
  col1       : Nat
  col2       : Nat
  colDie1    : Nat            -- measured die dissipation of cells 1 to 12 in the last slot, mW (R246)
  colDie2    : Nat            -- the same of cells 13 to 24
  flastCell  : Nat
  flastCheck : Nat
  qdone      : Nat            -- SLU_QDONE.DONE
deriving DecidableEq, Repr, Inhabited

end Sys2Proof.Machine
end

