-- ==== Sys2Proof/Machine/State/Spectrum.lean ====
section
/-! DEFINITION. Machine/State/Spectrum.lean: the state of the spectrum engine (chapter 09). -/

namespace Sys2Proof.Machine

/-- Where a spectrum run stands. -/
inductive SpcPhase where
  | notStarted   -- waiting for its start (R252)
  | trim         -- current-sense trim of run kind 0 (R258)
  | track        -- F1 is being measured (R268)
  | settle       -- from t_b to t_s: grid, excitation and settling (R255)
  | window       -- from t_s to t_e
  | tail         -- from t_e to t_f
  | held         -- THROTTLE holds the pass (R260)
  | ending       -- the last pass or window has ended and its publication is due
deriving DecidableEq, Repr, Inhabited

/-- A sample that the spectrum engine has taken of a channel it holds (R253, R262): the channel, the timebase instant that it
represents, the corrected sample in 1/64 LSB (none for the first side of a merged pair), and whether it is clamped or falls under a
condition of Table 4.9. -/
structure Smp where
  ch  : Nat
  tau : Nat
  x   : Option Int
  sus : Bool
deriving DecidableEq, Repr, Inhabited

/-- A pass or window whose publication is due (R263, R266). `cur` holds the chain's current phasors once they have come. -/
structure PubDue where
  step  : Nat          -- step, or ripple window number
  pass  : Nat
  osrK  : Nat
  tx    : Nat
  ts    : Nat
  te    : Nat
  tf    : Nat
  cells : Nat          -- cells published, as a mask
  fault : Nat          -- cells published with status FAULT
  wait  : Bool         -- SPC_STAT.WAIT_CUR
  cur   : List (Nat × Phasor)  -- current phasors by bin or harmonic (R266)
  parts : Nat          -- PARTs received, as a mask
deriving DecidableEq, Repr, Inhabited

/-- A spectrum run that has been accepted and is not terminal. Instants are timebase values. -/
structure SpcRun where
  tag    : Nat
  kind   : Nat
  cfg    : Vector Word 80      -- SPC registers 0x1200 to 0x124F copied at acceptance (R251)
  phase  : SpcPhase
  step   : Nat
  pass   : Nat
  win    : Nat                 -- ripple window number
  f1     : Nat
  since  : Nat                 -- clock at which the phase began
  tb     : Nat                 -- t_b
  tx     : Nat
  ts     : Nat
  te     : Nat
  tf     : Nat
  trims  : List (Nat × Nat)    -- what the sense of a cell shows for 100 mA, in µA, once trimmed (R258)
  faults : Nat                 -- cells not excited any further (R258, R259), as a mask
  exc    : Bool                -- t_x has come: the pass is excited (R256)
  closed : Bool                -- the square wave holds the switches of the pass closed
  edge   : Option Nat          -- the SYNC edge that starts the run (R252)
  pubs   : List PubDue         -- oldest first
deriving DecidableEq, Repr, Inhabited

/-- Current phasors of a pass or window that are still to be sent (R264): the frame's head, and of each bin or harmonic the
frequency in mHz, none for one without data. -/
structure SendDue where
  runId : Nat
  step  : Nat
  pass  : Nat
  tx    : Nat
  ts    : Nat
  te    : Nat
  tf    : Nat
  osrK  : Nat
  cur   : Word            -- SPC_CUR of the run
  dly   : Word            -- SPC_CURDLY of the run
  freqs : List (Option Nat)
deriving DecidableEq, Repr, Inhabited

/-- One harmonic table entry (R270). -/
structure Harm where
  mag   : Word
  phase : BitVec 16
  st    : Nat
deriving DecidableEq, Repr, Inhabited

/-- The spectrum engine. -/
structure Spc where
  run      : Option SpcRun
  sends    : List SendDue         -- oldest first
  smp      : List Smp             -- samples of the windows not yet published and sent, newest first
  startRes : Nat
  refuse   : Nat
  tag      : Nat
  pubs     : Nat
  f1m      : Nat
  z        : Sparse Word          -- SPC_Zi; unlisted 0x8000_0000
  zst      : Sparse Word          -- SPC_ZSTn by n − 1; unlisted 0
  sweep    : Sparse Word          -- sweep table words; unlisted 0x8000_0000 below 6,144
  sweepSt  : Sparse Word          -- sweep status words by 24 k + n − 1; unlisted 0
  harm     : Sparse Harm          -- by channel × 41 + h
deriving DecidableEq, Repr, Inhabited

end Sys2Proof.Machine
end

