-- ==== Sys2Proof/Machine/State/Store.lean ====
section
/-! DEFINITION. Machine/State/Store.lean: the state of the MRAM, the ledger, the binding and field update (chapter 17). -/

namespace Sys2Proof.Machine

/-- What an image header says of an image (Table 17.5). -/
structure Img where
  ver    : Word      -- major, minor, patch as ID_FWVER shows them
  proto  : Nat
  pmin   : Nat
  pmax   : Nat
  schema : Nat
  oldest : Nat       -- oldest schema the image migrates
deriving DecidableEq, Repr, Inhabited

/-- One binding copy (R417): `ok` says that its CRC-32C is correct. -/
structure BindCopy where
  ok   : Bool
  pack : BitVec 128
  pos  : Nat
  cnt  : Nat
deriving DecidableEq, Repr, Inhabited

/-- Journal states (R428). -/
inductive JrnSt where
  | idle | overwriting | launch | activated
deriving DecidableEq, Repr, Inhabited

/-- The code of a journal state in UPD_JRNL.STATE. -/
def JrnSt.num : JrnSt → Nat
  | .idle => 0 | .overwriting => 1 | .launch => 2 | .activated => 3

/-- A journal control record (R428). -/
structure Jrn where
  st     : JrnSt
  target : Nat
  gen    : Nat
  slots  : List Nat      -- marked slots, ascending
  oldImg : Img
  newImg : Img
deriving DecidableEq, Repr, Inhabited

/-- Of two journal control copies the one in use: the valid one with the higher generation (R429). -/
def Jrn.use : Option Jrn → Option Jrn → Option Jrn
  | some a, some b => if a.gen < b.gen then some b else some a
  | some a, none => some a
  | none, b => b

/-- The two journal control copies after a record is stored in the one not in use (R428). -/
def Jrn.put (c : Option Jrn × Option Jrn) (j : Jrn) : Option Jrn × Option Jrn :=
  if c.1.isSome ∧ Jrn.use c.1 c.2 = c.1 then (c.1, some j) else (some j, c.2)

/-- What a waiting page write stores: bytes within one page, the journal control record, or the customer key slot (R410, R422, R428). -/
inductive PageWr where
  | bytes (a : Nat) (b : Bytes)
  | jrn (j : Jrn)
  | key (require : Bool) (x y : Bytes)
deriving DecidableEq, Repr, Inhabited

/-- A ledger entry that waits to be written, without SEQ and CHECK (Table 17.2). -/
structure LedgEnt where
  kind   : Nat
  source : Nat
  time   : Tick
  data   : Bytes         -- 12 bytes
deriving DecidableEq, Repr, Inhabited

/-- Session states (Table 17.10). -/
inductive SessSt where
  | open_ | verified | scheduled | activating
deriving DecidableEq, Repr, Inhabited

/-- The code of a session state in UPD_STAT.STATE. -/
def SessSt.num : SessSt → Nat
  | .open_ => 1 | .verified => 2 | .scheduled => 3 | .activating => 4

/-- An open update session (R425 to R431). -/
structure Sess where
  st      : SessSt
  srv     : Bool               -- it came over the service port
  target  : Nat
  sid     : Nat
  tag     : Nat
  chunks  : Sparse Bytes       -- chunks of blocks not yet complete, by block × 8 + chunk
  good    : List Nat           -- blocks received with a good CRC
  hdr     : Bytes              -- the header of block 0
  stage   : Sparse (Option Byte)  -- payload bytes of a target that is written into the copy not in use, by payload offset
  tact    : Tick
  now     : Bool               -- T was 0
  goAt    : Nat                -- clock of the core cycle after the response to ACTIVATE
  begun   : Bool               -- the load of a PROGRAM activation has been started
  lastPkt : Nat
deriving DecidableEq, Repr, Inhabited

/-- The MRAM write pulses (Table 15.4). -/
inductive WrPulse where
  | long | nominal | short
deriving DecidableEq, Repr, Inhabited

/-- MRAM, ledger, identity and update. `mram` lists the MRAM bytes outside the areas that the state holds as structures, where they
differ from the bytes as shipped. -/
structure Nvm where
  mram     : List Host.Cell
  wq       : List PageWr         -- page writes waiting, oldest first
  pulse    : WrPulse             -- write pulse of the latest page write (R382)
  ceCount  : Nat
  ue       : Bool
  ueWord   : Nat
  rowErrs  : Sparse Nat          -- corrected errors of each row since reset (R412)
  hotWords : List Nat            -- words corrected and rewritten (R412)
  rows     : List (Nat × Nat)    -- rows served by spare rows
  rowDue   : List Nat            -- rows reported for repair
  scrub    : Option (Nat × Nat × Bool)  -- tag, next page, an uncorrectable word was found
  scrubAt  : Nat                 -- clock of the last scrub's start
  pageAt   : Nat                 -- clock of the scrub's last page, or of its start
  passes   : Nat
  head     : Nat
  wrapped  : Bool
  lastSeq  : Nat
  ledgDue  : List LedgEnt        -- entries to be written besides the fault records, oldest first
  lostSeen : Nat                 -- FLT_REC.LOST at the last LOST entry
  uid      : BitVec 96
  bindA    : BindCopy
  bindB    : BindCopy
  bindBusy : Option BindCopy     -- binding write in progress
  bindMis  : Bool                -- live bit of BINDING_MISMATCH
  img      : Img                 -- running image
  stored   : Img                 -- image in the image area
  ldrB     : Bool                -- loader copy used
  jrnA     : Option Jrn          -- journal control copy A, none while it is not valid
  jrnB     : Option Jrn          -- journal control copy B
  jrnFound : Nat                 -- journal state found at the last steward start
  noImg    : Bool                -- no image passed its checks at the steward's last start: the loader serves (R436)
  sess     : Option Sess
  nextSid  : Nat
  check    : Nat
  ifc      : Nat                 -- UPD_STAT.IFACE
  tgt      : Nat
  sid      : Nat
  rcvN     : Nat
  rcvC     : Nat
  act      : Nat                 -- UPD_ACT.STATE
  fbCause  : Nat
  fbDue    : Bool                -- IMAGE_FALLBACK and UPDATE_STATE wait for the end of start-up step 7 (R433, R466)
  actAt    : Nat                 -- clock of the start of the confirmation window
  confirm  : Bool                -- a CONFIRM packet has arrived
  launchOk : Bool                -- no STEWARD_WATCHDOG since launch
  tactReg  : Word
  prev     : Word
  keySet   : Bool
  keyReq   : Bool
  keyX     : Bytes
  keyY     : Bytes
  srvOut   : Bytes               -- last response packet sent on the service port
deriving DecidableEq, Repr, Inhabited

end Sys2Proof.Machine
end

