-- ==== Sys2Proof/Machine/State.lean ====
section
/-! DEFINITION. Machine/State.lean: the whole state of the WTM-2464, the reasons a step can stop, and the state after reset. -/

namespace Sys2Proof.Machine

/-- The reasons a command stops the machine: there are none, every command has an effect that the manual gives. -/
inductive Fault where
deriving DecidableEq, Repr

/-- The reasons a command has no meaning. -/
inductive Refusal where
  /-- Raised by the dispatch for a command that has no meaning yet. Safe: nothing is claimed of it. -/
  | notModelled (mnemonic : String)
deriving DecidableEq, Repr

/-- Time. `clk` counts ticks of 5 ns since the model's start and never goes back; the timebase (R312) runs at its own rate and may be
stepped. DESIGN CHOICE, log entry 5. -/
structure Time where
  clk     : Nat
  tb      : Tick     -- the timebase
  frac    : Nat      -- its fraction, in units of 1/(32 × 10^9) tick
  tbMax   : Tick     -- highest timebase value reached since reset (R317)
  lo      : Tick     -- highest timebase value reached before the present tick of the clock
  rate    : Int      -- INC − 1 in units of 10^−9 (R312)
  slew    : Int      -- part of e that the slew in progress removes, in 1/256 tick (R315)
  slewEnd : Nat      -- clock at which that slew ends
deriving DecidableEq, Repr

/-- The timebase right after a reset at clock `clk` (R312). -/
def Time.start (clk : Nat) : Time := ⟨clk, 0, 0, 0, 0, 0, 0, 0⟩

/-- The banked selectors, NET_TBH and SEQ_OPCTL.RESULT of one requester (R464). -/
structure Bank where
  bsnWin : Word
  ptSel  : Word
  pwin   : Word
  swin   : Word
  tsel   : Word
  hsel   : Word
  fltSel : Word
  rsel   : Word
  msel   : Word
  lsel   : Word
  caddr  : Word
  tbh    : Word
  opRes  : Nat
deriving DecidableEq, Repr, Inhabited

/-- A bank after reset (R464). -/
def Bank.init : Bank := ⟨0, 0, 0, 0, 0, 0, 0, 0, 0, 0, 0, 0, 0⟩

/-- The outcome of a register access that its requester sees (R13). -/
inductive AccSt where
  | ok
  | denied
deriving DecidableEq, Repr, Inhabited

/-- What the device last answered to an access that carries no frame: status, words read, and the answer to a command of the
service port (R221): CMD_ID, STATUS, LATE, detail. -/
structure Answer where
  st    : AccSt
  words : List Word
  cmd   : Option (Nat × Nat × Bool × Nat)
deriving DecidableEq, Repr, Inhabited

/-- The state of the device, and the commands that wait for it. DESIGN CHOICE, log entries 122 and 124. -/
structure State where
  time    : Time
  cyc     : List Cyc                  -- the present core cycle and those to come, where something has come about
  regs    : Sparse (Option Word)      -- underlying values of the RW, RWL and RWO bits; unlisted: the RegMap value
  rwo     : Sparse (Word × Word)      -- pending RWO writes: the bits written and their values (R14)
  banks   : Vector Bank 11
  aon     : Aon
  pwr     : Pwr
  ovl     : Ovl
  cfe     : Cfe
  mod     : Mod
  convs   : List Conv                 -- conversions waiting or granted, oldest first
  nextId  : Nat                       -- number of the next conversion
  res     : Res
  bsn     : Bsn
  seq     : Seq
  slu     : Slu
  spc     : Spc
  ecp     : Ecp
  net     : Net
  chk     : Vector Chk 16
  ril     : Ril
  flt     : Flt
  thm     : Thm
  bst     : Bst
  nvm     : Nvm
  ecc     : List (EccArea × Nat × Bool)  -- words with an error: area, word, uncorrectable
  answer  : Answer
  resets  : Nat                       -- resets so far: SRAM contents after each are free values
  freeN   : Nat                       -- the model's own counter of free values taken
  pending : List Instr                -- commands that wait, first in first out
deriving DecidableEq, Repr

/-- A configuration copy with factory contents (R3). DESIGN CHOICE, log entry 9. -/
def CfgCopy.factory : CfgCopy := ⟨true, 0, 1, [], []⟩

/-- The always-on registers after a power-on reset (R70). -/
def Aon.init : Aon :=
  { resetCause := 1, supplySrc := 0, wakeCause := 0, lockout := false, appliedEpoch := 0, dipDuration := 0, dipVmin := 0,
    dipOpen := false, dipReset := false, dipStart := 0, dipClk := 0, chainAddr := none, fromStill := false }

/-- Supplies, clocks and modes after reset: start-up step 1 of Table 2.5. DESIGN CHOICE, log entry 8. -/
def Pwr.init : Pwr :=
  { mode := .reset, prevMode := .reset, returnMode := .reset, localSet := false, reqStatus := 0, commit := none,
    nextReact := none, heldReact := none, step := 1, factory := false, stuck := false, prepState := 0, prepEpoch := 0, prepTarget := 0,
    prepared := none, refused := [], commits := [], lapsed := [], missed := ⟨0, 0, 0⟩, spread := 0, pllLock := false,
    refOk := false, lpoOk := true, lpoRun := true, lpoAt := 0, coreSrc := .lpo, relocks := 0, retries := 0, supplyOk := 0x3F,
    railTrip := none, mramHold := false, vregLimit := false, portsOff := false, lockOwner := none, lockLast := 0,
    keyArmed := [], scanCell := 1, burst := false, buckBurst := false, supMask := false, modeAt := 0, burstAt := 0,
    gateAt := 0, dipRec := none, pllAt := 0, wakeDue := none, scanAt := 0, buckAt := 0, autoDue := false }

/-- A spare's crossbar after reset: parked. -/
def Xbar.init : Xbar := ⟨false, .parked, false, 0, 0, 0, 0⟩

/-- The front end after reset. -/
def Cfe.init : Cfe :=
  { run := none, phase := 0, checks := 0, anyOpen := false, deferred := false, lastRun := none, first := true,
    openTaps := 0, xbar := .replicate 4 Xbar.init }

/-- A calibration copy as shipped. DESIGN CHOICE, log entry 9. -/
def CalCopy.factory (g : Nat) : CalCopy := ⟨true, g, 0x40000000, []⟩

/-- The modulators after reset: no live coefficients (R110). -/
def Mod.init : Mod :=
  { mods := .replicate 64 ⟨none, none, 0, 128, none⟩, spares := .replicate 4 ⟨none, none, none, false, false, none, none⟩, next := 0, rounds := 0,
    lastFail := 0xFF, exhSeen := false, run := none, startRes := 0, calTag := 0, calFail := 0xFF, skipped := 0,
    copyA := CalCopy.factory 1, copyB := CalCopy.factory 0, useB := false, hourAt := 0, rotRun := 0, rotFrom := none }

/-- Results after reset. DESIGN CHOICE, log entry 8. -/
def Res.init : Res :=
  { latest := .replicate 36 0, unread := .replicate 36 false, seq := .replicate 36 0, had := 0, ovr0 := 0, ovr1 := 0,
    snap := .replicate 36 0, snaps := 0, ovMask := 0, uvMask := 0, aux := 0, stackOv := false, stackUv := false,
    diagOut := false, refMis := false, stackHi := false, misSpans := [], dipSpans := [], vrgSpans := [], owSpans := [],
    relock := 0 }

/-- Result SRAM after reset: every page free (R152). -/
def Bsn.init : Bsn :=
  { sram := [], free := List.range 256, retired := [], spareOut := 0, testPage := none, ceCount := 0, ue := false,
    uePage := 0, streams := .replicate 16 Strm.init }

/-- The sequencer after reset. -/
def Seq.init : Seq :=
  { prog := [], scratch := [], jets := .replicate 8 Jet.init, flags := 0, flagClk := 0, flagNew := 0, flagTook := 0, ceCount := 0, ue := false, ueArea := false,
    ueIndex := 0, load := none, loadSt := 0, loadGen := 0, startIgn := false,
    groups := .replicate 16 ⟨false, false, 0, 0, 0, none⟩, preempts := 0, syncTs := 0, queue := [], cqNext := 0, fullRef := 0,
    ops := .replicate 8 Oper.empty, nextTag := 1 }

/-- The sluice after reset (R248). -/
def Slu.init : Slu :=
  { cells := .replicate 24 BalCell.init, running := false, slot := 0, slotClk := 0, next := 257, frameU := 256, frameDie := 0, frameBoard := 0, frameLen := 10, frameRes := none, frameGap := none, gapSent := false,
    k256 := 0x100, limDie := false, limBoard := false, frames := 0, boardP := 0, dieP := 0, col1 := 0, col2 := 0, colDie1 := 0, colDie2 := 0,
    flastCell := 0, flastCheck := 0, qdone := 0 }

/-- The spectrum engine after reset. -/
def Spc.init : Spc :=
  { run := none, sends := [], smp := [], startRes := 0, refuse := 0, tag := 0, pubs := 0, f1m := 0, z := [], zst := [], sweep := [],
    sweepSt := [], harm := [] }

/-- The link after reset: both ports OFF, the south port bridge-ward (R300). -/
def Ecp.init : Ecp := ⟨Port.init false, Port.init true, false, false, none⟩

/-- The network after reset. -/
def Net.init : Net :=
  { posErr := false, hopsSeen := 0, enumRun := none, ringSeen := false, enumRes := 0, enumCount := 0, sync := .free,
    stepped := false, losses := 0, sseq := 0, sseqSet := false, lastSync := 0, lockAt := 0, good := 0, ofs := 0,
    delayN := [], delayS := [], ring := .none, split := 0, splits := 0, heals := 0, collect := none, ringLast := 0,
    ringLost := false, healing := false, tags := [], nextTag := 0, timeouts := 0, lateRsp := 0, txq := [], rxq := [],
    rxDrop := 0, spiErr := 0, attn := false, hErrCrc := false, hErrDen := false, hErrFmt := false, hTxFull := false,
    hstat := 1, hostOut := [], tickAt := 0 }

/-- The rill bus after reset: the directory is empty (R353). -/
def Ril.init : Ril :=
  { bus := none, busAt := 0, frame := [], freeAt := 0, gapD := false, gapP := false, rlvEver := false,
    ents := .replicate 32 ⟨0, false, false, false, 0, 0⟩, stale := true, rlv := false, rlvSince := 0, rlvFault := false,
    rlvRetry := none, stuck := false, search := none, srchRes := 0, tag := 0, restarts := 0, queries := 0,
    searches := 0, autoFrom := false, autoRlv := none, direct := none, xst := 0, ign := false, xr0 := 0, xr1 := 0,
    round := none, rounds := 0, skipped := 0, pts := 0 }

/-- The fault collector after reset. -/
def Flt.init : Flt :=
  { src := [], shadowB := none, shadowM := none, shadowN := 0, queue := [], lost := 0, lastSrc := 0, lastRe := 0,
    stwRun := false, stwAlive := false, stwKey := 0, flowRun := false, flow := false, divAt := 0, divHigh := true }

/-- Thermal management after reset. DESIGN CHOICE, log entry 8. -/
def Thm.init : Thm :=
  { started := false, stepAt := 0, sens := .replicate 6 ⟨0, false, none, 0, false, none, false, 0, []⟩, model := .replicate 8 0,
    powNow := .replicate 5 0, powSum := .replicate 5 0, powAt := 0, sentAt := 0, amb := 0, thr := .idle, graceEnd := 0, enfAt := 0, band := 0, bandAt := none, bandWas := 0, tmax := 0,
    hottest := 0, parked := false, nvmHold := false, shutOver := false, shutDue := false, degraded := false, degAt := 0, rateSens := 0,
    rate := 0, cntEnf := 0, cntShut := 0 }

/-- Self-test after reset, with the repair map as shipped. DESIGN CHOICE, log entry 9. -/
def Bst.init : Bst :=
  { units := [], slices := [], camp := none, next := 52, bgUnit := none, tries := 0, bgAt := 0, startRes := 0, tag := 0,
    mapLost := false, mapPend := false, mapAt := 0, lastKind := 0, lastRes := 0, lastCut := 0, lastUnit := 0, lateN := 0,
    lateMax := 0, count := 0, fails := 0, incs := 0, entries := [], copyA := ⟨true, 1, []⟩, copyB := ⟨true, 0, []⟩,
    useB := false }

/-- The image as shipped: version 1.0.0 (R3). DESIGN CHOICE, log entry 9. -/
def Img.factory : Img := ⟨0x01000000, 0, 0, 0, 0, 0⟩

/-- The stored memory as shipped (R3). DESIGN CHOICE, log entry 9. -/
def Nvm.init : Nvm :=
  { mram := [], wq := [], pulse := .nominal, ceCount := 0, ue := false, ueWord := 0, rowErrs := [], hotWords := [], rows := [], rowDue := [],
    scrub := none, scrubAt := 0, pageAt := 0, passes := 0, head := 2047, wrapped := false, lastSeq := 0, ledgDue := [], lostSeen := 0,
    uid := 0, bindA := ⟨true, 0, 0, 0⟩, bindB := ⟨false, 0, 0, 0⟩, bindBusy := none, bindMis := false,
    img := Img.factory, stored := Img.factory, ldrB := false, jrnA := some ⟨.idle, 0, 1, [], Img.factory, Img.factory⟩,
    jrnB := some ⟨.idle, 0, 0, [], Img.factory, Img.factory⟩,
    jrnFound := 0, noImg := false, sess := none, nextSid := 1, check := 0, ifc := 0, tgt := 0, sid := 0, rcvN := 0,
    rcvC := 0, act := 0, fbCause := 0, fbDue := false, actAt := 0, confirm := false, launchOk := false, tactReg := 0,
    prev := 0, keySet := false, keyReq := false, keyX := [], keyY := [], srvOut := [] }

/-- The device right after a power-on reset, as shipped (R3, R15, R41): start-up step 1, mode RESET. DESIGN CHOICE, log entry 15. -/
def State.reset : State :=
  { time := Time.start 0, cyc := [], regs := [], rwo := [], banks := .replicate 11 Bank.init,
    aon := Aon.init, pwr := Pwr.init,
    ovl := ⟨[], [], false, false, none, false, false, false, CfgCopy.factory, ⟨false, 0, 0, [], []⟩⟩, cfe := Cfe.init,
    mod := Mod.init, convs := [], nextId := 0, res := Res.init, bsn := Bsn.init, seq := Seq.init, slu := Slu.init,
    spc := Spc.init, ecp := Ecp.init, net := Net.init, chk := .replicate 16 Chk.init, ril := Ril.init, flt := Flt.init,
    thm := Thm.init, bst := Bst.init, nvm := Nvm.init, ecc := [], answer := ⟨.ok, [], none⟩, resets := 0, freeN := 0,
    pending := [] }

end Sys2Proof.Machine
end

