-- ==== Sys2Proof/Machine/Operands.lean ====
section
/-! DEFINITION. Machine/Operands.lean: the fields of words (R5, R7), and byte strings with the numbers in them, in both byte
orders of R8. -/

namespace Sys2Proof

/-- The field of `w` that starts at bit `lo` and is `len` bits wide, as a number (R5). -/
def fld (w : Word) (lo len : Nat) : Nat := w.toNat / 2 ^ lo % 2 ^ len

/-- Bit `i` of `w` (R5). -/
def bit (w : Word) (i : Nat) : Bool := w.getLsbD i

/-- A number placed as a field of `len` bits at bit `lo` of a word, the bits above it cut off. -/
def put (v lo len : Nat) : Word := BitVec.ofNat 32 (v % 2 ^ len * 2 ^ lo)

/-- A Boolean placed as bit `i` of a word. -/
def putb (b : Bool) (i : Nat) : Word := if b then BitVec.ofNat 32 (2 ^ i) else 0

/-- One of two numbers by a Boolean, written as 1 or 0. -/
def b2n (b : Bool) : Nat := if b then 1 else 0

/-- The signed value of a word (R7). -/
def sword (w : Word) : Int := w.toInt

/-- An integer as a word in two's complement (R7). -/
def wordOfInt (i : Int) : Word := BitVec.ofInt 32 i

end Sys2Proof

namespace Sys2Proof.Machine

/-- The number that bytes spell most significant byte first, as on the chain, the host port and the service port (R8). -/
def beNat : Bytes → Nat := fun b => b.foldl (fun n x => n * 256 + x.toNat) 0

/-- The number that bytes spell least significant byte first, as in byte-addressed memory (R8). -/
def leNat : Bytes → Nat := fun b => b.foldr (fun x n => x.toNat + 256 * n) 0

/-- `k` bytes of a number, most significant first. -/
def beBytes : Nat → Nat → Bytes
  | 0, _ => []
  | k + 1, n => BitVec.ofNat 8 (n / 256 ^ k) :: beBytes k n

/-- `k` bytes of a number, least significant first. -/
def leBytes : Nat → Nat → Bytes
  | 0, _ => []
  | k + 1, n => BitVec.ofNat 8 n :: leBytes k (n / 256)

/-- A field of a byte string, most significant byte first; absent bytes read 0. -/
def beField (b : Bytes) (off len : Nat) : Nat := beNat (((b.drop off).take len) ++ List.replicate (len - (b.length - off)) 0)

/-- A field of a byte string, least significant byte first. -/
def leField (b : Bytes) (off len : Nat) : Nat := leNat ((b.drop off).take len)

/-- The words of a byte string, most significant byte first. -/
def beWords : Nat → Bytes → List Word
  | 0, _ => []
  | k + 1, b => BitVec.ofNat 32 (beField b 0 4) :: beWords k (b.drop 4)

/-- The bytes of words, most significant byte first. -/
def wordsBe (ws : List Word) : Bytes := ws.flatMap (fun w => beBytes 4 w.toNat)

/-- A bit set in a mask. -/
def maskSet (m i : Nat) (b : Bool) : Nat :=
  if m.testBit i then (if b then m else m - 2 ^ i) else (if b then m + 2 ^ i else m)

/-- The numbers 0 to `n` − 1 whose bits are set in a mask, ascending. -/
def bitsOf (n m : Nat) : List Nat := (List.range n).filter (fun i => m.testBit i)

/-- The mask of a list of bits. -/
def maskOf (l : List Nat) : Nat := l.foldl (fun m i => maskSet m i true) 0

end Sys2Proof.Machine
end

