-- ==== Sys2Proof/Machine/Crc.lean ====
section
/-! DEFINITION. Machine/Crc.lean: the check values of R283 and Table 12.1. The running value is kept unreflected. -/

namespace Sys2Proof.Machine

/-- A number of `w` bits with its bits in reverse order. -/
def reflectBits (w n : Nat) : Nat := (List.range w).foldl (fun r i => r * 2 + b2n (n.testBit i)) 0

/-- One shift of a running value of width `w`. -/
def crcShift (w poly v : Nat) : Nat :=
  if v.testBit (w - 1) then (v * 2 % 2 ^ w) ^^^ poly else v * 2 % 2 ^ w

/-- One byte taken into a running value. -/
def crcByte (w poly v b : Nat) : Nat :=
  (List.range 8).foldl (fun v _ => crcShift w poly v) (v ^^^ (b * 2 ^ (w - 8)))

/-- An algorithm of Table 12.1: width, polynomial, initial value, reflected in and out, final XOR. -/
structure CrcAlg where
  w    : Nat
  poly : Nat
  init : Nat
  refl : Bool
  fin  : Nat
deriving DecidableEq, Repr

/-- The algorithms of Table 12.1 by POLY. -/
def crcAlg : Nat → CrcAlg
  | 0 => ⟨16, 0x1021, 0xFFFF, false, 0⟩
  | 1 => ⟨32, 0x1EDC6F41, 0xFFFFFFFF, true, 0xFFFFFFFF⟩
  | 2 => ⟨32, 0x04C11DB7, 0xFFFFFFFF, true, 0xFFFFFFFF⟩
  | _ => ⟨8, 0x1D, 0xFF, false, 0xFF⟩

/-- Bytes taken into a running value, in order. -/
def crcFeed (a : CrcAlg) (v : Nat) (l : Bytes) : Nat :=
  l.foldl (fun v b => crcByte a.w a.poly v (if a.refl then reflectBits 8 b.toNat else b.toNat)) v

/-- The result of a running value: output reflection and final XOR (R331). -/
def crcEnd (a : CrcAlg) (v : Nat) : Nat := (if a.refl then reflectBits a.w v else v) ^^^ a.fin

/-- The check value of a byte string. -/
def crcOf (a : CrcAlg) (l : Bytes) : Nat := crcEnd a (crcFeed a a.init l)

/-- CRC-32C (R283). -/
def crc32c (l : Bytes) : Nat := crcOf (crcAlg 1) l

end Sys2Proof.Machine
end

