-- ==== Sys2Proof/Config.lean ====
section
/-! DEFINITION. Config.lean: the values that the manual leaves open, as constants without a body. Nothing can be proved of what
they are; a claim about the model holds whatever they are. -/

namespace Sys2Proof.Config

/-- A word of an SRAM that nothing has written since reset (R152, R159, R193): area, reset number, word. DESIGN CHOICE, log entry 10. -/
opaque sramWord : Nat → Nat → Nat → BitVec 32

/-- A byte of an MRAM area whose inner layout the manual does not give (Tables 2.8, 17.4): area, generation, byte. -/
opaque storedByte : Nat → Nat → Nat → BitVec 8

/-- Extra fraction bits of the sluice's k beyond the 16 that R240 requires. DESIGN CHOICE, log entry 16. -/
opaque kExtraBits : Nat

/-- One step of the thermal model (R371): node, node estimates, ambient estimate, power input of the node averaged over the time since the
previous step as the state holds it, ticks of that time, number of the free value; the new estimate in 1/64 °C. The network's values
are held in factory data whose layout the manual does not give. DESIGN CHOICE, log entry 17. -/
opaque thermalStep : Nat → List Int → Rat → Rat → Nat → Nat → Int

/-- The bias power of node 0, fixed by the calibration (Table 15.1); the manual gives no value. DESIGN CHOICE, log entry 17. -/
opaque biasPower : Nat

/-- The power input of node 6 over a step, from the activity counters of the digital core (Table 15.1), which the state does not hold.
Number of the free value. DESIGN CHOICE, log entry 17. -/
opaque activity : Nat → Nat

/-- Offset and gain from the means of the zero, +4 V and −2 V points under a reference scale (R121): the manual gives no formula. DESIGN CHOICE, log entry 18. -/
opaque calCoef : Nat → Int → Int → Int → Int × Nat

/-- The rounding of an exact value that is not whole, where the manual gives none: true takes the whole number above (R82, R100, R122,
R261, R262, R270). The first argument says which value is meant. DESIGN CHOICE, log entry 19. -/
opaque roundUp : Nat → Rat → Bool

/-- Ticks beyond 1 µs that a spare stays at SOURCE 0 between two sources (R92). DESIGN CHOICE, log entry 128. -/
opaque xbarPark : Nat

/-- Ticks of a precharge, at most 5 µs (R92). DESIGN CHOICE, log entry 128. -/
opaque xbarPre : Nat

/-- Ticks of one calibration point of a visit, at most 4 ms (Table 4.6). DESIGN CHOICE, log entry 128. -/
opaque visitPoint : Nat

/-- A byte of the thermal data and sensor trims that the factory writes in the calibration area (Table 4.16), by its offset.
DESIGN CHOICE, log entry 129. -/
opaque thermalByte : Nat → BitVec 8

/-- The rounding of the ambient estimate into THM_AMB (R372): the mean's fraction is not given a rounding. DESIGN CHOICE, log entry 19. -/
opaque ambShown : Rat → Int

/-- NET_RATE after a valid sync (R315): the manual gives no formula. Old rate, offset e, ticks since the last sync. DESIGN CHOICE, log entry 20. -/
opaque syncRate : Int → Int → Nat → Int

/-- The turnaround trim of the device in 1/256 tick (R314). DESIGN CHOICE, log entry 20. -/
opaque turnaround : Nat

/-- The phase of the phasor 0 (R270), which has none. DESIGN CHOICE, log entry 21. -/
opaque noPhase : BitVec 16

/-- The rounding of DIP durations (R36). DESIGN CHOICE, log entry 19. -/
opaque readRound : Rat → Int

/-- The vendor key held in ROM (Table 17.5). DESIGN CHOICE, log entry 22. -/
opaque vendorKey : List (BitVec 8) × List (BitVec 8)

/-- What a raw configuration copy of 8,192 bytes holds, field by field (Table 2.8 gives no place of a field): schema, generation,
base words, overlay entries; none where its CRC or its directory fails. DESIGN CHOICE, log entry 23. -/
opaque parseCfg : List (BitVec 8) → Option (Nat × Nat × List (Nat × BitVec 32) × List (Nat × Nat × BitVec 32 × BitVec 32))

/-- Whether a migration of a configuration copy from one schema to another succeeds (R434). DESIGN CHOICE, log entry 23. -/
opaque migrateOk : Nat → Nat → Bool

/-- The SID of a new session (R425): any value other than 0. DESIGN CHOICE, log entry 24. -/
opaque newSid : Nat → Nat

/-- The OP of a service packet that carries a command (R217), which Table 17.8 does not list. DESIGN CHOICE, log entry 116. -/
opaque cmdOp : Nat

/-- The expected signature of a slice kind, fixed in ROM (R390). DESIGN CHOICE, log entry 22. -/
opaque goldenSig : Nat → BitVec 32

/-- The ticks from step 1 after which start-up step 2, 3 or 4 is done, within the limits of Table 2.5. DESIGN CHOICE, log entry 138. -/
opaque startTicks : Nat → Nat

/-- The level of TEST at step 1 of the reset that a register write brings about (R442), by the number of the reset. DESIGN CHOICE, log entry 4. -/
opaque testLevel : Nat → Bool

/-- Whether the conversions of the open-wire engine run at OSR 8,192 in SERVICE: R46 says so of every conversion, R85 gives these 1,024.
DESIGN CHOICE, log entry 139. -/
opaque owService : Bool

/-- Whether the filter of an input passes a pulse whose length in ticks lies between the two limits of Table 18.11 (R453): pin, length, number
of the free value. DESIGN CHOICE, log entry 140. -/
opaque filterPasses : Nat → Nat → Nat → Bool

/-- A free value of the device's own, taken with the state's counter. DESIGN CHOICE, log entry 13. -/
opaque freeValue : Nat → BitVec 32

end Sys2Proof.Config
end

