-- ==== Sys2Proof/Machine/RegMap.lean ====
section
/-! DEFINITION. Machine/RegMap.lean: the register space (chapter 19): which addresses exist and which bits of each register
a requester can write, with the access code of every bit and the value its storage has after reset. -/

namespace Sys2Proof.Machine

/-- A run of `n` registers at `lo`, `lo + stride`, …: the bits under each access code of Table 0.3 (a bit under none of
them is RO or reserved), the WO bits with RWL semantics (R13), the bits whose Reset column reads NV (R15), and the reset or
factory value of the stored bits. -/
structure RegRow where
  lo     : Nat
  n      : Nat
  stride : Nat
  rw     : Nat
  rwl    : Nat
  rwo    : Nat
  wc     : Nat
  wo     : Nat
  wol    : Nat
  nv     : Nat
  init   : Nat
deriving DecidableEq, Repr, Inhabited

/-- Rows of the registers 0x0100 to 0x03FF (R458, Table 19.2). -/
def regRowsPwrOvl : List RegRow :=
  [⟨0x101, 1, 1, 0x0, 0x0, 0x0, 0x0, 0xF, 0x0, 0x0, 0x0⟩,   -- PWR_MODE_REQ
   ⟨0x104, 1, 1, 0x100, 0xFF, 0xFFFF0000, 0x0, 0x0, 0x0, 0xFFFF01FF, 0x640144⟩,   -- PWR_CTRL
   ⟨0x105, 1, 1, 0x0, 0x0, 0x3, 0x0, 0x0, 0x0, 0x3, 0x0⟩,   -- PWR_CLK
   ⟨0x106, 1, 1, 0x0, 0x7F, 0x0, 0x0, 0x0, 0x0, 0x7F, 0x6⟩,   -- PWR_SUP_CFG
   ⟨0x10A, 1, 1, 0x0, 0x0, 0x0, 0x0, 0xFFFF, 0x0, 0x0, 0x0⟩,   -- PWR_LOCK
   ⟨0x10B, 1, 1, 0x0, 0xFFFF0007, 0x0, 0x0, 0x0, 0x0, 0xFFFF0007, 0x3⟩,   -- PWR_WAKE
   ⟨0x10C, 1, 1, 0x0, 0xFFFFFFFF, 0x0, 0x0, 0x0, 0x0, 0xFFFFFFFF, 0x80007FFF⟩,   -- PWR_STILL
   ⟨0x10D, 1, 1, 0x0, 0x0, 0x0, 0x0, 0xFFFF, 0x0, 0x0, 0x0⟩,   -- PWR_RESET
   ⟨0x200, 1, 1, 0xF, 0x0, 0x0, 0x0, 0x300, 0x300, 0x0, 0x4⟩,   -- OVL_CTRL
   ⟨0x202, 1, 1, 0x7F, 0x0, 0x0, 0x0, 0x0, 0x0, 0x0, 0x0⟩]   -- OVL_IDX

/-- Rows of the registers 0x0400 to 0x09FF (R458, Table 19.2). -/
def regRowsCfeModRes : List RegRow :=
  [⟨0x400, 1, 1, 0x0, 0x1F, 0x0, 0x0, 0x0, 0x0, 0x1F, 0x18⟩,   -- CFE_STACK
   ⟨0x401, 1, 1, 0x0, 0xFFFFFF, 0x0, 0x0, 0x0, 0x0, 0xFFFFFF, 0x0⟩,   -- CFE_BUSBAR
   ⟨0x402, 1, 1, 0xFFFFFFFF, 0x0, 0x0, 0x0, 0x0, 0x0, 0xFFFFFFFF, 0x6401D6⟩,   -- CFE_FILT
   ⟨0x403, 1, 1, 0x0, 0x3FFFFF3, 0x0, 0x0, 0x0, 0x0, 0x3FFFFF3, 0x292C31⟩,   -- CFE_OW_CFG
   ⟨0x404, 1, 1, 0x0, 0x0, 0x0, 0x0, 0x1, 0x0, 0x0, 0x0⟩,   -- CFE_OW_CTRL
   ⟨0x600, 1, 1, 0x1, 0x100, 0x10, 0x0, 0x0, 0x0, 0x110, 0x0⟩,   -- MOD_CFG
   ⟨0x601, 1, 1, 0x80FF3FFF, 0x0, 0x0, 0x0, 0x0, 0x0, 0x80FF3FFF, 0x801E0519⟩,   -- MOD_ROT_CFG
   ⟨0x604, 1, 1, 0x7, 0x0, 0x0, 0x0, 0x0, 0x0, 0x7, 0x0⟩,   -- MOD_DIAG
   ⟨0x605, 1, 1, 0x3F, 0x0, 0x0, 0x0, 0x0, 0x0, 0x0, 0x0⟩,   -- MOD_CIDX
   ⟨0x609, 1, 1, 0x1F0107, 0x0, 0x0, 0x0, 0x80000000, 0x0, 0x0, 0x10007⟩,   -- MOD_CAL
   ⟨0x60A, 1, 1, 0xFFFFFFFF, 0x0, 0x0, 0x0, 0x0, 0x0, 0x0, 0x0⟩,   -- MOD_CALREF
   ⟨0x824, 1, 1, 0x0, 0x0, 0x0, 0xFFFFFF, 0x0, 0x0, 0x0, 0x0⟩,   -- RES_OVR0
   ⟨0x825, 1, 1, 0x0, 0x0, 0x0, 0xFFF, 0x0, 0x0, 0x0, 0x0⟩,   -- RES_OVR1
   ⟨0x826, 1, 1, 0xFFFFFF, 0x0, 0x0, 0x0, 0x0, 0x0, 0xFFFFFF, 0x0⟩,   -- RES_OVR_EN0
   ⟨0x827, 1, 1, 0xFFF, 0x0, 0x0, 0x0, 0x0, 0x0, 0xFFF, 0x0⟩,   -- RES_OVR_EN1
   ⟨0x828, 1, 1, 0x0, 0x0, 0x0, 0x0, 0x1, 0x0, 0x0, 0x0⟩,   -- RES_SNAP_CTRL
   ⟨0x860, 34, 1, 0xFFFFFFFF, 0x0, 0x0, 0x0, 0x0, 0x0, 0xFFFFFFFF, 0x7FFF8000⟩,   -- RES_LIM0-33
   ⟨0x882, 1, 1, 0xFFFFFFFF, 0x0, 0x0, 0x0, 0x0, 0x0, 0xFFFFFFFF, 0x9C609C2⟩,   -- RES_LIM34
   ⟨0x883, 1, 1, 0xFFFFFFFF, 0x0, 0x0, 0x0, 0x0, 0x0, 0xFFFFFFFF, 0x7FFF8000⟩,   -- RES_LIM35
   ⟨0x890, 1, 1, 0xBFBFBFBF, 0x0, 0x0, 0x0, 0x0, 0x0, 0xBFBFBFBF, 0x0⟩]   -- RES_LIMCFG

/-- Rows of the registers 0x0A00 to 0x0FFF (R458, Table 19.2). -/
def regRowsBsnSeq : List RegRow :=
  [⟨0xA01, 1, 1, 0x0, 0x0, 0x0, 0x8000, 0x0, 0x0, 0x0, 0x0⟩,   -- BSN_ECC
   ⟨0xA03, 1, 1, 0x0, 0x0, 0x0, 0x0, 0xFFFFF, 0x0, 0x0, 0x0⟩,   -- BSN_ACK
   ⟨0xA04, 1, 1, 0x0, 0x0, 0x0, 0x0, 0xFFFF, 0x0, 0x0, 0x0⟩,   -- BSN_CLOSE
   ⟨0xA10, 16, 1, 0xC07F7FFF, 0x0, 0x0, 0x0, 0x20000000, 0x0, 0xC07F7FFF, 0x1000⟩,   -- BSN_CFG
   ⟨0xA20, 16, 1, 0x0, 0x0, 0x0, 0x2000000, 0x0, 0x0, 0x0, 0x0⟩,   -- BSN_STAT
   ⟨0xC00, 16, 1, 0x9FF731F3, 0x0, 0x0, 0x0, 0x0, 0x0, 0x9FF731F3, 0xD000000⟩,   -- SEQ_GCFG
   ⟨0xC10, 16, 1, 0xFFFFFFFF, 0x0, 0x0, 0x0, 0x0, 0x0, 0xFFFFFFFF, 0x0⟩,   -- SEQ_GCHL
   ⟨0xC20, 16, 1, 0xFFFF000F, 0x0, 0x0, 0x0, 0x0, 0x0, 0xFFFF000F, 0x0⟩,   -- SEQ_GCHH
   ⟨0xC42, 1, 1, 0x0, 0x0, 0x0, 0x0, 0xFFFFFFFF, 0x0, 0x0, 0x0⟩,   -- SEQ_FSET0
   ⟨0xC43, 1, 1, 0x0, 0x0, 0x0, 0x0, 0xFFFFFFFF, 0x0, 0x0, 0x0⟩,   -- SEQ_FSET1
   ⟨0xC44, 1, 1, 0x0, 0x0, 0x0, 0x0, 0xFFFFFFFF, 0x0, 0x0, 0x0⟩,   -- SEQ_FCLR0
   ⟨0xC45, 1, 1, 0x0, 0x0, 0x0, 0x0, 0xFFFFFFFF, 0x0, 0x0, 0x0⟩,   -- SEQ_FCLR1
   ⟨0xC4C, 1, 1, 0x0, 0x0, 0x0, 0x8000, 0x0, 0x0, 0x0, 0x0⟩,   -- SEQ_ECC
   ⟨0xC60, 1, 1, 0xFF03BF, 0x80000000, 0x0, 0x0, 0x0, 0x0, 0x80FF03BF, 0x80140000⟩,   -- SEQ_CTRL
   ⟨0xC61, 1, 1, 0xFF0000, 0x0, 0x0, 0x0, 0x80000000, 0x80000000, 0x0, 0x0⟩,   -- SEQ_LOAD
   ⟨0xC62, 1, 1, 0x0, 0x0, 0x0, 0x0, 0xFFFF, 0x0, 0x0, 0x0⟩,   -- SEQ_GTRIG
   ⟨0xC63, 1, 1, 0x0, 0x0, 0x0, 0x1000000, 0x0, 0x0, 0x0, 0x0⟩,   -- SEQ_JSTAT
   ⟨0xC68, 8, 1, 0x3FFF, 0x0, 0x0, 0x0, 0xE0000000, 0x0, 0x0, 0x0⟩,   -- SEQ_JCTL
   ⟨0xC70, 4, 1, 0x80FFFFFF, 0x0, 0x0, 0x0, 0x0, 0x0, 0x80FFFFFF, 0x3E8⟩,   -- SEQ_ITMR
   ⟨0xC74, 4, 1, 0xFFFFFF, 0x0, 0x0, 0x0, 0x0, 0x0, 0xFFFFFF, 0x0⟩,   -- SEQ_ITPH
   ⟨0xC80, 1, 1, 0x0, 0x0, 0x0, 0x0, 0x300FFFF, 0x0, 0x0, 0x0⟩]   -- SEQ_OPCTL

/-- Rows of the registers 0x1000 to 0x13FF (R458, Table 19.2). -/
def regRowsSluSpc : List RegRow :=
  [⟨0x1000, 1, 1, 0x8000F3BF, 0x0, 0xFF0000, 0x0, 0x0, 0x0, 0x80FFF3BF, 0x800A8100⟩,   -- SLU_CFG
   ⟨0x1001, 1, 1, 0x0, 0xFFFF0FFF, 0x0, 0x0, 0x0, 0x0, 0xFFFF0FFF, 0x25804B0⟩,   -- SLU_BUDGET
   ⟨0x1002, 1, 1, 0x0, 0xFFFFFF, 0x0, 0x0, 0x0, 0x0, 0xFFFFFF, 0x0⟩,   -- SLU_XFET
   ⟨0x1003, 1, 1, 0x0, 0xFFFFFFFF, 0x0, 0x0, 0x0, 0x0, 0xFFFFFFFF, 0x16005B⟩,   -- SLU_RES
   ⟨0x1004, 1, 1, 0x1FBF, 0x0, 0x0, 0x0, 0x0, 0x0, 0x1FBF, 0x0⟩,   -- SLU_GAP
   ⟨0x1008, 1, 1, 0x0, 0x0, 0x0, 0xFFFFFF, 0x0, 0x0, 0x0, 0x0⟩,   -- SLU_FAULT
   ⟨0x100A, 1, 1, 0x0, 0x0, 0x0, 0xFFFFFF, 0x0, 0x0, 0x0, 0x0⟩,   -- SLU_QDONE
   ⟨0x1020, 24, 1, 0x1FF, 0x0, 0x0, 0x0, 0x0, 0x0, 0x0, 0x0⟩,   -- SLU_REQ
   ⟨0x1040, 24, 1, 0x0, 0x0, 0x0, 0x0, 0xFFFFFFFF, 0x0, 0x0, 0x0⟩,   -- SLU_QSET
   ⟨0x1200, 1, 1, 0x0, 0x0, 0x0, 0x0, 0x80000003, 0x0, 0x0, 0x0⟩,   -- SPC_CTRL
   ⟨0x1202, 1, 1, 0xFF3FF13F, 0x0, 0x0, 0x0, 0x0, 0x0, 0xFF3FF13F, 0x36000⟩,   -- SPC_CFG
   ⟨0x1203, 1, 1, 0xFFFFFF, 0x0, 0x0, 0x0, 0x0, 0x0, 0xFFFFFF, 0xFFFFFF⟩,   -- SPC_CELLS
   ⟨0x1204, 1, 1, 0xFFFFFFFF, 0x0, 0x0, 0x0, 0x0, 0x0, 0x0, 0x0⟩,   -- SPC_TSTART
   ⟨0x1205, 1, 1, 0xFFFF, 0x0, 0x0, 0x0, 0x0, 0x0, 0x0, 0x0⟩,   -- SPC_RUN
   ⟨0x1206, 1, 1, 0x80FFFFFF, 0x0, 0x0, 0x0, 0x0, 0x0, 0x80FFFFFF, 0x3E8⟩,   -- SPC_CUR
   ⟨0x1207, 1, 1, 0xFFFFFFFF, 0x0, 0x0, 0x0, 0x0, 0x0, 0xFFFFFFFF, 0x50000⟩,   -- SPC_CURDLY
   ⟨0x1208, 1, 1, 0xFF1F03FF, 0x0, 0x0, 0x0, 0x0, 0x0, 0xFF1F03FF, 0xA80A000A⟩,   -- SPC_RCFG
   ⟨0x1209, 1, 1, 0x7FFFFF, 0x0, 0x0, 0x0, 0x0, 0x0, 0x7FFFFF, 0xC350⟩,   -- SPC_RF1
   ⟨0x1210, 1, 1, 0x1F7FFFFF, 0x0, 0x0, 0x0, 0x0, 0x0, 0x1F7FFFFF, 0x10000032⟩,   -- SPC_STF0
   ⟨0x1211, 1, 1, 0x1F7FFFFF, 0x0, 0x0, 0x0, 0x0, 0x0, 0x1F7FFFFF, 0xD0003E8⟩,   -- SPC_STF1
   ⟨0x1212, 1, 1, 0x1F7FFFFF, 0x0, 0x0, 0x0, 0x0, 0x0, 0x1F7FFFFF, 0xD004E20⟩,   -- SPC_STF2
   ⟨0x1213, 1, 1, 0x1F7FFFFF, 0x0, 0x0, 0x0, 0x0, 0x0, 0x1F7FFFFF, 0xA051615⟩,   -- SPC_STF3
   ⟨0x1214, 12, 1, 0x1F7FFFFF, 0x0, 0x0, 0x0, 0x0, 0x0, 0x1F7FFFFF, 0x0⟩,   -- SPC_STF4-15
   ⟨0x1220, 1, 1, 0xFFFFFFFF, 0x0, 0x0, 0x0, 0x0, 0x0, 0xFFFFFFFF, 0x20001⟩]   -- SPC_STN0
  ++
  [⟨0x1221, 1, 1, 0xFFFFFFFF, 0x0, 0x0, 0x0, 0x0, 0x0, 0xFFFFFFFF, 0x40001⟩,   -- SPC_STN1
   ⟨0x1222, 1, 1, 0xFFFFFFFF, 0x0, 0x0, 0x0, 0x0, 0x0, 0xFFFFFFFF, 0x28000A⟩,   -- SPC_STN2
   ⟨0x1223, 1, 1, 0xFFFFFFFF, 0x0, 0x0, 0x0, 0x0, 0x0, 0xFFFFFFFF, 0x1900064⟩,   -- SPC_STN3
   ⟨0x1224, 12, 1, 0xFFFFFFFF, 0x0, 0x0, 0x0, 0x0, 0x0, 0xFFFFFFFF, 0x0⟩,   -- SPC_STN4-15
   ⟨0x1230, 4, 1, 0xFFFFFFFF, 0x0, 0x0, 0x0, 0x0, 0x0, 0xFFFFFFFF, 0x7050301⟩,   -- SPC_STML0-3
   ⟨0x1234, 12, 1, 0xFFFFFFFF, 0x0, 0x0, 0x0, 0x0, 0x0, 0xFFFFFFFF, 0x0⟩,   -- SPC_STML4-15
   ⟨0x1240, 4, 1, 0xFFFFFFFF, 0x0, 0x0, 0x0, 0x0, 0x0, 0xFFFFFFFF, 0xF0D0B09⟩,   -- SPC_STMH0-3
   ⟨0x1244, 12, 1, 0xFFFFFFFF, 0x0, 0x0, 0x0, 0x0, 0x0, 0xFFFFFFFF, 0x0⟩]   -- SPC_STMH4-15

/-- Rows of the registers 0x1400 to 0x18FF (R458, Table 19.2). -/
def regRowsEcpNetChk : List RegRow :=
  [⟨0x1400, 1, 1, 0x3, 0x0, 0x0, 0x0, 0x10300, 0x0, 0x3, 0x3⟩,   -- ECP_CTRL
   ⟨0x1401, 1, 1, 0xFFFF0F00, 0x3, 0x0, 0x0, 0x0, 0x0, 0xFFFF0F03, 0x320A0200⟩,   -- ECP_CFG
   ⟨0x1408, 1, 1, 0x0, 0x0, 0x0, 0x100, 0x0, 0x0, 0x0, 0x0⟩,   -- ECP_WAKE
   ⟨0x1600, 1, 1, 0x30FFFFFF, 0xC0000000, 0x0, 0x0, 0x0, 0x0, 0xF0FFFFFF, 0x3005145A⟩,   -- NET_CFG
   ⟨0x1601, 1, 1, 0x0, 0x0, 0x0, 0x0, 0xE0000000, 0x0, 0x0, 0x0⟩,   -- NET_CTRL
   ⟨0x1602, 1, 1, 0x0, 0x0, 0x0, 0x40000000, 0x0, 0x0, 0x0, 0x0⟩,   -- NET_ADDR
   ⟨0x1606, 1, 1, 0x0, 0x0, 0x0, 0x20000000, 0x0, 0x0, 0x0, 0x0⟩,   -- NET_SYNC
   ⟨0x1800, 4, 16, 0x11013, 0x0, 0x0, 0x0, 0x0, 0x0, 0x0, 0x1⟩,   -- CHK_CFG0-3
   ⟨0x1801, 4, 16, 0xFFFF, 0x0, 0x0, 0x0, 0x0, 0x0, 0x0, 0x0⟩,   -- CHK_SEQ0-3
   ⟨0x1802, 16, 16, 0xCFFFFFFF, 0x0, 0x0, 0x0, 0x0, 0x0, 0x0, 0x0⟩,   -- CHK_FSRC
   ⟨0x1803, 16, 16, 0x1FFF, 0x0, 0x0, 0x0, 0x0, 0x0, 0x0, 0x0⟩,   -- CHK_FCNT
   ⟨0x1804, 16, 16, 0x0, 0x0, 0x0, 0x0, 0xF0000000, 0x0, 0x0, 0x0⟩,   -- CHK_CTL
   ⟨0x1805, 16, 16, 0x0, 0x0, 0x0, 0x0, 0xFFFFFFFF, 0x0, 0x0, 0x0⟩,   -- CHK_DATA
   ⟨0x1806, 16, 16, 0x0, 0x0, 0x0, 0x0, 0xFF, 0x0, 0x0, 0x0⟩,   -- CHK_BYTE
   ⟨0x1808, 16, 16, 0xFFFFFFFF, 0x0, 0x0, 0x0, 0x0, 0x0, 0x0, 0x0⟩,   -- CHK_CMP
   ⟨0x1809, 16, 16, 0x0, 0x0, 0x0, 0x800000, 0x0, 0x0, 0x0, 0x0⟩,   -- CHK_STAT
   ⟨0x1840, 12, 16, 0x10313, 0x0, 0x0, 0x0, 0x0, 0x0, 0x0, 0x1⟩]   -- CHK_CFG4-15

/-- Rows of the registers 0x1900 to 0x1AFF (R458, Table 19.2). -/
def regRowsRilFlt : List RegRow :=
  [⟨0x1900, 1, 1, 0x0, 0x0, 0x0, 0x0, 0x80000000, 0x0, 0x0, 0x0⟩,   -- RIL_CTRL
   ⟨0x1901, 1, 1, 0xC0FFFF07, 0x0, 0x0, 0x0, 0x0, 0x0, 0xC0FFFF07, 0x40214202⟩,   -- RIL_CFG
   ⟨0x1902, 1, 1, 0xFFFFFFFF, 0x0, 0x0, 0x0, 0x0, 0x0, 0xFFFFFFFF, 0xA0014⟩,   -- RIL_POLL
   ⟨0x1903, 1, 1, 0x0, 0x0, 0x0, 0x18000000, 0x0, 0x0, 0x0, 0x0⟩,   -- RIL_STAT
   ⟨0x1905, 1, 1, 0x181FFF, 0x0, 0x0, 0x20000000, 0x80000000, 0x0, 0x0, 0x0⟩,   -- RIL_XCTL
   ⟨0x1906, 1, 1, 0xFFFFFFFF, 0x0, 0x0, 0x0, 0x0, 0x0, 0x0, 0x0⟩,   -- RIL_XW0
   ⟨0x1907, 1, 1, 0xFFFFFFFF, 0x0, 0x0, 0x0, 0x0, 0x0, 0x0, 0x0⟩,   -- RIL_XW1
   ⟨0x1960, 32, 1, 0x10001F00, 0x0, 0x0, 0x20000000, 0x0, 0x0, 0x0, 0x0⟩,   -- RIL_DENT
   ⟨0x1A00, 1, 1, 0x80FF00BF, 0x4000FF00, 0x0, 0x0, 0x0, 0x0, 0x80FFFFBF, 0x80140A00⟩,   -- FLT_CFG
   ⟨0x1A02, 1, 1, 0x0, 0x0, 0x0, 0x0, 0xFFFF, 0x0, 0x0, 0x0⟩,   -- FLT_ALIVE
   ⟨0x1A0B, 1, 1, 0x0, 0x0, 0x0, 0x0, 0xFFFF, 0x0, 0x0, 0x0⟩,   -- FLT_CLRALL
   ⟨0x1A10, 5, 1, 0x0, 0x0, 0x0, 0xFFFFFFFF, 0x0, 0x0, 0x0, 0x0⟩,   -- FLT_STICKY
   ⟨0x1A20, 5, 1, 0x0, 0x0, 0x0, 0xFFFFFFFF, 0x0, 0x0, 0x0, 0x0⟩]   -- FLT_SEC

/-- Rows of the registers 0x1B00 to 0x1B87 (R458, Table 19.2). -/
def regRowsFltSrcA : List RegRow :=
  [⟨0x1B00, 24, 1, 0x0, 0xB7FFFFFF, 0x0, 0x0, 0x0, 0x0, 0xB7FFFFFF, 0x230A0064⟩,   -- CELL_OV
   ⟨0x1B18, 24, 1, 0x0, 0xB7FFFFFF, 0x0, 0x0, 0x0, 0x0, 0xB7FFFFFF, 0x230A0064⟩,   -- CELL_UV
   ⟨0x1B30, 25, 1, 0x0, 0xB7FFFFFF, 0x0, 0x0, 0x0, 0x0, 0xB7FFFFFF, 0x23022710⟩,   -- OPEN_WIRE
   ⟨0x1B49, 24, 1, 0x0, 0xB7FFFFFF, 0x0, 0x0, 0x0, 0x0, 0xB7FFFFFF, 0x11032710⟩,   -- BAL_FAULT
   ⟨0x1B61, 10, 1, 0x0, 0xB7FFFFFF, 0x0, 0x0, 0x0, 0x0, 0xB7FFFFFF, 0x110A03E8⟩,   -- AUX_RANGE
   ⟨0x1B6B, 6, 1, 0x0, 0xB7FFFFFF, 0x0, 0x0, 0x0, 0x0, 0xB7FFFFFF, 0x120503E8⟩,   -- DIE_TEMP
   ⟨0x1B71, 6, 1, 0x0, 0xB7FFFFFF, 0x0, 0x0, 0x0, 0x0, 0xB7FFFFFF, 0x120303E8⟩,   -- DIE_RISE
   ⟨0x1B77, 1, 1, 0x0, 0xB7FFFFFF, 0x0, 0x0, 0x0, 0x0, 0xB7FFFFFF, 0x1103EA60⟩,   -- THERMAL_MODEL_DISAGREE
   ⟨0x1B78, 1, 1, 0x0, 0xB7FFFFFF, 0x0, 0x0, 0x0, 0x0, 0xB7FFFFFF, 0x1FFFFFF⟩,   -- THROTTLE_REQ
   ⟨0x1B79, 1, 1, 0x0, 0xB7FFFFFF, 0x0, 0x0, 0x0, 0x0, 0xB7FFFFFF, 0x1205EA60⟩,   -- THROTTLE_ENFORCED
   ⟨0x1B7A, 1, 1, 0x0, 0xB7FFFFFF, 0x0, 0x0, 0x0, 0x0, 0xB7FFFFFF, 0xB403FFFF⟩,   -- THERMAL_SHUTDOWN
   ⟨0x1B7B, 1, 1, 0x0, 0xB7FFFFFF, 0x0, 0x0, 0x0, 0x0, 0xB7FFFFFF, 0x230503E8⟩,   -- STACK_OV
   ⟨0x1B7C, 1, 1, 0x0, 0xB7FFFFFF, 0x0, 0x0, 0x0, 0x0, 0xB7FFFFFF, 0x110503E8⟩,   -- STACK_UV
   ⟨0x1B7D, 1, 1, 0x0, 0xB7FFFFFF, 0x0, 0x0, 0x0, 0x0, 0xB7FFFFFF, 0x1105EA60⟩,   -- SUPPLY_WARN
   ⟨0x1B7E, 1, 1, 0x0, 0xB7FFFFFF, 0x0, 0x0, 0x0, 0x0, 0xB7FFFFFF, 0x1103FFFF⟩,   -- SUPPLY_RESET_RECORD
   ⟨0x1B7F, 1, 1, 0x0, 0xB7FFFFFF, 0x0, 0x0, 0x0, 0x0, 0xB7FFFFFF, 0x11032710⟩,   -- VREG_FAULT
   ⟨0x1B80, 1, 1, 0x0, 0xB7FFFFFF, 0x0, 0x0, 0x0, 0x0, 0xB7FFFFFF, 0x230303E8⟩,   -- REF_MISMATCH
   ⟨0x1B81, 1, 1, 0x0, 0xB7FFFFFF, 0x0, 0x0, 0x0, 0x0, 0xB7FFFFFF, 0x230203E8⟩,   -- LPO_FAULT
   ⟨0x1B82, 1, 1, 0x0, 0xB7FFFFFF, 0x0, 0x0, 0x0, 0x0, 0xB7FFFFFF, 0x11032710⟩,   -- PLL_UNLOCK
   ⟨0x1B83, 1, 1, 0x0, 0xB7FFFFFF, 0x0, 0x0, 0x0, 0x0, 0xB7FFFFFF, 0x23022710⟩,   -- CLOCK_MONITOR
   ⟨0x1B84, 4, 1, 0x0, 0xB7FFFFFF, 0x0, 0x0, 0x0, 0x0, 0xB7FFFFFF, 0x6403E8⟩]   -- CHAIN_N_CRC

/-- Rows of the registers 0x1B88 to 0x1BFF (R458, Table 19.2). -/
def regRowsFltSrcB : List RegRow :=
  [⟨0x1B88, 1, 1, 0x0, 0xB7FFFFFF, 0x0, 0x0, 0x0, 0x0, 0xB7FFFFFF, 0x11032710⟩,   -- CHAIN_TIMEOUT
   ⟨0x1B89, 1, 1, 0x0, 0xB7FFFFFF, 0x0, 0x0, 0x0, 0x0, 0xB7FFFFFF, 0x11032710⟩,   -- CHAIN_SYNC_LOST
   ⟨0x1B8A, 1, 1, 0x0, 0xB7FFFFFF, 0x0, 0x0, 0x0, 0x0, 0xB7FFFFFF, 0x10AEA60⟩,   -- RILL_CHANGE
   ⟨0x1B8B, 1, 1, 0x0, 0xB7FFFFFF, 0x0, 0x0, 0x0, 0x0, 0xB7FFFFFF, 0x1105EA60⟩,   -- RILL_FAULT
   ⟨0x1B8C, 1, 1, 0x0, 0xB7FFFFFF, 0x0, 0x0, 0x0, 0x0, 0xB7FFFFFF, 0x6403E8⟩,   -- TRIGGER_OVERRUN
   ⟨0x1B8D, 1, 1, 0x0, 0xB7FFFFFF, 0x0, 0x0, 0x0, 0x0, 0xB7FFFFFF, 0xFF03E8⟩,   -- RESULT_OVERRUN
   ⟨0x1B8E, 1, 1, 0x0, 0xB7FFFFFF, 0x0, 0x0, 0x0, 0x0, 0xB7FFFFFF, 0x110AEA60⟩,   -- BASIN_EXHAUSTED
   ⟨0x1B8F, 1, 1, 0x0, 0xB7FFFFFF, 0x0, 0x0, 0x0, 0x0, 0xB7FFFFFF, 0x11032710⟩,   -- JET_FAULT
   ⟨0x1B90, 1, 1, 0x0, 0xB7FFFFFF, 0x0, 0x0, 0x0, 0x0, 0xB7FFFFFF, 0x11032710⟩,   -- JET_WATCHDOG
   ⟨0x1B91, 1, 1, 0x0, 0xB7FFFFFF, 0x0, 0x0, 0x0, 0x0, 0xB7FFFFFF, 0x1103EA60⟩,   -- BIST_FAIL
   ⟨0x1B92, 1, 1, 0x0, 0xB7FFFFFF, 0x0, 0x0, 0x0, 0x0, 0xB7FFFFFF, 0xAEA60⟩,   -- BIST_INCOMPLETE
   ⟨0x1B93, 1, 1, 0x0, 0xB7FFFFFF, 0x0, 0x0, 0x0, 0x0, 0xB7FFFFFF, 0x11FFFFFF⟩,   -- SPARE_EXHAUSTED
   ⟨0x1B94, 1, 1, 0x0, 0xB7FFFFFF, 0x0, 0x0, 0x0, 0x0, 0xB7FFFFFF, 0x1FFFFFF⟩,   -- REPAIR_APPLIED
   ⟨0x1B95, 1, 1, 0x0, 0xB7FFFFFF, 0x0, 0x0, 0x0, 0x0, 0xB7FFFFFF, 0x64EA60⟩,   -- NVM_ECC_CORRECTED
   ⟨0x1B96, 1, 1, 0x0, 0xB7FFFFFF, 0x0, 0x0, 0x0, 0x0, 0xB7FFFFFF, 0x2103EA60⟩,   -- NVM_ECC_UNCORRECTABLE
   ⟨0x1B97, 1, 1, 0x0, 0xB7FFFFFF, 0x0, 0x0, 0x0, 0x0, 0xB7FFFFFF, 0x64EA60⟩,   -- SRAM_ECC_CORRECTED
   ⟨0x1B98, 1, 1, 0x0, 0xB7FFFFFF, 0x0, 0x0, 0x0, 0x0, 0xB7FFFFFF, 0x2103EA60⟩,   -- SRAM_ECC_UNCORRECTABLE
   ⟨0x1B99, 1, 1, 0x0, 0xB7FFFFFF, 0x0, 0x0, 0x0, 0x0, 0xB7FFFFFF, 0x1FFFFFF⟩,   -- UPDATE_STATE
   ⟨0x1B9A, 1, 1, 0x0, 0xB7FFFFFF, 0x0, 0x0, 0x0, 0x0, 0xB7FFFFFF, 0x1102FFFF⟩,   -- IMAGE_FALLBACK
   ⟨0x1B9B, 1, 1, 0x0, 0xB7FFFFFF, 0x0, 0x0, 0x0, 0x0, 0xB7FFFFFF, 0x110A03E8⟩,   -- CHECK_UNIT_MISMATCH
   ⟨0x1B9C, 1, 1, 0x0, 0xB7FFFFFF, 0x0, 0x0, 0x0, 0x0, 0xB7FFFFFF, 0x11FFFFFF⟩,   -- BINDING_MISMATCH
   ⟨0x1B9D, 1, 1, 0x0, 0xB7FFFFFF, 0x0, 0x0, 0x0, 0x0, 0xB7FFFFFF, 0x1FFFFFF⟩,   -- SPECTRUM_DONE
   ⟨0x1B9E, 1, 1, 0x0, 0xB7FFFFFF, 0x0, 0x0, 0x0, 0x0, 0xB7FFFFFF, 0x11032710⟩,   -- MODE_CHANGE_MISSED
   ⟨0x1B9F, 1, 1, 0x0, 0xB7FFFFFF, 0x0, 0x0, 0x0, 0x0, 0xB7FFFFFF, 0x2102EA60⟩]   -- STEWARD_WATCHDOG

/-- Rows of the registers 0x1C00 to 0x1FFF (R458, Table 19.2). -/
def regRowsThmToUpd : List RegRow :=
  [⟨0x1C00, 1, 1, 0xFFFF0000, 0xFFFF, 0x0, 0x0, 0x0, 0x0, 0xFFFFFFFF, 0x1F456A2⟩,   -- THM_CFG
   ⟨0x1C01, 1, 1, 0x0, 0xFFFFFFFF, 0x0, 0x0, 0x0, 0x0, 0xFFFFFFFF, 0x96737D20⟩,   -- THM_LIM
   ⟨0x1C04, 1, 1, 0x0, 0x0, 0x0, 0x0, 0x3F00, 0x0, 0x0, 0x0⟩,   -- THM_SREP
   ⟨0x1C08, 1, 1, 0x0, 0xFFFF, 0x0, 0x0, 0x0, 0x0, 0xFFFF, 0x118⟩,   -- THM_BOARD
   ⟨0x1D00, 1, 1, 0x0, 0x0, 0x0, 0x0, 0xE00001FF, 0x40000000, 0x0, 0x0⟩,   -- BST_CTRL
   ⟨0x1D01, 1, 1, 0xA0FF3F0F, 0x40000000, 0x0, 0x0, 0x0, 0x0, 0xE0FF3F0F, 0xE00A0F03⟩,   -- BST_CFG
   ⟨0x1D02, 1, 1, 0x0, 0x0, 0x0, 0x4000000, 0x0, 0x0, 0x0, 0x0⟩,   -- BST_STAT
   ⟨0x1E01, 1, 1, 0x0, 0x0, 0x0, 0x800000, 0x0, 0x0, 0x0, 0x0⟩,   -- NVM_ECC
   ⟨0x1E02, 1, 1, 0x80FF0000, 0x0, 0x0, 0x0, 0x40000000, 0x0, 0x80FF0000, 0x80180000⟩,   -- NVM_SCRUB
   ⟨0x1E14, 1, 1, 0x0, 0xFF, 0x0, 0x0, 0x0, 0x0, 0x0, 0x0⟩,   -- NVM_BIND
   ⟨0x1E15, 1, 1, 0x0, 0x0, 0x0, 0x0, 0xFFFF, 0xFFFF, 0x0, 0x0⟩,   -- NVM_BCTL
   ⟨0x1E18, 4, 1, 0xFFFFFFFF, 0x0, 0x0, 0x0, 0x0, 0x0, 0x0, 0x0⟩,   -- NVM_EXP
   ⟨0x1E1C, 1, 1, 0x80000000, 0x0, 0x0, 0x0, 0x0, 0x0, 0x0, 0x0⟩,   -- NVM_EXPCTL
   ⟨0x1E30, 4, 1, 0x0, 0xFFFFFFFF, 0x0, 0x0, 0x0, 0x0, 0x0, 0x0⟩,   -- NVM_NEWPACK
   ⟨0x1F03, 1, 1, 0x0, 0x800003FF, 0x0, 0x0, 0x0, 0x0, 0x800003FF, 0x3C⟩]   -- UPD_CFG

/-- Rows of the banked selectors of Table 19.4, whose values stand in the requesters' banks (R464). -/
def regRowsSel : List RegRow :=
  [⟨0xA02, 1, 1, 0xFFFFF, 0x0, 0x0, 0x0, 0x0, 0x0, 0x0, 0x0⟩,   -- BSN_WIN
   ⟨0xA50, 1, 1, 0xF, 0x0, 0x0, 0x0, 0x0, 0x0, 0x0, 0x0⟩,   -- BSN_PT_SEL
   ⟨0xC48, 1, 1, 0x80003FFF, 0x0, 0x0, 0x0, 0x0, 0x0, 0x0, 0x0⟩,   -- SEQ_PWIN_ADDR
   ⟨0xC4A, 1, 1, 0x800703FF, 0x0, 0x0, 0x0, 0x0, 0x0, 0x0, 0x0⟩,   -- SEQ_SWIN_SEL
   ⟨0x120B, 1, 1, 0x80001FFF, 0x0, 0x0, 0x0, 0x0, 0x0, 0x0, 0x0⟩,   -- SPC_TSEL
   ⟨0x120D, 1, 1, 0x800007FF, 0x0, 0x0, 0x0, 0x0, 0x0, 0x0, 0x0⟩,   -- SPC_HSEL
   ⟨0x1A04, 1, 1, 0x800000FF, 0x0, 0x0, 0x0, 0x0, 0x0, 0x0, 0x0⟩,   -- FLT_SEL
   ⟨0x1D06, 1, 1, 0x800001FF, 0x0, 0x0, 0x0, 0x0, 0x0, 0x0, 0x0⟩,   -- BST_RSEL
   ⟨0x1D0A, 1, 1, 0x7F, 0x0, 0x0, 0x0, 0x0, 0x0, 0x0, 0x0⟩,   -- BST_MSEL
   ⟨0x1E04, 1, 1, 0x800007FF, 0x0, 0x0, 0x0, 0x0, 0x0, 0x0, 0x0⟩,   -- NVM_LSEL
   ⟨0x1E20, 1, 1, 0xC001FFFF, 0x0, 0x0, 0x0, 0x0, 0x0, 0x0, 0x0⟩]   -- NVM_CADDR

/-- Every register with a writable field but the data registers of the windows. DEDUCED, log entry 14. -/
def regRows : List RegRow :=
  regRowsPwrOvl ++ regRowsCfeModRes ++ regRowsBsnSeq ++ regRowsSluSpc ++ regRowsEcpNetChk ++ regRowsRilFlt
    ++ regRowsFltSrcA ++ regRowsFltSrcB ++ regRowsThmToUpd ++ regRowsSel

/-- A row covers address `a`. -/
def RegRow.covers (r : RegRow) (a : Nat) : Bool :=
  decide (r.lo ≤ a) && decide ((a - r.lo) % r.stride = 0) && decide ((a - r.lo) / r.stride < r.n)

/-- A row with no writable bit. -/
def RegRow.none : RegRow := ⟨0, 0, 1, 0, 0, 0, 0, 0, 0, 0, 0⟩

/-- The row of address `a`. -/
def regRow (a : Nat) : RegRow := (regRows.find? (·.covers a)).getD RegRow.none

/-- The bits of a register that its storage holds: RW, RWL and RWO. -/
def RegRow.cfg (r : RegRow) : Word := BitVec.ofNat 32 (r.rw + r.rwl + r.rwo)

/-- The address ranges of Table 19.2 without the CHK block. -/
def regRanges : List (Nat × Nat) :=
  [(0x0, 0x5), (0x100, 0x10D), (0x200, 0x205), (0x400, 0x405), (0x408, 0x40B), (0x600, 0x60B), (0x800, 0x817),
   (0x818, 0x823), (0x824, 0x828), (0x830, 0x853), (0x860, 0x883), (0x890, 0x893), (0xA00, 0xA04), (0xA10,
   0xA4F), (0xA50, 0xA50), (0xA80, 0xABF), (0xB00, 0xBFF), (0xC00, 0xC3F), (0xC40, 0xC45), (0xC48, 0xC4C),
   (0xC50, 0xC5F), (0xC60, 0xC63), (0xC68, 0xC7A), (0xC80, 0xC80), (0xC88, 0xC97), (0x1000, 0x100A), (0x1020,
   0x1037), (0x1040, 0x1057), (0x1060, 0x1077), (0x1080, 0x1097), (0x1200, 0x120F), (0x1210, 0x124F), (0x1260,
   0x1277), (0x1280, 0x13FF), (0x1400, 0x1408), (0x1600, 0x160C), (0x1900, 0x190B), (0x1910, 0x1913), (0x1920,
   0x199F), (0x1A00, 0x1A0B), (0x1A10, 0x1A14), (0x1A18, 0x1A1C), (0x1A20, 0x1A24), (0x1B00, 0x1B9F), (0x1C00,
   0x1C08), (0x1C10, 0x1C17), (0x1D00, 0x1D0B), (0x1E00, 0x1E04), (0x1E08, 0x1E16), (0x1E18, 0x1E1C), (0x1E20,
   0x1E21), (0x1E30, 0x1E33), (0x1F00, 0x1F09)]

/-- The address names a register of Table 19.2; every other address is reserved (R458). -/
def regExists (a : Nat) : Bool :=
  regRanges.any (fun r => decide (r.1 ≤ a) && decide (a ≤ r.2)) ||
    (decide (0x1800 ≤ a) && decide (a ≤ 0x18FF) && decide (a % 16 ≤ 9))

/-- The data registers of the windows of Table 19.4. -/
def isWindowData (a : Nat) : Bool :=
  decide (a = 0xC49) || decide (a = 0xC4B) || (decide (0xB00 ≤ a) && decide (a ≤ 0xBFF)) ||
  (decide (0xA80 ≤ a) && decide (a ≤ 0xABF)) || (decide (0x203 ≤ a) && decide (a ≤ 0x205)) ||
  (decide (0x606 ≤ a) && decide (a ≤ 0x608)) || decide (a = 0x120C) || decide (a = 0x120E) || decide (a = 0x120F) ||
  (decide (0x1A05 ≤ a) && decide (a ≤ 0x1A09)) || decide (a = 0x1D07) || decide (a = 0x1D08) || decide (a = 0x1D0B) ||
  (decide (0x1E08 ≤ a) && decide (a ≤ 0x1E0F)) || decide (a = 0x1E21)

/-- The banked selector registers of the windows of Table 19.4 (R464). -/
def isSelector (a : Nat) : Bool :=
  decide (a = 0xA02) || decide (a = 0xA50) || decide (a = 0xC48) || decide (a = 0xC4A) || decide (a = 0x120B) ||
  decide (a = 0x120D) || decide (a = 0x1A04) || decide (a = 0x1D06) || decide (a = 0x1D0A) || decide (a = 0x1E04) ||
  decide (a = 0x1E20)

end Sys2Proof.Machine
end

