-- ==== Sys2Proof/Machine/Ops.lean ====
section
/-! DEFINITION. Machine/Ops.lean: the operations that every block shares: time, the register file, overlays, the configuration
lock, port buffers and the ledger. -/

namespace Sys2Proof

/-- The number of a requester's bank: chain interface, service port, steward, jets 0 to 7 (R154, R464). -/
def Requester.bank : Requester → Nat
  | .chain => 0 | .service => 1 | .steward => 2 | .jet n => 3 + n

/-- The requester codes of OWNER fields: 1 jet, 2 chain interface, 3 service port, 4 steward. -/
def Requester.ownerCode : Requester → Nat
  | .jet _ => 1 | .chain => 2 | .service => 3 | .steward => 4

/-- The jet number of a requester, 0 where it is no jet. -/
def Requester.jetNo : Requester → Nat
  | .jet n => n | _ => 0

/-- The other port. -/
def PortId.other : PortId → PortId
  | .north => .south
  | .south => .north

end Sys2Proof

namespace Sys2Proof.Machine

/-- The outcome of a command. -/
abbrev Out := Host.Outcome State Fault Refusal

/-- Ticks of 5 ns in a millisecond (R312). -/
def msTicks : Nat := 200000

/-- Ticks of 5 ns in a microsecond. -/
def usTicks : Nat := 200

/-! ## Time -/

/-- One tick of the timebase in the units of its fraction. -/
def tbUnit : Nat := 32000000000

/-- What the timebase gains in one tick of the clock, in the units of its fraction: INC (R312). -/
def Time.inc (t : Time) : Nat := (tbUnit + 32 * t.rate).toNat

/-- The same while a slew removes its share of e over 1 ms (R315): 625 × 200,000 × 256 units come to one tick. -/
def Time.slewInc (t : Time) : Nat := (tbUnit + 32 * t.rate - 625 * t.slew).toNat

/-- What the timebase gains in `dt` ticks of the clock, in the units of its fraction. -/
def Time.gain (t : Time) (dt : Nat) : Nat :=
  let a := min dt (t.slewEnd - t.clk)
  a * t.slewInc + (dt - a) * t.inc

/-- The timebase `dt` ticks of the clock ago, at the rate and with the slew of now. DEDUCED, log entry 85. -/
def Time.tbAgo (t : Time) (dt : Nat) : Nat :=
  let a := min dt (t.slewEnd - (t.clk - dt))
  (t.tb.toNat * tbUnit + t.frac - (a * t.slewInc + (dt - a) * t.inc)) / tbUnit

/-- The timebase after `dt` ticks of the clock. -/
def Time.tbAt (t : Time) (dt : Nat) : Tick := t.tb + BitVec.ofNat 64 ((t.frac + t.gain dt) / tbUnit)

/-- The greater of two timebase values. -/
def tickMax (a b : Tick) : Tick := if a < b then b else a

/-- Time after `dt` ticks of the clock (R312, R317). DESIGN CHOICE, log entry 5. -/
def Time.after (t : Time) (dt : Nat) : Time :=
  { t with
    clk := t.clk + dt, tb := t.tbAt dt, frac := (t.frac + t.gain dt) % tbUnit, tbMax := tickMax t.tbMax (t.tbAt dt)
    lo := if dt = 0 then t.lo else tickMax t.tbMax (t.tbAt (dt - 1)) }

/-- The ticks of the clock in which the timebase gains `n` ticks (R318). -/
def Time.upTo (t : Time) (n : Nat) : Nat :=
  let need := n * tbUnit - t.frac
  let a := t.slewEnd - t.clk
  if need ≤ a * t.slewInc then (need + t.slewInc - 1) / t.slewInc
  else a + (need - a * t.slewInc + t.inc - 1) / t.inc

/-- The state after `dt` ticks in which nothing but time passes: the clock and the timebase advance (R312). DESIGN CHOICE, log entries 1 and 5. -/
def State.elapse (s : State) (dt : Nat) : State := { s with time := s.time.after dt }

/-- The state after the ticks in which the timebase gains `n` ticks. -/
def State.elapseTb (s : State) (n : Nat) : State := s.elapse (s.time.upTo n)

/-- The clock. -/
abbrev State.clk (s : State) : Nat := s.time.clk

/-- The timebase. -/
abbrev State.tb (s : State) : Tick := s.time.tb

/-- The timebase as a number. -/
abbrev State.tbn (s : State) : Nat := s.time.tb.toNat

/-- The timebase at the clock value `t`, past or to come. -/
def State.tbWhen (s : State) (t : Nat) : Nat :=
  if s.clk ≤ t then (s.time.tbAt (t - s.clk)).toNat else s.time.tbAgo (s.clk - t)

/-- `n` ticks or more have passed since clock `t`. -/
def State.since (s : State) (t n : Nat) : Bool := decide (t + n ≤ s.clk)

/-- How many values that are `phase` modulo `period` a timebase that has come to `n` has reached. -/
def modCount (period phase n : Nat) : Nat := (n + period - phase % period) / period

/-- A timebase value that is `phase` modulo `period` counts as reached in this cycle (R102, R312, R317): one above every value reached
before this cycle, up to the highest reached by now. -/
def State.reachedMod (s : State) (period phase : Nat) : Bool :=
  decide (modCount period phase s.time.lo.toNat < modCount period phase s.time.tbMax.toNat)

/-- The least timebase value that may count as reached in this cycle or later (R317). -/
def State.tbNext (s : State) : Nat := s.time.lo.toNat + 1

/-- The timebase has reached `t`. -/
def State.reached (s : State) (t : Tick) : Bool := decide (t ≤ s.tb)

/-- A 32-bit deadline is reached: the signed difference of the timebase's low word and the deadline is 0 or more (R173). -/
def State.reached32 (s : State) (ra : Word) : Bool := !(s.tb.setWidth 32 - ra).msb

/-! ## One core cycle -/

/-- The record of the present core cycle. -/
def State.nowCyc (s : State) : Cyc := (s.cyc.find? (fun c => decide (c.at_ = s.clk))).getD (Cyc.fresh s.clk)

/-- The state with the record of the present core cycle changed. -/
def State.cycMod (s : State) (f : Cyc → Cyc) : State := 
  { s with cyc := f s.nowCyc :: s.cyc.filter (fun c => decide (s.clk < c.at_)) }

/-- The device sets WC bits of a register in this cycle (R12). -/
def State.wcSet (s : State) (a : Nat) (w : Word) : State := s.cycMod (fun c => { c with wc := (a, w) :: c.wc })

/-- The WC bits of a register that the device has set in this cycle. -/
def State.wcFresh (s : State) (a : Nat) : Word :=
  s.nowCyc.wc.foldl (fun (w : Word) e => if e.1 = a then w ||| e.2 else w) 0

/-- The word that part `k` of register `a` showed before it was written in this cycle (R27). -/
def State.oldWord (s : State) (a k : Nat) : Option Word :=
  (s.nowCyc.before.find? (fun e => decide (e.1 = a) && decide (e.2.1 = k))).map (·.2.2)

/-- Part `k` of register `a` is written in this cycle; `w` is what it shows until then. -/
def State.noteOld (s : State) (a k : Nat) (w : Word) : State :=
  if (s.oldWord a k).isSome then s else s.cycMod (fun c => { c with before := (a, k, w) :: c.before })

/-- The place of a requester in the order in which the writes of one cycle are applied (R26). -/
def writeRank : Requester → Nat
  | .steward => 0 | .chain => 1 | .service => 2 | .jet n => 3 + n

/-- A write that stands after the one of `rq` in the order of R26 has been applied to part `k` of register `a` in this cycle. -/
def State.outranked (s : State) (rq : Requester) (a k : Nat) : Bool :=
  s.nowCyc.ranks.any (fun e => decide (e.1 = a) && decide (e.2.1 = k) && decide (writeRank rq < e.2.2))

/-- The write of `rq` is the last applied to part `k` of register `a` in this cycle. -/
def State.noteRank (s : State) (rq : Requester) (a k : Nat) : State :=
  s.cycMod (fun c => { c with ranks := (a, k, writeRank rq) :: c.ranks })

/-! ## The register file -/

/-- The underlying value of the stored bits of register `a` (R59). DEDUCED, log entry 14. -/
def State.under (s : State) (a : Nat) : Word :=
  match Sparse.get none s.regs a with
  | some w => w
  | none => BitVec.ofNat 32 (regRow a).init

/-- Register `a` with the entries of a snapshot laid over its stored bits, in index order (R59, R60). -/
def overlaid (snap : List OvlEntry) (a : Nat) (w : Word) : Word :=
  snap.foldl (fun w e =>
    if e.addr = a then
      (w &&& ~~~(e.mask &&& (regRow a).cfg)) ||| (e.val &&& e.mask &&& (regRow a).cfg)
    else w) w

/-- The effective value of the stored bits of register `a`: the value that the hardware acts on (R59). DEDUCED, log entry 29. -/
def State.eff (s : State) (a : Nat) : Word := overlaid s.ovl.snap a (s.under a)

/-- The stored bits of register `a` that an overlay entry in effect covers (R59). -/
def State.covered (s : State) (a : Nat) : Word :=
  (s.ovl.snap.foldl (fun (w : Word) e => if e.addr = a then w ||| e.mask else w) 0) &&& (regRow a).cfg

/-- The bits under `mask` whose underlying value a write of `v` changes: a covered bit written with its effective value keeps its
underlying value (R59). DEDUCED, log entry 30. -/
def taken (mask cover eff v : Word) : Word := mask &&& ~~~(cover &&& ~~~(v ^^^ eff))

/-- `old` with the bits of `m` taken from `v`. DEDUCED, log entry 30. -/
def merged (old m v : Word) : Word := (old &&& ~~~m) ||| (v &&& m)

/-- The effective value of register `a` before a write of this cycle changed it (R22). -/
def State.effHeld (s : State) (a : Nat) : Word := (s.oldWord a 0).getD (s.eff a)

/-- A field of the effective value. -/
def State.fld (s : State) (a lo len : Nat) : Nat := Sys2Proof.fld (s.eff a) lo len

/-- A bit of the effective value. -/
def State.bit (s : State) (a i : Nat) : Bool := (s.eff a).getLsbD i

/-- The state with underlying value `w` in register `a`. -/
def State.setUnder (s : State) (a : Nat) (w : Word) : State := { s with regs := Sparse.set none s.regs a (some w) }

/-- A field value with 0 selecting 1, as many fields state. -/
def atLeast1 (n : Nat) : Nat := if n = 0 then 1 else n

/-- A field value with values outside `lo` to `hi` selecting the nearer limit. -/
def clampTo (lo hi n : Nat) : Nat := if n < lo then lo else if hi < n then hi else n

/-- An exact value brought to a whole number: itself where it is whole, else one of its two neighbours, which the manual does not say
(Config.roundUp). DESIGN CHOICE, log entry 19. -/
def freeRound (k : Nat) (q : Rat) : Int := if q.den = 1 then q.num else q.floor + (if Config.roundUp k q then 1 else 0)

/-- A counter that saturates at `top`. -/
def inc (top n : Nat) : Nat := if n < top then n + 1 else top

/-- The bank of a requester. -/
def State.bank (s : State) (rq : Requester) : Bank := vget s.banks Bank.init rq.bank

/-- The state with the bank of a requester changed. -/
def State.setBank (s : State) (rq : Requester) (f : Bank → Bank) : State := { s with banks := vmod s.banks rq.bank f }

/-- The state with an answer to an access that carries no frame. -/
def State.answers (s : State) (st : AccSt) (ws : List Word) : State := { s with answer := ⟨st, ws, none⟩ }

/-! ## Modes -/

/-- The mode is one of those numbered `lo` to `hi`. -/
def State.modeIn (s : State) (lo hi : Nat) : Bool := decide (lo ≤ s.pwr.mode.num) && decide (s.pwr.mode.num ≤ hi)

/-- The core is powered and clocked: modes 3 to 11, in WATCH during a burst, and RESET from step 4 (Tables 2.5 and 2.6). DEDUCED, log entry 44. -/
def State.coreOn (s : State) : Bool :=
  match s.pwr.mode with
  | .reset => decide (4 ≤ s.pwr.step)
  | .ship => false
  | .still => false
  | .watch => s.pwr.burst
  | _ => true

/-- The fault collector is supplied: every mode but SHIP and STILL, in RESET from step 7 (R466). DEDUCED, log entry 42. -/
def State.collectorOn (s : State) : Bool :=
  match s.pwr.mode with
  | .ship => false
  | .still => false
  | _ => true

/-- The steward runs (R28, R29). -/
abbrev State.stw (s : State) : Bool := s.flt.stwRun

/-- The device is the bridge (R301). -/
def State.bridge (s : State) : Bool := s.bit 0x1600 31

/-- The address of the device: 0 on the bridge, the held address on a node, none before one is held (R301). -/
def State.addr (s : State) : Option Nat := if s.bridge then some 0 else s.aon.chainAddr

/-- The number of cells used (R75). -/
def State.ncells (s : State) : Nat := clampTo 8 24 (s.fld 0x400 0 5)

/-- Cell `n` is used (R76). -/
def State.used (s : State) (n : Nat) : Bool := decide (1 ≤ n) && decide (n ≤ s.ncells)

/-- Cell `n` is marked as a bus bar (R78). -/
def State.busbar (s : State) (n : Nat) : Bool := s.used n && s.bit 0x401 (n - 1)

/-! ## Ports and buffers -/

/-- A port of the device. -/
def State.port (s : State) : PortId → Port
  | .north => s.ecp.north
  | .south => s.ecp.south

/-- The state with a port changed. -/
def State.setPort (s : State) (p : PortId) (f : Port → Port) : State :=
  match p with
  | .north => { s with ecp := { s.ecp with north := f s.ecp.north } }
  | .south => { s with ecp := { s.ecp with south := f s.ecp.south } }

/-- The bridge-ward port (R289). -/
def State.bridgeWard (s : State) : PortId := if s.ecp.south.bridgeward then .south else .north

/-- A buffer of a port can take a frame of class `c`: one of the two reserved for the class or one of the eight shared (R292). -/
def bufferFree (buf : List Frame) (c : Nat) : Bool :=
  let held := fun k => (buf.filter (fun f => decide (f.cls = k))).length
  decide (held c < 2) || decide ((held 0 - 2) + (held 1 - 2) + (held 2 - 2) + (held 3 - 2) < 8)

/-- The last transmission with its BEST lowered by a frame of a class that comes to wait while it is on the pair (R280). -/
def OnWire.lower (c : Nat) : OnWire → OnWire
  | .frame f check best => .frame f check (min best c)
  | .abt typ cnt best => .abt typ cnt (min best c)
  | .lnk rdy best => .lnk rdy (min best c)
  | .tone => .tone

/-- A frame of a class comes to wait for port `p` at the clock value `clk`: BEST of the INFO still to be sent follows, but for classes 2
and 3 while the chain is parked (R280, R383). -/
def Port.waits (q : Port) (clk : Nat) (parked : Bool) (c : Nat) : Port :=
  if clk < q.busyTo ∧ ¬(parked ∧ 2 ≤ c) then { q with wire := q.wire.map (OnWire.lower c) } else q

/-- A frame given to a port: nothing where the port is not UP (R289), a drop where no buffer is free (R292). -/
def State.send (s : State) (p : PortId) (f : Frame) : State :=
  if (s.port p).st = .up then
    if bufferFree (s.port p).buf f.cls then s.setPort p (fun q =>
      { q.waits s.clk s.thm.parked f.cls with
        buf := q.buf ++ [f], came := (s.clk, f) :: q.came.filter (fun e => decide (s.clk < e.1 + msTicks)) })
    else s.setPort p (fun q => { q with drops := inc 255 q.drops })
  else s

/-- The frame a bridge enters in its host receive queue, dropped where the queue is full (R309). -/
def State.rxPut (s : State) (e : RxEnt) : State :=
  if s.net.rxq.length < 32 then { s with net := { s.net with rxq := s.net.rxq ++ [e] } }
  else { s with net := { s.net with rxDrop := inc 255 s.net.rxDrop } }

/-- A frame of an inbound type that this device originates: out of the bridge-ward port on a node, into the host receive queue
with the given KIND on the bridge (R289, R362). -/
def State.sendInbound (s : State) (kind : Nat) (f : Frame) : State :=
  if s.bridge then s.rxPut ⟨0, kind, 0, some f⟩ else s.send s.bridgeWard f

/-! ## Ledger -/

/-- A ledger entry due besides the fault records. -/
def State.ledger (s : State) (e : LedgEnt) : State := { s with nvm := { s.nvm with ledgDue := s.nvm.ledgDue ++ [e] } }

/-! ## Errors of SECDED words (R136, R164, R411) -/

/-- The error of a word: none, corrected (false) or uncorrectable (true). DESIGN CHOICE, log entry 125. -/
def State.eccOf (s : State) (a : EccArea) (i : Nat) : Option Bool :=
  (s.ecc.find? (fun e => decide (e.1 = a) && decide (e.2.1 = i))).map (fun e => e.2.2)

/-- The state without the error of a word, as after a write or a correction. DESIGN CHOICE, log entry 125. -/
def State.eccClear (s : State) (a : EccArea) (i : Nat) : State :=
  { s with ecc := s.ecc.filter (fun e => !(decide (e.1 = a) && decide (e.2.1 = i))) }

end Sys2Proof.Machine
end

