-- ==== Sys2Proof/Machine/Flags.lean ====
section
/-! DEFINITION. Machine/Flags.lean: the 64 event flags with the jets that wait on them (R163, R186), and the fields of a result
word (Table 4.8). -/

namespace Sys2Proof.Machine

/-! ## Jets -/

/-- Jet `j`. -/
def State.jet (s : State) (j : Nat) : Jet := vget s.seq.jets Jet.init j

/-- The state with jet `j` changed. -/
def State.setJet (s : State) (j : Nat) (f : Jet → Jet) : State :=
  { s with seq := { s.seq with jets := vmod s.seq.jets j f } }

/-! ## Event flags -/

/-- Flag `k` is set. -/
def State.flagSet (s : State) (k : Nat) : Bool := s.seq.flags.getLsbD k

/-- The state with flag `k` set or cleared and nothing else. -/
def State.putFlag (s : State) (k : Nat) (b : Bool) : State :=
  { s with seq :=
      { s.seq with
        flags := if b then s.seq.flags ||| BitVec.ofNat 64 (2 ^ k) else s.seq.flags &&& ~~~(BitVec.ofNat 64 (2 ^ k)) } }

/-- The jet waits on flag `k` with the given C bit and its timeout has not passed (R186). -/
def waitsOn (s : State) (k : Nat) (c : Bool) (j : Nat) : Bool :=
  match (s.jet j).st, (s.jet j).wait with
  | .waiting, .flag _ k' c' limit false =>
    decide (k' = k) && (c == c') && (match limit with | none => true | some t => decide (s.tb ≤ t))
  | _, _ => false

/-- The wait of a jet with its flag found set. -/
def JWait.found : JWait → JWait
  | .flag rd k c limit _ => .flag rd k c limit true
  | w => w

/-- The state in which the listed jets have found their flag. -/
def State.wakes (s : State) (js : List Nat) : State :=
  js.foldl (fun s j => s.setJet j (fun q => { q with wait := q.wait.found })) s

/-- Flag `k` has been set in this core cycle (R163). -/
def State.flagFresh (s : State) (k : Nat) : Bool := decide (s.seq.flagClk = s.clk) && s.seq.flagNew.getLsbD k

/-- The state in which flag `k` counts as set in this core cycle. DEDUCED, log entry 65. -/
def State.noteFlag (s : State) (k : Nat) : State :=
  let old := if s.seq.flagClk = s.clk then s.seq.flagNew else 0
  let took := if s.seq.flagClk = s.clk then s.seq.flagTook else 0
  { s with seq := { s.seq with flagClk := s.clk, flagNew := old ||| BitVec.ofNat 64 (2 ^ k), flagTook := took } }

/-- A flag is set for the first time in a cycle: every jet that waits on it with C clear wakes, and the lowest-numbered jet that waits
on it with C set takes and clears it (R186). DEDUCED, log entry 65. -/
def State.raiseFlag (s : State) (k : Nat) : State :=
  let free := (List.range 8).filter (waitsOn s k false)
  let taker := (List.range 8).find? (waitsOn s k true)
  let s := s.wakes free
  match taker with
  | some j => (s.wakes [j]).putFlag k false
  | none => s.putFlag k true

/-- A flag is set (R163); a second set of one core cycle adds nothing. -/
def State.setFlag (s : State) (k : Nat) : State := if s.flagFresh k then s else (s.raiseFlag k).noteFlag k

/-- A flag is cleared; one that has been set in the same core cycle stays set (R163). -/
def State.clearFlag (s : State) (k : Nat) : State := if s.flagFresh k then s else s.putFlag k false

/-- Every flag of a mask of 64 bits is set, in ascending order. -/
def State.setFlags (s : State) (m : Nat) : State := (bitsOf 64 m).foldl State.setFlag s

/-- Every flag of a mask of 64 bits is cleared. -/
def State.clearFlags (s : State) (m : Nat) : State := (bitsOf 64 m).foldl State.clearFlag s

/-! ## Result words (R126) -/

/-- A result word: value, SUSPECT, the other flag bits [6:4], SEQ. -/
def resultWord (value : Int) (suspect : Bool) (flags seq : Nat) : Word :=
  (BitVec.ofInt 24 value ++ (if suspect then 1#1 else 0#1) ++ BitVec.ofNat 3 (flags / 16) ++ BitVec.ofNat 4 seq : BitVec 32)

/-- The VALUE of a result word. -/
def valueOf (w : Word) : Int := (w.extractLsb' 8 24).toInt

/-- The SUSPECT bit of a result word. -/
def suspectOf (w : Word) : Bool := w.getLsbD 7

/-- The CLIPPED bit of a result word. -/
def clippedOf (w : Word) : Bool := w.getLsbD 4

/-- The latest-result register of a channel; those of unused cells read 0 (R129). -/
def State.latest (s : State) (ch : Nat) : Word :=
  if ch < 24 && !(s.used (ch + 1)) then 0 else vget s.res.latest 0 ch

/-- The cell voltage of R241 in µV: 5.5 V where the latest word is marked or there is none. DEDUCED, log entry 59. -/
def State.sluV (s : State) (n : Nat) : Int :=
  let w := s.latest (n - 1)
  if s.res.had.testBit (n - 1) && s.used n && !(suspectOf w) && !(clippedOf w) then valueOf w else 5500000

end Sys2Proof.Machine
end

