-- ==== Sys2Proof/Machine/SluiceCalc.lean ====
section
/-! DEFINITION. Machine/SluiceCalc.lean: the balance requests, the allocation of duty and the recomputation under a THROTTLE
reaction (R178 to R181, R236 to R245). -/

namespace Sys2Proof.Machine

/-- Ticks × 0.1 mA in 1 mC. -/
def mC : Nat := 2000000000

/-- The balance path of cell `n`, 1 to 24. -/
def State.bal (s : State) (n : Nat) : BalCell := vget s.slu.cells BalCell.init (n - 1)

/-- The state with the balance path of cell `n` changed. -/
def State.setBal (s : State) (n : Nat) (f : BalCell → BalCell) : State :=
  if n = 0 then s else { s with slu := { s.slu with cells := vmod s.slu.cells (n - 1) f } }

/-- The numbers of the cells. -/
def cellNos : List Nat := (List.range 24).map (· + 1)

/-- THROTTLE is in effect (R359). -/
def State.throttled (s : State) : Bool := s.flt.src.any (fun e => e.2.holdT)

/-- STOP_BALANCE is in effect (R359). -/
def State.stopped (s : State) : Bool := s.flt.src.any (fun e => e.2.holdS)

/-- The stored request asks for duty (R236). -/
def BalReq.asks : BalReq → Bool
  | .none => false
  | .level n => decide (0 < n)
  | .quota r => decide (0 < r)

/-- The level a request counts as (R240). -/
def BalReq.asLevel : BalReq → Nat
  | .none => 0
  | .level n => n
  | .quota r => if 0 < r then 256 else 0

/-- LEVEL of a request as it stands (Table 8.6). -/
def BalReq.levelField : BalReq → Nat
  | .none => 0 | .level n => n | .quota _ => 256

/-- The request of a cell that the hardware acts on (R59): where an overlay entry gives LEVEL another value, a level request of that value.
DEDUCED, log entry 29. -/
def State.effReq (s : State) (n : Nat) : BalReq :=
  let w := put (s.bal n).req.levelField 0 9
  let v := overlaid s.ovl.snap (0x101F + n) w
  if v = w then (s.bal n).req
  else match min 256 (Sys2Proof.fld v 0 9) with
    | 0 => .none
    | k => .level k

/-- A cell is eligible for duty (R236). -/
def State.eligible (s : State) (n : Nat) : Bool :=
  decide (s.pwr.mode = .balance) && s.bit 0x1000 31 && !s.stopped && s.used n && !(s.busbar n) && !((s.bal n).hold) &&
    (s.effReq n).asks

/-- SLU_RES as the frame in progress takes it (R238); before the first frame, as it stands. -/
def State.sluRes (s : State) : Word := s.slu.frameRes.getD (s.eff 0x1003)

/-- SLU_GAP as the frame in progress takes it (R238); before the first frame, as it stands. -/
def State.sluGap (s : State) : Word := s.slu.frameGap.getD (s.eff 0x1004)

/-- R_H in units of 0.1 Ω (Table 8.6). -/
def State.rh (s : State) : Nat := max 10 (Sys2Proof.fld s.sluRes 0 16)

/-- R_EXT in units of 0.1 Ω. -/
def State.rext (s : State) : Nat := max 10 (Sys2Proof.fld s.sluRes 16 16)

/-- The square of a cell's voltage in V², from µV. -/
def vSq (v : Int) : Rat := (v : Rat) * v / 1000000000000

/-- The predicted die power of an internal cell in mW (R241). -/
def State.pdPred (s : State) (n : Nat) : Rat :=
  vSq (s.sluV n) * (5 / 2) / ((2 * (s.rh : Rat) / 10 + 5 / 2) ^ 2) * 1000

/-- The predicted board power of an internal cell in mW (R241). -/
def State.pbPred (s : State) (n : Nat) : Rat :=
  vSq (s.sluV n) * (2 * (s.rh : Rat) / 10) / ((2 * (s.rh : Rat) / 10 + 1) ^ 2) * 1000

/-- The die power of a cell at full duty (R241), from the sums of the frame that ends. -/
def State.pdOf (s : State) (n : Nat) : Rat :=
  let c := s.bal n
  if c.xfet then 0 else if 0 < c.slots then (c.sumCD : Rat) / c.sumT / 10000 else s.pdPred n

/-- The board power of a cell at full duty (R241). -/
def State.pbOf (s : State) (n : Nat) : Rat :=
  let c := s.bal n
  if c.xfet then vSq (s.sluV n) / ((s.rext : Rat) / 10) * 1000
  else if 0 < c.slots then (c.sumCB : Rat) / c.sumT / 10000 else s.pbPred n

/-- The current of a closed external path in units of 0.1 mA: V / R_EXT (R243, Table 8.6). -/
def State.extCur (s : State) (n : Nat) : Rat := ((s.sluV n).toNat : Rat) / (10 * s.rext)

/-! ## Edges and the open-wire hold -/

/-- The edge that an output makes now (R235, Table 8.2). -/
def State.edgeNow (s : State) : Edge :=
  let t := 100 * 2 ^ s.fld 0x1000 8 2
  ⟨decide (2 ≤ s.thm.band), if 3 ≤ s.thm.band then t * 3 / 2 else t⟩

/-- The taps of a phase (R84), with the number of cells as it stands. DESIGN CHOICE, log entry 134. -/
def State.owTaps (s : State) (phase : Nat) : List Nat := (List.range (s.ncells + 1)).filter (fun k => decide (k % 3 = phase))

/-- The cells converted for a tap (Table 3.3). -/
def State.tapCells (s : State) (k : Nat) : List Nat :=
  if k = 0 then [1] else if k < s.ncells then [k, k + 1] else [s.ncells - 1, s.ncells]

/-- The affected set of a phase, ascending (R84). -/
def State.owCells (s : State) (phase : Nat) : List Nat :=
  (List.range 25).filter (fun n => (s.owTaps phase).any (fun k => (s.tapCells k).contains n))

/-- The balance output of a cell is held off by a phase in progress (R84). -/
def State.owHeld (s : State) (n : Nat) : Bool :=
  match s.cfe.run with
  | some r => decide (r.step ≠ .due) && (s.owCells r.phase).contains n
  | none => false

/-- The duty of cell `n` before scaling: its level cut by the adjacency rule among internal cells (R240). -/
def adjDuty (l : Nat → Nat) (internal : Nat → Bool) (u n : Nat) : Nat :=
  let h := u / 2
  let cut := fun d m => if internal n && internal m && decide (0 < l m) then min d (u - min (l m) h) else d
  cut (cut (l n) (n - 1)) (n + 1)

/-- A ratio of budget to power, none where the power is 0. -/
def ratioOf (b p : Rat) : Option Rat := if 0 < p then some (b / p) else none

/-- A ratio rounded down to the fraction bits of k (R240). DESIGN CHOICE, log entry 16. -/
def roundK (r : Rat) : Rat :=
  let f := 2 ^ (16 + Config.kExtraBits)
  (((r * (f : Rat)).floor : Int) : Rat) / (f : Rat)

/-- The scaling k of R240 and the budgets that determined it: die, board. -/
def scaleOf (bDie bBoard pDie pBoard : Rat) : Rat × Bool × Bool :=
  let rd := (ratioOf bDie pDie).getD 1
  let rb := (ratioOf bBoard pBoard).getD 1
  let m := min 1 (min rd rb)
  (roundK m, decide (m < 1) && decide (rd = m), decide (m < 1) && decide (rb = m))

/-- The budget factor (R244). -/
def State.thrFactor (s : State) : Rat := if s.throttled then (atLeast1 (s.fld 0x1000 12 4) : Rat) / 16 else 1

/-- The duties of the frame computed from levels, powers and budgets taken at its start (R240). -/
def State.allocate (s : State) : State :=
  let c := fun n => s.bal n
  let l := fun n => if n = 0 ∨ 24 < n then 0 else (c n).l
  let internal := fun n => decide (1 ≤ n) && decide (n ≤ 24) && !((c n).xfet)
  let d := fun n => if (c n).xnew then 0 else adjDuty l internal s.slu.frameU n
  let pDie := (cellNos.map (fun n => (d n : Rat) / 256 * (c n).pd)).sum
  let pBoard := (cellNos.map (fun n => (d n : Rat) / 256 * (c n).pb)).sum
  let (k, ld, lb) := scaleOf ((s.slu.frameDie : Rat) * s.thrFactor) ((s.slu.frameBoard : Rat) * s.thrFactor) pDie pBoard
  let e := fun n => ((d n : Rat) * k).floor.toNat
  let s := cellNos.foldl (fun s n => s.setBal n (fun b => { b with duty := e n })) s
  { s with slu :=
      { s.slu with
        k256 := (k * 256).floor.toNat, limDie := ld, limBoard := lb
        dieP := ((cellNos.map (fun n => (e n : Rat) / 256 * (c n).pd)).sum).floor.toNat
        boardP := ((cellNos.map (fun n => (e n : Rat) / 256 * (c n).pb)).sum / 10).floor.toNat } }

/-- Slot `i` lies in the on-interval of cell `n` (R242). -/
def State.inSlot (s : State) (n i : Nat) : Bool :=
  let d := (s.bal n).duty
  if n % 2 = 1 then decide (i < d) else decide (s.slu.frameU - d ≤ i) && decide (i < s.slu.frameU)

/-- An output opens at clock `t` with an edge: no current, and its on-interval ends; the time it was on in the slot stands (R243). -/
def BalCell.opened (t : Nat) (e : Edge) (c : BalCell) : BalCell :=
  if c.on then
    { c with
      on := false, cur := 0, since := t, edge := e, pulse := none, mark := none
      onT := c.onT + (match c.mark with | some m => t - m | none => 0) }
  else c

/-- An output closes at clock `t` with an edge, by the sluice in slot `i`. -/
def BalCell.closed (t : Nat) (e : Edge) (i : Nat) (c : BalCell) : BalCell :=
  if c.on then c else { c with on := true, since := t, edge := e, closedIn := i, mark := some t, checked := false, cur := 0 }

/-- The output of cell `n` opens. -/
def State.openOut (s : State) (n : Nat) : State := s.setBal n (BalCell.opened s.clk s.edgeNow)

/-- Every output opens (R244, R245, R358). -/
def State.openAll (s : State) : State :=
  let s := cellNos.foldl State.openOut s
  match s.spc.run with
  | some r => { s with spc := { s.spc with run := some { r with closed := false } } }
  | none => s

/-- The frame is recomputed with the budget factor in effect; outputs whose new on-interval is over open (R244). -/
def State.recompute (s : State) : State :=
  if s.pwr.mode = .balance ∧ s.slu.running then
    let s := cellNos.foldl (fun s n => if s.eligible n then s else s.setBal n (fun b => { b with l := 0 })) s
    let s := s.allocate
    cellNos.foldl (fun s n => if (s.bal n).on && !(s.inSlot n s.slu.slot) then s.openOut n else s) s
  else s

/-- The output of cell `n` as slot `i` stands (R84, R236, R242). DEDUCED, log entry 76. -/
def State.driveCell (s : State) (i n : Nat) : State :=
  if decide (i < 256) && s.inSlot n i && s.eligible n && !(s.owHeld n) then s.setBal n (BalCell.closed s.clk s.edgeNow i)
  else s.openOut n

/-- Outputs that a hold kept open close again in the slot in progress where their on-interval goes on (R84, R236). -/
def State.redrive (s : State) : State :=
  if s.pwr.mode = .balance ∧ s.slu.running ∧ s.slu.next ≤ 256 then
    cellNos.foldl (fun (s : State) n => s.driveCell (s.slu.next - 1) n) s
  else s

/-- A withdrawal takes effect at once: the cell's duty ends and its output opens (R238). -/
def State.withdrawDuty (s : State) (n : Nat) : State :=
  s.setBal n (fun c => { c.opened s.clk s.edgeNow with l := 0, duty := 0 })

/-- Cells that have lost eligibility lose their duty at once, and count 0 in the rest of the frame (R238, R244). -/
def State.dropLost (s : State) : State :=
  cellNos.foldl (fun s n => if (0 < (s.bal n).duty ∨ 0 < (s.bal n).l) ∧ ¬s.eligible n then s.withdrawDuty n else s) s

/-- A level request of a requester; 0 withdraws (R179, Table 8.6). -/
def State.setLevel (s : State) (rq : Requester) (n level : Nat) : State :=
  if level = 0 then (s.setBal n (fun c => { c with req := .none, owner := none })).withdrawDuty n
  else s.setBal n (fun c => { c with req := .level (min level 256), owner := some rq })

/-- A quota request of a requester in mC; 0 withdraws (R180). -/
def State.setQuota (s : State) (rq : Requester) (n q : Nat) : State :=
  if q = 0 then (s.setBal n (fun c => { c with req := .none, owner := none })).withdrawDuty n
  else s.setBal n (fun c => { c with req := .quota (q * mC), owner := some rq })

/-- The quota remaining in whole mC, rounded up; 0 where there is none (R243). -/
def BalReq.remain : BalReq → Nat
  | .quota r => (r / mC).ceil.toNat
  | _ => 0

/-- A requester that comes after `rq` in the order of R26 has set the request of cell `n` in this cycle (R181). -/
def State.reqTaken (s : State) (rq : Requester) (n : Nat) : Bool := s.outranked rq (0x101F + n) 2

/-- `rq` sets the request of cell `n` in this cycle; what remains of the quota before the cycle's first request is kept (R181). -/
def State.noteReq (s : State) (rq : Requester) (n : Nat) : State :=
  (s.noteOld (0x101F + n) 3 (BitVec.ofNat 32 (s.bal n).req.remain)).noteRank rq (0x101F + n) 2

/-- A level request; of the requests of one cycle for a cell the last in the order of R26 stands (R181). -/
def State.reqLevel (s : State) (rq : Requester) (n level : Nat) : State :=
  if s.reqTaken rq n then s else (s.noteReq rq n).setLevel rq n level

/-- A quota request; of the requests of one cycle for a cell the last in the order of R26 stands (R181). -/
def State.reqQuota (s : State) (rq : Requester) (n q : Nat) : State :=
  if s.reqTaken rq n then s else (s.noteReq rq n).setQuota rq n q

/-- What remained of the quota that a request of `rq` replaces (R180): one that is itself replaced in the same cycle replaces the request from
before the cycle. DEDUCED, log entry 133. -/
def State.replacedQuota (s : State) (rq : Requester) (n : Nat) : Word :=
  if s.reqTaken rq n then (s.oldWord (0x101F + n) 3).getD 0 else BitVec.ofNat 32 (s.bal n).req.remain

/-- A write of SLU_REQn.LEVEL (R59, Table 8.6): a request, but where every bit is covered and keeps its underlying value. DEDUCED, log entry
29. -/
def State.writeLevel (s : State) (rq : Requester) (n : Nat) (v : Word) : State :=
  let m := taken 0x1FF (s.covered (0x101F + n)) (put (s.effReq n).levelField 0 9) v
  if m = 0 then s else s.reqLevel rq n (Sys2Proof.fld (merged (put (s.bal n).req.levelField 0 9) m v) 0 9)

/-- Every request that a jet was the last to set is withdrawn (R181). -/
def State.withdrawJet (s : State) (j : Nat) : State :=
  cellNos.foldl (fun s n =>
    if (s.bal n).owner = some (.jet j) then (s.setBal n (fun c => { c with req := .none, owner := none })).withdrawDuty n
    else s) s

end Sys2Proof.Machine
end

