-- ==== Sys2Proof/Machine/Modes.lean ====
section
/-! DEFINITION. Machine/Modes.lean: overlay snapshots, the beginning of an overlay commit, and the operation table of the long
operations (R51 to R60, R222 to R229). -/

namespace Sys2Proof.Machine

/-- Ticks in one core cycle with the core clock in use (Table 2.3, R48). -/
def State.cycle (s : State) : Nat :=
  match s.pwr.coreSrc with
  | .pll => 1
  | .ref => 8
  | .lpo => 800

/-- What follows in the next core cycle: `f` dates it to that cycle, and the clock stays at the present one (R202, R207). The records of
both cycles are kept. DEDUCED, log entry 66. -/
def State.nextCycle (s : State) (f : State → State) : State :=
  let t := f (s.elapse s.cycle)
  { t with time := s.time, cyc := s.cyc.filter (fun c => decide (c.at_ = s.clk)) ++ t.cyc.filter (fun c => decide (s.clk < c.at_)) }

/-- Time passes until the clock reads at least `t`. DEDUCED, log entry 3; DESIGN CHOICE, log entry 123. -/
def State.until_ (s : State) (t : Nat) : State := s.elapse (t - s.clk)

/-- Time passes until the timebase has reached `t`. DEDUCED, log entry 3. -/
def State.untilTb (s : State) (t : Tick) : State := if s.reached t then s else s.elapseTb (t - s.tb).toNat

/-- Time passes until a timebase value that is `phase` modulo `period` and above all reached before counts as reached, not at all where
one does now (R317). DEDUCED, log entry 3. -/
def State.untilMod (s : State) (period phase : Nat) : State :=
  if s.reachedMod period phase then s
  else
    let top := s.time.tbMax.toNat
    s.elapseTb (top - s.tbn + (period - (top + period - phase % period) % period))

/-- NET_RATE is set: INC is 1 on the bridge (R312). A rate beyond one half is taken as one half. DESIGN CHOICE, log entry 20. -/
def State.setRate (s : State) (rate : Int) : State :=
  { s with time := { s.time with rate := if s.bridge then 0 else max (-500000000) (min 500000000 rate) } }

/-! ## Overlays -/

/-- Entry `i` of the overlay of mode number `m`. -/
def State.ovlEntry (s : State) (m i : Nat) : OvlEntry := Sparse.get ⟨false, 0, 0, 0⟩ s.ovl.entries (m * 128 + i)

/-- The valid entries of the overlay of a mode, in index order (R58, R59). Modes outside 3 to 10 have none. -/
def State.snapOf (s : State) (m : Mode) : List OvlEntry :=
  if 3 ≤ m.num ∧ m.num ≤ 10 then ((List.range 128).map (s.ovlEntry m.num)).filter (·.valid) else []

/-- The number of entries in use of the overlay of mode number `m` (R58). -/
def State.ovlCount (s : State) (m : Nat) : Nat :=
  if 3 ≤ m ∧ m ≤ 10 then (((List.range 128).map (s.ovlEntry m)).filter (·.valid)).length else 0

/-- The number of entries in use across all overlays. -/
def State.ovlUsed (s : State) : Nat := ((List.range 8).map (fun i => s.ovlCount (i + 3))).sum

/-! ## Long operations -/

/-- The modes in which an operation of a kind may stand (Table 7.9), as the least and the greatest mode number. -/
def opModes : Nat → Nat × Nat
  | 1 => (6, 6) | 2 => (8, 8) | 3 => (7, 7) | 4 => (9, 9) | _ => (4, 10)

/-- An operation is carried by the steward (Table 7.9). -/
def opSteward (kind : Nat) : Bool := decide (kind ≠ 1)

/-- The entry is in use and its operation is not terminal. -/
def Oper.live (o : Oper) : Bool :=
  decide (o.tag ≠ 0) && (match o.st with | .running => true | .suspended => true | .cancelling => true | _ => false)

/-- The index of the unfinished operation of a kind. -/
def State.opOfKind (s : State) (kind : Nat) : Option Nat :=
  (List.range 8).find? (fun i => (vget s.seq.ops Oper.empty i).live && decide ((vget s.seq.ops Oper.empty i).kind = kind))

/-- The unfinished operation of a kind. -/
def State.oper (s : State) (kind : Nat) : Option Oper := (s.opOfKind kind).map (vget s.seq.ops Oper.empty)

/-- The operation of a kind is in the given state. -/
def State.opIs (s : State) (kind : Nat) (st : OpSt) : Bool :=
  match s.oper kind with
  | some o => decide (o.st = st)
  | none => false

/-- The state with the unfinished operation of a kind changed. -/
def State.setOp (s : State) (kind : Nat) (f : Oper → Oper) : State :=
  match s.opOfKind kind with
  | some i => { s with seq := { s.seq with ops := vmod s.seq.ops i f } }
  | none => s

/-- The operations of steward-carried kinds that leave their modes, and a spectrum run that leaves its mode, move to CANCELLING in
the cycle in which a commit to `target` begins (R228). -/
def State.leaveOps (s : State) (target : Mode) : State :=
  { s with seq :=
      { s.seq with
        ops := s.seq.ops.map (fun o =>
          if o.live && decide (o.st ≠ .cancelling) &&
              !(decide ((opModes o.kind).1 ≤ target.num) && decide (target.num ≤ (opModes o.kind).2)) then
            { o with st := .cancelling, pend := false, modeLeft := true }
          else o) } }

/-! ## Commits -/

/-- An overlay commit begins: COMMIT_BUSY, the snapshot of the overlay to be applied, the lock closed, the operations that leave
their modes moved to CANCELLING (R57, R60, R228). DEDUCED, log entry 32. -/
def State.beginCommit (s : State) (target : Mode) (why : CommitWhy) : State :=
  let s := s.leaveOps target
  { s with pwr := { s.pwr with commit := some ⟨target, why, s.snapOf target, s.clk, []⟩, lockOwner := none } }

/-- The graver of two mode reactions. -/
def graver (a : Option Mode) (m : Mode) : Mode :=
  match a with
  | some .lockout => .lockout
  | _ => m

/-- Mode control takes a mode reaction: after the commit in progress (R25), held in RESET (R466), else a commit begins. DEDUCED, log entry 42. -/
def State.reactMode (s : State) (m : Mode) : State :=
  match s.pwr.commit with
  | some _ => { s with pwr := { s.pwr with nextReact := some (graver s.pwr.nextReact m) } }
  | none =>
    if s.pwr.mode = .reset then { s with pwr := { s.pwr with heldReact := some (graver s.pwr.heldReact m) } }
    else s.beginCommit m .reaction

/-- The mode that the device is in once what mode control has taken up is done: a reaction that waits, the commit in progress, a
reaction held in RESET. -/
def State.destMode (s : State) : Mode :=
  match s.pwr.nextReact, s.pwr.commit with
  | some m, _ => m
  | none, some c => c.target
  | none, none => s.pwr.heldReact.getD s.pwr.mode

/-- A mode reaction that would change nothing: the device is in that mode or in LOCKOUT, or on its way there (R358). -/
def State.modeInEffect (s : State) (m : Mode) : Bool :=
  decide (s.pwr.mode = .lockout) || decide (s.destMode = .lockout) || decide (s.destMode = m)

/-- A new operation is entered in the operation table with a tag of its own (R222, R223, R229): the tag and the state. One that the
steward carries is held while the steward does not run (R29, R227). DEDUCED, log entry 121. -/
def State.startOp (s : State) (kind : Nat) (owner : Requester) : Nat × State :=
  let held := fun t => s.seq.ops.toList.any (fun o => decide (o.tag = t))
  let next := fun t => if t = 65535 then 1 else t + 1
  let pick := fun (t : Nat) => (List.range 9).foldl (fun t _ => if held t then next t else t) t
  let tag := pick s.seq.nextTag
  let at_ := fun i => vget s.seq.ops Oper.empty i
  let slot := match (List.range 8).find? (fun i => decide ((at_ i).tag = 0)) with
    | some i => i
    | none => ((List.range 8).filter (fun i => !((at_ i).live))).foldl
        (fun b i => if b = 8 then i else if (at_ i).endAt < (at_ b).endAt then i else b) 8
  let held := opSteward kind && !s.stw
  let o : Oper :=
    { Oper.empty with tag := tag, st := if held then .suspended else .running, kind := kind, owner := owner, scStw := held }
  (tag, { s with seq := { s.seq with ops := vset s.seq.ops slot o, nextTag := next tag } })

/-- AUTO_RETURN: the last operation of the mode has ended, and the device commits to RETURN_MODE (R53). -/
def State.autoReturn (s : State) (kind : Nat) : State :=
  if decide (kind ≤ 4) && decide ((opModes kind).1 = s.pwr.mode.num) && s.bit 0x104 8 && s.pwr.commit.isNone then
    s.beginCommit s.pwr.returnMode .auto
  else s

/-- The unfinished operation of a kind becomes terminal (R224, R225, R53): END_CAUSE and END_CODE recorded, OP_FLAG set. -/
def State.endOp (s : State) (kind : Nat) (st : OpSt) (cause code : Nat) : State :=
  match s.opOfKind kind with
  | none => s
  | some _ =>
    let s := s.setOp kind (fun o => { o with st := st, pend := false, endCause := cause, endCode := code, endAt := s.clk })
    let s := if s.bit 0xC60 7 then s.setFlag (s.fld 0xC60 0 6) else s
    s.autoReturn kind

/-- The END_CAUSE of a cancelled operation: CANCEL or mode left (R228, Table 7.12). -/
def Oper.cancelCause (o : Oper) : Nat := if o.modeLeft then 3 else 2

end Sys2Proof.Machine
end

