-- ==== Sys2Proof/Machine/Faults.lean ====
section
/-! DEFINITION. Machine/Faults.lean: the fault collector: presentation, escalation, shadows, records, notification and the issue
of reactions (R354 to R366). -/

namespace Sys2Proof.Machine

/-- The collector's state of source `i`. -/
def State.fsrc (s : State) (i : Nat) : FltSrc := Sparse.get FltSrc.clear s.flt.src i

/-- The state with the collector's state of source `i` replaced. -/
def State.setFsrc (s : State) (i : Nat) (f : FltSrc) : State :=
  { s with flt := { s.flt with src := Sparse.set FltSrc.clear s.flt.src i f } }

/-- Source `i` belongs to the balance shadow group B (Table 14.1). -/
def groupB (i : Nat) : Bool := decide (i ≤ 47) || (decide (73 ≤ i) && decide (i ≤ 96)) || decide (i = 119)

/-- Source `i` belongs to the mode shadow group M (Table 14.1). -/
def groupM (i : Nat) : Bool := (decide (140 ≤ i) && decide (i ≤ 142)) || decide (i = 157) || decide (i = 158)

/-- The live bit of source `i` (R354, Table 14.1). -/
def State.live (s : State) (i : Nat) : Bool :=
  if i ≤ 23 then s.res.ovMask.testBit i
  else if i ≤ 47 then s.res.uvMask.testBit (i - 24)
  else if i ≤ 72 then s.cfe.openTaps.testBit (i - 48)
  else if i ≤ 96 then false
  else if i ≤ 106 then s.res.aux.testBit (i - 97)
  else if i ≤ 112 then (vget s.thm.sens default (i - 107)).hot
  else if i ≤ 118 then (vget s.thm.sens default (i - 113)).rise
  else match i with
    | 119 => s.thm.sens.toList.any (·.disSince.isSome)
    | 123 => s.res.stackOv || s.res.stackHi
    | 124 => s.res.stackUv
    | 127 => !(s.pwr.supplyOk.testBit 2)
    | 128 => s.res.refMis
    | 129 => !s.pwr.lpoOk
    | 131 => !s.pwr.refOk
    | 156 => s.nvm.bindMis
    | _ => false

/-- The base class of source `i` (R355). -/
def State.baseClass (s : State) (i : Nat) : Nat := s.fld (0x1B00 + i) 28 2

/-- The base reaction of source `i`; codes 6 and 7 select 5 (Table 14.2). -/
def State.baseReact (s : State) (i : Nat) : Nat := min 5 (s.fld (0x1B00 + i) 24 3)

/-- The effective class of source `i` (R357). -/
def State.eclass (s : State) (i : Nat) : Nat := min 3 (s.baseClass i + (s.fsrc i).esc)

/-- The class floors of Table 14.2. -/
def classFloor : Nat → Nat
  | 0 => 0 | 1 => 1 | 2 => 3 | _ => 4

/-- The effective reaction of source `i` (R356). -/
def State.ereact (s : State) (i : Nat) : Nat :=
  if (s.fsrc i).lockDone then 5
  else if s.eclass i = s.baseClass i then s.baseReact i
  else max (s.baseReact i) (classFloor (s.eclass i))

/-- The highest effective class among uncleared sources, 0 when there are none (R361). -/
def State.maxClass (s : State) : Nat := ((s.flt.src.filter (fun e => e.2.sticky)).map (fun e => s.eclass e.1)).foldl max 0

/-- The place of a record among those of its cycle: sources in ascending index, then the reactions (R358). -/
def FltRec.place (r : FltRec) : Nat := if r.kind = .reaction then 160 + r.react else r.src

/-- A queued record comes after `r`, being of the same cycle (R358); a clear stands where it came. -/
def FltRec.after (r e : FltRec) : Bool :=
  decide (e.time = r.time) && decide (e.kind ≠ .cleared) && decide (r.kind ≠ .cleared) && decide (r.place < e.place)

/-- A queue with a record put in its place among those of its cycle. -/
def queueRec (q : List FltRec) (r : FltRec) : List FltRec :=
  let back := q.reverse
  (back.dropWhile r.after).reverse ++ r :: (back.takeWhile r.after).reverse

/-- A record is queued; a full queue loses it (R365, R366). DEDUCED, log entry 106. -/
def State.record (s : State) (kind : RecKind) (i : Nat) (sec : Bool) : State :=
  let r : FltRec :=
    { kind := kind, src := i, cls := s.eclass i, react := s.ereact i, sec := sec, cnt := (s.fsrc i).cnt,
      first := (s.fsrc i).first.getD 0, time := s.tb }
  if s.flt.queue.length < 32 then { s with flt := { s.flt with queue := queueRec s.flt.queue r } }
  else { s with flt := { s.flt with lost := inc 255 s.flt.lost } }

/-- The address a frame of this device carries. DEDUCED, log entry 98. -/
def State.selfAddr (s : State) : Nat := s.addr.getD 0

/-- The NOTIFY frame of an occasion (R362, Table 10.6). -/
def State.notifyFrame (s : State) (i : Nat) (sec : Bool) : Frame :=
  { typ := 9, cnt := 0, addr := s.selfAddr, cls := 0, tag := 0
    payload := beBytes 2 i ++ beBytes 1 (s.eclass i) ++ beBytes 1 (b2n sec * 128 + s.ereact i) ++ beBytes 2 (s.fsrc i).notified ++
      beBytes 2 0 ++ beBytes 8 ((s.fsrc i).first.getD 0).toNat }

/-- The notification of an occasion, where NOTIFY_EN is set and the effective reaction is at least NOTIFY (R362). DEDUCED, log entry 98. -/
def State.notify (s : State) (i : Nat) (sec : Bool) : State :=
  if s.bit 0x1A00 31 && decide (1 ≤ s.ereact i) then s.sendInbound 4 (s.notifyFrame i sec) else s

/-- A shadow is open in this cycle and has not been opened by the source (R363, R364). DEDUCED, log entry 105. -/
def Shadow.covers (sh : Option Shadow) (clk i : Nat) : Bool :=
  match sh with
  | some h => decide (h.opens ≤ clk) && decide (clk < h.ends) && !(h.openers.contains i)
  | none => false

/-- The number of the shadow in which a presentation of source `i` is secondary (R364). -/
def State.shadowOf (s : State) (i : Nat) : Option Nat :=
  if groupB i && Shadow.covers s.flt.shadowB s.clk i then s.flt.shadowB.map (·.id)
  else if (groupB i || groupM i) && Shadow.covers s.flt.shadowM s.clk i then s.flt.shadowM.map (·.id)
  else none

/-- The bit of source `i` in the register of its 32 sources from `a` on is set by the device in this cycle (R12). -/
def State.srcSet (s : State) (a i : Nat) : State := s.wcSet (a + i / 32) (putb true (i % 32))

/-- A secondary presentation (R364). -/
def State.secondary (s : State) (i id : Nat) : State :=
  let s := s.srcSet 0x1A20 i
  let f := s.fsrc i
  let s' := s.setFsrc i
    { f with secCnt := inc 255 f.secCnt, sec := true, secIn := some id, last := (s.tb.setWidth 32).toNat }
  if f.secIn = some id then s' else (s'.record .secondary i true).notify i true

/-- The window of source `i` has run W, on the timebase (R357). -/
def State.winOver (s : State) (i : Nat) : Bool :=
  decide ((s.fsrc i).winStart + atLeast1 (s.fld (0x1B00 + i) 0 16) * msTicks ≤ (s.tbn : Int))

/-- A clear of source `i` in this cycle is undone: a primary presentation of it falls in the same cycle (R360). -/
def State.unclear (s : State) (i : Nat) : State :=
  match s.nowCyc.cleared.find? (fun e => decide (e.1 = i)) with
  | some (_, f) =>
    let s := s.setFsrc i f
    { s.cycMod (fun c => { c with cleared := c.cleared.filter (fun e => decide (e.1 ≠ i)) }) with
      flt := { s.flt with queue := s.flt.queue.filter (fun r =>
        !(decide (r.kind = .cleared) && decide (r.src = i) && decide (r.time = s.tb))) } }
  | none => s

/-- A primary presentation, up to the issue of its reaction (R357). -/
def State.primary (s : State) (i : Nat) : State :=
  let s := (s.unclear i).srcSet 0x1A10 i
  let f := s.fsrc i
  let n := atLeast1 (s.fld (0x1B00 + i) 16 8)
  let f := if !f.winOpen || s.winOver i then { f with winOpen := true, winStart := s.tbn, cnt := 0 } else f
  let f := { f with cnt := f.cnt + 1, notified := f.cnt + 1 }
  let fresh := !f.sticky
  let f := if fresh then { f with sticky := true, first := some s.tb, firstReg := s.tb } else f
  let s := s.setFsrc i f
  let s := if fresh then (s.record .first i false).notify i false else s
  let s := if fresh && s.bit 0x1A00 7 then s.setFlag (s.fld 0x1A00 0 6) else s
  let s := s.setFsrc i { s.fsrc i with last := (s.tb.setWidth 32).toNat }
  if n ≤ f.cnt then
    let s := s.setFsrc i { s.fsrc i with winOpen := false }
    if s.eclass i < 3 then
      ((s.setFsrc i { s.fsrc i with esc := (s.fsrc i).esc + 1, escCnt := inc 255 (s.fsrc i).escCnt }).record
        .escalated i false).notify i false
    else if s.bit (0x1B00 + i) 31 && !(s.fsrc i).lockDone then
      ((s.setFsrc i { s.fsrc i with lockDone := true, escCnt := inc 255 (s.fsrc i).escCnt }).record
        .escalated i false).notify i false
    else s
  else s

/-- The duration of a shadow (R363). -/
def State.shadowLen (s : State) : Nat := atLeast1 (s.fld 0x1A00 16 8) * 100 * usTicks

/-- A shadow opened by a reaction of this cycle; one opened in the same cycle already has its openers joined (R363). -/
def State.openShadow (s : State) (old : Option Shadow) (openers : List Nat) : Shadow :=
  let joined := match old with
    | some h => if h.opens = s.clk + s.cycle then h.openers else []
    | none => []
  ⟨s.flt.shadowN + 1, s.clk + s.cycle, s.clk + s.cycle + s.shadowLen, joined ++ openers⟩

/-- FLT_LASTR after the reactions of this cycle: the last in the order of R358, with the lowest source that calls for it. -/
def State.noteReact (s : State) (code src : Nat) : State :=
  let l : List (Nat × Nat) := (code, src) :: s.nowCyc.reacts
  let top := (l.map (fun (e : Nat × Nat) => e.1)).foldl max 0
  let low := ((l.filter (fun (e : Nat × Nat) => decide (e.1 = top))).map (fun e => e.2)).foldl min 159
  { s.cycMod (fun c => { c with reacts := l }) with flt := { s.flt with lastRe := top, lastSrc := low } }

/-- Sources of this cycle that call for a reaction that others of the cycle have already brought into effect (R358, R363). -/
def State.joinReact (s : State) (code : Nat) (l : List Nat) : State :=
  if l ≠ [] ∧ s.nowCyc.reacts.any (fun e => decide (e.1 = code)) then
    let join := fun (h : Shadow) => if h.opens = s.clk + s.cycle then { h with openers := h.openers ++ l } else h
    let s := s.noteReact code (l.headD 0)
    { s with flt := { s.flt with shadowB := s.flt.shadowB.map join, shadowM := if 4 ≤ code then s.flt.shadowM.map join else s.flt.shadowM } }
  else s

/-- A reaction that changes something: its shadows, its record, FLT_LASTR (R358, R363, R365). -/
def State.reacted (s : State) (code : Nat) (openers : List Nat) : State :=
  let src := openers.headD 0
  let b := s.openShadow s.flt.shadowB openers
  let s := (({ s with flt := { s.flt with shadowB := some b, shadowN := s.flt.shadowN + 1 } }).noteReact code src)
  let s := if 4 ≤ code then
      { s with flt :=
          { s.flt with shadowM := some (s.openShadow s.flt.shadowM openers), shadowN := s.flt.shadowN + 1 } }
    else s
  s.record .reaction src false

/-- The sources become holders of THROTTLE or STOP_BALANCE (R359). -/
def State.holdAll (s : State) (t : Bool) (l : List Nat) : State :=
  l.foldl (fun s i => s.setFsrc i (if t then { s.fsrc i with holdT := true } else { s.fsrc i with holdS := true })) s

/-- THROTTLE is issued by the listed sources (R244, R358). -/
def State.issueThrottle (s : State) (l : List Nat) : State :=
  if l = [] then s
  else if s.throttled then (s.holdAll true l).joinReact 2 l
  else ((s.holdAll true l).recompute).reacted 2 l

/-- STOP_BALANCE is issued by the listed sources (R244, R358). -/
def State.issueStop (s : State) (l : List Nat) : State :=
  if l = [] then s
  else if s.stopped then (s.holdAll false l).joinReact 3 l
  else (((s.holdAll false l).openAll).dropLost).reacted 3 l

/-- A SAFE_MODE reaction issued in this cycle gives way to the graver one: its record and its commit, which has not begun to act, go. -/
def State.overrule (s : State) : State :=
  if s.nowCyc.reacts.any (fun e => decide (e.1 = 4)) then
    let s : State := { s with flt := { s.flt with queue := s.flt.queue.filter (fun r =>
      !(decide (r.kind = .reaction) && decide (r.react = 4) && decide (r.time = s.tb))) } }
    match s.pwr.commit with
    | some c =>
      if c.why = .reaction ∧ c.target = .safe ∧ c.start = s.clk then
        { s with pwr := { s.pwr with commit := some { c with target := .lockout, snap := s.snapOf .lockout } } }
      else s
    | none => s
  else s

/-- LOCKOUT is taken up: by the commit that a SAFE_MODE of the same cycle began, else as any mode reaction. -/
def State.lockNow (s : State) : State :=
  let s := s.overrule
  if s.pwr.nextReact = none ∧ s.destMode = .lockout ∧ s.pwr.commit.isSome then s else s.reactMode .lockout

/-- The gravest mode reaction that the listed sources call for is issued (R25, R42, R358). -/
def State.issueMode (s : State) (safe lock : List Nat) : State :=
  if lock ≠ [] then
    if s.modeInEffect .lockout && s.aon.lockout then s.joinReact 5 lock
    else (({ s with aon := { s.aon with lockout := true } }.openAll).lockNow).reacted 5 lock
  else if safe ≠ [] then
    if s.modeInEffect .safe then s.joinReact 4 safe else ((s.openAll).reactMode .safe).reacted 4 safe
  else s

/-- The presentations of one cycle: each source at most once, in ascending index, then the reactions they call for (R354, R357, R358,
R364). The collector is not supplied in SHIP and STILL (R466). DEDUCED, log entry 105. -/
def State.collect (s : State) (l : List Nat) : State :=
  if !s.collectorOn then s
  else
    let srcs := (List.range 160).filter (fun i => l.contains i && !s.nowCyc.shown.contains i)
    let s := s.cycMod (fun c => { c with shown := srcs ++ c.shown })
    let prim := srcs.filter (fun i => (s.shadowOf i).isNone)
    let s := srcs.foldl (fun s i => match s.shadowOf i with | some id => s.secondary i id | none => s.primary i) s
    let calls := fun c => prim.filter (fun i => decide (s.ereact i = c))
    ((s.issueThrottle (calls 2)).issueStop (calls 3)).issueMode (calls 4) (calls 5)

/-- The device has set the bit of source `i` in the register of its 32 sources from `a` on in this cycle (R12). -/
def State.srcFresh (s : State) (a i : Nat) : Bool := (s.wcFresh (a + i / 32)).getLsbD (i % 32)

/-- The sticky bit of source `i` is cleared where its live bit is 0 and no primary presentation of it falls in this cycle (R360). DEDUCED,
log entry 107. -/
def State.clearSticky (s : State) (i : Nat) : State :=
  if s.live i || !(s.fsrc i).sticky || s.srcFresh 0x1A10 i then s
  else
    let f := s.fsrc i
    ((s.cycMod (fun c => { c with cleared := (i, f) :: c.cleared })).setFsrc i
      { f with sticky := false, esc := 0, lockDone := false, cnt := 0, winOpen := false, first := none, holdT := false,
               holdS := false }).record .cleared i false

/-- The secondary bit and counter of source `i` are cleared (R364), but for a bit set in this cycle (R12). -/
def State.clearSec (s : State) (i : Nat) : State :=
  if s.srcFresh 0x1A20 i then s else s.setFsrc i { s.fsrc i with sec := false, secCnt := 0 }

end Sys2Proof.Machine
end

