-- ==== Sys2Proof/Machine/Present.lean ====
section
/-! DEFINITION. Machine/Present.lean: a presentation with everything it brings about in its cycle, the reactions' effect on a
spectrum run included (R259, R260, R271, R272, R357, R358). -/

namespace Sys2Proof.Machine

/-- Nearest whole number, ties away from 0, of a number that is not negative. -/
def roundNat (r : Rat) : Nat := (r + 1 / 2).floor.toNat

/-- Nearest whole number, ties away from 0. -/
def roundInt (r : Rat) : Int := if 0 ≤ r then (r + 1 / 2).floor else -((-r + 1 / 2).floor)

/-- A field of the configuration that a run copied at acceptance (R251). -/
def SpcRun.fld (r : SpcRun) (a lo len : Nat) : Nat := Sys2Proof.fld (vget r.cfg 0 (a - 0x1200)) lo len

/-- The OSR exponent of the step or window in progress. -/
def SpcRun.osrK (r : SpcRun) : Nat := if r.kind = 2 then r.fld 0x1208 16 5 else r.fld (0x1210 + r.step) 24 5

/-- The period of the base frequency or of the fundamental in ticks (R255, R269). -/
def SpcRun.period (r : SpcRun) : Rat :=
  if r.kind = 2 then 200000000000 / (r.f1 : Rat) else 200000000000 / (r.fld (0x1210 + r.step) 0 23 : Rat)

/-- The instants t_x, t_s, t_e and t_f of the pass or window that begins at `tb` (R255, R269). -/
def SpcRun.timeline (r : SpcRun) (tb : Nat) : SpcRun :=
  let osr := 2 ^ r.osrK
  let g := 5 * osr
  let tx := (tb + g - 1) / g * g + 6 * g
  let settle := if r.kind = 2 then 0 else r.fld (0x1220 + r.step) 0 16
  let nper := if r.kind = 2 then atLeast1 (r.fld 0x1208 0 10) else r.fld (0x1220 + r.step) 16 16
  let ts := tx + roundNat ((settle : Rat) * r.period)
  let te := ts + roundNat ((nper : Rat) * r.period)
  { r with tb := tb, tx := tx, ts := ts, te := te, tf := te + (11 * osr / 4 - 2) * 5 + g }

/-- The state with a spectrum run. -/
def State.setRun (s : State) (r : SpcRun) : State := { s with spc := { s.spc with run := some r } }

/-- A pass or window begins at timebase value `tb`; a pass of kind 0 that would begin under THROTTLE is held (R255, R260). -/
def State.beginPass (s : State) (r : SpcRun) (tb : Nat) : State :=
  if r.kind = 0 ∧ s.throttled then s.setRun { r with phase := .held, since := s.clk, exc := false, closed := false }
  else
    let r := { r.timeline tb with phase := .settle, since := s.clk, exc := false, closed := false }
    let s := s.setRun r
    { s with convs := s.convs.map (fun c => if c.why = .spec then { c with osrK := r.osrK } else c) }

/-! ## Modulators and the sides that conversions hold -/

/-- The modulators of a channel (Table 4.1). -/
def chanMods (ch : Nat) : List Nat := if ch < 24 then [2 * ch, 2 * ch + 1] else [ch + 28]

/-- The channel of a modulator. -/
def modChan (m : Nat) : Nat := if m < 48 then m / 2 else m - 28

/-- The sides and channels a conversion needs, by modulator index (R211). -/
def Conv.needs (c : Conv) : List Nat :=
  match c.why with
  | .owBase => c.chans.map (fun x => 2 * x.ch)
  | .owCheck => c.chans.map (fun x => 2 * x.ch)
  | _ => c.chans.flatMap (fun x => chanMods x.ch)

/-- A conversion that holds its sides. -/
def Conv.granted (c : Conv) : Bool := c.start.isSome

/-- Modulator `m`. -/
def State.modul (s : State) (m : Nat) : Modul := vget s.mod.mods default m

/-- The state with modulator `m` changed. -/
def State.setModul (s : State) (m : Nat) (f : Modul → Modul) : State :=
  { s with mod := { s.mod with mods := vmod s.mod.mods m f } }

/-- A granted conversion holds modulator `m`. -/
def State.modHeld (s : State) (m : Nat) : Bool := s.convs.any (fun c => c.granted && c.needs.contains m)

/-- Spare `sp`. -/
def State.spare (s : State) (sp : Nat) : Spare := vget s.mod.spares default sp

/-- The state with a spare changed. -/
def State.setSpare (s : State) (sp : Nat) (f : Spare → Spare) : State :=
  { s with mod := { s.mod with spares := vmod s.mod.spares sp f } }

/-- The spares that the repair map has not assigned permanently. -/
def State.freeSpares (s : State) : List Nat := (List.range 4).filter (fun i => (s.spare i).used.isNone)

/-- The powered modulators of the twelve cells from `lo` on: those of used cells that no repair has replaced (R96, R403). -/
def State.bankOn (s : State) (lo : Nat) : Nat :=
  ((List.range 24).filter (fun i =>
    let m := 2 * (lo - 1) + i
    s.used (m / 2 + 1) && (List.range 4).all (fun sp => decide ((s.spare sp).used ≠ some m)))).length

/-- The core is gated off between two WATCH bursts (R48, R371). -/
def State.gated (s : State) : Bool := decide (s.pwr.mode = .watch) && !s.pwr.burst

/-- The power inputs of nodes 1 to 4, and the time out of the gated gaps of WATCH, are counted up to now and taken anew (Table 15.1,
R371). DESIGN CHOICE, log entry 17. -/
def State.notePower (s : State) : State :=
  let d := s.clk - s.thm.powAt
  { s with
    thm :=
      { s.thm with
        powSum := .ofFn (fun i : Fin 5 => s.thm.powSum[i] + d * s.thm.powNow[i]), powAt := s.clk
        powNow := if s.gated then .replicate 5 0 else #v[s.bankOn 1, s.bankOn 13, s.slu.colDie1, s.slu.colDie2, 1] } }

/-- The causes of a rotation pause (Table 4.7). -/
def State.pauseCause (s : State) : Nat :=
  let spec := match s.spc.run with | some r => decide (r.phase ≠ .notStarted) | none => false
  b2n (!(s.bit 0x601 31)) + 2 * b2n spec + 4 * b2n (decide (s.pwr.mode = .watch)) + 8 * b2n (!s.flt.stwRun) +
    16 * b2n (decide (s.freeSpares = [])) + 32 * b2n (decide (s.pwr.mode = .selftest)) + 64 * b2n s.mod.run.isSome

/-- The time of rotation is counted from where it resumes to where it pauses (R110). -/
def State.rotClock (s : State) : State :=
  match s.mod.rotFrom with
  | some t =>
    if s.pauseCause = 0 then s
    else { s with mod := { s.mod with rotFrom := none, rotRun := s.mod.rotRun + (s.clk - t) } }
  | none => if s.pauseCause = 0 then { s with mod := { s.mod with rotFrom := some s.clk } } else s

/-- The conversions that `f` names are given up: what they held is free from now on (R119, R210). -/
def State.dropConvs (s : State) (f : Conv → Bool) : State :=
  let held := (s.convs.filter (fun c => f c && c.granted)).flatMap Conv.needs
  let s := held.foldl (fun (s : State) m => s.setModul m (fun q => { q with busyAt := s.clk })) s
  { s with convs := s.convs.filter (fun c => !f c) }

/-! ## The starts of open-wire checks (R88 to R90) -/

/-- The mode is one in which checks run (R89): in WATCH during bursts, modes 4, 5 and 7 to 11. A check that falls due in a burst runs in
that burst. DEDUCED, log entry 44. -/
def State.owModeOk (s : State) : Bool :=
  match s.pwr.mode with
  | .watch => s.pwr.burst
  | .measure => true | .balance => true | .calibrate => true | .selftest => true | .service => true
  | .safe => true | .lockout => true
  | _ => false

/-- Checks run now (R89): in such a mode, and not during a spectrum run. -/
def State.owMode (s : State) : Bool := s.spc.run.isNone && s.owModeOk

/-- A check begins with its first phase due (R88, R90). -/
def State.owBegin (s : State) : State :=
  { s with cfe :=
      { s.cfe with
        run := some ⟨0, .due, s.clk, s.eff 0x403, [], [], false, none⟩, lastRun := some s.clk, deferred := false, phase := 0 } }

/-- A start falls due (R88): absorbed by a running check, begun, or held. -/
def State.owDue (s : State) : State :=
  if s.cfe.run.isSome then s
  else if s.owMode then s.owBegin
  else { s with cfe := { s.cfe with deferred := true } }

/-- PERIOD of the configuration in units of 100 ms. -/
def State.owPeriod (s : State) : Nat := s.fld 0x403 18 8

/-- The device enters a mode, or a WATCH burst, in which checks run, or the spectrum run that held checks there has ended (R88, R89). -/
def State.owEnter (s : State) : State :=
  if s.owModeOk then
    let due := s.cfe.deferred || (s.cfe.first && decide (s.owPeriod ≠ 0))
    let s := { s with cfe := { s.cfe with first := false } }
    if due then s.owDue else s
  else s

/-- The spectrum run releases its sides and opens its switches (R271). -/
def State.releaseSpec (s : State) : State := s.openAll.dropConvs (fun c => decide (c.why = .spec))

/-- The spectrum run becomes terminal: sides released, operation ended, SPECTRUM_DONE presented (R271, R272). -/
def State.endSpec (s : State) (st : OpSt) (cause code : Nat) : State :=
  let s := s.releaseSpec
  let s := { s with spc := { s.spc with run := none } }
  (((s.endOp 1 st cause code).rotClock).owEnter).collect [157]

/-- The effect on a spectrum run of kind 0 of a THROTTLE or STOP_BALANCE reaction issued in this cycle (R260). -/
def State.reactSpec (s : State) (wasT wasS : Bool) : State :=
  match s.spc.run with
  | some r =>
    if r.kind = 0 ∧ s.stopped ∧ ¬wasS ∧ (s.opIs 1 .running ∨ s.opIs 1 .suspended) then s.endSpec .failed 4 1
    else if r.kind = 0 ∧ s.opIs 1 .running then
      if s.throttled ∧ ¬wasT then
        match r.phase with
        | .settle => (s.openAll).setRun { r with phase := .held, since := s.clk, exc := false, closed := false }
        | .window => (s.openAll).setRun { r with phase := .held, since := s.clk, exc := false, closed := false }
        | .tail => (s.openAll).setRun { r with phase := .held, since := s.clk, exc := false, closed := false }
        | _ => s.openAll
      else s
    else s
  | none => s

/-- The sources of a list are presented in this cycle (R357, R358), with all that follows in it. DEDUCED, log entry 105. -/
def State.present (s : State) (l : List Nat) : State :=
  if l = [] then s
  else (s.collect l).reactSpec s.throttled s.stopped

/-- One source is presented. -/
def State.present1 (s : State) (i : Nat) : State := s.present [i]

end Sys2Proof.Machine
end

