-- ==== Sys2Proof/Machine/Slices.lean ====
section
/-! DEFINITION. Machine/Slices.lean: the results of testable units, the end of a slice, the repair map and the repair of a result
page (R387 to R392, R403 to R406). -/

namespace Sys2Proof.Machine

/-- A number put into an ascending list. -/
def insertAsc (n : Nat) : List Nat → List Nat
  | [] => [n]
  | m :: t => if n < m then n :: m :: t else if n = m then m :: t else m :: insertAsc n t

/-! ## Units and slices -/

/-- What is kept for unit `u`. -/
def State.unitOf (s : State) (u : Nat) : UnitRes := Sparse.get UnitRes.none s.bst.units u

/-- The state with what is kept for unit `u` changed. -/
def State.setUnit (s : State) (u : Nat) (f : UnitRes → UnitRes) : State :=
  { s with bst := { s.bst with units := Sparse.set UnitRes.none s.bst.units u (f (s.unitOf u)) } }

/-- The slice kind of a unit (Table 16.1). -/
def kindOf (u : Nat) : Nat :=
  if u < 48 then 1 else if u < 52 then 2 else if u < 64 then 3 else if u < 328 then 4 else if u < 352 then 5
  else if u < 368 then 6 else if u < 392 then 7 else 8

/-- The budget of a slice in ticks (Table 16.1). -/
def sliceBudget (u : Nat) : Nat :=
  match kindOf u with
  | 4 => 50 * usTicks
  | 5 => 100 * usTicks
  | 6 => 20 * usTicks
  | 7 => 200 * usTicks
  | 8 => 500 * usTicks
  | _ => 2 * msTicks

/-- The slice of unit `u` in progress. -/
def State.sliceOf (s : State) (u : Nat) : Option Slice := s.bst.slices.find? (fun x => decide (x.unit = u))

/-- A slice of unit `u` starts. A page under test holds test data from here on (R389). -/
def State.startSlice (s : State) (u : Nat) (of_ : SliceOf) : State :=
  let s := { s with bst := { s.bst with slices := s.bst.slices ++ [⟨u, s.clk, of_⟩] } }
  if kindOf u = 4 then
    { s with bsn :=
        { s.bsn with
          testPage := some (u - 64)
          sram := s.bsn.sram.filter (fun e => !(decide ((u - 64) * 256 ≤ e.1) && decide (e.1 < (u - 63) * 256))) } }
  else s

/-- The slice of unit `u` ends with a result of Table 16.2 (R392, R408): 1 PASS, 2 FAIL, 3 INCOMPLETE with its CUT code. A first FAIL
of the unit is noted (R402). -/
def State.sliceOver (s : State) (u res cut : Nat) (sig : Option Word) : State :=
  let camp := match s.sliceOf u with | some x => decide (x.of_ = SliceOf.camp) | none => false
  let s := { s with bst :=
      { s.bst with
        slices := s.bst.slices.filter (fun x => decide (x.unit ≠ u)), count := (s.bst.count + 1) % 65536
        lastKind := kindOf u, lastRes := res, lastCut := cut, lastUnit := u
        fails := if res = 2 then inc 255 s.bst.fails else s.bst.fails
        incs := if res = 3 then inc 255 s.bst.incs else s.bst.incs } }
  let s := s.setUnit u (fun r =>
    { r with
      last := res, camp := if camp then res else r.camp, fails := if res = 2 then inc 255 r.fails else r.fails
      sig := sig.getD r.sig })
  let s := if s.bsn.testPage = some (u - 64) ∧ kindOf u = 4 then { s with bsn := { s.bsn with testPage := none } } else s
  if res = 2 then s.present1 145 else if res = 3 then s.present1 146 else s

/-- A first FAIL of a unit that no slice gave: a failure in a visit of spare `sp` (R402). -/
def State.firstFail (s : State) (u sp : Nat) : State := s.setUnit u (fun r => { r with first := true, cause := 2, mate := sp })

/-! ## The repair map -/

/-- What an entry is for (Table 16.6): an MRAM row by its number (kind 4, or kind 5 for a row, which alone has CAUSE 4), or a unit by its
global index (kind 3 counts pages). DEDUCED, log entry 112. -/
def MapEnt.key (e : MapEnt) : Bool × Nat :=
  if e.kind = 4 ∨ (e.kind = 5 ∧ e.cause = 4) then (true, e.unit)
  else (false, if e.kind = 3 then 64 + e.unit else e.unit)

/-- Two entries are for the same unit (Table 16.6). -/
def MapEnt.same (a b : MapEnt) : Bool := decide (a.key = b.key)

/-- The entries in force, in their order: a later one for the same unit supersedes an earlier one (Table 16.6). -/
def inForce : List MapEnt → List MapEnt
  | [] => []
  | e :: t => if t.any e.same then inForce t else e :: inForce t

/-- A repair map entry as 8 bytes (Table 16.6). -/
def MapEnt.bytes (e : MapEnt) : Bytes :=
  leBytes 1 e.kind ++ leBytes 1 e.cause ++ leBytes 2 e.unit ++ leBytes 2 e.subst ++ leBytes 2 0

/-- An entry is made in the repair map and logged (R403, R406, Table 17.3); a full map gives up an entry that the new one supersedes. DEDUCED, log entry 112. -/
def State.addEntry (s : State) (e : MapEnt) : State :=
  let l := if s.bst.entries.length < 126 then s.bst.entries else s.bst.entries.filter (fun x => !(x.same e))
  let s := s.ledger ⟨6, 0xFFFF, s.tb, e.bytes ++ leBytes 4 0⟩
  { s with bst :=
      { s.bst with
        entries := (l ++ [e]).take 126, mapPend := true, mapAt := if s.bst.mapPend then s.bst.mapAt else s.clk } }

/-- A repair is entered: REPAIR_APPLIED (R403). -/
def State.repaired (s : State) (e : MapEnt) : State := (s.addEntry e).present1 148

/-- What an UNREPAIRED entry for a unit presents: SPARE_EXHAUSTED once for the unit (R404). -/
def State.exhaustFor (s : State) (e : MapEnt) : List Nat :=
  if s.bst.entries.any (fun x => decide (x.kind = 5) && x.same e) then [] else [147]

/-- No substitute is free: an UNREPAIRED entry, and SPARE_EXHAUSTED once for the unit (R404). -/
def State.unrepaired (s : State) (u cause : Nat) : State :=
  (s.addEntry ⟨5, cause, u, 0xFFFF⟩).present (s.exhaustFor ⟨5, cause, u, 0xFFFF⟩)

/-- Result page `p` has been retired or replaced by a repair (R135, Table 16.5). -/
def State.pageOut (s : State) (p : Nat) : Bool := (inForce s.bst.entries).any (fun e => decide (e.kind = 3) && decide (e.unit = p))

/-- The spare pages not yet assigned and not retired. DEDUCED, log entry 62. -/
def State.sparePages (s : State) : List Nat :=
  ((List.range 8).map (· + 256)).filter (fun q =>
    s.bst.entries.all (fun e => decide (e.kind ≠ 3) || (decide (e.subst ≠ q) && decide (e.unit ≠ q))))

/-- The repair of result page `p` (Table 16.5): a spare page enters the pool, where none has for this page; a spare page itself is retired,
and one that stood in the pool counts as retired, for nothing replaces it (R137). DEDUCED, log entry 62. -/
def State.repairPage (s : State) (p cause : Nat) : State :=
  let s := s.setUnit (64 + p) (fun r => { r with conf := false, first := false })
  let out := fun (s : State) => { s with bsn :=
      { s.bsn with
        free := s.bsn.free.filter (fun x => decide (x ≠ p)), retired := s.bsn.retired.filter (fun x => decide (x ≠ p)) } }
  if 256 ≤ p then
    let was := s.bst.entries.any (fun e => decide (e.kind = 3) && decide (e.subst = p))
    let s := out s
    let s := if was then { s with bsn := { s.bsn with retired := insertAsc p s.bsn.retired } } else s
    s.repaired ⟨3, cause, p, 0xFFFF⟩
  else if s.bst.entries.any (fun e => decide (e.kind = 3) && decide (e.unit = p) && decide (e.subst ≠ 0xFFFF)) then s
  else match s.sparePages with
    | q :: _ =>
      let s := out s
      let s := { s with bsn := { s.bsn with free := insertAsc q s.bsn.free, spareOut := s.bsn.spareOut + 1 } }
      s.repaired ⟨3, cause, p, q⟩
    | [] => s.unrepaired (64 + p) cause

end Sys2Proof.Machine
end

