-- ==== Sys2Proof/Machine/Mram.lean ====
section
/-! DEFINITION. Machine/Mram.lean: the MRAM as bytes and as SECDED words (R409 to R412, Tables 4.16, 16.6, 17.1, 17.4). -/

namespace Sys2Proof.Machine

/-- A byte of a list, 0 beyond its end. -/
def byteAt (l : Bytes) (i : Nat) : Byte := l.getD i 0

/-- The MRAM row of a word of 64 bits. -/
def rowOf (w : Nat) : Nat := w / 128

/-- A repair map copy as 1,024 bytes (Table 16.6); a copy that is not valid is held as bytes that fail the check. DESIGN CHOICE, log entry 11. -/
def MapCopy.bytes (c : MapCopy) : Bytes :=
  let head := leBytes 2 0xB57A ++ leBytes 2 c.ents.length ++ leBytes 4 c.gen ++ leBytes 4 0
  let ents := c.ents.flatMap MapEnt.bytes
  let crc := crc32c (head ++ ents)
  let all := head ++ leBytes 4 (if c.ok then crc else crc ^^^ 1) ++ ents
  all ++ List.replicate (1024 - all.length) 0

/-- A byte of a calibration copy before its check value (Table 4.16): the header and the coefficients as held, and the factory's bytes,
which a calibration run carries over (R123). DESIGN CHOICE, log entry 129. -/
def CalCopy.body (c : CalCopy) (i : Nat) : Byte :=
  if i < 0x10 then byteAt (leBytes 4 0xCA1B0001 ++ leBytes 4 c.gen ++ leBytes 4 c.scale ++ leBytes 4 0) i
  else if i < 0xA10 then
    let k := (i - 0x10) / 8
    let (o, g) := Sparse.get (0, 0x400000) c.coefs k
    byteAt (leBytes 4 (BitVec.ofInt 32 o).toNat ++ leBytes 4 g) ((i - 0x10) % 8)
  else if i < 0xE10 then Config.thermalByte i
  else 0

/-- A byte of a calibration copy (Table 4.16); the check value of one whose check fails is free. DESIGN CHOICE, log entry 11. -/
def CalCopy.byte (c : CalCopy) (area i : Nat) : Byte :=
  if i < 0x3FFC then c.body i
  else if c.ok then byteAt (leBytes 4 (crc32c ((List.range 0x3FFC).map c.body))) (i - 0x3FFC)
  else Config.storedByte area c.gen i

/-- A byte of MRAM as shipped outside the areas held as structures: in the loader and image areas a byte the manual does not give,
else 0xFF. DESIGN CHOICE, log entry 11. -/
def memBase (a : Nat) : Byte := if a < 0x48000 then Config.storedByte 0 0 a else 0xFF

/-- A byte of a list of cells; an address that is not listed reads as shipped. -/
def memGet : List Host.Cell → Nat → Byte
  | [], k => memBase k
  | (n, v) :: t, k => if n = k then v else memGet t k

/-- A byte written; a byte equal to the one as shipped is not listed. -/
def memSet : List Host.Cell → Nat → Byte → List Host.Cell
  | [], k, v => if v = memBase k then [] else [(k, v)]
  | (n, w) :: t, k, v =>
    if n < k then (n, w) :: memSet t k v
    else if n = k then (if v = memBase k then t else (k, v) :: t)
    else if v = memBase k then (n, w) :: t else (k, v) :: (n, w) :: t

/-- Every address is above `lo`, addresses rise strictly, and no byte equals the one as shipped. -/
def memOkFrom : Option Nat → List Host.Cell → Bool
  | _, [] => true
  | lo, (n, v) :: t => (match lo with | none => true | some l => decide (l < n)) && decide (v ≠ memBase n) && memOkFrom (some n) t

/-- The canonical form of the memory. -/
def Memory.wf (m : List Host.Cell) : Bool := memOkFrom none m

/-- The binding copy in use (R417). -/
def State.binding (s : State) : Option BindCopy :=
  match s.nvm.bindA.ok, s.nvm.bindB.ok with
  | true, true => if s.nvm.bindA.cnt < s.nvm.bindB.cnt then some s.nvm.bindB else some s.nvm.bindA
  | true, false => some s.nvm.bindA
  | false, true => some s.nvm.bindB
  | false, false => none

/-- The two journal control copies with every waiting write done (R428). -/
def State.jrnCopies (s : State) : Option Jrn × Option Jrn :=
  (s.nvm.wq.filterMap (fun w => match w with | .jrn j => some j | _ => none)).foldl Jrn.put (s.nvm.jrnA, s.nvm.jrnB)

/-- The journal control record in use with every waiting write done (R429). -/
def State.jrnNow (s : State) : Option Jrn := Jrn.use s.jrnCopies.1 s.jrnCopies.2

/-- A byte of a journal control copy, whose layout the manual does not give. DESIGN CHOICE, log entry 11. -/
def jrnByte (c : Option Jrn) (a : Nat) : Byte :=
  match c with
  | some j => Config.storedByte 6 j.gen a
  | none => Config.storedByte 8 0 a

/-- A byte of an area that the state holds as a structure, none elsewhere. Where the manual gives an area no layout its bytes are free. DESIGN CHOICE, log entry 11. -/
def State.heldByte (s : State) (a : Nat) : Option Byte :=
  if a < 0x98000 then none
  else if a < 0x9A000 then some (Config.storedByte 1 s.ovl.copyA.gen (a - 0x98000))
  else if a < 0x9C000 then some (Config.storedByte 1 s.ovl.copyB_.gen (a - 0x9A000))
  else if a < 0xA0000 then some (s.mod.copyA.byte 2 (a - 0x9C000))
  else if a < 0xA4000 then some (s.mod.copyB.byte 3 (a - 0xA0000))
  else if a < 0xB4000 then none
  else if a < 0xB400C then some (byteAt (leBytes 12 s.nvm.uid.toNat) (a - 0xB4000))
  else if a < 0xB4100 then some (Config.storedByte 4 0 a)
  else if a < 0xB4180 then
    if s.nvm.keySet ∧ 0xB4104 ≤ a ∧ a < 0xB4144 then some (byteAt (s.nvm.keyX ++ s.nvm.keyY) (a - 0xB4104))
    else some (Config.storedByte 5 (b2n s.nvm.keySet) a)
  else if a < 0xB4200 then none
  else if a < 0xB4240 then some (jrnByte s.jrnCopies.1 a)
  else if a < 0xB4280 then some (jrnByte s.jrnCopies.2 a)
  else if a < 0xB4400 then none
  else if a < 0xB4440 then some (Config.storedByte 7 s.nvm.bindA.cnt a)
  else if a < 0xB4480 then some (Config.storedByte 7 s.nvm.bindB.cnt a)
  else if a < 0xB4800 then none
  else if a < 0xB4C00 then some (byteAt s.bst.copyA.bytes (a - 0xB4800))
  else if a < 0xB5000 then some (byteAt s.bst.copyB.bytes (a - 0xB4C00))
  else none

/-- Where a session's payload of a target that is not stored whole lies (Table 17.6): the copy not in use. -/
def State.stageBase (s : State) (target : Nat) : Nat :=
  match target with
  | 2 => 0
  | 4 => if s.ovl.copyB then 0x98000 else 0x9A000
  | 5 => if s.mod.useB then 0x9C000 else 0xA0000
  | 6 => if s.bst.useB then 0xB4800 else 0xB4C00
  | _ => 0x100000

/-- Bytes of such a copy. -/
def stageSize (target : Nat) : Nat :=
  match target with
  | 2 => 0x4000 | 4 => 0x2000 | 5 => 0x4000 | 6 => 0x400 | _ => 0

/-- The payload offset of an address in the copy that the open session writes. -/
def State.stageOff (s : State) (a : Nat) : Option Nat :=
  match s.nvm.sess with
  | some x =>
    let b := s.stageBase x.target
    if b ≤ a ∧ a < b + stageSize x.target then some (a - b) else none
  | none => none

/-- A byte that the open session has put into the copy not in use. -/
def State.stagedByte (s : State) (a : Nat) : Option Byte :=
  match s.nvm.sess, s.stageOff a with
  | some x, some i => Sparse.get none x.stage i
  | _, _ => none

/-- A byte of MRAM as stored. -/
def State.mramStored (s : State) (a : Nat) : Byte :=
  match s.stagedByte a with
  | some b => b
  | none =>
    match s.heldByte a with
    | some b => b
    | none => memGet s.nvm.mram a

/-- The byte that a waiting write will store at an address. -/
def PageWr.at_ (w : PageWr) (a : Nat) : Option Byte :=
  match w with
  | .bytes b l => if b ≤ a then l[a - b]? else none
  | _ => none

/-- A byte of MRAM as a read returns it: what a waiting write will store there, else what is stored (R423). DESIGN CHOICE, log entry 11; DEDUCED, log entry 113. -/
def State.mramByte (s : State) (a : Nat) : Byte :=
  match (s.nvm.wq.filterMap (fun (w : PageWr) => w.at_ a)).getLast? with
  | some b => b
  | none => s.mramStored a

/-- `n` bytes of MRAM from address `a`. -/
def State.mramBytes (s : State) (a n : Nat) : Bytes := (List.range n).map (fun i => s.mramByte (a + i))

/-- A row is reported for repair (R412). -/
def State.reportRow (s : State) (r : Nat) : State := { s with nvm := { s.nvm with rowDue := insertAsc r s.nvm.rowDue } }

/-- A word of MRAM is read through its code (R411, R412). -/
def State.mramTouch (s : State) (w : Nat) : State :=
  match s.eccOf .mram w with
  | none => { s with nvm := { s.nvm with hotWords := s.nvm.hotWords.filter (fun x => decide (x ≠ w)) } }
  | some false =>
    let n := Sparse.get 0 s.nvm.rowErrs (rowOf w) + 1
    let again := s.nvm.hotWords.contains w
    let s := (({ s with nvm :=
      { s.nvm with
        ceCount := inc 65535 s.nvm.ceCount, rowErrs := Sparse.set 0 s.nvm.rowErrs (rowOf w) n
        hotWords := insertAsc w s.nvm.hotWords } }).eccClear .mram w).present1 149
    if again || decide (n = 8) then s.reportRow (rowOf w) else s
  | some true =>
    ((({ s with nvm := { s.nvm with ue := true, ueWord := w } }).wcSet 0x1E01 (putb true 23)).reportRow (rowOf w)).present1 150

/-! ## Check-value channels and their feeds from MRAM (R328 to R333) -/

/-- Channel `n`. -/
def State.chkOf (s : State) (n : Nat) : Chk := vget s.chk Chk.init n

/-- The state with channel `n` changed. -/
def State.setChk (s : State) (n : Nat) (f : Chk → Chk) : State := { s with chk := vmod s.chk n f }

/-- Bytes taken by a channel. -/
def State.chkBytes (s : State) (n : Nat) (b : Bytes) : State :=
  s.setChk n (fun c => { c with crc := crcFeed (crcAlg (Sys2Proof.fld c.cfg 0 2)) c.crc b })

/-- The claim of a channel ends (R331). -/
def Chk.ended (c : Chk) (how : Nat) : Chk := { c with active := false, owner := none, feed := none, lastEnd := how }

/-- A feed from MRAM (R332). -/
def Feed.mram (f : Feed) : Bool := decide (Sys2Proof.fld f.src 30 2 = 2)

/-- The words of 64 bits of the MRAM feed of channel `n` that have been read by now, each of two words of 4 bytes in two core cycles (R333). An
uncorrectable word ends it, and nothing is read after. DEDUCED, log entry 101. -/
def State.feedMram : Nat → State → Nat → State
  | 0, s, _ => s
  | k + 1, s, n =>
    match (s.chkOf n).feed with
    | some f =>
      let w := min 2 (f.count - f.got)
      let t := f.last + w * s.cycle
      if f.mram ∧ 0 < w ∧ t ≤ s.clk then
        let a := Sys2Proof.fld f.src 0 20 + 4 * f.got
        let bad := decide (s.eccOf .mram (a / 8) = some true)
        let b := s.mramBytes a (4 * w)
        let s := s.mramTouch (a / 8)
        if bad then s.setChk n (fun c => { c.ended 2 with feedSt := 4 })
        else State.feedMram k ((s.chkBytes n b).setChk n (fun c => { c with feed := some { f with got := f.got + w, last := t } })) n
      else s
    | none => s

/-- The reads of every feed from MRAM up to now. DEDUCED, log entry 101. -/
def State.feedsMram (s : State) : State := (List.range 16).foldl (State.feedMram 4096) s

/-- The page writes that store a string of bytes, page by page (R410). -/
def pageWrites : Nat → Nat → Bytes → List PageWr
  | 0, _, _ => []
  | n + 1, a, b =>
    if b = [] then []
    else
      let k := 256 - a % 256
      .bytes a (b.take k) :: pageWrites n (a + k) (b.drop k)

/-- Writes are requested: they wait for their page writes, in order (R410); what feeds have read comes before them. -/
def State.mramPut (s : State) (a : Nat) (b : Bytes) : State :=
  let s := s.feedsMram
  { s with nvm := { s.nvm with wq := s.nvm.wq ++ pageWrites (b.length / 256 + 2) a b } }

/-- A write of the journal control record is requested (R428). -/
def State.jrnPut (s : State) (j : Jrn) : State := { s with nvm := { s.nvm with wq := s.nvm.wq ++ [.jrn j] } }

/-- Bytes written one by one. -/
def memWrite : List Host.Cell → Nat → Bytes → List Host.Cell
  | m, _, [] => m
  | m, a, v :: t => memWrite (memSet m a v) (a + 1) t

/-- The write pulse of a temperature band (Table 15.4). -/
def pulseOf (band : Nat) : WrPulse :=
  match band with
  | 0 => .long
  | 1 => .nominal
  | 2 => .nominal
  | _ => .short

/-- The words that `n` bytes from address `a` touch. -/
def wordsOf (a n : Nat) : List Nat := if n = 0 then [] else (List.range ((a + n - 1) / 8 - a / 8 + 1)).map (· + a / 8)

/-- Pages from `a` on are written, with the write pulse of the band at their start (R382, R410); the errors of the words written are gone. -/
def State.wordsDone (s : State) (a n : Nat) : State :=
  { s with
    nvm := { s.nvm with pulse := pulseOf s.thm.band }
    ecc := s.ecc.filter (fun e => !(decide (e.1 = EccArea.mram) && decide (a / 8 ≤ e.2.1) &&
      decide (e.2.1 ≤ (a + n - 1) / 8))) }

/-- Bytes are stored by page writes. -/
def State.mramStore (s : State) (a : Nat) (b : Bytes) : State :=
  let s := s.wordsDone a b.length
  { s with nvm := { s.nvm with mram := memWrite s.nvm.mram a b } }

/-- Pages of an area that the state holds as a structure are written: feeds have read what stood there before (R333). -/
def State.pageDone (s : State) (a n : Nat) : State := s.feedsMram.wordsDone a n

/-- The address of a configuration copy, and of a calibration copy (Table 17.1). -/
def cfgArea (b : Bool) : Nat := if b then 0x9A000 else 0x98000
def calArea (b : Bool) : Nat := if b then 0xA0000 else 0x9C000

/-- The words of which `n` bytes from address `a` are only a part: they are read before they are written (R423). -/
def partWords (a n : Nat) : List Nat := (wordsOf a n).filter (fun w => decide (8 * w < a) || decide (a + n < 8 * w + 8))

/-- Bytes put into the copy that the open session writes. -/
def Sess.put (x : Sess) (i : Nat) (b : Bytes) : Sess :=
  { x with stage := b.zipIdx.foldl (fun l e => Sparse.set none l (i + e.2) (some e.1)) x.stage }

/-- A page write is carried out (R382, R410): a word of which it changes a part is read through its code first (R411, R423). -/
def State.pageWrite (s : State) (w : PageWr) : State :=
  match w with
  | .bytes a b =>
    let s := (partWords a b.length).foldl State.mramTouch s
    match s.stageOff a with
    | some i =>
      let s := s.wordsDone a b.length
      { s with nvm := { s.nvm with sess := s.nvm.sess.map (fun x => x.put i b) } }
    | none => s.mramStore a b
  | .jrn j =>
    let c := Jrn.put (s.nvm.jrnA, s.nvm.jrnB) j
    { s with nvm := { s.nvm with jrnA := c.1, jrnB := c.2, pulse := pulseOf s.thm.band } }
  | .key r x y =>
    let s := s.wordsDone 0xB4100 0x80
    { s with nvm := { s.nvm with keySet := true, keyReq := r, keyX := x, keyY := y } }

/-- Every waiting page write is carried out, in order. DEDUCED, log entry 113. -/
def State.flushWrites (s : State) : State :=
  let s := s.feedsMram
  s.nvm.wq.foldl State.pageWrite { s with nvm := { s.nvm with wq := [] } }

/-- `n` bytes are read from `a` through the code: whether every word was good or corrected, and the state after. DESIGN CHOICE, log entry 125. -/
def State.mramRead (s : State) (a n : Nat) : Bool × State :=
  let ws := wordsOf a n
  (ws.all (fun w => decide (s.eccOf .mram w ≠ some true)), ws.foldl State.mramTouch s)

end Sys2Proof.Machine
end

