-- ==== Sys2Proof/Machine/Basins.lean ====
section
/-! DEFINITION. Machine/Basins.lean: streams, pages and records of the basin manager (R135 to R155). -/

namespace Sys2Proof.Machine

/-- Stream `m`. -/
def State.strm (s : State) (m : Nat) : Strm := vget s.bsn.streams Strm.init m

/-- The state with stream `m` changed. -/
def State.setStrm (s : State) (m : Nat) (f : Strm → Strm) : State :=
  { s with bsn := { s.bsn with streams := vmod s.bsn.streams m f } }

/-- MIN_PAGES of stream `m`. -/
def State.minPages (s : State) (m : Nat) : Nat := min 64 (s.fld (0xA10 + m) 16 7)

/-- MAX_PAGES of stream `m`. -/
def State.maxPages (s : State) (m : Nat) : Nat := clampTo 1 64 (s.fld (0xA10 + m) 8 7)

/-- The page of a stream with sequence `q`. -/
def Strm.page (t : Strm) (q : Nat) : Option BPage := t.pages.find? (fun p => decide (p.seq = q))

/-- The open page of a stream. -/
def Strm.openPage (t : Strm) : Option BPage := t.pages.find? (·.isOpen)

/-- The closed pages of a stream, oldest first. -/
def Strm.closed (t : Strm) : List BPage := t.pages.filter (fun p => !p.isOpen)

/-- A word of result SRAM, without its error state: what was written, or a free value (R152). DESIGN CHOICE, log entry 10. -/
def State.sramWord (s : State) (i : Nat) : Word :=
  match Sparse.get none s.bsn.sram i with
  | some w => w
  | none => Config.sramWord 0 s.resets i

/-- A word of result SRAM written. -/
def State.putSram (s : State) (i : Nat) (w : Word) : State :=
  ({ s with bsn := { s.bsn with sram := Sparse.set none s.bsn.sram i (some w) } }).eccClear .basin i

/-- A page returns to the pool, or is retired where it is marked BAD (R137); under AUTO_REPAIR a spare page replaces it (R403). One that a
repair has taken out while it was held does not return. -/
def State.freePage (s : State) (p : BPage) : State :=
  if s.pageOut p.phys then s
  else if p.bad then
    let s := { s with bsn := { s.bsn with retired := insertAsc p.phys s.bsn.retired } }
    if s.bit 0x1D01 30 then s.repairPage p.phys 3 else s.setUnit (64 + p.phys) (fun u => { u with conf := true })
  else { s with bsn := { s.bsn with free := insertAsc p.phys s.bsn.free } }

/-- The pages needed to honour the reservations of accepted streams (R140). -/
def State.resv (s : State) : Nat :=
  ((List.range 16).map (fun m => if (s.strm m).active then s.minPages m - (s.strm m).pages.length else 0)).sum

/-- The pages that acknowledgements of the present core cycle have freed: an allocation of that cycle is decided before them (R149). -/
def State.freedNow (s : State) : List (Nat × Nat × Bool) := s.nowCyc.freed

/-- Those of stream `m`, oldest first: the physical page and whether it is BAD. -/
def State.freedOf (s : State) (m : Nat) : List (Nat × Bool) := (s.freedNow.filter (fun e => decide (e.1 = m))).map (·.2)

/-- A page freed in the present cycle is taken by an allocation decided before it was freed (R149). -/
def State.unfree (s : State) (phys : Nat) : State :=
  (s.cycMod (fun c => { c with freed := c.freed.filter (fun e => decide (e.2.1 ≠ phys)) }))

/-- The pages that an allocation of the present cycle finds in the pool (R149). -/
def State.pool (s : State) : List Nat := s.bsn.free.filter (fun p => !(s.freedNow.any (fun e => decide (e.2.1 = p))))

/-- The pages that an allocation of the present cycle finds held by stream `m` (R149). -/
def State.held (s : State) (m : Nat) : Nat := (s.strm m).pages.length + (s.freedOf m).length

/-- The reservations that an allocation of the present cycle finds (R140, R149). -/
def State.resvNow (s : State) : Nat :=
  ((List.range 16).map (fun m => if (s.strm m).active then s.minPages m - s.held m else 0)).sum

/-- A word of result SRAM read through its code (R136): the word and the state after. -/
def State.readSram (s : State) (phys i : Nat) : Word × State :=
  match s.eccOf .basin (phys * 256 + i) with
  | none => (s.sramWord (phys * 256 + i), s)
  | some false =>
    let s' := { s with bsn := { s.bsn with ceCount := inc 65535 s.bsn.ceCount } }
    (s.sramWord (phys * 256 + i), (s'.eccClear .basin (phys * 256 + i)).present1 151)
  | some true =>
    let mark := fun (t : Strm) => { t with pages := t.pages.map (fun p => if p.phys = phys then { p with bad := true } else p) }
    let s' := { s with bsn := { s.bsn with ue := true, uePage := phys, streams := s.bsn.streams.map mark } }
    (0xFFFFFFFF, (s'.wcSet 0xA01 (putb true 15)).present1 152)

/-- Word `i` of the page of stream `m` with sequence `q` (R153): words of an open page beyond its fill, and words of a page that
is not held, read 0. Word 4 + FILL / 4, the first one not yet written, counts as beyond it: DEDUCED, log entry 61. -/
def State.pageWord (s : State) (m q i : Nat) : Word × State :=
  match (s.strm m).page q with
  | none => (0, s)
  | some p => if p.isOpen && decide (4 + p.fill / 4 ≤ i) then (0, s) else s.readSram p.phys i

/-- The stream holds the page (R153). -/
def State.pageHit (s : State) (m q : Nat) : Bool := ((s.strm m).page q).isSome

/-- The words of the basin feed of channel `n` that have been read by now, one in each core cycle (R333). DEDUCED, log entries 101 and 102. -/
def State.feedPage : Nat → State → Nat → State
  | 0, s, _ => s
  | k + 1, s, n =>
    match (s.chkOf n).feed with
    | some f =>
      if !f.mram && decide (f.got < f.count) && decide (f.last + s.cycle ≤ s.clk) then
        let (w, s') := s.pageWord (Sys2Proof.fld f.src 24 4) (Sys2Proof.fld f.src 8 16) (Sys2Proof.fld f.src 0 8 + f.got)
        State.feedPage k ((s'.chkBytes n (leBytes 4 w.toNat)).setChk n (fun c =>
          { c with feed := some { f with got := f.got + 1, last := f.last + s.cycle } })) n
      else s
    | none => s

/-- The reads of every basin feed up to now. DEDUCED, log entry 101. -/
def State.feedsPage (s : State) : State := (List.range 16).foldl (State.feedPage 256) s

/-- The check word of a page with the given fill: CRC-32C over words 0 to 2 and the records, in byte order of R8. The words are taken as
stored, and no error of theirs is taken up. DESIGN CHOICE, log entry 141. -/
def State.pageCheck (s : State) (phys fill : Nat) : Nat :=
  crc32c (((List.range 3) ++ (List.range (fill / 4)).map (· + 4)).flatMap
    (fun i => leBytes 4 (s.sramWord (phys * 256 + i)).toNat))

/-- The open page of stream `m` is closed; one without a record is freed (R147). In LOCKOUT no page is closed (R152). -/
def State.closePage (s : State) (m : Nat) : State :=
  let s := s.feedsPage
  match (s.strm m).openPage with
  | none => s
  | some p =>
    if s.pwr.mode = .lockout then s
    else if p.recs = 0 then
      (s.setStrm m (fun t => { t with pages := t.pages.filter (fun x => !x.isOpen) })).freePage p
    else
      let s := s.setStrm m (fun t =>
        { t with pages := t.pages.map (fun x => if x.isOpen then { x with isOpen := false } else x) })
      let s := s.putSram (p.phys * 256 + 2) (putb true 31 ||| put p.fill 0 10)
      s.putSram (p.phys * 256 + 3) (BitVec.ofNat 32 (s.pageCheck p.phys p.fill))

/-- The physical page that an allocation takes: the lowest free page not under test, the one under test where no other is free
(R145, R397). -/
def State.takePage (s : State) : Option Nat :=
  match s.pool.find? (fun p => decide (some p ≠ s.bsn.testPage)) with
  | some p => some p
  | none => s.pool.head?

/-- BASIN_EXHAUSTED, once per episode (R145). -/
def State.exhaust (s : State) (m : Nat) : State :=
  if (s.strm m).exhausted then s else (s.setStrm m (fun t => { t with exhausted := true })).present1 142

/-- A record is dropped (R145). -/
def State.dropRec (s : State) (m cause : Nat) : State :=
  let s := s.setStrm m (fun t => { t with dropped := inc 65535 t.dropped, lastDrop := cause, gap := true })
  if cause = 1 then s else s.exhaust m

/-- A page of stream `m` is lost under WRAP: LOST_PAGES and GAP (R145). -/
def State.losePage (s : State) (m : Nat) : State :=
  s.setStrm m (fun t => { t with lostPages := inc 65535 t.lostPages, gap := true })

/-- BAD pages at the old end of a stream under WRAP are retired (R145), those freed in the present cycle among them (R149). -/
def State.retireBad : Nat → State → Nat → State
  | 0, s, _ => s
  | n + 1, s, m =>
    match s.freedOf m, (s.strm m).closed with
    | (p, true) :: _, _ => State.retireBad n ((s.unfree p).losePage m) m
    | (_, false) :: _, _ => s
    | [], p :: _ =>
      if p.bad then
        State.retireBad n (((s.setStrm m (fun t =>
          { t with pages := t.pages.filter (fun x => decide (x.seq ≠ p.seq)) })).losePage m).freePage p) m
      else s
    | [], [] => s

/-- The oldest closed page of stream `m` leaves its entry to be used again (R145): its physical page. One that an acknowledgement of
the present cycle freed is still there for an allocation of that cycle (R149). -/
def State.reclaim (s : State) (m : Nat) : Option (Nat × State) :=
  match s.freedOf m, (s.strm m).closed with
  | (p, _) :: _, _ =>
    let s := s.unfree p
    some (p, { s with bsn := { s.bsn with free := s.bsn.free.filter (fun x => decide (x ≠ p)) } })
  | [], old :: _ =>
    some (old.phys, s.setStrm m (fun t => { t with pages := t.pages.filter (fun x => decide (x.seq ≠ old.seq)) }))
  | [], [] => none

/-- A page of stream `m` is opened on physical page `p` with the record sequence `rseq` to come first (Table 5.1). -/
def State.openPage (s : State) (m p rseq : Nat) : State :=
  let t := s.strm m
  let pg : BPage := ⟨t.nextSeq, p, true, false, 0, s.clk, 0⟩
  let w0 := put 0xBA51 16 16 ||| put m 12 4 ||| putb t.gap 8
  let s := s.setStrm m (fun t => { t with pages := t.pages ++ [pg], nextSeq := (t.nextSeq + 1) % 65536, gap := false })
  (((s.putSram (p * 256) w0).putSram (p * 256 + 1) (put pg.seq 16 16 ||| put rseq 0 16)).putSram (p * 256 + 2) 0).putSram
    (p * 256 + 3) 0

/-- The words of a record (Table 5.2). -/
def recordWords (src : Bool) (id rseq : Nat) (ts : Nat) (payload : List Word) : List Word :=
  [put payload.length 24 8 ||| putb src 23 ||| put id 19 4 ||| put rseq 0 16, put ts 0 32, put (ts / 2 ^ 32) 0 32] ++ payload

/-- A record is written in the open page of stream `m` (R144). -/
def State.writeRec (s : State) (m : Nat) (ws : List Word) : State :=
  match (s.strm m).openPage with
  | none => s
  | some p =>
    let s := (List.range ws.length).foldl
      (fun s i => s.putSram (p.phys * 256 + 4 + p.fill / 4 + i) (ws.getD i 0)) s
    s.setStrm m (fun t =>
      { t with pages := t.pages.map (fun x =>
          if x.isOpen then { x with fill := x.fill + 4 * ws.length, recs := x.recs + 1 } else x) })

/-- An acknowledgement up to page `upto` of the pages held (R148): those that stay, and whether it or an earlier one falls short. -/
def ackStep (a : List BPage × Bool) (upto : Nat) : List BPage × Bool :=
  (a.1.filter (fun p => p.isOpen || decide (63 < (upto + 65536 - p.seq) % 65536)),
    a.2 || (match a.1.find? (fun p => decide (p.seq = upto)) with | some p => p.isOpen | none => true))

/-- The acknowledgements of the present cycle for stream `m` act on what an allocation of the cycle has left (R149): a page that it has
closed goes too, and one that it has reclaimed is no longer held. -/
def State.ackAgain (s : State) (m : Nat) : State :=
  match s.nowCyc.acked.find? (fun e => decide (e.1 = m)) with
  | none => s
  | some (_, before, uptos) =>
    let t := s.strm m
    let kept := before.pages.filter (fun p => (s.freedOf m).any (fun e => decide (e.1 = p.phys)))
    let (left, short) := uptos.foldl ackStep (kept ++ t.pages, false)
    let gone := t.pages.filter (fun p => !left.contains p)
    let s := s.cycMod (fun c => { c with freed := c.freed ++ gone.map (fun p => (m, p.phys, p.bad)) })
    (gone.foldl State.freePage s).setStrm m (fun t =>
      { t with pages := t.pages.filter left.contains, ackShort := before.ackShort || short })

/-- A record is put to stream `m` (R142, R145): the cause of a drop, 0 where it is written. Where the stream is below MIN_PAGES and
the pool has no page, the model goes on as if the allocation were not allowed: it reclaims or drops. DESIGN CHOICE, log entry 135. -/
def State.place (s : State) (m : Nat) (src : Bool) (id ts : Nat) (payload : List Word) : Nat × State :=
  let s := s.feedsPage
  let t := s.strm m
  let rseq := t.nextRseq
  let ws := recordWords src id rseq ts payload
  let s := s.setStrm m (fun t => { t with nextRseq := (rseq + 1) % 65536 })
  let room := match t.openPage with | some p => 1008 - p.fill | none => 0
  if !t.active then (1, s.dropRec m 1)
  else if t.openPage.isSome && decide (4 * ws.length ≤ room) then (0, s.writeRec m ws)
  else
    let s := s.closePage m
    let wrap := s.bit (0xA10 + m) 30
    let s := if wrap then State.retireBad 64 s m else s
    let used := s.held m
    if decide (used < s.maxPages m) && (decide (used < s.minPages m) || decide (s.resvNow < s.pool.length)) &&
        s.takePage.isSome then
      let p := s.takePage.getD 0
      let s := { s with bsn := { s.bsn with free := s.bsn.free.filter (fun x => decide (x ≠ p)) } }
      let s := s.setStrm m (fun t => { t with exhausted := false })
      (0, (s.openPage m p rseq).writeRec m ws)
    else
      match wrap, s.reclaim m with
      | true, some (p, s) => (0, (((s.losePage m).exhaust m).openPage m p rseq).writeRec m ws)
      | _, _ =>
        let c := if used = s.maxPages m then 2 else 3
        (c, s.dropRec m c)

/-- A record is offered to stream `m` (R142, R145), before the acknowledgements of its cycle (R149): the cause of a drop, 0 where it is
written. -/
def State.offer (s : State) (m : Nat) (src : Bool) (id ts : Nat) (payload : List Word) : Nat × State :=
  let (c, s) := s.place m src id ts payload
  (c, if s.pwr.mode = .lockout then s else s.ackAgain m)

/-- The sum of MIN_PAGES over the accepted streams but `m` (R139). -/
def State.minOthers (s : State) (m : Nat) : Nat :=
  ((List.range 16).map (fun i => if i ≠ m ∧ (s.strm i).active then s.minPages i else 0)).sum

/-- Stream `m` is examined against the other accepted streams (R139); one that stops being accepted closes its open page. -/
def State.examine (s : State) (m : Nat) : State :=
  let en := s.bit (0xA10 + m) 31
  let ok := en && decide (s.minPages m ≤ s.maxPages m) &&
    decide (s.minOthers m + s.minPages m ≤ 256 - s.bsn.retired.length)
  let s := if (s.strm m).active && !ok then s.closePage m else s
  s.setStrm m (fun t => { t with active := ok, cfgErr := en && !ok })

/-- Every stream is examined at an overlay commit, the accepted ones first (R139). -/
def State.examineAll (s : State) : State :=
  let first := (List.range 16).filter (fun m => (s.strm m).active)
  let rest := (List.range 16).filter (fun m => !((s.strm m).active))
  let cleared := (List.range 16).foldl (fun s m => s.setStrm m (fun t => { t with active := false })) s
  let judge := fun (was : Bool) (s : State) (m : Nat) =>
    let s' := s.examine m
    if was && !((s'.strm m).active) then s'.closePage m else s'
  rest.foldl (judge false) (first.foldl (judge true) cleared)

/-- An acknowledgement frees closed pages (R148), for the allocations of the cycles that follow (R149). In LOCKOUT no page is freed
(R152). -/
def State.ackPages (s : State) (m upto : Nat) : State :=
  let s := s.feedsPage
  let t := s.strm m
  let gone := if s.pwr.mode = .lockout then [] else
    t.closed.filter (fun p => decide ((upto + 65536 - p.seq) % 65536 ≤ 63))
  let short := match t.page upto with | some p => p.isOpen | none => true
  let (_, before, uptos) := (s.nowCyc.acked.find? (fun e => decide (e.1 = m))).getD (m, t, [])
  let s := s.cycMod (fun c =>
    { c with freed := c.freed ++ gone.map (fun p => (m, p.phys, p.bad))
             acked := (m, before, uptos ++ [upto]) :: c.acked.filter (fun e => decide (e.1 ≠ m)) })
  let s := gone.foldl State.freePage s
  let s := if short then s.wcSet (0xA20 + m) (putb true 25) else s
  s.setStrm m (fun t =>
    { t with pages := t.pages.filter (fun p => !(gone.any (fun q => decide (q.seq = p.seq)))), ackShort := t.ackShort || short })

/-- RESET of stream `m` frees every page (R150); in LOCKOUT no page is freed (R152), and the counters alone are cleared. DEDUCED, log
entry 61. -/
def State.resetStrm (s : State) (m : Nat) : State :=
  let s := s.feedsPage
  let clear := fun (s : State) =>
    s.setStrm m (fun t => { t with dropped := 0, lostPages := 0, exhausted := false, gap := true })
  if s.pwr.mode = .lockout then clear s
  else clear (((s.strm m).pages.foldl State.freePage s).setStrm m (fun t => { t with pages := [] }))

end Sys2Proof.Machine
end

