-- ==== Sys2Proof/Machine/Jets.lean ====
section
/-! DEFINITION. Machine/Jets.lean: starting, stopping and faulting jets (R159, R189, R200 to R204, R337). -/

namespace Sys2Proof.Machine

/-- A word of program SRAM, without its error state. DESIGN CHOICE, log entry 10. -/
def State.progWord (s : State) (i : Nat) : Word :=
  match Sparse.get none s.seq.prog i with
  | some w => w
  | none => Config.sramWord 1 s.resets i

/-- A word of program SRAM written; a fetch or read in this cycle gets the word from before (R194). -/
def State.putProg (s : State) (i : Nat) (w : Word) : State :=
  let s := s.noteOld 0xC49 i (s.progWord i)
  ({ s with seq := { s.seq with prog := Sparse.set none s.seq.prog i (some w) } }).eccClear .prog i

/-- Scratch word `i` of the whole scratch memory (jet × 1,024 + word), without its error state. DESIGN CHOICE, log entry 10. -/
def State.scratchWord (s : State) (i : Nat) : Word :=
  match Sparse.get none s.seq.scratch i with
  | some w => w
  | none => Config.sramWord 2 s.resets i

/-- The error of a SECDED word of the sequencer is taken up (R164): corrected and counted, or recorded as uncorrectable. DESIGN CHOICE, log entry 125. -/
def State.seqEcc (s : State) (a : EccArea) (i : Nat) : State :=
  match s.eccOf a i with
  | none => s
  | some false =>
    (({ s with seq := { s.seq with ceCount := inc 65535 s.seq.ceCount } }).eccClear a i).present1 151
  | some true =>
    (({ s with seq := { s.seq with ue := true, ueArea := decide (a = EccArea.scratch), ueIndex := i } }).wcSet 0xC4C
      (putb true 15)).present1 152

/-- A read of a program or scratch word finds an uncorrectable error. -/
def State.seqBad (s : State) (a : EccArea) (i : Nat) : Bool := decide (s.eccOf a i = some true)

/-- The claims of a requester on check-value channels are released (R337). -/
def State.releaseChk (s : State) (rq : Requester) : State :=
  let s := s.feedsPage.feedsMram
  { s with chk := s.chk.map (fun c =>
      if c.owner = some rq then { c with active := false, owner := none, feed := none, crc := 0, lastEnd := 3 } else c) }

/-- An instruction is in progress that has been issued already: its cost has not run out (R160, R204). -/
def Jet.inCost (q : Jet) (clk : Nat) : Bool := decide (q.wait = .none) && decide (clk < q.busyTo)

/-- The word index of the instruction in progress at clock `clk`. -/
def Jet.nowPc (q : Jet) (clk : Nat) : Nat := if q.inCost clk then q.lastPc else q.pc

/-- Jet `j` stops with a cause; a fault, the watchdog and a kill withdraw its balancing requests (R181, R189, R201, R202). What is
recorded is the instruction in progress, which has no effect. -/
def State.stopJet (s : State) (j cause : Nat) (word : Word) (withdraw : Bool) : State :=
  let s := s.setJet j (fun q =>
    { q with st := .stopped, wait := .none, cause := cause, exitPc := q.nowPc s.clk
             depth := if q.inCost s.clk then q.lastDep else q.stack.length, word := word })
  let s := if withdraw then s.withdrawJet j else s
  s.releaseChk (.jet j)

/-- Jet `j` faults (R189): it stops, its requests are withdrawn, JET_FAULT is presented. -/
def State.faultJet (s : State) (j cause : Nat) : State :=
  (s.stopJet j cause (if 16384 ≤ (s.jet j).pc then 0 else s.progWord (s.jet j).pc) true).present1 143

/-- Jet `j` faults on a fetch past word 16,383: PC 16,383 and word 0 are recorded (R189). -/
def State.faultFetch (s : State) (j cause : Nat) (word : Word) : State := (s.stopJet j cause word true).present1 143

/-- Jet `j` is stopped by a kill in the cycle after this one (R202). -/
def State.dying (s : State) (j : Nat) : Bool :=
  s.cyc.any (fun c => decide (c.at_ = s.clk + s.cycle) && c.killed.any (fun e => decide (e.1 = j)))

/-- A jet is started (R159, R200); a start in another state is ignored. DEDUCED, log entry 67. -/
def State.startJet (s : State) (j addr : Nat) : State :=
  if j < 8 then
    match if s.dying j then .running else (s.jet j).st with
    | .idle => s.setJet j (fun q =>
        { q with st := .running, pc := addr % 16384, regs := .replicate 16 0, stack := [], wait := .none
                 busyTo := s.clk + 2 * s.cycle, lastPc := addr % 16384, lastDep := 0, wdFrom := s.clk, wdCyc := 0, cause := 0, word := 0 })
    | .stopped => s.setJet j (fun q =>
        { q with st := .running, pc := addr % 16384, regs := .replicate 16 0, stack := [], wait := .none
                 busyTo := s.clk + 2 * s.cycle, lastPc := addr % 16384, lastDep := 0, wdFrom := s.clk, wdCyc := 0, cause := 0, word := 0 })
    | _ => ({ s with seq := { s.seq with startIgn := true } }).wcSet 0xC63 (putb true 24)
  else s

/-- STOP of a jet (R201). DEDUCED, log entry 66. -/
def State.stopReq (s : State) (j : Nat) : State :=
  match (s.jet j).st with
  | .running => s.setJet j (fun q => { q with st := .stopping })
  | .waiting => s.setJet j (fun q => { q with st := .stopping, busyTo := s.clk + s.cycle })
  | _ => s

/-- The jet is running, waiting or stopping. -/
def Jet.busy (q : Jet) : Bool :=
  match q.st with
  | .running => true | .waiting => true | .stopping => true | _ => false

/-- KILL of a jet as the mode's entry gives it (R203). -/
def State.killNow (s : State) (j : Nat) : State :=
  if (s.jet j).busy then s.stopJet j 13 0 true else s

/-- KILL of a jet (R202): it stops in the cycle after the write, and a read in the write's own cycle shows it as it was. DEDUCED, log
entry 66. -/
def State.killJet (s : State) (j : Nat) : State :=
  if (s.jet j).busy then
    let jstat := (List.range 8).foldl (fun (w : Word) i => w ||| put (s.jet i).st.num (3 * i) 3) (putb s.seq.startIgn 24)
    let q := s.jet j
    let s := s.noteOld 0xC63 0 jstat
    let s := s.noteOld (0xC50 + j) 0 (put q.depth 22 4 ||| put q.cause 16 4 ||| put q.exitPc 0 14)
    (s.noteOld (0xC58 + j) 0 q.word).nextCycle (fun t => (t.cycMod (fun c => { c with killed := (j, q) :: c.killed })).stopJet j 13 0 true)
  else s

/-! ## Payload reads of STRM -/

/-- Payload words of the STRM of jet `j` that have been read by now: one word in each cycle after issue (R176). Nothing is read after
an uncorrectable word. -/
def State.strmRead : Nat → State → Nat → State
  | 0, s, _ => s
  | n + 1, s, j =>
    match (s.jet j).wait with
    | .strm rd st a len last tm pay false =>
      if pay.length < len ∧ last + s.cycle ≤ s.clk then
        let i := j * 1024 + a / 4 + pay.length
        let bad := s.seqBad .scratch i
        let s := s.seqEcc .scratch i
        let w := s.scratchWord i
        State.strmRead n
          (s.setJet j (fun q => { q with wait := .strm rd st a len (last + s.cycle) tm (if bad then pay else pay ++ [w]) bad })) j
      else s
    | _ => s

/-- The payload reads of every jet's STRM up to now. DEDUCED, log entry 60. -/
def State.strmAll (s : State) : State := (List.range 8).foldl (State.strmRead 64) s

/-- Every read that goes on in the background, up to now, before the core clock changes (R176, R333). -/
def State.readsNow (s : State) : State := s.strmAll.feedsPage.feedsMram

/-! ## Core clock -/

/-- A wait dated again: what counted from clock `a` counts from `f a`. -/
def JWait.redate (f : Nat → Nat) : JWait → JWait
  | .strm rd st a len last tm pay bad => .strm rd st a len (f last) tm pay bad
  | w => w

/-- The core clock of the jets has changed from cycles of `old` ticks (R39, R48): the cycles counted by each watchdog stand (R204), and
those that an instruction still costs (R160) are cycles of the new clock. -/
def State.reclockJets (s : State) (old : Nat) : State :=
  if s.cycle = old then s
  else
    { s with seq := { s.seq with jets := s.seq.jets.map (fun (q : Jet) =>
        { q with
          wdCyc := q.wdCyc + (s.clk - q.wdFrom) / old, wdFrom := s.clk
          busyTo := s.clk + (q.busyTo - s.clk + old - 1) / old * s.cycle, wait := q.wait.redate (fun _ => s.clk) }) } }

/-- The core clock was gated off for `gap` ticks up to now (R48, R162): no cycle has passed for the jets and the feeds. -/
def State.jetsAfterGap (s : State) (gap : Nat) : State :=
  { s with
    seq := { s.seq with jets := s.seq.jets.map (fun (q : Jet) =>
      { q with wdFrom := q.wdFrom + gap, busyTo := q.busyTo + gap, wait := q.wait.redate (· + gap) }) }
    chk := s.chk.map (fun (c : Chk) => { c with feed := c.feed.map (fun f => { f with last := f.last + gap }) }) }

/-- The conversion with number `id` has ended with outcome `out` for the jets that wait on it (R174). -/
def State.convEnded (s : State) (id : Nat) (out : Option Nat) : State :=
  { s with seq :=
      { s.seq with
        jets := s.seq.jets.map (fun q =>
          match q.wait with
          | .conv rd g o (some i) none =>
            if i = id then { q with wait := .conv rd g o (some i) (some (out.getD o)) } else q
          | _ => q) } }

/-- The jets that wait on a held trigger of a group get the conversion that it starts, or ABORTED where it is discarded (R174,
R206). -/
def State.heldResolved (s : State) (g : Nat) (id : Option Nat) : State :=
  { s with seq :=
      { s.seq with
        jets := s.seq.jets.map (fun q =>
          match q.wait with
          | .conv rd g' o none none =>
            if g' = g then
              { q with wait := match id with
                  | some i => .conv rd g o (some i) none
                  | none => .conv rd g o none (some 4) }
            else q
          | _ => q) } }

end Sys2Proof.Machine
end

