-- ==== Sys2Proof/Machine/Convert.lean ====
section
/-! DEFINITION. Machine/Convert.lean: latest-result words and limit comparators, conversion groups, the conversion arbiter and
the delivery of samples (R96 to R132, R205 to R216). -/

namespace Sys2Proof.Machine

/-! ## Modulators -/

/-- Ticks between modulator clock edges (R98, R102). -/
def State.modP (s : State) : Nat := if s.pwr.mode = .watch then 40 else 5

/-- The modulator whose side a spare has for a time: standing in, or between handover and hand-back of a visit (R112, R115). -/
def Spare.guest (p : Spare) : Option Nat :=
  match p.stand, p.visit with
  | some m, _ => some m
  | none, some v =>
    match v.step with
    | .calMod => some v.m
    | .sliceMod => some v.m
    | .rejoin => some v.m
    | .match2 => some v.m
    | .backDue => some v.m
    | _ => none
  | none, none => none

/-- The modulator whose side a spare serves: for a time, or by the repair map (R112, R115); none while it waits for the boundary at which
it takes a side. -/
def Spare.serves (p : Spare) : Option Nat :=
  match p.due with
  | some (.take _) => none
  | _ => match p.guest with
    | some m => some m
    | none => p.used

/-- The spare that the repair map gives modulator `m`'s side (Table 16.5). -/
def State.assigned (s : State) (m : Nat) : Option Nat := (List.range 4).find? (fun i => decide ((s.spare i).used = some m))

/-- The spare that serves the side of modulator `m`: one that has it for a time, else the one assigned. -/
def State.standIn (s : State) (m : Nat) : Option Nat :=
  match (List.range 4).find? (fun i => decide ((s.spare i).serves = some m) && decide ((s.spare i).guest = some m)) with
  | some i => some i
  | none => (List.range 4).find? (fun i => decide ((s.spare i).serves = some m))

/-- The physical modulator that serves the side of modulator `m`. -/
def State.physOf (s : State) (m : Nat) : Nat := match s.standIn m with | some i => 48 + i | none => m

/-- The side or channel that physical modulator `m` serves, by the index of its modulator in Table 4.1. -/
def State.roleOf (s : State) (m : Nat) : Option Nat :=
  if 48 ≤ m ∧ m < 52 then (s.spare (m - 48)).serves.filter (fun r => decide (s.standIn r = some (m - 48)))
  else if (s.standIn m).isSome then none
  else if m < 64 then some m else none

/-- The calibration copy in use. -/
def State.calCopy (s : State) : CalCopy := if s.mod.useB then s.mod.copyB else s.mod.copyA

/-- The stored coefficients of a modulator for the band in effect (R110). -/
def State.storedCoef (s : State) (m : Nat) : Int × Nat :=
  Sparse.get (0, 0x400000) s.calCopy.coefs (s.thm.band * 64 + m)

/-- The coefficients in use for a physical modulator: whether they are live, offset and gain (R109, R110). -/
def State.coefOf (s : State) (m : Nat) : Bool × Int × Nat :=
  match (s.modul m).live with
  | some c =>
    if s.pauseCause = 0 ∧ s.clk ≤ c.at_ + atLeast1 (s.fld 0x601 16 8) * 1000 * msTicks ∧ ¬s.bit 0x600 0 then
      (true, c.off, c.gain)
    else (false, s.storedCoef m)
  | none => (false, s.storedCoef m)

/-- CHOP_DIV of a temperature band (Table 4.3). -/
def chopDiv (band : Nat) : Nat := if band ≤ 1 then 128 else if band = 2 then 64 else 32

/-- The clip limits of a channel in channel LSB (Table 4.2), for AUX9 by AUX_DIFF as its conversion began (R23). -/
def clip (diff : Bool) (ch : Nat) : Int × Int :=
  if ch < 24 then (-2750000, 5750000)
  else if ch = 32 ∧ diff then (-2750000, 2750000)
  else if ch < 34 then (-250000, 5250000)
  else if ch = 34 then (-5750000, 5750000)
  else (0, 1600000)

/-- A raw sample corrected and clamped: the corrected sample in 1/64 LSB and whether it was clipped (R109). -/
def correct (clip : Int × Int) (o : Int) (g : Nat) (d : Int) (overload : Bool) : Int × Bool :=
  let c := ((d - o) * g) / 4194304
  if c < clip.1 * 64 ∨ clip.2 * 64 < c ∨ overload then (max (clip.1 * 64) (min (clip.2 * 64) c), true) else (c, false)

/-- The value of a word of 2^s samples (R109). -/
def average (acc : Int) (s : Nat) : Int := (acc + 2 ^ (s + 5)) / 2 ^ (s + 6)

/-- The input that a modulator's channel calls for. -/
def State.modInput (s : State) (m : Nat) : ModIn :=
  if m < 48 then .side (m / 2 + 1) (m % 2 = 1)
  else if m = 60 then .own (b2n (s.bit 0x600 8))
  else if m = 62 then .own (if 5 ≤ s.fld 0x604 0 3 then 1 else s.fld 0x604 0 3)
  else .own 0

/-! ## Result words -/

/-- A span overlaps the interval from `a` to now. -/
def State.overlaps (s : State) (a : Nat) (p : Span) : Bool :=
  decide (p.from_ ≤ s.clk) && (match p.to_ with | none => true | some t => decide (a ≤ t))

/-- A span is in progress. -/
def State.inSpan (s : State) (p : Span) : Bool :=
  decide (p.from_ ≤ s.clk) && (match p.to_ with | none => true | some t => decide (s.clk < t))

/-- A word of a channel whose window began at clock `a` carries SUSPECT (Table 4.9). -/
def State.suspect (s : State) (ch a : Nat) : Bool :=
  s.res.dipSpans.any (s.overlaps a) || s.res.relock.testBit ch ||
  (decide (24 ≤ ch) && decide (ch < 34) && s.res.vrgSpans.any (s.overlaps a)) ||
  (decide (ch < 24) &&
    (s.res.owSpans.any (fun e => decide (e.1 = ch + 1) && s.overlaps a e.2) || s.cfe.openTaps.testBit ch ||
      s.cfe.openTaps.testBit (ch + 1))) ||
  (decide (ch ≠ 34) && (s.res.refMis || s.res.misSpans.any (s.overlaps a)))

/-- The fault collector ignores the limit presentations of a cell: bus bar or sink interval (R78, R86). -/
def State.limMasked (s : State) (ch : Nat) : Bool :=
  decide (ch < 24) &&
    (s.busbar (ch + 1) || s.res.owSpans.any (fun e => decide (e.1 = ch + 1) && s.inSpan e.2))

/-- The sources a word over or under its limits presents (Table 4.10). -/
def State.limSources (s : State) (ch : Nat) (ov under : Bool) : List Nat :=
  if s.limMasked ch then []
  else if ch < 24 then (if ov then [ch] else []) ++ (if under then [24 + ch] else [])
  else if ch < 34 then (if ov || under then [97 + (ch - 24)] else [])
  else if ch = 34 then (if (ov || under) && decide (s.fld 0x604 0 3 = 0) then [128] else [])
  else (if ov then [123] else []) ++ (if under then [124] else [])

/-- The live bits of a channel after a word (R131). -/
def State.limLive (s : State) (ch : Nat) (ov under : Bool) : State :=
  let r := s.res
  { s with res :=
      if ch < 24 then { r with ovMask := maskSet r.ovMask ch ov, uvMask := maskSet r.uvMask ch under }
      else if ch < 34 then { r with aux := maskSet r.aux (ch - 24) (ov || under) }
      else if ch = 34 then { r with diagOut := ov || under }
      else { r with stackOv := ov, stackUv := under } }

/-- The event flags that a word over or under its limits sets (R131, RES_LIMCFG). -/
def State.limFlags (s : State) (ch : Nat) (ov under : Bool) : State :=
  let on := fun (s : State) (c : Bool) en lo => if c && s.bit 0x890 en then s.setFlag (s.fld 0x890 lo 6) else s
  if ch < 24 then on (on s ov 31 24) under 23 16
  else if ch < 34 then on s (ov || under) 15 8
  else if ch = 35 then on s (ov || under) 7 0
  else s

/-- A word of result SRAM that holds a result word of this cycle carries SUSPECT; the check word of a page already closed follows. -/
def State.suspectCell (s : State) (i : Nat) : State :=
  let s := s.putSram i (s.sramWord i ||| 0x80)
  let shut := fun (p : BPage) => decide (p.phys = i / 256) && !p.isOpen
  match (s.bsn.streams.toList.flatMap (·.pages)).find? shut with
  | some p => s.putSram (p.phys * 256 + 3) (BitVec.ofNat 32 (s.pageCheck p.phys p.fill))
  | none => s

/-- The words written in this cycle carry SUSPECT: the DIAG word that sets the mismatch state is one of the cycle's (R132). They may be in
conversions, with a jet that waits for one, and in records. -/
def State.suspectCycle (s : State) : State :=
  let hit := fun ch => decide (ch ≠ 34) && s.nowCyc.words.contains ch
  let jets := s.seq.jets.map (fun (q : Jet) =>
    match q.wait with
    | .getr rd c v (some w) => if hit c && decide (w = s.latest c) then { q with wait := .getr rd c v (some (w ||| 0x80)) } else q
    | _ => q)
  let s' := { s with
    res := { s.res with latest := Vector.ofFn (fun i : Fin 36 => if hit i.val then s.latest i.val ||| 0x80 else s.latest i.val) }
    seq := { s.seq with jets := jets }
    convs := s.convs.map (fun (c : Conv) => { c with chans := c.chans.map (fun (x : ConvCh) =>
      if hit x.ch && x.wordAt == some s.clk then { x with word := x.word.map (· ||| 0x80) } else x) }) }
  (s.nowCyc.cells.filter (fun e => hit e.1)).foldl (fun s e => s.suspectCell e.2) s'

/-- The reference-mismatch state after a DIAG word (R132). -/
def State.diagJudge (s : State) (ch a : Nat) (out : Bool) : State :=
  if ch = 34 ∧ s.fld 0x604 0 3 = 0 then
    if out then
      if s.res.refMis then s
      else ({ s with res := { s.res with refMis := true, misSpans := ⟨a, none⟩ :: s.res.misSpans } }).suspectCycle
    else
      { s with res :=
          { s.res with
            refMis := false
            misSpans := s.res.misSpans.map (fun p => if p.to_ = none then { p with to_ := some s.clk } else p) } }
  else s

/-- A completed word is written to its latest-result register: overrun check, mismatch state, limits (R126 to R132). DEDUCED, log entry 49. -/
def State.writeResult (s : State) (ch : Nat) (value : Int) (flags a : Nat) : Word × State :=
  let seq := (vget s.res.seq 0 ch + 1) % 16
  let lim := s.effHeld (0x860 + ch)
  let unit : Int := if ch = 35 then 100 else 1000
  let ov := decide ((lim.extractLsb' 16 16).toInt * unit < value)
  let under := decide (value < (lim.extractLsb' 0 16).toInt * unit)
  let s := s.diagJudge ch a (ov || under)
  let w := resultWord value (s.suspect ch a) flags seq
  let lost := vget s.res.unread false ch
  let i := if ch < 24 then ch else ch - 24
  let s := if lost then s.wcSet (if ch < 24 then 0x824 else 0x825) (putb true i) else s
  let bit := if ch < 24 then s.res.ovr0.testBit i else s.res.ovr1.testBit i
  let s := (s.noteOld (0x800 + ch) 0 (s.latest ch)).cycMod (fun c =>
    { c with words := ch :: c.words, lapped := if lost && !bit then ch :: c.lapped else c.lapped })
  let s := { s with res :=
      { s.res with
        latest := vset s.res.latest ch w, seq := vset s.res.seq ch seq, unread := vset s.res.unread ch true
        had := maskSet s.res.had ch true, relock := maskSet s.res.relock ch false
        ovr0 := if lost && decide (ch < 24) then maskSet s.res.ovr0 i true else s.res.ovr0
        ovr1 := if lost && !(decide (ch < 24)) then maskSet s.res.ovr1 i true else s.res.ovr1 } }
  let s := { s with seq :=
      { s.seq with
        jets := s.seq.jets.map (fun (q : Jet) =>
          match q.wait with
          | .getr rd c v none => if c = ch then { q with wait := .getr rd c v (some w) } else q
          | _ => q) } }
  let ovr := if lost && s.bit (if ch < 24 then 0x826 else 0x827) i then [141] else []
  let s := (s.limLive ch ov under).limFlags ch ov under
  (w, s.present (s.limSources ch ov under ++ ovr))

/-- A word of a latest-result register counts as read (R128). DEDUCED, log entry 59. -/
def State.markRead (s : State) (ch : Nat) : State := { s with res := { s.res with unread := vset s.res.unread ch false } }

/-- A read of a latest-result register gives the word from before a write of its cycle (R27, R128). -/
def State.latestRead (s : State) (ch : Nat) : Word := (s.oldWord (0x800 + ch) 0).getD (s.latest ch)

/-- A read of a latest-result register in the cycle of a write of it: the word from before it counts as read, and the overrun that the
write gave it has not taken place (R128). DEDUCED, log entry 142. -/
def State.unlap (s : State) (ch : Nat) : State :=
  if s.nowCyc.lapped.contains ch then
    let i := if ch < 24 then ch else ch - 24
    { s.cycMod (fun c => { c with lapped := c.lapped.filter (fun x => decide (x ≠ ch)) }) with res :=
      { s.res with
        ovr0 := if ch < 24 then maskSet s.res.ovr0 i false else s.res.ovr0
        ovr1 := if ch < 24 then s.res.ovr1 else maskSet s.res.ovr1 i false } }
  else s

/-- The word that a read of a latest-result register gives counts as read; a word written in the read's own cycle counts as unread
(R128). -/
def State.takeRead (s : State) (ch : Nat) : State := if s.nowCyc.words.contains ch then s.unlap ch else s.markRead ch

/-! ## Groups and triggers -/

/-- Group `g`. -/
def State.grp (s : State) (g : Nat) : Grp := vget s.seq.groups default g

/-- The state with group `g` changed. -/
def State.setGrp (s : State) (g : Nat) (f : Grp → Grp) : State :=
  { s with seq := { s.seq with groups := vmod s.seq.groups g f } }

/-- The channel set of group `g`, as a mask of 36 bits. -/
def State.grpSet (s : State) (g : Nat) : Nat := (s.eff (0xC10 + g)).toNat + 2 ^ 32 * s.fld (0xC20 + g) 0 4

/-- The channels that group `g` converts: its set without unused cells (R76). -/
def State.grpChans (s : State) (g : Nat) : List Nat :=
  (bitsOf 36 (s.grpSet g)).filter (fun c => decide (24 ≤ c) || s.used (c + 1))

/-- TRIG of group `g`. -/
def State.grpTrig (s : State) (g : Nat) : Nat := s.fld (0xC00 + g) 16 3

/-- The definition of group `g` is examined (R205). -/
def State.examineGrp (s : State) (g : Nat) : State :=
  let def_ := s.bit (0xC00 + g) 31
  let k := s.fld (0xC00 + g) 24 5
  let ok := def_ && decide (s.grpSet g ≠ 0) && decide (7 ≤ k) && decide (k ≤ 16) && decide (s.fld (0xC00 + g) 20 4 ≤ 8) &&
    decide (s.grpTrig g ≤ 4) && decide (s.fld (0xC00 + g) 12 2 ≤ 2)
  let s := if (s.grp g).defined && !ok then (s.setGrp g (fun r => { r with held := none })).heldResolved g none else s
  s.setGrp g (fun r => { r with defined := ok, cfgErr := def_ && !ok })

/-- Group `g` has a conversion running (R210). -/
def State.grpBusy (s : State) (g : Nat) : Bool := s.convs.any (fun c => decide (c.why = .group g))

/-- A channel of a new conversion. -/
def ConvCh.fresh (ch need : Nat) : ConvCh :=
  { ch := ch, need := need, n := 0, acc := 0, half := none, flags := 0, coA := none, coB := none, tFrom := 0, tSum := 0,
    word := none, wordAt := none }

/-- A conversion of group `g` begins to run, with the settings in effect (R206, R210): its number and the state. -/
def State.startConv (s : State) (g : Nat) (t : Trig) : Nat × State :=
  let avg := s.fld (0xC00 + g) 20 4
  let c : Conv :=
    { id := s.nextId, why := .group g, stand := t.stand, jet := t.jet, osrK := s.fld (0xC00 + g) 24 5, s := avg
      merge := s.bit 0x600 4, diff := s.bit 0x600 8, grid := t.grid, after := t.after, start := none
      strm := if s.bit (0xC00 + g) 8 then some (s.fld (0xC00 + g) 4 4) else none
      chans := (s.grpChans g).map (fun ch => ConvCh.fresh ch (2 ^ avg)) }
  (s.nextId, { s with convs := s.convs ++ [c], nextId := s.nextId + 1 })

/-- A conversion of a group is aborted (R213); `pre` says that it was preempted. -/
def State.abortConv (s : State) (c : Conv) (pre : Bool) : State :=
  let s := s.dropConvs (fun x => decide (x.id = c.id))
  match c.why with
  | .group g =>
    let s := s.setGrp g (fun r => { r with last := 4, aborts := inc 255 r.aborts })
    let s := if pre then { s with seq := { s.seq with preempts := inc 65535 s.seq.preempts } } else s
    s.convEnded c.id (some 4)
  | _ => s

/-- The trigger held for group `g` is taken when its conversion ends (R215). -/
def State.takeHeld (s : State) (g : Nat) : State :=
  match (s.grp g).held with
  | some t =>
    let s := s.setGrp g (fun r => { r with held := none })
    let (id, s) := s.startConv g t
    s.heldResolved g (some id)
  | none => s

/-- A trigger is taken for a group (R207, R215): its outcome, the conversion it starts, the state. Triggers are discarded in
LOCKOUT (R50). DEDUCED, log entry 55. -/
def State.trigger (s : State) (g : Nat) (t : Trig) : Nat × Option Nat × State :=
  if s.pwr.mode = .lockout then (3, none, s)
  else if !(s.grpBusy g) then
    let (id, s) := s.startConv g t
    (0, some id, s.setGrp g (fun r => { r with last := 0 }))
  else
    let dropped := fun (s : State) =>
      (s.setGrp g (fun r => { r with last := 3, overruns := inc 65535 r.overruns })).present1 140
    match s.fld (0xC00 + g) 12 2 with
    | 1 =>
      if (s.grp g).held.isNone then (1, none, s.setGrp g (fun r => { r with held := some t, last := 1 }))
      else (3, none, dropped s)
    | 2 =>
      let s := (s.convs.filter (fun c => decide (c.why = .group g))).foldl (fun (s : State) (c : Conv) => s.abortConv c false) s
      let (id, s) := s.startConv g t
      (2, some id, s.setGrp g (fun r => { r with last := 2 }))
    | _ => (3, none, dropped s)

/-- A trigger of a source other than a jet, for a defined group with that TRIG. -/
def State.triggerFrom (s : State) (src : Nat) (stand : Nat) (grid : Bool) (g : Nat) : State :=
  if (s.grp g).defined ∧ s.grpTrig g = src then (s.trigger g ⟨grid, none, stand, 8⟩).2.2 else s

/-- The words of this cycle in the record just written to stream `m` are known by their places (R132). -/
def State.noteCells (s : State) (m : Nat) (chans : List ConvCh) : State :=
  match (s.strm m).openPage with
  | some p =>
    let a := p.phys * 256 + 4 + p.fill / 4 - chans.length
    s.cycMod (fun c => { c with cells :=
      (chans.zipIdx.filter (fun (e : ConvCh × Nat) => e.1.wordAt == some s.clk)).map (fun e => (e.1.ch, a + e.2)) ++ c.cells })
  | none => s

/-- A conversion is complete (R174): its record, without unused cells (R143), is offered, waiting jets get their outcome, a held trigger
is taken. A set in which no channel is left gives no record. DEDUCED, log entry 60. -/
def State.completeConv (s : State) (c : Conv) : State :=
  match c.why with
  | .group g =>
    let s := s.dropConvs (fun x => decide (x.id = c.id))
    let chans := c.chans.filter (fun (x : ConvCh) => decide (24 ≤ x.ch) || s.used (x.ch + 1))
    let s := match c.strm, chans with
      | some m, f :: _ =>
        let delay := s.modP * (11 * 2 ^ c.osrK / 4 - 2)
        let (drop, s) := s.offer m false g (f.tSum / f.need - delay) (chans.map (fun (x : ConvCh) => x.word.getD 0))
        if drop = 0 then s.noteCells m chans else s
      | _, _ => s
    (s.convEnded c.id none).takeHeld g
  | _ => s

/-! ## The arbiter -/

/-- The conversion is one of the open-wire engine's. -/
def Conv.ofOw (c : Conv) : Bool :=
  match c.why with | .owBase => true | .owCheck => true | _ => false

/-- The OSR exponent a conversion asks for now (R46). Whether SERVICE raises the open-wire engine's own too is open (R46, R85). DESIGN
CHOICE, log entry 139. -/
def State.convOsr (s : State) (c : Conv) : Nat :=
  if s.pwr.mode = .service ∧ (¬c.ofOw ∨ Config.owService) then max 13 c.osrK else c.osrK

/-- The grid phase of modulator `m` for a conversion at OSR exponent `k`: side B of an interleaved pair is half an output period
behind (R103). -/
def State.gridPhase (s : State) (merge : Bool) (k m : Nat) : Nat :=
  if m < 48 ∧ m % 2 = 1 ∧ ¬merge then s.modP * 2 ^ k / 2 else 0

/-- The decimator of modulator `m`, where it runs, has the input that the settings in effect give it (R23, R104). -/
def State.sameInput (s : State) (m : Nat) : Bool :=
  match (s.modul m).decim with
  | some d => decide (d.inp = s.modInput m)
  | none => true

/-- A decimator of OSR exponent `k` runs on the grid of modulator `m` (R103, R104). -/
def State.onGrid (s : State) (merge : Bool) (k m : Nat) (d : Decim) : Bool :=
  decide (d.start.toNat % (s.modP * 2 ^ k) = s.gridPhase merge k m)

/-- Conversion `r` is compatible with what holds modulator `m` (R211). One that a commit has given another input waits for those that run
on with the old one (R23, R104). DEDUCED, log entry 55. -/
def State.compatOn (s : State) (r : Conv) (m : Nat) : Bool :=
  (s.convs.filter (fun c => c.granted && c.needs.contains m)).all (fun c =>
    decide (c.osrK = s.convOsr r) && s.sameInput m &&
      (!r.grid || (match (s.modul m).decim with | some d => s.onGrid r.merge (s.convOsr r) m d | none => false)))

/-- Every side that `r` needs is free or compatible. -/
def State.canGrant (s : State) (r : Conv) : Bool := r.needs.all (s.compatOn r)

/-- The least value not below `n` that is `phase` modulo `period`. -/
def roundUp (n period phase : Nat) : Nat := n + (phase % period + period - n % period) % period

/-- The earliest timebase value at which a grid start may fall: now, or the SYNCV deadline (R173). -/
def State.gridFrom (s : State) (r : Conv) : Nat :=
  match r.after with
  | some ra =>
    if s.reached32 (BitVec.ofNat 32 ra) then s.tbNext
    else max s.tbNext (s.tbn + (BitVec.ofNat 32 ra - s.tb.setWidth 32).toNat)
  | none => s.tbNext

/-- The start of a decimator that runs on as the conversion asks: the same OSR and input, and on the grid for a grid start (R104). -/
def State.keepsOn (s : State) (c : Conv) (m : Nat) : Option Nat :=
  match (s.modul m).decim with
  | some d =>
    if d.osrK = c.osrK ∧ d.inp = s.modInput m ∧ (¬c.grid ∨ s.onGrid c.merge c.osrK m d) then some d.start.toNat else none
  | none => none

/-- A decimator starts. -/
def State.startDecim (s : State) (k m start : Nat) : State :=
  s.setModul m (fun q => { q with decim := some ⟨k, s.modInput m, BitVec.ofNat 64 start, 0⟩ })

/-- Side B's start less side A's, where both sides of a cell convert (R103, R105). -/
def sideLag (merge : Bool) (per : Nat) : Nat := if merge then 0 else per / 2

/-- The two sides `a` and `a + 1` of a cell start at once: a side that runs on keeps its place, and the other takes its place by it;
two that run on in the wrong relation both start anew (R103 to R105). DEDUCED, log entry 56. -/
def State.startPair (s : State) (c : Conv) (a start : Nat) : State :=
  let per := s.modP * 2 ^ c.osrK
  let lag := sideLag c.merge per
  let both := (s.startDecim c.osrK a start).startDecim c.osrK (a + 1) (start + lag)
  match s.keepsOn c a, s.keepsOn c (a + 1) with
  | some x, some y => if (y + per - x % per) % per = lag then s else both
  | some x, none => s.startDecim c.osrK (a + 1) (roundUp start per (x + lag))
  | none, some y => s.startDecim c.osrK a (roundUp start per (y + per - lag))
  | none, none => both

/-- The decimators of a conversion start under R103: each at its first grid point from `from_` on, or at the edge `start`. -/
def State.startDecims (s : State) (c : Conv) (from_ start : Nat) : State :=
  let per := s.modP * 2 ^ c.osrK
  let needs := c.needs
  needs.foldl (fun s m =>
    if c.grid then
      if (s.keepsOn c m).isSome then s else s.startDecim c.osrK m (roundUp from_ per (s.gridPhase c.merge c.osrK m))
    else if m < 48 ∧ m % 2 = 0 ∧ needs.contains (m + 1) then s.startPair c m start
    else if m < 48 ∧ m % 2 = 1 ∧ needs.contains (m - 1) then s
    else if (s.keepsOn c m).isSome then s
    else s.startDecim c.osrK m start) s

/-- The start of a conversion that starts now (R103): its first grid point, or the next modulator edge. -/
def State.startOf (s : State) (r : Conv) : Nat :=
  if r.grid then roundUp (s.gridFrom r) (s.modP * 2 ^ r.osrK) 0 else roundUp s.tbNext s.modP 0

/-- The end of the trim that a spectrum run of kind 0 begins with: its sides are held from its start, and their decimators start at
the first grid point after the trim (R253, R258, Table 9.8). -/
def State.trimEnd (s : State) (r : Conv) : Option Nat :=
  match r.why, s.spc.run with
  | .spec, some q => if q.phase = .trim then some q.tb else none
  | _, _ => none

/-- A conversion is granted and starts (R103, R211); one of a channel set without used cells is complete at once. -/
def State.grant (s : State) (r : Conv) : State :=
  let r := { r with osrK := s.convOsr r }
  let start := match s.trimEnd r with
    | some t => roundUp (max t s.tbNext) (s.modP * 2 ^ r.osrK) 0
    | none => s.startOf r
  let r := { r with start := some (BitVec.ofNat 64 start), at_ := s.clk }
  let s := { s with convs := s.convs.map (fun (c : Conv) => if c.id = r.id then r else c) }
  let s := if (s.trimEnd r).isSome then s else s.startDecims r (s.gridFrom r) start
  if r.chans = [] then s.completeConv r else s

/-- A lower-standing conversion gives way: a group conversion is aborted, a LOCKOUT channel waits again (R50, R212, R213). -/
def State.preempt (s : State) (c : Conv) : State :=
  match c.why with
  | .lock _ =>
    { s with convs := s.convs.map (fun x =>
        if x.id = c.id then { x with start := none, chans := x.chans.map (fun k => ConvCh.fresh k.ch k.need) } else x) }
  | _ => s.abortConv c true

/-- The input of the chain that serves modulator `m` changes under its running decimator: the next five outputs are discarded (R101). -/
def State.skipFive (s : State) (m : Nat) : State :=
  match (s.modul m).decim with
  | some d =>
    let done := (s.time.tbMax.toNat - d.start.toNat) / (s.modP * 2 ^ d.osrK)
    s.setModul m (fun q => { q with decim := some { d with inp := s.modInput m, last := max d.last (done + 5) } })
  | none => s

/-- A register write has changed the input of modulator 60 or 62 (R101). -/
def State.inputChanged (s : State) (m : Nat) : State := if s.sameInput m then s else s.skipFive m

/-- The arbiter's order of requests: standing, group number, jet number (R212). -/
def Conv.rank (c : Conv) : Nat :=
  let g := match c.why with | .group g => g | .lock ch => ch | _ => 0
  (c.stand * 64 + g) * 16 + c.jet

/-- One waiting request is handled (R212). -/
def State.arbitrate1 (s : State) (id : Nat) : State :=
  match s.convs.find? (fun c => decide (c.id = id)) with
  | none => s
  | some r =>
    if r.granted then s
    else if s.canGrant r then s.grant r
    else if r.stand ≤ 1 then
      let bad := s.convs.filter (fun c =>
        c.granted && decide (r.stand < c.stand) && c.needs.any (fun m => r.needs.contains m && !(s.compatOn r m)))
      let s := bad.foldl State.preempt s
      if s.canGrant r then s.grant r else s
    else s

/-- The group number of a conversion, 16 where it has none. -/
def Conv.groupNo (c : Conv) : Nat :=
  match c.why with | .group g => g | _ => 16

/-- A request put in its place in the arbiter's order. -/
def insertConv (c : Conv) : List Conv → List Conv
  | [] => [c]
  | d :: t => if c.rank < d.rank then c :: d :: t else d :: insertConv c t

/-- The arbiter handles the waiting requests of a cycle (R212). DEDUCED, log entry 55. -/
def State.arbitrate (s : State) : State :=
  ((s.convs.filter (fun (c : Conv) => !c.granted)).foldl (fun (l : List Conv) (c : Conv) => insertConv c l) []).foldl (fun (s : State) (c : Conv) => s.arbitrate1 c.id) s

/-! ## Samples -/

/-- The coefficients of both sides as a window begins (R110). -/
def State.latchCoef (s : State) (c : ConvCh) : ConvCh :=
  match chanMods c.ch with
  | a :: b :: _ => { c with coA := some (s.coefOf (s.physOf a)), coB := some (s.coefOf (s.physOf b)) }
  | a :: _ => { c with coA := some (s.coefOf (s.physOf a)) }
  | [] => c

/-- A channel takes a raw sample of modulator `m` (R105, R109): one side of a merged pair waits for the other. `lim` are its clip
limits. -/
def State.takeSample (s : State) (merge : Bool) (lim : Int × Int) (c : ConvCh) (m : Nat) (d : Int) (overload : Bool) : ConvCh :=
  let c := if c.n = 0 ∧ c.half = none then { s.latchCoef c with tFrom := s.clk } else c
  let sideB := decide (m < 48) && decide (m % 2 = 1)
  let (live, o, g) := ((if sideB then c.coB else c.coA).getD (false, 0, 0x400000))
  let (x, clipped) := correct lim o g d overload
  let fl := c.flags ||| (if live then 0 else 0x20) ||| (if 48 ≤ s.physOf m then (if m < 48 then 0x40 else 0) else 0) |||
    (if clipped then 0x10 else 0)
  if merge && decide (c.ch < 24) then
    match c.half with
    | some (b, y) =>
      if b = sideB then { c with half := some (sideB, x), flags := fl }
      else { c with half := none, flags := fl, n := c.n + 1, acc := c.acc + (x + y) / 2, tSum := c.tSum + s.tbn }
    | none => { c with half := some (sideB, x), flags := fl }
  else { c with flags := fl, n := c.n + 1, acc := c.acc + x, tSum := c.tSum + s.tbn }

/-- The OSR of the calibrated average of a channel that has all its samples. -/
def ConvCh.full (c : ConvCh) : Bool := decide (c.need ≤ c.n) && c.word.isNone

/-- The exponent s of a channel that averages `need` = 2^s samples. -/
def ConvCh.exp (c : ConvCh) : Nat := Nat.log2 c.need

/-- A channel of a conversion that has its samples forms its word. -/
def State.formWord (s : State) (why : ConvFor) (c : ConvCh) : ConvCh × State :=
  let v := average c.acc c.exp
  let (w, s) := s.writeResult c.ch v c.flags c.tFrom
  match why with
  | .owBase =>
    let s := match s.cfe.run with
      | some r => { s with cfe := { s.cfe with run := some { r with base := r.base ++ [(c.ch + 1, v)] } } }
      | none => s
    ({ c with word := some w, wordAt := some s.clk }, s)
  | .owCheck =>
    let s := match s.cfe.run with
      | some r => { s with cfe := { s.cfe with run := some { r with chk := r.chk ++ [(c.ch + 1, v)] } } }
      | none => s
    ({ c with word := some w, wordAt := some s.clk }, s)
  | .group _ => ({ c with word := some w, wordAt := some s.clk }, s)
  | _ => (ConvCh.fresh c.ch c.need, s)

/-- The chopping divider of a modulator is taken up anew as a window begins (R99). -/
def State.takeChop (s : State) (m : Nat) : State := s.setModul (s.physOf m) (fun q => { q with chop := chopDiv s.thm.band })

/-- A channel at the start of its averaging window. -/
def ConvCh.begins (c : ConvCh) : Bool := decide (c.n = 0) && c.half.isNone && c.word.isNone

/-- The earliest instant that a window of the spectrum engine still needs a sample of, none where it needs none (R262, R268). -/
def State.smpFrom (s : State) : Option Nat :=
  let open_ := match s.spc.run with
    | none => []
    | some r => (match r.phase with | .track => r.tb | .ending => r.te | _ => r.ts) :: r.pubs.map (·.ts)
  (open_ ++ s.spc.sends.map (·.ts)).min?

/-- The samples that no window needs any longer are dropped. -/
def State.pruneSmp (s : State) : State :=
  { s with spc := { s.spc with smp := match s.smpFrom with
      | none => []
      | some t => s.spc.smp.filter (fun e => decide (t ≤ e.tau)) } }

/-- The spectrum engine takes a sample of a channel that it holds (R262): `x` before it and `y` after it, from side `m`. -/
def State.tapSpec (s : State) (osrK m : Nat) (lim : Int × Int) (x y : ConvCh) (d : Int) (overload : Bool) : State :=
  let delay := s.modP * (11 * 2 ^ osrK / 4 - 2)
  let sideB := decide (m < 48) && decide (m % 2 = 1)
  let (_, o, g) := (if sideB then y.coB else y.coA).getD (false, 0, 0x400000)
  let sus := (correct lim o g d overload).2 || s.suspect x.ch (s.clk - s.modP * 2 ^ osrK)
  let e : Smp := { ch := x.ch, tau := s.tbn - delay, x := if y.n = x.n then none else some (y.acc - x.acc), sus := sus }
  match s.spc.run, s.smpFrom with
  | some _, some t => if t ≤ e.tau then { s with spc := { s.spc with smp := e :: s.spc.smp } } else s
  | _, _ => s

/-- Conversion `id` changed. -/
def State.setConvs (s : State) (id : Nat) (f : Conv → Conv) : State :=
  { s with convs := s.convs.map (fun (k : Conv) => if k.id = id then f k else k) }

/-- Conversion `id` takes a sample of modulator `m` (R106). -/
def State.convSample (s : State) (id m : Nat) (d : Int) (overload : Bool) : State :=
  match s.convs.find? (fun c => decide (c.id = id)) with
  | none => s
  | some c =>
    let s := if c.chans.any (fun x => decide (x.ch = modChan m) && x.begins) then (chanMods (modChan m)).foldl State.takeChop s else s
    let takes := fun (x : ConvCh) => decide (x.ch = modChan m) && x.word.isNone
    let next := fun (x : ConvCh) => s.takeSample (c.merge && !c.ofOw) (clip c.diff x.ch) x m d overload
    let s := if c.why = .spec then
        (c.chans.filter takes).foldl (fun (s : State) x => s.tapSpec c.osrK m (clip c.diff x.ch) x (next x) d overload) s
      else s
    let chans := c.chans.map (fun x => if takes x then next x else x)
    let s := (s.setConvs id (fun k => { k with chans := chans }))
    let s := (chans.filter ConvCh.full).foldl (fun (s : State) x =>
      let (x, s) := s.formWord c.why x
      s.setConvs id (fun k => { k with chans := k.chans.map (fun y => if y.ch = x.ch then x else y) })) s
    let c := (s.convs.find? (fun c => decide (c.id = id))).getD c
    if c.chans.all (·.word.isSome) then
      match c.why with
      | .group _ => s.completeConv c
      | .owBase => s.dropConvs (fun k => decide (k.id = id))
      | .owCheck => s.dropConvs (fun k => decide (k.id = id))
      | _ => s
    else s

/-- A conversion put into the order in which completions of one cycle are handled: ascending group number (R146). -/
def insertByGroup (c : Conv) : List Conv → List Conv
  | [] => [c]
  | d :: t => if c.groupNo < d.groupNo then c :: d :: t else d :: insertByGroup c t

/-! ## The decimation chain (R100) -/

/-- Binomial coefficient `n` over 3. -/
def choose3 (n : Nat) : Nat := n * (n - 1) * (n - 2) / 6

/-- Weight `i` of the sinc⁴ stage with decimation `m`, times m^4: the coefficient of z^−i in ((1 − z^−m) / (1 − z^−1))^4. -/
def sincWeight (m i : Nat) : Int :=
  ([(0, 1), (1, -4), (2, 6), (3, -4)] : List (Nat × Int)).foldl (fun w e =>
    if e.1 * m ≤ i then w + e.2 * choose3 (i - e.1 * m + 3) else w) 0

/-- An output of the sinc⁴ stage, times m^4, from the modulator's last 4m − 3 values. -/
def sincAt (m : Nat) (xs : List Int) : Int :=
  (List.range (4 * m - 3)).foldl (fun w i => w + sincWeight m i * xs.getD i 0) 0

/-- An output of a half-band stage, times 32, from its last 7 inputs. -/
def halfBand (a : List Int) : Int := 9 * a.getD 2 0 + 16 * a.getD 3 0 + 9 * a.getD 4 0 - a.getD 0 0 - a.getD 6 0

/-- The values that a raw sample at OSR exponent `k` is made of: 5.5 × OSR − 3 modulator edges. -/
def chainSpan (k : Nat) : Nat := 22 * 2 ^ (k - 2) - 3

/-- The raw sample of Table 4.4 at OSR exponent `k` from the modulator's values at the last edges, newest first, in nominal units: no
stage rounds, and the DC gain is 1. DESIGN CHOICE, log entry 130. -/
def rawSample (k : Nat) (xs : List Int) : Int :=
  let m := 2 ^ (k - 2)
  let s1 := (List.range 19).map (fun j => sincAt m (xs.drop (j * m)))
  let s2 := (List.range 7).map (fun j => halfBand (s1.drop (2 * j)))
  freeRound 0 ((halfBand s2 : Rat) / (m ^ 4 * 1024 : Nat))

/-- Spare `m` − 48 is away from its side for its own calibration points (R121). -/
def State.calAway (s : State) (m : Nat) : Bool :=
  match s.mod.run with
  | some r => r.taken && decide (48 ≤ m) && decide (m < 52) && decide (r.todo.head? = some m)
  | none => false

/-- A decimation chain delivers a raw sample (R100 to R109): it comes at the next output of the decimator that is not discarded,
and every granted conversion that holds the side takes it, those that complete in ascending group number (R146). DEDUCED, log entry 6. -/
def State.deliver (s : State) (m : Nat) (xs : List Int) (overload : Bool) : State :=
  match if (s.sliceOf m).isSome || s.calAway m then none else s.roleOf m with
  | none => s
  | some r =>
    match (s.modul r).decim with
    | none => s
    | some dec =>
      let per := s.modP * 2 ^ dec.osrK
      let st := dec.start.toNat
      let k := max (max 6 (dec.last + 1)) ((s.tbNext - st + per - 1) / per)
      let s := s.untilTb (BitVec.ofNat 64 (st + k * per))
      let s := s.setModul r (fun q => { q with decim := some { dec with last := k } })
      let takers := s.convs.filter (fun c =>
        c.granted && c.needs.contains r && decide (c.osrK = dec.osrK) &&
          (match c.start with | some t => decide (t ≤ s.tb) | none => false))
      let d := rawSample dec.osrK xs
      (takers.foldl (fun l c => insertByGroup c l) []).foldl (fun (s : State) (c : Conv) => s.convSample c.id r d overload) s

/-- Modulators deliver samples: they are clocked, in a mode in which they convert (R40, R98). -/
def State.modsOn (s : State) : Bool :=
  s.coreOn && (s.pwr.pllLock || decide (s.pwr.mode = .watch))

end Sys2Proof.Machine
end

