-- ==== Sys2Proof/Machine/Issue.lean ====
section
/-! DEFINITION. Machine/Issue.lean: the fetch and issue of a Balrax instruction, and what every instruction does with the jet's
registers, program counter and waits (R157 to R189). -/

namespace Sys2Proof.Machine

/-- General register `r` of jet `j`; g0 reads 0 (R158). -/
def State.greg (s : State) (j : Nat) (r : Reg) : Word := if r = 0 then 0 else vget (s.jet j).regs 0 r.toNat

/-- Jet `j` with `w` in register `r`; a write to g0 is discarded (R158). -/
def Jet.write (q : Jet) (r : Reg) (w : Word) : Jet := if r = 0 then q else { q with regs := vset q.regs r.toNat w }

/-- A register of jet `j` is written. -/
def State.setReg (s : State) (j : Nat) (r : Reg) (w : Word) : State := s.setJet j (fun q => q.write r w)

/-- A free value is taken: the word and the state after. DESIGN CHOICE, log entries 13 and 80. -/
def State.free (s : State) : Word × State := (Config.freeValue s.freeN, { s with freeN := s.freeN + 1 })

/-- Jet `j` can issue: it runs, waits for nothing, and its core cycles come (R162, R203). DEDUCED, log entry 64. -/
def State.canIssue (s : State) (j : Nat) : Bool :=
  decide (j < 8) && s.coreOn && s.modeIn 3 10 && decide ((s.jet j).wait = .none) &&
    (match (s.jet j).st with | .running => true | .stopping => true | _ => false)

/-- A fault in the cycle after issue (R189). DEDUCED, log entry 64. -/
def State.faultIssue (s : State) (j cause : Nat) : State := (s.until_ ((s.jet j).busyTo + s.cycle)).faultJet j cause

/-- The cycle of an instruction's work, counted from its issue: register accesses, triggers and the stop of HALT fall in the cycle
after (R160, R171, R173, R175, R188). -/
def workLag : Balrax → Nat
  | .rdreg _ _ _ => 1
  | .wrreg _ _ _ => 1
  | .lim _ _ _ _ => 1
  | .getr _ _ _ _ _ n => if n then 0 else 1
  | .conv _ _ _ => 1
  | .syncv _ _ _ _ => 1
  | .halt _ => 1
  | _ => 0

/-- The same for a fetched word: one that is no instruction faults in the cycle after (R189). -/
def wordLag (w : Word) : Nat :=
  match Balrax.decode w with
  | some i => workLag i
  | none => 1

/-- The word that jet `j` fetches: the one from before a write of its own cycle (R194). -/
def State.fetchWord (s : State) (j : Nat) : Word :=
  let pc := (s.jet j).pc
  let w := s.progWord pc
  let lag := wordLag w * s.cycle
  let c := s.cyc.find? (fun c => decide (c.at_ + lag = max s.clk ((s.jet j).busyTo + lag)))
  match c.bind (fun c => c.before.find? (fun e => decide (e.1 = 0xC49) && decide (e.2.1 = pc))) with
  | some (_, _, old) => old
  | none => w

/-- The cycle of the work of what jet `j` fetches, counted from its issue; a fetch that faults does so in the cycle after (R189). -/
def State.lagOf (s : State) (j : Nat) : Nat :=
  let pc := (s.jet j).pc
  if 16384 ≤ pc then 1 else if s.seqBad .prog pc then 1 else wordLag (s.fetchWord j)

/-- The clock of the issue whose work falls on the present cycle. -/
def State.issuedAt (s : State) : Nat := s.clk - s.cycle

/-- Jet `j` fetches the word at its PC when it is next to issue (R157, R164, R165, R169): its instruction, or the fault of a fetch
past word 16,383, of an uncorrectable word or of an undefined instruction. The clock is at the cycle of the instruction's work, so no
jet waits for another to issue. DESIGN CHOICE, log entry 13; DEDUCED, log entries 63 and 64. -/
def State.fetchI (s : State) (j : Nat) : Option Balrax × State :=
  if !s.canIssue j then (none, s)
  else
    let w := s.fetchWord j
    let s := s.until_ ((s.jet j).busyTo + s.lagOf j * s.cycle)
    let pc := (s.jet j).pc
    if 16384 ≤ pc then (none, (s.setJet j (fun q => { q with pc := 16383 })).faultFetch j 2 0)
    else
      let bad := s.seqBad .prog pc
      let s := s.seqEcc .prog pc
      if bad then
        let (x, s) := s.free
        (none, s.faultFetch j 11 x)
      else
        match Balrax.decode w with
        | some i => (some i, s)
        | none => (none, s.faultFetch j 1 w)

/-- The instruction is done: the next word follows, at the earliest `cost` core cycles after `at_` (R160). DEDUCED, log entry 64. -/
def State.retire (s : State) (j at_ cost : Nat) : State :=
  s.setJet j (fun q =>
    { q with pc := q.pc + 1, busyTo := max s.clk (at_ + cost * s.cycle), lastPc := q.pc, lastDep := q.stack.length })

/-- Ticks until the watchdog of a jet that has counted `n` cycles reaches its limit (R204). DEDUCED, log entry 68. -/
def State.wdTicks (s : State) (n : Nat) : Nat := (s.fld 0xC60 16 8 * 1024 - n) * s.cycle

/-- The core cycles of an instruction that does not wait and acts outside its jet (Table 6.2); 1 for the others. -/
def workCycles : Balrax → Nat
  | .rdreg _ _ _ => 3
  | .conv _ w _ => if w then 1 else 2
  | .syncv _ _ w _ => if w then 1 else 2
  | .getr _ _ _ _ _ n => if n then 1 else 3
  | .balq _ _ _ => 2
  | .exc _ _ => 3
  | _ => 1

/-- The watchdog of jet `j` is enabled and reaches its limit before clock `t` (R204). -/
def State.wdBefore (s : State) (j t : Nat) : Bool :=
  let q := s.jet j
  decide (q.st = .running) && decide (s.fld 0xC60 16 8 ≠ 0) && decide (q.wdFrom + s.wdTicks q.wdCyc < t)

/-- The watchdog stops jet `j` while instruction `i`, whose work falls in this cycle, is in progress: it has no effect (R204). -/
def State.wdCuts (s : State) (j : Nat) (i : Balrax) : Bool :=
  decide (1 < workCycles i) && s.wdBefore j (s.clk - workLag i * s.cycle + workCycles i * s.cycle)

/-- Jet `j` comes to issue instruction `i`: where it issues and its word is that instruction, `run` follows, but nothing of an
instruction that the watchdog will cut; otherwise only what the jet's own fetch brings about. DEDUCED, log entry 63. -/
def State.issueNow (s : State) (j : Nat) (i : Balrax) (run : State → State) : State :=
  let (f, s) := s.fetchI j
  if f = some i then (if s.wdCuts j i then s.retire j (s.clk - workLag i * s.cycle) (workCycles i) else run s) else s

/-- The kill that has stopped jet `j` in this cycle or stops it in the next: the clock of that stop and the jet as it stood (R202). -/
def State.killOf (s : State) (j : Nat) : Option (Nat × Jet) :=
  if (s.jet j).st = .stopped then
    s.cyc.findSome? (fun c =>
      if s.clk ≤ c.at_ then (c.killed.find? (fun e => decide (e.1 = j))).map (fun e => (c.at_, e.2)) else none)
  else none

/-- An instruction of jet `j` that issues no later than in the cycle of the write that kills it runs; the jet stops in the cycle after that
write (R202). DEDUCED, log entry 66. -/
def State.issueKilled (s : State) (j : Nat) (i : Balrax) (run : State → State) (stop : Nat) (q : Jet) : State :=
  let u := s.setJet j (fun _ => q)
  if q.busyTo < stop ∧ s.clk < stop + u.lagOf j * s.cycle then
    let u := u.issueNow j i run
    if (u.jet j).busy then (if u.clk < stop then u.nextCycle (·.stopJet j 13 0 true) else u.stopJet j 13 0 true) else u
  else s

/-- A command that reports the issue of instruction `i` by jet `j` (R157). DEDUCED, log entry 63. -/
def State.issue (s : State) (j : Nat) (i : Balrax) (run : State → State) : Out :=
  .next (match s.killOf j with
    | some (stop, q) => s.issueKilled j i run stop q
    | none => s.issueNow j i run)

/-- A control transfer to word `target`, or its fault (R169). -/
def State.jump (s : State) (j : Nat) (target : Int) : State :=
  if 0 ≤ target ∧ target < 16384 then
    s.setJet j (fun q =>
      { q with pc := target.toNat, busyTo := s.clk + 2 * s.cycle, lastPc := q.pc, lastDep := q.stack.length })
  else s.faultIssue j 2

/-- The instruction at the PC begins to wait (R161); `safe` says that the wait is a safe point, at which the watchdog counter
is 0. A jet asked to stop stays STOPPING. -/
def State.await (s : State) (j cost : Nat) (w : JWait) (safe : Bool) : State :=
  s.setJet j (fun q =>
    { q with st := if safe && decide (q.st = .running) then .waiting else q.st, wait := w, busyTo := s.clk + cost * s.cycle
             wdFrom := if safe then s.clk else q.wdFrom, wdCyc := if safe then 0 else q.wdCyc })

/-- A wait ends: `w` goes to `rd` and the jet runs on at clock `next` (R160, R162). -/
def State.endWait (s : State) (j : Nat) (rd : Reg) (w : Word) (next : Nat) : State :=
  s.setJet j (fun q =>
    { (q.write rd w) with st := if q.st = .waiting then .running else q.st, wait := .none, pc := q.pc + 1
                          busyTo := next, lastPc := q.pc, lastDep := q.stack.length
                          wdFrom := if q.st = .waiting then s.clk else q.wdFrom
                          wdCyc := if q.st = .waiting then 0 else q.wdCyc })

/-- Jet `j` is at a wait that can end: no stop is pending at it (R201), and its core cycles come (R162). -/
def State.canWake (s : State) (j : Nat) : Bool :=
  decide (j < 8) && s.coreOn && s.modeIn 3 10 && decide ((s.jet j).st = .waiting)

/-- The address rb + sext(imm18). -/
def State.jaddr (s : State) (j : Nat) (rb : Reg) (imm : Imm18) : Nat := (s.greg j rb + imm.signExtend 32).toNat

/-- A channel or flag operand: the immediate, or the register where RSEL is set (R172). -/
def State.rselect (s : State) (j : Nat) (rsel : Bool) (imm : BitVec 6) (r : Reg) : Nat :=
  if rsel then (s.greg j r).toNat else imm.toNat

/-- A scratch word is written (R170, R194): payload reads that come before it have taken the old word, and so does a load of
this cycle. -/
def State.putScratch (s : State) (i : Nat) (w : Word) : State :=
  let s := s.strmAll
  let s := s.noteOld 0xC4B (i / 1024 * 65536 + i % 1024) (s.scratchWord i)
  ({ s with seq := { s.seq with scratch := Sparse.set none s.seq.scratch i (some w) } }).eccClear .scratch i

end Sys2Proof.Machine
end

