-- ==== Sys2Proof/Machine/BalraxCore.lean ====
section
/-! DEFINITION. Machine/BalraxCore.lean: the meanings of the arithmetic, control, scratch and time instructions of the jets
(R165 to R170, R184, R185, R188). -/

namespace Sys2Proof.Machine

/-- The result of an ALU operation (Table 6.3). -/
def aluOp (op : AluOp) (a b : Word) : Word :=
  match op with
  | .add => a + b
  | .sub => a - b
  | .and => a &&& b
  | .or => a ||| b
  | .xor => a ^^^ b
  | .shl => a <<< (b.toNat % 32)
  | .shr => a >>> (b.toNat % 32)
  | .sar => a.sshiftRight (b.toNat % 32)
  | .mul => a * b
  | .min => if a.slt b then a else b
  | .max => if a.slt b then b else a

/-- An instruction of the ALU group (R167). -/
def State.aluStep (s : State) (j : Nat) (op : AluOp) (dst a b : Reg) : State :=
  ((s.setReg j dst (aluOp op (s.greg j a) (s.greg j b))).retire j s.clk (if op = .mul then 2 else 1))

/-- ADD (R167). -/
def execAdd (dt j : Nat) (dst a b : Reg) (s : State) : Out :=
  (s.elapse dt).issue j (.alu .add dst a b) (·.aluStep j .add dst a b)

/-- SUB (R167). -/
def execSub (dt j : Nat) (dst a b : Reg) (s : State) : Out :=
  (s.elapse dt).issue j (.alu .sub dst a b) (·.aluStep j .sub dst a b)

/-- AND (R167). -/
def execAndOp (dt j : Nat) (dst a b : Reg) (s : State) : Out :=
  (s.elapse dt).issue j (.alu .and dst a b) (·.aluStep j .and dst a b)

/-- OR (R167). -/
def execOrOp (dt j : Nat) (dst a b : Reg) (s : State) : Out :=
  (s.elapse dt).issue j (.alu .or dst a b) (·.aluStep j .or dst a b)

/-- XOR (R167). -/
def execXorOp (dt j : Nat) (dst a b : Reg) (s : State) : Out :=
  (s.elapse dt).issue j (.alu .xor dst a b) (·.aluStep j .xor dst a b)

/-- SHL (R167). -/
def execShl (dt j : Nat) (dst a b : Reg) (s : State) : Out :=
  (s.elapse dt).issue j (.alu .shl dst a b) (·.aluStep j .shl dst a b)

/-- SHR (R167). -/
def execShr (dt j : Nat) (dst a b : Reg) (s : State) : Out :=
  (s.elapse dt).issue j (.alu .shr dst a b) (·.aluStep j .shr dst a b)

/-- SAR (R167). -/
def execSar (dt j : Nat) (dst a b : Reg) (s : State) : Out :=
  (s.elapse dt).issue j (.alu .sar dst a b) (·.aluStep j .sar dst a b)

/-- MUL (R167). -/
def execMul (dt j : Nat) (dst a b : Reg) (s : State) : Out :=
  (s.elapse dt).issue j (.alu .mul dst a b) (·.aluStep j .mul dst a b)

/-- MIN (R167). -/
def execMinOp (dt j : Nat) (dst a b : Reg) (s : State) : Out :=
  (s.elapse dt).issue j (.alu .min dst a b) (·.aluStep j .min dst a b)

/-- MAX (R167). -/
def execMaxOp (dt j : Nat) (dst a b : Reg) (s : State) : Out :=
  (s.elapse dt).issue j (.alu .max dst a b) (·.aluStep j .max dst a b)

/-- ADDI (R168). -/
def execAddi (dt j : Nat) (ra rb : Reg) (imm : Imm18) (s : State) : Out :=
  (s.elapse dt).issue j (.addi ra rb imm)
    (fun s => (s.setReg j ra (s.greg j rb + imm.signExtend 32)).retire j s.clk 1)

/-- LUI (R168). -/
def execLui (dt j : Nat) (ra : Reg) (imm : Imm18) (s : State) : Out :=
  (s.elapse dt).issue j (.lui ra imm) (fun s => (s.setReg j ra (imm.setWidth 32 <<< 14)).retire j s.clk 1)

/-- The condition of a branch (Table 6.4). -/
def brCond (op : BrOp) (a b : Word) : Bool :=
  match op with
  | .eq => decide (a = b)
  | .ne => decide (a ≠ b)
  | .lt => a.slt b
  | .ge => !a.slt b

/-- A conditional branch (R169). -/
def State.branch (s : State) (j : Nat) (op : BrOp) (ra rb : Reg) (imm : Imm18) : State :=
  if brCond op (s.greg j ra) (s.greg j rb) then s.jump j ((s.jet j).pc + imm.toInt) else s.retire j s.clk 1

/-- BEQ (R169). -/
def execBeq (dt j : Nat) (ra rb : Reg) (imm : Imm18) (s : State) : Out :=
  (s.elapse dt).issue j (.br .eq ra rb imm) (·.branch j .eq ra rb imm)

/-- BNE (R169). -/
def execBne (dt j : Nat) (ra rb : Reg) (imm : Imm18) (s : State) : Out :=
  (s.elapse dt).issue j (.br .ne ra rb imm) (·.branch j .ne ra rb imm)

/-- BLT (R169). -/
def execBlt (dt j : Nat) (ra rb : Reg) (imm : Imm18) (s : State) : Out :=
  (s.elapse dt).issue j (.br .lt ra rb imm) (·.branch j .lt ra rb imm)

/-- BGE (R169). -/
def execBge (dt j : Nat) (ra rb : Reg) (imm : Imm18) (s : State) : Out :=
  (s.elapse dt).issue j (.br .ge ra rb imm) (·.branch j .ge ra rb imm)

/-- A target in the program (R169). -/
def inProgram (t : Int) : Bool := decide (0 ≤ t) && decide (t < 16384)

/-- LOOP (R169): the decremented value decides; a fault leaves ra as it was. -/
def execLoop (dt j : Nat) (ra : Reg) (imm : Imm18) (s : State) : Out :=
  (s.elapse dt).issue j (.loop ra imm)
    (fun s =>
      let v := s.greg j ra - 1
      let t : Int := (s.jet j).pc + imm.toInt
      if v = 0 then (s.setReg j ra v).retire j s.clk 1
      else if inProgram t then (s.setReg j ra v).jump j t
      else s.jump j t)

/-- JMP (R169). -/
def execJmp (dt j : Nat) (imm : Imm26) (s : State) : Out :=
  (s.elapse dt).issue j (.jmp imm) (fun s => s.jump j imm.toNat)

/-- CALL (R169): a full stack is a fault with cause STACK, whatever the target. DESIGN CHOICE, log entry 143. -/
def execCallOp (dt j : Nat) (imm : Imm26) (s : State) : Out :=
  (s.elapse dt).issue j (.call imm)
    (fun s =>
      if 8 ≤ (s.jet j).stack.length then s.faultIssue j 3
      else if inProgram imm.toNat then
        s.setJet j (fun q =>
          { q with
            stack := (q.pc + 1) :: q.stack, pc := imm.toNat, busyTo := s.clk + 2 * s.cycle, lastPc := q.pc
            lastDep := q.stack.length })
      else s.jump j imm.toNat)

/-- RET (R169): an empty stack is a fault with cause STACK. -/
def execRetOp (dt j : Nat) (s : State) : Out :=
  (s.elapse dt).issue j .ret
    (fun s =>
      match (s.jet j).stack with
      | [] => s.faultIssue j 3
      | a :: t => s.setJet j (fun q =>
          { q with stack := t, pc := a, busyTo := s.clk + 2 * s.cycle, lastPc := q.pc, lastDep := q.stack.length }))

/-- A scratch byte address that LD and ST accept (R170). -/
def scratchOk (a : Nat) : Bool := decide (a ≤ 4092) && decide (a % 4 = 0)

/-- LD (R170, R164). -/
def execLd (dt j : Nat) (ra rb : Reg) (imm : Imm18) (s : State) : Out :=
  (s.elapse dt).issue j (.ld ra rb imm)
    (fun s =>
      let a := s.jaddr j rb imm
      let i := j * 1024 + a / 4
      if scratchOk a then
        let bad := s.seqBad .scratch i
        let s := s.seqEcc .scratch i
        let w := (s.oldWord 0xC4B (j * 65536 + a / 4)).getD (s.scratchWord i)
        if bad then s.faultIssue j 11 else (s.setReg j ra w).retire j s.clk 2
      else s.faultIssue j 4)

/-- ST (R170). -/
def execSt (dt j : Nat) (ra rb : Reg) (imm : Imm18) (s : State) : Out :=
  (s.elapse dt).issue j (.st ra rb imm)
    (fun s =>
      let a := s.jaddr j rb imm
      if scratchOk a then (s.putScratch (j * 1024 + a / 4) (s.greg j ra)).retire j s.clk 1
      else s.faultIssue j 4)

/-- WAIT (R184): rb + imm18 ticks, imm18 unsigned, from issue. -/
def execWaitOp (dt j : Nat) (rb : Reg) (imm : Imm18) (s : State) : Out :=
  (s.elapse dt).issue j (.wait rb imm)
    (fun s =>
      let n := s.greg j rb + imm.setWidth 32
      if n = 0 then s.retire j s.clk 1
      else s.await j 1 (.time (s.tb + n.setWidth 64)) true)

/-- WAIT_END (R184): the ticks of a WAIT have passed. -/
def execWaitEnd (dt j : Nat) (s : State) : Out :=
  let s := s.elapse dt
  match (s.jet j).wait with
  | .time t =>
    if s.canWake j then
      let s := s.untilTb t
      .next (s.endWait j 0 0 (s.clk + s.cycle))
    else .next s
  | _ => .next s

/-- WAITT with function 0 (R185): a deadline already reached does not wait. -/
def execWaitt (dt j : Nat) (dst a : Reg) (s : State) : Out :=
  (s.elapse dt).issue j (.waitt dst a)
    (fun s =>
      let d := s.greg j a
      if s.reached32 d then (s.setReg j dst (s.tb.setWidth 32 - d)).retire j s.clk 1
      else s.await j 1 (.deadline dst.toNat d) true)

/-- WAITT_DEADLINE (R185): the deadline of a WAITT is reached; dst receives the lateness. -/
def execWaittDeadline (dt j : Nat) (s : State) : Out :=
  let s := s.elapse dt
  match (s.jet j).wait with
  | .deadline dst d =>
    if s.canWake j then
      let s := if s.reached32 d then s else s.elapseTb (d - s.tb.setWidth 32).toNat
      .next (s.endWait j (BitVec.ofNat 4 dst) (s.tb.setWidth 32 - d) (s.clk + s.cycle))
    else .next s
  | _ => .next s

/-- WAITT.RD (R185). -/
def execWaittRd (dt j : Nat) (dst : Reg) (s : State) : Out :=
  (s.elapse dt).issue j (.waittRd dst)
    (fun s =>
      ((s.setJet j (fun q => { q with tbh := s.tb.extractLsb' 32 32 })).setReg j dst (s.tb.setWidth 32)).retire j s.clk 1)

/-- WAITT.RDH (R185): 0 before any WAITT.RD of the jet since reset; a start leaves the latch as it is. DESIGN CHOICE, log entry 144. -/
def execWaittRdh (dt j : Nat) (dst : Reg) (s : State) : Out :=
  (s.elapse dt).issue j (.waittRdh dst) (fun s => (s.setReg j dst (s.jet j).tbh).retire j s.clk 1)

/-- YIELD (R188): a safe point, at which a jet asked to stop stays until its stop takes effect (R201). -/
def execYield (dt j : Nat) (s : State) : Out :=
  (s.elapse dt).issue j .yield
    (fun s =>
      if (s.jet j).st = .stopping then s.await j 1 .yield true
      else (s.setJet j (fun q => { q with wdFrom := s.clk, wdCyc := 0 })).retire j s.clk 1)

/-- HALT (R188): the jet stops with cause HALT; its requests stand (R181). -/
def execHalt (dt j : Nat) (code : BitVec 16) (s : State) : Out :=
  (s.elapse dt).issue j (.halt code)
    (fun s => s.stopJet j 15 (Balrax.encode (.halt code)) false)

/-- ILLEGAL_INSTRUCTION (R165, R189): the jet fetches a word that is no instruction. -/
def execIllegalInstruction (dt j : Nat) (s : State) : Out := .next ((s.elapse dt).fetchI j).2

end Sys2Proof.Machine
end

