-- ==== Sys2Proof/Machine/BalraxCells.lean ====
section
/-! DEFINITION. Machine/BalraxCells.lean: the meanings of the conversion, result, stream, balancing and event instructions of the
jets (R173 to R176, R179, R180, R186, R187). -/

namespace Sys2Proof.Machine

/-- CONV and SYNCV (R173, R174): the trigger is taken in the cycle after issue. -/
def State.convStep (s : State) (j : Nat) (rd : Reg) (w : Bool) (g : Nat) (grid : Bool) (after : Option Nat) : State :=
  let at_ := s.issuedAt
  if (s.grp g).defined ∧ s.grpTrig g = 0 then
    let (out, id, s) := s.trigger g ⟨grid, after, 3, j⟩
    if w ∧ out ≠ 3 then s.await j 1 (.conv rd.toNat g out id none) true
    else (s.setReg j rd (BitVec.ofNat 32 out)).retire j at_ 2
  else s.faultJet j 8

/-- CONV (R173, R174). -/
def execConv (dt j : Nat) (rd : Reg) (w : Bool) (group : BitVec 4) (s : State) : Out :=
  (s.elapse dt).issue j (.conv rd w group) (·.convStep j rd w group.toNat false none)

/-- SYNCV (R173, R174): field ra 0 means no deadline. -/
def execSyncv (dt j : Nat) (rd ra : Reg) (w : Bool) (group : BitVec 4) (s : State) : Out :=
  (s.elapse dt).issue j (.syncv rd ra w group)
    (fun s => s.convStep j rd w group.toNat true (if ra = 0 then none else some (s.greg j ra).toNat))

/-- CONV_WAIT_END (R174): the conversion that a CONV.W or SYNCV.W waits on has completed or ended without its words. -/
def execConvWaitEnd (dt j : Nat) (s : State) : Out :=
  let s := s.elapse dt
  match (s.jet j).wait with
  | .conv rd _ _ _ (some o) =>
    if s.canWake j then .next (s.endWait j (BitVec.ofNat 4 rd) (BitVec.ofNat 32 o) (s.clk + 2 * s.cycle)) else .next s
  | _ => .next s

/-- What GETR gives of a result word: all of it, or its VALUE (R175). -/
def getrView (v : Bool) (w : Word) : Word := if v then w.sshiftRight 8 else w

/-- GETR (R175). -/
def execGetr (dt j : Nat) (rd ra : Reg) (ch : BitVec 6) (rsel v n : Bool) (s : State) : Out :=
  (s.elapse dt).issue j (.getr rd ra ch rsel v n)
    (fun s =>
      let c := s.rselect j rsel ch ra
      if 36 ≤ c ∨ (n ∧ c < 24 ∧ ¬s.used (c + 1)) then s.faultIssue j 7
      else if n then s.await j 1 (.getr rd.toNat c v none) true
      else ((s.setReg j rd (getrView v (s.latestRead c))).takeRead c).retire j s.issuedAt 3)

/-- GETR_N_WAKE (R175): the word that a GETR.N waits for has been written; the read counts under R128. -/
def execGetrNWake (dt j : Nat) (s : State) : Out :=
  let s := s.elapse dt
  match (s.jet j).wait with
  | .getr rd ch v (some w) =>
    if s.canWake j then
      let s := if s.latest ch = w then s.markRead ch else s
      .next (s.endWait j (BitVec.ofNat 4 rd) (getrView v w) (s.clk + 3 * s.cycle))
    else .next s
  | _ => .next s

/-- STRM (R176): the payload is read in the cycles after issue, and the record is offered at its decision. A LEN and an address that are both
bad are a fault with cause STREAM_LEN. DESIGN CHOICE, log entry 143. -/
def execStrm (dt j : Nat) (rd ra rb : Reg) (len1 : BitVec 6) (rsel : Bool) (stream : BitVec 4) (s : State) : Out :=
  (s.elapse dt).issue j (.strm rd ra rb len1 rsel stream)
    (fun s =>
      let len := if rsel then (s.greg j rb).toNat else len1.toNat + 1
      let a := (s.greg j ra).toNat
      if len = 0 ∨ 64 < len then s.faultIssue j 9
      else if a % 4 ≠ 0 ∨ 4096 < a + 4 * len then s.faultIssue j 4
      else s.await j (4 + len) (.strm rd.toNat stream.toNat a len s.clk s.tb [] false) false)

/-- The cycles from the last payload read of a STRM to its decision, or to the stop after an uncorrectable word (R176, R189). -/
def State.strmLeft (s : State) (j : Nat) : Nat :=
  match (s.jet j).wait with
  | .strm _ _ a len _ _ pay bad =>
    if bad then 1
    else match (List.range (len - pay.length)).find? (fun k => s.seqBad .scratch (j * 1024 + a / 4 + pay.length + k)) with
      | some k => k + 2
      | none => len - pay.length
  | _ => 0

/-- The clock of the earliest decision on the STRM of jet `j`, none where it has no STRM. -/
def State.strmDue (s : State) (j : Nat) : Option Nat :=
  match (s.jet j).wait with
  | .strm _ _ _ _ last _ _ _ => some (last + s.strmLeft j * s.cycle)
  | _ => none

/-- The decision on the STRM of jet `j` (R145, R176): the record is offered, and rd receives 0 where it is written; after an uncorrectable
word the jet stops instead. One that the watchdog stops before its cost has run out offers nothing (R204). -/
def State.strmDecide (s : State) (j : Nat) : State :=
  let s := s.strmRead 64 j
  match (s.jet j).wait with
  | .strm _ _ _ _ _ _ _ true => s.faultJet j 11
  | .strm rd st _ _ _ time pay false =>
    if s.wdBefore j (s.clk + 4 * s.cycle) then s.endWait j 0 0 (s.clk + 4 * s.cycle)
    else
      let (c, s) := s.offer st true j time.toNat pay
      s.endWait j (BitVec.ofNat 4 rd) (if c = 0 then 0 else 1) (s.clk + 4 * s.cycle)
  | _ => s

/-- STRM_DECISION (R145, R176): the payload has been read and the decision falls, after those of this cycle for lower-numbered jets (R146);
in the cycle after the read of an uncorrectable word the jet stops instead. DEDUCED, log entry 60. -/
def execStrmDecision (dt j : Nat) (s : State) : Out :=
  let s := s.elapse dt
  match s.strmDue j with
  | some t =>
    if s.coreOn && s.modeIn 3 10 then
      let s := s.until_ t
      let first := (List.range (min j 8)).filter (fun i => (s.strmDue i).any (· ≤ s.clk))
      .next ((first.foldl State.strmDecide s).strmDecide j)
    else .next s
  | none => .next s

/-- BAL (R179). -/
def execBal (dt j : Nat) (ra rb : Reg) (s : State) : Out :=
  (s.elapse dt).issue j (.bal ra rb)
    (fun s =>
      let m := (s.greg j ra).toNat
      let l := (s.greg j rb).toNat
      if 2 ^ 24 ≤ m then s.faultIssue j 10
      else
        ((bitsOf 24 m).foldl (fun s i => s.reqLevel (.jet j) (i + 1) l) s).retire j s.clk 1)

/-- BALQ (R180): rd receives what remained of a replaced quota. -/
def execBalq (dt j : Nat) (rd ra rb : Reg) (s : State) : Out :=
  (s.elapse dt).issue j (.balq rd ra rb)
    (fun s =>
      let n := (s.greg j ra).toNat
      let q := (s.greg j rb).toNat
      if n = 0 ∨ 24 < n then s.faultIssue j 10
      else
        let left := s.replacedQuota (.jet j) n
        ((s.reqQuota (.jet j) n q).setReg j rd left).retire j s.clk 2)

/-- CORR (R183): the value last published for a cell and a bin. -/
def execCorr (dt j : Nat) (rd ra : Reg) (bin : BitVec 3) (im : Bool) (s : State) : Out :=
  (s.elapse dt).issue j (.corr rd ra bin im)
    (fun s =>
      let n := (s.greg j ra).toNat
      if n = 0 ∨ 24 < n then s.faultIssue j 10
      else
        let w := Sparse.get 0x80000000 s.spc.z (16 * (n - 1) + 2 * bin.toNat + b2n im)
        (s.setReg j rd w).retire j s.clk 3)

/-- A WAITE.C takes flag `k` at issue: the clock at which it does, and the state after (R163, R186). A flag set in that cycle stays set;
where another jet has taken it in that cycle, this one takes it in the next. DEDUCED, log entry 65. -/
def State.takeFlag (s : State) (k : Nat) : Nat × State :=
  if !s.flagFresh k then (s.clk, s.putFlag k false)
  else if s.seq.flagTook.getLsbD k then (s.clk + s.cycle, s.putFlag k false)
  else (s.clk, { s with seq := { s.seq with flagTook := s.seq.flagTook ||| BitVec.ofNat 64 (2 ^ k) } })

/-- The jet that has taken flag `k` at issue in this cycle, as it would have gone on waiting (R186). -/
def State.taker (s : State) (k : Nat) : Option (Nat × Jet) :=
  (s.nowCyc.took.find? (fun e => decide (e.1 = k))).map (·.2)

/-- Jet `j` has taken flag `k` at issue in this cycle; `q` is the jet as it would wait for it. -/
def State.noteTaker (s : State) (k j : Nat) (q : Jet) : State :=
  s.cycMod (fun c => { c with took := (k, j, q) :: c.took.filter (fun e => decide (e.1 ≠ k)) })

/-- Jet `j` with its WAITE waiting for flag `k`. -/
def State.awaitFlag (s : State) (j : Nat) (rd ra : Reg) (k : Nat) (c : Bool) : State :=
  let limit := if ra = 0 then none else some (s.tb + (s.greg j ra).setWidth 64)
  s.await j 1 (.flag rd.toNat k c limit false) true

/-- A WAITE of jet `j` with C set at issue (R186): of the jets that issue one in the same cycle the lowest-numbered takes the flag. Of a flag
set in that cycle the other takes it in the cycle after; otherwise it goes on waiting. DEDUCED, log entry 65. -/
def State.waiteTake (s : State) (j : Nat) (rd ra : Reg) (k : Nat) : State :=
  let waiting := s.awaitFlag j rd ra k true
  let won := fun (s : State) (at_ : Nat) => (s.setReg j rd 1).retire j at_ 1
  match s.taker k with
  | some (i, q) =>
    if j < i then
      let s := (won s s.clk).noteTaker k j (waiting.jet j)
      if s.flagFresh k then (s.setJet i (fun q => { q with busyTo := q.busyTo + s.cycle })).putFlag k false
      else s.setJet i (fun _ => q)
    else if s.flagSet k then let (at_, s) := s.takeFlag k; won s at_
    else waiting
  | none =>
    if s.flagSet k then
      let (at_, s) := s.takeFlag k
      let s := won s at_
      if at_ = s.clk then s.noteTaker k j (waiting.jet j) else s
    else waiting

/-- WAITE (R186): the flag set at issue, or a wait for it; field ra 0 means no timeout. DEDUCED, log entry 65. -/
def execWaite (dt j : Nat) (rd ra rb : Reg) (flag : BitVec 6) (rsel c : Bool) (s : State) : Out :=
  (s.elapse dt).issue j (.waite rd ra rb flag rsel c)
    (fun s =>
      let k := s.rselect j rsel flag rb % 64
      if c then s.waiteTake j rd ra k
      else if s.flagSet k || (s.taker k).isSome then (s.setReg j rd 1).retire j s.clk 1
      else s.awaitFlag j rd ra k false)

/-- WAITE_WAKE (R186): the flag that a WAITE waits for has been set. DEDUCED, log entry 65. -/
def execWaiteWake (dt j : Nat) (s : State) : Out :=
  let s := s.elapse dt
  match (s.jet j).wait with
  | .flag rd _ _ _ true =>
    if s.canWake j then .next (s.endWait j (BitVec.ofNat 4 rd) 1 (s.clk + s.cycle)) else .next s
  | _ => .next s

/-- WAITE_TIMEOUT (R186): the timeout of a WAITE is reached and its flag has not been set. -/
def execWaiteTimeout (dt j : Nat) (s : State) : Out :=
  let s := s.elapse dt
  match (s.jet j).wait with
  | .flag rd _ _ (some t) false =>
    if s.canWake j then
      let s := s.untilTb t
      .next (s.endWait j (BitVec.ofNat 4 rd) 0 (s.clk + s.cycle))
    else .next s
  | _ => .next s

/-- SIG (R187). -/
def execSig (dt j : Nat) (ra : Reg) (flag : BitVec 6) (rsel c : Bool) (s : State) : Out :=
  (s.elapse dt).issue j (.sig ra flag rsel c)
    (fun s =>
      let k := s.rselect j rsel flag ra % 64
      (if c then s.clearFlag k else s.setFlag k).retire j s.clk 1)

end Sys2Proof.Machine
end

