-- ==== Sys2Proof/Machine/SeqOps.lean ====
section
/-! DEFINITION. Machine/SeqOps.lean: program loads, jet stops, the jet watchdog and the trigger sources (R194, R196 to R204, R207 to
R209). -/

namespace Sys2Proof.Machine

/-! ## Program loads -/

/-- The program store in MRAM (R196). -/
def progStore : Nat := 0x88000

/-- A field of the program container at offset `o`, least significant byte first. -/
def State.cont (s : State) (o n : Nat) : Nat := leNat (s.mramBytes (progStore + o) n)

/-- Segments as start word, word count and CRC, in table order (Table 7.1). -/
def State.segments (s : State) : List (Nat × Nat × Nat) :=
  (List.range (s.cont 8 2)).map (fun i =>
    (s.cont (0x40 + 8 * i) 2, s.cont (0x42 + 8 * i) 2, s.cont (0x44 + 8 * i) 4))

/-- Two segments share a word. -/
def segOverlap (a b : Nat × Nat × Nat) : Bool := decide (a.1 < b.1 + b.2.1) && decide (b.1 < a.1 + a.2.1)

/-- No segment of a list overlaps a later one. -/
def segsApart : List (Nat × Nat × Nat) → Bool
  | [] => true
  | a :: t => t.all (fun b => !segOverlap a b) && segsApart t

/-- Words read from MRAM, least significant byte first. -/
def State.mramWords (s : State) (a n : Nat) : List Word :=
  (List.range n).map (fun i => BitVec.ofNat 32 (leNat (s.mramBytes (a + 4 * i) 4)))

/-- The segments read and checked in table order from data offset `o`: the words by index, or the status of the failure. -/
def State.loadSegs : List (Nat × Nat × Nat) → Nat → State → (Nat ⊕ List (Nat × Word)) × State
  | [], _, s => (.inr [], s)
  | (w, n, crc) :: t, o, s =>
    let a := progStore + 0x100 + o
    let (good, s) := s.mramRead a (4 * n)
    if !good then (.inl 6, s)
    else if crc32c (s.mramBytes a (4 * n)) ≠ crc then (.inl 4, s)
    else
      match State.loadSegs t (o + 4 * n) s with
      | (.inl e, s') => (.inl e, s')
      | (.inr l, s') => (.inr ((s.mramWords a n).zipIdx.map (fun e => (w + e.2, e.1)) ++ l), s')

/-- The container is read and checked (R197 step 1): its words, or the STATUS of the first failure. -/
def State.checkContainer (s : State) : (Nat ⊕ List (Nat × Word)) × State :=
  let (good, s) := s.mramRead progStore 0x100
  let segs := s.segments
  if !good then (.inl 6, s)
  else if s.cont 0 4 ≠ 0xBA150001 ∨ s.cont 0xFC 4 ≠ crc32c (s.mramBytes progStore 0xFC) ∨ s.cont 8 2 = 0 ∨ 16 < s.cont 8 2 then
    (.inl 3, s)
  else if segs.any (fun g => decide (g.2.1 = 0) || decide (16384 < g.1 + g.2.1)) || !segsApart segs then (.inl 5, s)
  else if s.cont 0xC 4 ≠ 4 * (segs.map (fun g => g.2.1)).sum ∨ 65280 < s.cont 0xC 4 then (.inl 3, s)
  else State.loadSegs segs 0 s

/-- The enabled AUTOSTART entries: jet and start address. -/
def State.autostart (s : State) : List (Nat × Nat) :=
  (List.range 8).filterMap (fun j =>
    let e := s.cont (0x10 + 4 * j) 4
    if e.testBit 31 then some (j, e % 16384) else none)

/-- A load starts (R197): a load in progress makes it ignored with STATUS 2. DEDUCED, log entry 72. -/
def State.loadStart (s : State) (stopMask : Nat) : State :=
  if s.seq.load.isSome then { s with seq := { s.seq with loadSt := 2 } }
  else
    match s.checkContainer with
    | (.inl e, s) => { s with seq := { s.seq with loadSt := e } }
    | (.inr ws, s) =>
      let r : LoadRun := ⟨ws, s.autostart, s.cont 4 2, s.clk, stopMask⟩
      (bitsOf 8 stopMask).foldl State.stopReq { s with seq := { s.seq with load := some r } }

/-- A jet that is IDLE or STOPPED (R197). -/
def Jet.free (q : Jet) : Bool := !q.busy

/-- AUTOLOAD (R198): after start-up step 9, with an empty STOPMASK, once the device has entered one of modes 3 to 11. -/
def execAutoload (dt : Nat) (s : State) : Out :=
  let s := s.elapse dt
  if s.pwr.autoDue && s.pwr.commit.isNone && s.modeIn 3 11 then
    let s := { s with pwr := { s.pwr with autoDue := false } }
    .next (if s.bit 0xC60 31 then s.loadStart 0 else s)
  else .next s

/-- LOAD_STOP_TIMEOUT (R197): jets of STOPMASK that have not stopped 10 ms after the load's STOP are killed. DEDUCED, log entry 72. -/
def execLoadStopTimeout (dt : Nat) (s : State) : Out :=
  let s := s.elapse dt
  match s.seq.load with
  | some r =>
    if (bitsOf 8 r.stop).any (fun j => (s.jet j).busy) then
      .next ((bitsOf 8 r.stop).foldl State.killJet (s.until_ (r.since + 10 * msTicks)))
    else .next s
  | none => .next s

/-- PROGRAM_LOAD_DONE (R197): every jet of STOPMASK has stopped, the words are written and autostart jets start. DEDUCED, log entry 72. -/
def execProgramLoadDone (dt : Nat) (s : State) : Out :=
  let s := s.elapse dt
  match s.seq.load with
  | some r =>
    if (bitsOf 8 r.stop).all (fun j => (s.jet j).free && !s.dying j) then
      let s := r.words.foldl (fun s e => s.putProg e.1 e.2) s
      let s := if s.modeIn 3 10 then
          r.auto.foldl (fun s e => if (s.jet e.1).free then s.startJet e.1 e.2 else s) s
        else s
      .next { s with seq := { s.seq with load := none, loadSt := 1, loadGen := r.gen } }
    else .next s
  | none => .next s

/-! ## Stops -/

/-- The jet waits at a safe point (R161). -/
def JWait.safe : JWait → Bool
  | .none => false
  | .strm _ _ _ _ _ _ _ _ => false
  | _ => true

/-- JET_STOP_TAKE (R201): a jet asked to stop is at a safe point and stops in the cycle after. DEDUCED, log entry 66. -/
def execJetStopTake (dt j : Nat) (s : State) : Out :=
  let s := s.elapse dt
  if (s.jet j).st = .stopping ∧ (s.jet j).wait.safe then
    .next ((s.until_ (s.jet j).busyTo).stopJet j 13 0 false)
  else .next s

/-- JET_WATCHDOG_EXPIRY (R204). DEDUCED, log entry 68. -/
def execJetWatchdogExpiry (dt j : Nat) (s : State) : Out :=
  let s := s.elapse dt
  if j < 8 ∧ (s.jet j).st = .running ∧ s.fld 0xC60 16 8 ≠ 0 ∧ s.coreOn then
    let s := s.until_ ((s.jet j).wdFrom + s.wdTicks (s.jet j).wdCyc)
    let pc := (s.jet j).nowPc s.clk
    let w := if 16384 ≤ pc then 0 else s.progWord pc
    .next ((s.stopJet j 12 w true).present1 144)
  else .next s

/-! ## Triggers -/

/-- The triggers that a source takes for the groups that `sel` names, ascending (R207, R216). -/
def State.triggerAll (s : State) (src stand : Nat) (grid : Bool) (sel : Nat → Bool) : State :=
  (List.range 16).foldl (fun s g => if sel g then s.triggerFrom src stand grid g else s) s

/-- The chain sync tick of group `g` in ticks (Table 7.3). -/
def State.tickPeriod (s : State) (g : Nat) : Nat := 200000 * (s.fld (0xC20 + g) 16 16 + 1)

/-- SYNC_TICK_TRIGGER (R207): the timebase reaches a multiple of 200,000 ticks. -/
def execSyncTickTrigger (dt : Nat) (s : State) : Out :=
  let s := (s.elapse dt).untilMod 200000 0
  if s.coreOn then .next (s.triggerAll 2 2 true (fun g => s.reachedMod (s.tickPeriod g) 0)) else .next s

/-- SYNC_PIN_EDGE (R209): an edge at the SYNC pin has held for 3 core cycles. It starts a run that
waits for it (R252). -/
def execSyncPinEdge (dt : Nat) (rising : Bool) (s : State) : Out :=
  let s := s.elapse dt
  if s.coreOn && s.bit 0xC60 (if rising then 8 else 9) then
    let s := { s with seq := { s.seq with syncTs := s.tb.setWidth 32 - 3 } }
    let s := match s.spc.run with
      | some r =>
        if r.phase = SpcPhase.notStarted ∧ r.fld 0x1202 20 2 = 2 ∧ r.edge = none then s.setRun { r with edge := some (s.tbn - 3) } else s
      | none => s
    .next (s.triggerAll 3 2 true (fun _ => true))
  else .next s

/-- INTERVAL_TIMER_FIRE (R208). -/
def execIntervalTimerFire (dt i : Nat) (s : State) : Out :=
  let s := s.elapse dt
  if i < 4 ∧ s.bit (0xC70 + i) 31 ∧ s.coreOn then
    let p := max 10 (s.fld (0xC70 + i) 0 24)
    let s := s.untilMod (200 * p) (200 * (s.fld (0xC74 + i) 0 24 % p))
    .next (s.triggerAll 4 2 true (fun g => decide (s.fld (0xC00 + g) 0 2 = i)))
  else .next s

end Sys2Proof.Machine
end

