-- ==== Sys2Proof/Machine/PowerOps.lean ====
section
/-! DEFINITION. Machine/PowerOps.lean: mode requests, the configuration lock, stored configuration, resets, chain-wide mode
changes (R41, R42, R51 to R58, R61 to R68, R71, R467). -/

namespace Sys2Proof.Machine

/-! ## Mode requests -/

/-- The routes of Table 2.7 that a request can take, by mode numbers. -/
def routeOk (from_ to_ : Nat) : Bool :=
  match from_ with
  | 3 => [1, 2, 4, 5].contains to_
  | 4 => [1, 2, 3, 5, 6, 7, 8, 9].contains to_
  | 5 => [1, 2, 3, 4, 6, 7, 8, 9].contains to_
  | 6 => [4, 5].contains to_
  | 7 => [4, 5].contains to_
  | 8 => [4, 5].contains to_
  | 9 => [4, 5].contains to_
  | 10 => [1, 2, 4, 10].contains to_
  | _ => false

/-- R52 forbids leaving SAFE for MEASURE now. -/
def State.safeHeld (s : State) (to_ : Nat) : Bool := decide (s.pwr.mode = .safe) && decide (to_ = 4) && decide (2 ≤ s.maxClass)

/-- The state with PWR_MODE.REQ_STATUS. -/
def State.reqStatus (s : State) (n : Nat) : State := { s with pwr := { s.pwr with reqStatus := n } }

/-- A local request (R51, R52, R54). Where a mode reaction waits, the commit of the request has not yet started and is discarded
(R25). Of several causes of a refusal a change that is PREPARED comes first, then the route, then R52. DEDUCED, log entry 42; DESIGN
CHOICE, log entry 137. -/
def State.localRequest (s : State) (target : Nat) : State :=
  if s.pwr.prepared.isSome then s.reqStatus 4
  else if !routeOk s.pwr.mode.num target then s.reqStatus 2
  else if s.safeHeld target then s.reqStatus 3
  else
    match Mode.ofNum target with
    | some m => if s.pwr.nextReact.isSome then s.reqStatus 1 else (s.reqStatus 1).beginCommit m .request
    | none => s.reqStatus 2

/-! ## Chain-wide mode changes -/

/-- An epoch is stale (Table 2.9). -/
def State.staleEpoch (s : State) (e : Nat) : Bool :=
  let d := (e + 65536 - s.aon.appliedEpoch) % 65536
  decide (d = 0) || decide (32767 < d)

/-- The device takes no PREPARE (Table 2.9); one whose loader alone serves requests takes none either (R44). -/
def State.prepDeaf (s : State) : Bool :=
  match s.pwr.mode with
  | .ship => true | .still => true | .watch => true | .lockout => true | _ => s.pwr.stuck

/-- The judgement of a PREPARE (Table 2.9): the cause of a refusal. DEDUCED, log entry 39. -/
def State.prepJudge (s : State) (epoch target : Nat) (tc : Tick) : Option MissCause :=
  let d : Int := tc.toNat - s.tbn
  if s.staleEpoch epoch then some .staleEpoch
  else if d < 20000 ∨ 2000000000 < d then some .badTime
  else if target ≠ s.pwr.mode.num ∧ (¬routeOk s.pwr.mode.num target ∨ s.safeHeld target) then some .route
  else none

/-- A PREPARE is judged and recorded (R65); an accepted one ends what was kept of its epoch before. -/
def State.prepare (s : State) (epoch target : Nat) (tc : Tick) : State :=
  match s.prepJudge epoch target tc with
  | none =>
    { s with pwr :=
        { s.pwr with
          prepState := 1, prepEpoch := epoch, prepTarget := target, prepared := some ⟨epoch, target, tc⟩
          refused := s.pwr.refused.filter (fun r => decide (r.1 ≠ epoch))
          lapsed := s.pwr.lapsed.filter (fun r => decide (r.1 ≠ epoch)) } }
  | some c =>
    let s := { s with pwr := { s.pwr with refused := (epoch, c) :: s.pwr.refused } }
    if s.pwr.prepared.isSome then s
    else { s with pwr := { s.pwr with prepState := 2, prepEpoch := epoch, prepTarget := target } }

/-- MODE_CHANGE_MISSED with its record; a miss older than the record leaves the record (R68). -/
def State.raiseMissed (s : State) (epoch target : Nat) (c : MissCause) : State :=
  let m := s.pwr.missed
  let s := if m.cause = 0 ∨ (epoch + 65536 - m.epoch) % 65536 ≤ 32767 then
      { s with pwr := { s.pwr with missed := ⟨epoch, target, c.num⟩ } }
    else s
  s.present1 158

/-- The refusal cause kept for an epoch, else NO_PREPARE (R68). -/
def State.unprepared (s : State) (epoch : Nat) : MissCause :=
  match s.pwr.refused.find? (fun r => decide (r.1 = epoch)) with
  | some r => r.2
  | none => .noPrepare

/-- What became of an epoch that was PREPARED here: missed at T (true) or preempted (false). DEDUCED, log entry 41. -/
def State.lapsedAs (s : State) (epoch : Nat) : Option Bool :=
  (s.pwr.lapsed.find? (fun r => decide (r.1 = epoch))).map (·.2)

/-- The epoch is PREPARED for instant `tc`. -/
def State.preparedFor (s : State) (epoch : Nat) (tc : Tick) : Bool :=
  match s.pwr.prepared with
  | some p => decide (p.epoch = epoch) && decide (p.tc = tc)
  | none => false

/-- A COMMIT arrives (R66, R68). One that comes at or after the T of a change that is still PREPARED is judged with it. -/
def State.commitFrame (s : State) (epoch target : Nat) (tc : Tick) : State :=
  if s.staleEpoch epoch ∨ s.lapsedAs epoch = some false then s
  else if s.reached tc && !s.preparedFor epoch tc then
    if s.lapsedAs epoch = some true then s.raiseMissed epoch target .late
    else s.raiseMissed epoch target (s.unprepared epoch)
  else { s with pwr := { s.pwr with commits := s.pwr.commits ++ [⟨epoch, target, tc, decide (s.tbn + 4000 ≤ tc.toNat)⟩] } }

/-- The prepared change is dropped (R68). -/
def State.dropPrepared (s : State) (p : Prepared) (missed : Bool) : State :=
  { s with pwr := { s.pwr with prepared := none, prepState := 0, lapsed := (p.epoch, missed) :: s.pwr.lapsed } }

/-- The prepared change at its T with the COMMITs held for it (R66 to R68). RESET, which a PREPARE can name only while the device is in
it (R65), is no mode that a commit enters. DEDUCED, log entry 39. -/
def State.prepDue (s : State) (p : Prepared) (mine : List CommitRec) : State :=
  if mine.any (·.early) then
    if p.target = s.pwr.mode.num then
      { s with
        aon := { s.aon with appliedEpoch := p.epoch }
        pwr := { s.pwr with localSet := false, prepState := 0, prepared := none } }
    else
      match Mode.ofNum p.target with
      | some .reset => (s.dropPrepared p true).raiseMissed p.epoch p.target .route
      | some m => ({ s with pwr := { s.pwr with prepared := none } }).beginCommit m (.chain p.epoch)
      | none => (s.dropPrepared p true).raiseMissed p.epoch p.target .route
  else if mine = [] then (s.dropPrepared p true).raiseMissed p.epoch p.target .noCommit
  else (s.dropPrepared p true).raiseMissed p.epoch p.target .late

/-- The earliest T of the prepared change and of the COMMITs held. -/
def State.nextT (s : State) : Option Tick :=
  ((s.pwr.prepared.map (·.tc)).toList ++ s.pwr.commits.map (·.tc)).foldl
    (fun (m : Option Tick) t => match m with | none => some t | some u => some (if t < u then t else u)) none

/-- CHAIN_COMMIT_TIME (R66 to R68): the timebase reaches the T of the prepared change or of a COMMIT held. DEDUCED, log entry 39. -/
def execChainCommitTime (dt : Nat) (s : State) : Out :=
  let s := s.elapse dt
  match s.nextT with
  | none => .next s
  | some t =>
    if s.pwr.commit.isSome then .next s
    else
      let s := s.untilTb t
      let due := s.pwr.commits.filter (fun c => s.reached c.tc)
      let s := { s with pwr := { s.pwr with commits := s.pwr.commits.filter (fun c => !s.reached c.tc) } }
      match s.pwr.prepared with
      | some p =>
        if s.reached p.tc then
          let mine := due.filter (fun c => decide (c.epoch = p.epoch) && decide (c.tc = p.tc))
          let others := due.filter (fun c => !(decide (c.epoch = p.epoch) && decide (c.tc = p.tc)))
          let s := others.foldl (fun s (c : CommitRec) => s.raiseMissed c.epoch c.target (s.unprepared c.epoch)) s
          .next (s.prepDue p mine)
        else .next (due.foldl (fun s (c : CommitRec) => s.raiseMissed c.epoch c.target (s.unprepared c.epoch)) s)
      | none => .next (due.foldl (fun s (c : CommitRec) => s.raiseMissed c.epoch c.target (s.unprepared c.epoch)) s)

/-- A reaction has taken the device to SAFE or LOCKOUT: the prepared change is dropped (R68). DEDUCED, log entry 41. -/
def State.preemptPrepared (s : State) : State :=
  match s.pwr.prepared with
  | some p =>
    let s := s.dropPrepared p false
    let s := { s with pwr := { s.pwr with commits := s.pwr.commits.filter (fun c => decide (c.epoch ≠ p.epoch)) } }
    s.raiseMissed p.epoch p.target .preempted
  | none => s

/-! ## Configuration lock -/

/-- A write of PWR_LOCK.KEY (R56, R57); `armed` says that the requester's last register write was the first key. DEDUCED, log entry 26. -/
def State.keyWrite (s : State) (rq : Requester) (key : Nat) (armed : Bool) : State :=
  let jet := match rq with | .jet _ => true | _ => false
  if jet then s
  else if key = 0x1F2E then { s with pwr := { s.pwr with keyArmed := rq :: s.pwr.keyArmed } }
  else if key = 0x3D4C ∧ armed then
    if s.pwr.lockOwner = none ∨ s.pwr.lockOwner = some rq then
      { s with pwr := { s.pwr with lockOwner := some rq, lockLast := s.clk } }
    else s
  else if key = 0 ∧ s.pwr.lockOwner = some rq then { s with pwr := { s.pwr with lockOwner := none } }
  else s

/-- LOCK_TIMEOUT (R57). DEDUCED, log entry 28. -/
def execLockTimeout (dt : Nat) (s : State) : Out :=
  let s := s.elapse dt
  match s.pwr.lockOwner with
  | some _ =>
    let s := s.until_ (s.pwr.lockLast + 250 * msTicks)
    .next { s with pwr := { s.pwr with lockOwner := none } }
  | none => .next s

/-! ## Stored configuration -/

/-- MRAM page writes are held: by a supply dip (R36) or by thermal shutdown (R383). -/
def State.mramHeld (s : State) : Bool := s.pwr.mramHold || s.thm.nvmHold

/-- An address that an overlay entry may not have (R61, R77). -/
def ovlAddrBad (a : Nat) : Bool :=
  decide (a ≤ 0xFF) || (decide (0x200 ≤ a) && decide (a ≤ 0x2FF)) || decide (0x1E00 ≤ a) ||
    (decide (0x100 ≤ a) && decide (a ≤ 0x1FF) && decide (a ≠ 0x105)) || isWindowData a || !regExists a || decide (a = 0x400)

/-- The underlying values of the configurable fields, where they differ from the factory values (R63). -/
def State.nvImage (s : State) : Sparse Word :=
  s.regs.filterMap (fun e =>
    let r := regRow e.1
    let nv := BitVec.ofNat 32 r.nv
    match e.2 with
    | some w =>
      let v := (w &&& nv) ||| (BitVec.ofNat 32 r.init &&& ~~~nv)
      if v = BitVec.ofNat 32 r.init then none else some (e.1, v)
    | none => none)

/-- The value that a copy holds for a register. -/
def CfgCopy.value (c : CfgCopy) (a : Nat) : Word :=
  match c.base.find? (fun e => decide (e.1 = a)) with
  | some e => e.2
  | none => BitVec.ofNat 32 (regRow a).init

/-- The entries of a copy, those that R61 refuses with VALID clear, and whether one was. -/
def CfgCopy.loadEntries (c : CfgCopy) : Sparse OvlEntry × Bool :=
  (c.entries.map (fun e => if e.2.valid && ovlAddrBad e.2.addr then (e.1, { e.2 with valid := false }) else e),
   c.entries.any (fun e => e.2.valid && ovlAddrBad e.2.addr))

/-- The copy in use; the built-in defaults while CFG_LOST is set (R64, R467). -/
def State.cfgCopy (s : State) : CfgCopy :=
  if s.ovl.cfgLost then CfgCopy.factory else if s.ovl.copyB then s.ovl.copyB_ else s.ovl.copyA

/-- A copy is valid for the running image (R63). -/
def State.cfgValid (s : State) (c : CfgCopy) : Bool :=
  c.ok && decide (s.nvm.img.oldest ≤ c.schema) && decide (c.schema ≤ s.nvm.img.schema)

/-- SAVE (R63): the image that the other copy will take. -/
def State.cfgSave (s : State) : State :=
  if s.ovl.saveBusy then s
  else
    let g := if s.ovl.cfgLost then 1 else s.cfgCopy.gen + 1
    { s with ovl :=
        { s.ovl with saveBusy := true, saveImg := some ⟨true, s.nvm.img.schema, g, s.nvImage, s.ovl.entries⟩ } }

/-- CONFIG_SAVE_DONE (R63, R64): the copy is verified and becomes the copy in use, or SAVE_ERR is set. No copy is written under a hold, nor
while a new image waits to be confirmed (R434). DEDUCED, log entry 118. -/
def execConfigSaveDone (dt : Nat) (ok : Bool) (s : State) : Out :=
  let s := s.elapse dt
  match s.ovl.saveImg with
  | some c =>
    if s.mramHeld ∨ s.nvm.act = 1 then .next s
    else
      let toB := !s.ovl.cfgLost && !s.ovl.copyB
      let s := s.pageDone (cfgArea toB) 0x2000
      let c' : CfgCopy :=
        { c with ok := ok, schema := s.nvm.img.schema, gen := if s.ovl.cfgLost then 1 else s.cfgCopy.gen + 1 }
      let o := if toB then { s.ovl with copyB_ := c' } else { s.ovl with copyA := c' }
      let o := { o with saveBusy := false, saveImg := none, saveErr := !ok }
      .next { s with ovl := if ok then { o with copyB := toB, cfgLost := false, loadClr := false } else o }
  | none => .next s

/-- The registers that hold RWO fields. -/
def rwoRegs : List Nat := (regRows.filter (fun r => decide (r.rwo ≠ 0))).flatMap (fun r => (List.range r.n).map (fun i => r.lo + i * r.stride))

/-- DISCARD (R467). -/
def State.cfgDiscard (s : State) : State :=
  if s.ovl.saveBusy then s
  else
    let c := s.cfgCopy
    let (es, bad) := c.loadEntries
    let addrs := s.regs.map (·.1) ++ c.base.map (·.1)
    let back := fun (s : State) (a : Nat) =>
      let r := regRow a
      let m := BitVec.ofNat 32 (r.nv - (r.nv &&& r.rwo))
      s.setUnder a ((s.under a &&& ~~~m) ||| (c.value a &&& m))
    let s := addrs.foldl back s
    let pend := rwoRegs.foldl (fun (p : Sparse (Word × Word)) a =>
      let m := BitVec.ofNat 32 ((regRow a).nv &&& (regRow a).rwo)
      if m = 0 then p else Sparse.set (0, 0) p a (m, c.value a &&& m)) s.rwo
    let s := { s with rwo := pend }
    { s with ovl := { s.ovl with entries := es, loadClr := s.ovl.loadClr || bad } }

/-- The entry that the window addresses (R58): overlay and index. -/
def State.ovlSel (s : State) : Option Nat :=
  let m := s.fld 0x200 0 4
  if 3 ≤ m ∧ m ≤ 10 then some (m * 128 + s.fld 0x202 0 7) else none

/-- A write of an entry register (R58, R61, R71, R77). `none`: refused. -/
def State.ovlWrite (s : State) (a : Nat) (v : Word) : Option State :=
  match s.ovlSel with
  | none => some s
  | some k =>
    let e := Sparse.get ⟨false, 0, 0, 0⟩ s.ovl.entries k
    let put := fun (e : OvlEntry) => some { s with ovl := { s.ovl with entries := Sparse.set ⟨false, 0, 0, 0⟩ s.ovl.entries k e } }
    if a = 0x203 then
      let valid := Sys2Proof.bit v 16
      let addr := Sys2Proof.fld v 0 16
      if valid && ovlAddrBad addr then none
      else if valid && !e.valid && (decide (128 ≤ s.ovlCount (k / 128)) || decide (320 ≤ s.ovlUsed)) then none
      else put { e with valid := valid, addr := addr }
    else if a = 0x204 then put { e with mask := v }
    else put { e with val := v }

/-! ## Resets -/

/-- The always-on registers that a reset other than power-on keeps (R41). DEDUCED, log entries 37 and 48. -/
def Aon.keep (a : Aon) (cause : Nat) : Aon := { a with resetCause := cause, dipOpen := false, fromStill := false }

/-- A reset (R41): everything but MRAM, the given always-on registers and the supplies' own conditions; start-up continues from
the given step. UPDATE entries that the steward has still to write are kept (R433). The frames that the ports hold are dropped, and DROPS reads
0 after it. DEDUCED, log entries 4, 37 and 117; DESIGN CHOICE, log entry 150. -/
def State.resetTo (s : State) (a : Aon) (step : Nat) : State :=
  { State.reset with
    time := Time.start s.clk
    aon := a
    pwr := { Pwr.init with step := step, portsOff := s.pwr.portsOff, modeAt := s.clk }
    ovl := { State.reset.ovl with copyA := s.ovl.copyA, copyB := s.ovl.copyB, copyB_ := s.ovl.copyB_ }
    mod := { Mod.init with copyA := s.mod.copyA, copyB := s.mod.copyB, useB := s.mod.useB, hourAt := s.clk }
    res := { Res.init with stackHi := s.res.stackHi }
    net := { Net.init with lastSync := s.clk, ringLast := s.clk }
    bst := { Bst.init with copyA := s.bst.copyA, copyB := s.bst.copyB, useB := s.bst.useB, mapAt := s.clk }
    flt := { Flt.init with stwKey := s.clk, divAt := s.flt.divAt, divHigh := s.flt.divHigh }
    nvm :=
      { Nvm.init with
        mram := s.nvm.mram, rows := s.nvm.rows, scrubAt := s.clk, head := s.nvm.head, wrapped := s.nvm.wrapped
        lastSeq := s.nvm.lastSeq, uid := s.nvm.uid, bindA := s.nvm.bindA, bindB := s.nvm.bindB
        img := s.nvm.img, stored := s.nvm.stored, jrnA := s.nvm.jrnA, jrnB := s.nvm.jrnB, act := s.nvm.act, fbCause := s.nvm.fbCause, fbDue := s.nvm.fbDue
        prev := s.nvm.prev, keySet := s.nvm.keySet, keyReq := s.nvm.keyReq, keyX := s.nvm.keyX, keyY := s.nvm.keyY
        nextSid := s.nvm.nextSid, ledgDue := s.nvm.ledgDue.filter (fun e => decide (e.kind = 4)) }
    ecc := s.ecc.filter (fun e => decide (e.1 = EccArea.mram))
    answer := s.answer
    resets := s.resets + 1
    freeN := s.freeN
    pending := s.pending }

/-- A reset whose step 1 samples TEST (R442): high, and the device stays in the factory test state, in which start-up goes no further
and nothing is served. DEDUCED, log entry 4. -/
def State.resetWith (s : State) (test : Bool) (a : Aon) (step : Nat) : State :=
  let s := s.resetTo a step
  { s with pwr := { s.pwr with factory := test } }

/-- The LPO starts anew, and its divider with it (R368). -/
def State.lpoStart (s : State) : State := { s with flt := { s.flt with divAt := s.clk, divHigh := true } }

/-- POWER_ON_RESET (R41): the always-on registers take their reset values. -/
def execPowerOnReset (dt : Nat) (test : Bool) (s : State) : Out := .next ((s.elapse dt).resetWith test Aon.init 1).lpoStart

/-- The delay of a rail supervisor's reset in ticks (Table 2.2). -/
def railDelay (rail : Nat) : Nat := if rail = 2 then 50 * usTicks else 10 * usTicks

/-- The record of a dip that ends in a supply reset (R37): its lowest VSTK has not been measured and is a free value in its range. DEDUCED,
log entry 38. -/
def State.dipEndsInReset (s : State) : State :=
  if s.aon.dipOpen then
    let (w, s) := s.free
    let d := min 65535 (Config.readRound (((s.clk - s.aon.dipClk : Nat) : Rat) / 2000)).toNat
    { s with aon := { s.aon with dipReset := true, dipVmin := Sys2Proof.fld w 0 16, dipDuration := d } }
  else s

/-- SUPPLY_RESET (R34, R37, R40 to R42): VSTK below 7.5 V (1), a rail supervisor after its delay (2 to 4), or a failed PLL
relock (5). After a fall of VSTK step 1 begins with VSTK_RESET_RISING, and TEST is sampled there. DEDUCED, log entry 38. -/
def execSupplyReset (dt src : Nat) (test : Bool) (s : State) : Out :=
  let s := s.elapse dt
  if src = 1 then
    let s := s.dipEndsInReset
    .next (s.resetWith false { s.aon.keep 2 with supplySrc := 1, lockout := false } 0)
  else if 2 ≤ src ∧ src ≤ 4 then
    match s.pwr.railTrip with
    | some (r, t) =>
      if r = src then
        let s := s.until_ (t + railDelay src)
        .next (s.resetWith test { s.aon.keep 2 with supplySrc := src } 1)
      else .next s
    | none => .next s
  else if src = 5 ∧ 8 ≤ s.pwr.retries ∧ ¬s.pwr.pllLock then .next (s.resetWith test { s.aon.keep 2 with supplySrc := 5 } 1)
  else .next s

/-- COMMAND_RESET (R41): the key is written to PWR_RESET while the lock is open, by a requester whose writes are taken. DEDUCED, log entry 27. -/
def execCommandReset (dt : Nat) (rq : Requester) (test : Bool) (s : State) : Out :=
  let s := s.elapse dt
  if s.pwr.lockOwner.isSome && s.pwr.commit.isNone && (decide (s.pwr.mode ≠ .lockout) || decide (rq = .steward)) then
    .next (s.resetWith test (s.aon.keep 3) 1)
  else .next s

/-- WAKE_RESET (R41): a qualified wake ends SHIP or STILL. DEDUCED, log entry 48. -/
def execWakeReset (dt cause : Nat) (test : Bool) (s : State) : Out :=
  let s := s.elapse dt
  if s.pwr.wakeDue = some cause ∧ (s.pwr.mode = .ship ∨ s.pwr.mode = .still) then
    let ship := decide (s.pwr.mode = .ship)
    .next (s.resetWith test
      { s.aon.keep 4 with wakeCause := cause, fromStill := !ship, chainAddr := if ship then none else s.aon.chainAddr } 1)
  else .next s

/-- VSTK_RESET_RISING (R43): VSTK rises through 8.0 V after a fall below 7.5 V, and the start-up sequence begins; its step 1 samples
TEST (R442). -/
def execVstkResetRising (e : TestAt) (s : State) : Out :=
  let s := s.elapse e.dt
  .next (if s.pwr.mode = .reset ∧ s.pwr.step = 0 then
      { s with pwr := { s.pwr with step := 1, factory := e.test, modeAt := s.clk } }
    else s)

end Sys2Proof.Machine
end

