-- ==== Sys2Proof/Machine/OpenWire.lean ====
section
/-! DEFINITION. Machine/OpenWire.lean: the open-wire check (R83 to R90). -/

namespace Sys2Proof.Machine

/-- The running check changed. -/
def State.setOw (s : State) (r : OwRun) : State := { s with cfe := { s.cfe with run := some r, phase := r.phase } }

/-- Conversions of the affected set are requested, side A alone (R85). DEDUCED, log entry 49. -/
def State.owConvert (s : State) (why : ConvFor) (phase : Nat) : State :=
  let c : Conv :=
    { id := s.nextId, why := why, stand := 0, jet := 8, osrK := 10, s := 0, merge := false, diff := false, grid := false, after := none
      start := none, strm := none, chans := (s.owCells phase).map (fun n => ConvCh.fresh (n - 1) 1) }
  { s with convs := s.convs ++ [c], nextId := s.nextId + 1 }

/-- The engine's conversions of a kind are still under way. -/
def State.owBusy (s : State) (why : ConvFor) : Bool := s.convs.any (fun c => decide (c.why = why))

/-- The sinks switch off: the interval of R86 ends 100 µs later. -/
def State.sinksOff (s : State) : State :=
  { s with res :=
      { s.res with owSpans := s.res.owSpans.map (fun e =>
          if e.2.to_ = none then (e.1, { e.2 with to_ := some (s.clk + 100 * usTicks) }) else e) } }

/-- A running check ends at once (R89); OPEN is not changed. DEDUCED, log entry 45. -/
def State.owAbort (s : State) : State :=
  match s.cfe.run with
  | some _ =>
    let s := s.sinksOff
    let s := s.dropConvs Conv.ofOw
    ({ s with cfe := { s.cfe with run := none } }).redrive
  | none => s

/-- OW_PERIOD_EXPIRY (R88). -/
def execOwPeriodExpiry (dt : Nat) (s : State) : Out :=
  let s := s.elapse dt
  match s.cfe.lastRun with
  | some t => if s.owPeriod = 0 then .next s else .next (s.until_ (t + s.owPeriod * 100 * msTicks)).owDue
  | none => .next s

/-- OW_PHASE_START (R84): the balance outputs of the affected set are held off. -/
def execOwPhaseStart (dt : Nat) (s : State) : Out :=
  let s := s.elapse dt
  match s.cfe.run with
  | some r =>
    if r.step = .due then
      let s := s.setOw { r with step := .hold, since := s.clk }
      .next ((s.owCells r.phase).foldl State.openOut s)
    else .next s
  | none => .next s

/-- OW_BASELINE_START (R84, R85): 50 µs into the phase. -/
def execOwBaselineStart (dt : Nat) (s : State) : Out :=
  let s := s.elapse dt
  match s.cfe.run with
  | some r =>
    if r.step = .hold then
      let s := s.until_ (r.since + 50 * usTicks)
      .next ((s.setOw { r with step := .baseline, base := [], chk := [] }).owConvert .owBase r.phase)
    else .next s
  | none => .next s

/-- OW_SINKS_ON (R84, R86): the last baseline conversion has completed. -/
def execOwSinksOn (dt : Nat) (s : State) : Out :=
  let s := s.elapse dt
  match s.cfe.run with
  | some r =>
    if r.step = .baseline ∧ ¬s.owBusy .owBase then
      let s := s.setOw { r with step := .settle, since := s.clk, sinks := some s.clk }
      .next { s with res :=
        { s.res with owSpans := (s.owCells r.phase).map (fun n => (n, ⟨s.clk, none⟩)) ++ s.res.owSpans } }
    else .next s
  | none => .next s

/-- OW_CHECK_START (R84): after the settle time. -/
def execOwCheckStart (dt : Nat) (s : State) : Out :=
  let s := s.elapse dt
  match s.cfe.run with
  | some r =>
    if r.step = .settle then
      let s := s.until_ (r.since + 250 * usTicks * (Sys2Proof.fld r.cfg 4 4 + 1))
      .next ((s.setOw { r with step := .check }).owConvert .owCheck r.phase)
    else .next s
  | none => .next s

/-- The change of a cell's check conversion against its baseline, in µV; a cell without a conversion, as one that NCELLS has made used or
unused within the check, counts as unchanged. DESIGN CHOICE, log entry 134. -/
def OwRun.change (r : OwRun) (n : Nat) : Int :=
  let at_ := fun (l : List (Nat × Int)) => match l.find? (fun e => decide (e.1 = n)) with | some e => e.2 | none => 0
  at_ r.chk - at_ r.base

/-- The criterion of Table 3.3 for tap `k` with `n` cells. -/
def OwRun.tapOpen (r : OwRun) (n k : Nat) : Bool :=
  let t : Int := clampTo 50 1000 (Sys2Proof.fld r.cfg 8 10) * 1000
  let falls := fun c => decide (r.change c < -t)
  let rises := fun c => decide (t < r.change c)
  if k = 0 then falls 1 else if k < n then falls k && rises (k + 1) else falls n && !rises (n - 1)

/-- OW_EVALUATE (R84, R87): the last check conversion has completed. DEDUCED, log entry 50. -/
def execOwEvaluate (dt : Nat) (s : State) : Out :=
  let s := s.elapse dt
  match s.cfe.run with
  | some r =>
    if r.step = .check ∧ ¬s.owBusy .owCheck then
      let taps := s.owTaps r.phase
      let opens := taps.filter (r.tapOpen s.ncells)
      let s := s.sinksOff.setOw { r with step := .off, since := s.clk, sinks := none, any := r.any || !opens.isEmpty }
      let m := taps.foldl (fun m k => maskSet m k (opens.contains k)) s.cfe.openTaps
      let s := { s with cfe := { s.cfe with openTaps := m } }
      .next (s.present (opens.map (48 + ·)))
    else .next s
  | none => .next s

/-- OW_PHASE_END (R84, R236): 100 µs after the sinks switch off the balance hold is released. -/
def execOwPhaseEnd (dt : Nat) (s : State) : Out :=
  let s := s.elapse dt
  match s.cfe.run with
  | some r =>
    if r.step = .off then
      let s := s.until_ (r.since + 100 * usTicks)
      if r.phase < 2 then .next (s.setOw { r with phase := r.phase + 1, step := .due, since := s.clk }).redrive
      else
        .next ({ s with cfe := { s.cfe with run := none, checks := (s.cfe.checks + 1) % 65536, anyOpen := r.any } }).redrive
    else .next s
  | none => .next s

end Sys2Proof.Machine
end

