-- ==== Sys2Proof/Machine/Ports.lean ====
section
/-! DEFINITION. Machine/Ports.lean: the states of the two Ecpor ports, what follows when a port leaves UP, transaction tags, and the
frames the bridge sends on its own account (R289, R295 to R299, R304, R310, R311, R321 to R323). -/

namespace Sys2Proof.Machine

/-! ## Tags and the host's receive queue -/

/-- The mark, in place of a TAG, of a frame of the bridge's own that gets its tag when it is sent; 128 plus a handle marks a frame
that the bridge's host addressed to the bridge itself, which takes no tag (R308, R310). DEDUCED, log entry 89. -/
def noTag : Nat := 128

/-- The tag that the next frame sent gets, where one is free (R310). -/
def State.tagNext (s : State) : Option Nat :=
  ((List.range 128).map (fun i => (s.net.nextTag + i) % 128)).find? (fun t => s.net.tags.all (fun h => decide (h.tag ≠ t)))

/-- A tag is taken for a frame to `addr` (R310, R311). DEDUCED, log entry 90. -/
def State.takeTag (s : State) (tag handle addr : Nat) : State :=
  { s with net := { s.net with tags := s.net.tags ++ [⟨tag, handle, addr, s.clk, 0⟩], nextTag := (tag + 1) % 128 } }

/-- A tag is released. -/
def State.freeTag (s : State) (tag : Nat) : State :=
  { s with net := { s.net with tags := s.net.tags.filter (fun h => decide (h.tag ≠ tag)) } }

/-- An answer that no tag fits is discarded and counted (R311, R323). -/
def State.lateAnswer (s : State) : State := { s with net := { s.net with lateRsp := inc 255 s.net.lateRsp } }

/-- An answer reaches the bridge under its tag (R311): it enters the receive queue as RESPONSE, or as NET where the bridge itself
sent the frame (R306), with a unicast tag released and a broadcast answer counted. -/
def State.tagAnswer (s : State) (f : Frame) : State :=
  match s.net.tags.find? (fun h => decide (h.tag = f.tag)) with
  | none => s.lateAnswer
  | some h =>
    let e : RxEnt := ⟨h.handle, if h.handle = 0 then 5 else 1, 0, some f⟩
    if h.addr = 63 then
      ({ s with net := { s.net with tags := s.net.tags.map (fun (x : TagHold) =>
        if x.tag = f.tag then { x with count := x.count + 1 } else x) } }).rxPut e
    else if h.addr = f.addr then (s.freeTag f.tag).rxPut e
    else s.lateAnswer

/-- An answer of this device (R286, R308): out of the bridge-ward port; on the bridge, to its own receive queue. -/
def State.respond (s : State) (typ cls tag : Nat) (payload : Bytes) : State :=
  let f : Frame := ⟨typ, 0, s.selfAddr, cls, if tag < 128 then tag else 0, payload⟩
  if s.bridge then
    if noTag ≤ tag then s.rxPut ⟨tag - noTag, 1, 0, some f⟩ else s.tagAnswer f
  else s.send s.bridgeWard f

/-! ## Frames of the bridge's own -/

/-- A NET_OUT frame of the bridge's own to every node, out of a port (R304). -/
def State.sendNet (s : State) (p : PortId) (op : Nat) : State := s.send p ⟨0xB, 0, 63, 1, noTag, beBytes 1 op ++ beBytes 3 0⟩

/-- RING_EN on the bridge (R303). -/
def State.ringOn (s : State) : Bool := s.bridge && s.bit 0x1600 30

/-- The bridge routes to both segments of a split ring (R303, R322). -/
def State.splitOn (s : State) : Bool := s.ringOn && decide (s.net.ring = .split)

/-- The state with the running enumeration changed. -/
def State.setEnum (s : State) (e : Option EnumRun) : State := { s with net := { s.net with enumRun := e } }

/-- A frame of an enumeration is given to the north port, or where that cannot take it and the ring is split to the ring port (R306, R322).
Where no port takes it, its time runs all the same. DEDUCED, log entry 92. -/
def State.enumSend (s : State) (e : EnumRun) (op : Nat) : State :=
  let takes := fun (p : PortId) => decide ((s.port p).st = .up) && bufferFree (s.port p).buf 1
  if !takes .north && s.splitOn && takes .south then (s.setEnum (some { e with tag := noTag, lone := false })).sendNet .south op
  else (s.setEnum (some { e with tag := noTag, lone := !takes .north, since := s.clk })).sendNet .north op

/-- The ring state changes (R307, R321, R322). -/
def State.setRing (s : State) (r : RingSt) : State :=
  if s.net.ring = r then s else { s with net := { s.net with ring := r, attn := true } }

/-- Recovery starts (R321, R323): REVERSE leaves by the ring port and the answers are collected. -/
def State.recover (s : State) (expect : Option (List Nat)) : State :=
  let s := { s with net := { s.net with splits := inc 255 s.net.splits, collect := some ⟨s.clk, expect, []⟩ } }
  s.sendNet .south 4

/-- The collection of REVERSED answers closes (R322, R323). -/
def State.closeCollect (s : State) : State :=
  match s.net.collect with
  | none => s
  | some c =>
    let s := { s with net := { s.net with collect := none } }
    match c.got with
    | [] => (({ s with net := { s.net with split := 0 } })).setRing .open_
    | a :: t => ({ s with net := { s.net with split := t.foldl min a } }).setRing .split

/-- NORMAL leaves by both ports, by the south port only with RING_EN (R303, R322). -/
def State.sendNormal (s : State) : State :=
  let s := s.sendNet .north 5
  let s := if s.ringOn then s.sendNet .south 5 else s
  { s with net := { s.net with heals := inc 255 s.net.heals, healing := true } }

/-! ## Port states -/

/-- Whether a port may leave OFF (R295). -/
def State.portOn (s : State) (p : PortId) : Bool :=
  s.bit 0x1400 (match p with | .north => 0 | .south => 1) && !s.pwr.portsOff && s.pwr.pllLock &&
    (match s.pwr.mode with
    | .reset => decide (8 ≤ s.pwr.step) || s.pwr.stuck
    | .ship => false
    | .still => false
    | .watch => false
    | _ => true)

/-- What follows when a port leaves UP (R321): recovery where it is the north port of a bridge with a ring; LINK_DOWN is due where it is the
far port of a node. HEALED is due when the port becomes UP again as a far port. -/
def State.portLost (s : State) (p : PortId) : State :=
  if s.bridge then
    if s.ringOn ∧ p = .north then s.recover (some ((List.range s.net.enumCount).map (· + 1))) else s
  else s.setPort p (fun q => { q with down := true, notice := if q.bridgeward then q.notice else some false })

/-- A port enters TRAINING (R295). -/
def State.portTrain (s : State) (p : PortId) : State :=
  let was := (s.port p).st
  let s := s.setPort p (fun q =>
    { q with st := .training, tokens := 0, trainAt := s.clk, asked := false, rdy := if was = .off then false else q.rdy })
  if was = .up then s.portLost p else s

/-- A port goes OFF (R295). -/
def State.portOff (s : State) (p : PortId) : State :=
  let was := (s.port p).st
  let s := s.setPort p (fun q => { q with st := .off, tokens := 0, asked := false })
  if was = .up then s.portLost p else s

/-- A port becomes UP (R293, R295, R321). DEDUCED, log entry 84. -/
def State.portUp (s : State) (p : PortId) : State :=
  s.setPort p (fun q =>
    { q with
      st := .up, rxSet := false, lastRx := s.clk, upAt := s.clk, notice := if q.down && !q.bridgeward then some true else q.notice
      down := false })

/-- Ports are turned on or off as their conditions stand (R295). -/
def State.portCheck (s : State) : State :=
  let one := fun (s : State) (p : PortId) =>
    if s.portOn p then (if (s.port p).st = .off then s.portTrain p else s)
    else (if (s.port p).st = .off then s else s.portOff p)
  one (one s .north) .south

/-- A wake tone is asked for on a port: ignored on a port that is UP (R297). -/
def State.toneSend (s : State) (p : PortId) : State :=
  if (s.port p).st = .up then ({ s with ecp := { s.ecp with wakeIgn := true } }).wcSet 0x1408 (putb true 8)
  else s.setPort p (fun q =>
    let n := clampTo 1 15 (s.fld 0x1401 8 4) * msTicks
    { q with toneEnd := some (s.clk + n), wire := some .tone, trim := s.thm.band, sentT := q.sentT + n })

end Sys2Proof.Machine
end

