-- ==== Sys2Proof/Machine/PowerEvents.lean ====
section
/-! DEFINITION. Machine/PowerEvents.lean: what supplies, clocks, wake inputs and the WATCH timer do (R34, R36, R40, R47 to R49,
R444, R453). -/

namespace Sys2Proof.Machine

/-- The state with a bit of PWR_SUP_STAT.SUPPLY_OK. -/
def State.setSupply (s : State) (i : Nat) (b : Bool) : State :=
  { s with pwr := { s.pwr with supplyOk := maskSet s.pwr.supplyOk i b } }

/-- The core domains are supplied: every mode but SHIP and STILL. -/
def State.supplied (s : State) : Bool := decide (s.pwr.mode ≠ .ship) && decide (s.pwr.mode ≠ .still)

/-- Open spans of a list end now. -/
def closeSpans (clk : Nat) (l : List Span) : List Span := l.map (fun p => if p.to_ = none then { p with to_ := some clk } else p)

/-- Ticks from step 1 after which start-up step `n` of 2 to 4 is done, at most 0.4, 0.6 and 0.7 ms (Table 2.5). DESIGN CHOICE, log entry 138. -/
def State.startAfter (_ : State) (n : Nat) : Nat :=
  let t := fun k => min (if k = 2 then 80000 else if k = 3 then 120000 else 140000) (Config.startTicks k)
  if n = 2 then t 2 else if n = 3 then max (t 2) (t 3) else max (max (t 2) (t 3)) (t 4)

/-- The start-up step of Table 2.5 that is done (R43): steps 2 to 4 follow step 1 by themselves. -/
def State.startStep (s : State) : Nat :=
  if s.pwr.mode = .reset ∧ s.pwr.step = 1 ∧ !s.pwr.factory then
    if s.since s.pwr.modeAt (s.startAfter 4) then 4
    else if s.since s.pwr.modeAt (s.startAfter 3) then 3
    else if s.since s.pwr.modeAt (s.startAfter 2) then 2
    else 1
  else s.pwr.step

/-! ## Supplies -/

/-- The warning threshold of VSTK in mV that WARN_CODE selects (R35, Table 2.2). -/
def State.warnMv (s : State) : Nat := 8000 + 500 * min 64 (s.fld 0x106 0 7)

/-- SUPPLY_DIP_START (R35, R36): VSTK, now at `mv` mV, has fallen below the warning threshold. DEDUCED, log entry 46. -/
def execSupplyDipStart (v : VstkAt) (s : State) : Out :=
  let s := s.elapse v.dt
  if s.supplied && s.pwr.supplyOk.testBit 0 && decide (v.mv < s.warnMv) then
    let s := s.setSupply 0 false
    let again := s.aon.dipOpen
    let s := { s with
      pwr := { s.pwr with mramHold := true, dipRec := none }
      aon := { s.aon with
        dipOpen := true, dipReset := false
        dipStart := if again then s.aon.dipStart else s.tb, dipClk := if again then s.aon.dipClk else s.clk }
      res := { s.res with dipSpans := ⟨s.clk, none⟩ :: s.res.dipSpans } }
    .next (s.present1 125)
  else .next s

/-- SUPPLY_DIP_RECOVERY (R35, R36): VSTK, now at `mv` mV, has risen above the warning threshold plus its hysteresis of 0.5 V. -/
def execSupplyDipRecovery (v : VstkAt) (s : State) : Out :=
  let s := s.elapse v.dt
  if s.supplied && !(s.pwr.supplyOk.testBit 0) && decide (s.warnMv + 500 < v.mv) then
    let s := s.setSupply 0 true
    .next { s with
      pwr := { s.pwr with dipRec := some s.clk }
      res := { s.res with dipSpans := closeSpans s.clk s.res.dipSpans } }
  else .next s

/-- The DIP entry of the ledger (Table 17.3). DESIGN CHOICE, log entry 19. -/
def State.dipEntry (s : State) (us : Nat) (inReset : Bool) : LedgEnt :=
  { kind := 2, source := 0xFFFF, time := s.aon.dipStart
    data := leBytes 2 s.aon.dipVmin ++ leBytes 4 us ++ leBytes 1 (b2n inReset) ++ leBytes 5 0 }

/-- SUPPLY_DIP_END (R36): VSTK has stayed above for 1 ms; `vmin` is its lowest value in units of 10 mV. DESIGN CHOICE, log entry 19; DEDUCED, log entry 46. -/
def execSupplyDipEnd (dt vmin : Nat) (s : State) : Out :=
  let s := s.elapse dt
  match s.pwr.dipRec with
  | some t =>
    if s.aon.dipOpen then
      let s := s.until_ (t + msTicks)
      let d : Rat := ((t - s.aon.dipClk : Nat) : Rat)
      let s := { s with
        pwr := { s.pwr with mramHold := false, dipRec := none }
        aon := { s.aon with
          dipOpen := false, dipVmin := min 65535 vmin, dipDuration := min 65535 (Config.readRound (d / 2000)).toNat } }
      .next (s.ledger (s.dipEntry (min 4294967295 (Config.readRound (d / 200)).toNat) false))
    else .next s
  | none => .next s

/-- The bit of SUPPLY_OK of a rail: 2 VPRE, 3 VDDA, 4 VDDC as SUPPLY_SRC numbers them. -/
def railBit (rail : Nat) : Nat := if rail = 2 then 1 else rail

/-- RAIL_SUPERVISOR_TRIP (R34, R444): SUPPLY_WARN is presented and a supply reset is due after the rail's delay. -/
def execRailSupervisorTrip (dt rail : Nat) (s : State) : Out :=
  let s := s.elapse dt
  if 2 ≤ rail ∧ rail ≤ 4 ∧ s.supplied ∧ ¬(s.pwr.mode = .watch ∧ s.pwr.supMask) then
    let s := s.setSupply (railBit rail) false
    let s := if s.pwr.railTrip.isSome then s else { s with pwr := { s.pwr with railTrip := some (rail, s.clk) } }
    .next (s.present1 125)
  else .next s

/-- VREG_FAULT (R34): VREG is limited, AUX words are marked. -/
def execVregFault (dt : Nat) (s : State) : Out :=
  let s := s.elapse dt
  if s.supplied && s.pwr.supplyOk.testBit 2 then
    let s := s.setSupply 2 false
    let s := { s with
      pwr := { s.pwr with vregLimit := true }
      res := { s.res with vrgSpans := ⟨s.clk, none⟩ :: s.res.vrgSpans } }
    .next (s.present1 127)
  else .next s

/-- VREG_RECOVERY (R34). -/
def execVregRecovery (dt : Nat) (s : State) : Out :=
  let s := s.elapse dt
  if s.supplied && !(s.pwr.supplyOk.testBit 2) then
    let s := s.setSupply 2 true
    .next { s with
      pwr := { s.pwr with vregLimit := false }
      res := { s.res with vrgSpans := closeSpans s.clk s.res.vrgSpans } }
  else .next s

/-- STACK_OV (R34): VSTK rises above 140 V. -/
def execStackOv (dt : Nat) (s : State) : Out :=
  let s := s.elapse dt
  if s.res.stackHi then .next s else .next (({ s with res := { s.res with stackHi := true } }).present1 123)

/-- STACK_LIMIT_RETURN (R34). -/
def execStackLimitReturn (dt : Nat) (s : State) : Out :=
  let s := s.elapse dt
  .next { s with res := { s.res with stackHi := false } }

/-- The state with both ports held high-impedance, or not. -/
def State.holdPorts (s : State) (b : Bool) : State := { s with pwr := { s.pwr with portsOff := b } }

/-- VCHN_UNDERVOLTAGE (R34): both ports are released to high impedance. -/
def execVchnUndervoltage (dt : Nat) (s : State) : Out :=
  let s := s.elapse dt
  .next ((s.setSupply 5 false).holdPorts true).portCheck

/-- VCHN_RESTORED (R295): the enabled ports leave OFF for TRAINING. -/
def execVchnRestored (dt : Nat) (s : State) : Out :=
  let s := s.elapse dt
  .next ((s.setSupply 5 true).holdPorts false).portCheck

/-! ## Clocks -/

/-- Every decimator is cleared: the modulators stop or change their clock (R40, R98). -/
def State.clearDecims (s : State) : State := { s with mod := { s.mod with mods := s.mod.mods.map (fun m => { m with decim := none }) } }

/-- The channels of a conversion that starts again. DEDUCED, log entry 47. -/
def Conv.afresh (c : Conv) : Conv :=
  { c with start := none, chans := c.chans.map (fun x => if x.word.isSome then x else ConvCh.fresh x.ch x.need) }

/-- Conversions that held their sides when the modulators stopped start again (R40). DEDUCED, log entry 47. -/
def State.restartConvs (s : State) : State :=
  let ids := (s.convs.filter (·.granted)).map (·.id)
  let s := { s with convs := s.convs.map (fun c => if c.granted then c.afresh else c) }
  ids.foldl (fun s i => match s.convs.find? (fun c => decide (c.id = i)) with | some c => s.grant c | none => s) s

/-- The PLL is lost (R40): the core falls back, modulators and ports stop. DEDUCED, log entry 47. -/
def State.losePll (s : State) (src : CoreSrc) : State :=
  let s := s.readsNow
  ((State.reclockJets { s with pwr := { s.pwr with pllLock := false, coreSrc := src, retries := 0, pllAt := s.clk } }
    s.cycle).clearDecims).portCheck

/-- PLL_UNLOCK (R40). -/
def execPllUnlock (dt : Nat) (s : State) : Out :=
  let s := s.elapse dt
  if s.pwr.pllLock then .next ((s.losePll (if s.pwr.refOk then .ref else .lpo)).present1 130) else .next s

/-- A mode, or a start-up step, in which the PLL runs (Tables 2.5 and 2.6). -/
def State.pllMode (s : State) : Bool := if s.pwr.mode = .reset then decide (4 ≤ s.pwr.step) else s.modeIn 4 11

/-- PLL_RELOCK_RETRY (R40): every 1 ms; the eighth failure calls for a supply reset. -/
def execPllRelockRetry (dt : Nat) (ok : Bool) (s : State) : Out :=
  let s := s.elapse dt
  if !s.pwr.pllLock && s.pllMode && decide (s.pwr.retries < 8) then
    let s := s.until_ (s.pwr.pllAt + (s.pwr.retries + 1) * msTicks)
    if ok then
      let s := s.readsNow
      let s := State.reclockJets { s with
        pwr := { s.pwr with pllLock := true, coreSrc := .pll, relocks := inc 255 s.pwr.relocks, retries := 0 }
        res := { s.res with relock := 2 ^ 36 - 1 } } s.cycle
      .next s.restartConvs.portCheck
    else .next { s with pwr := { s.pwr with retries := s.pwr.retries + 1 } }
  else .next s

/-- CLOCK_MONITOR (R40): the reference oscillator fails; the core falls back to the LPO and the lock is lost with it. -/
def execClockMonitor (dt : Nat) (s : State) : Out :=
  let s := s.elapse dt
  if s.supplied && s.pwr.refOk then
    let locked := s.pwr.pllLock
    let s := s.readsNow
    let s := State.reclockJets { s with pwr := { s.pwr with refOk := false, coreSrc := .lpo } } s.cycle
    .next (if locked then (s.losePll .lpo).present [130, 131] else s.present1 131)
  else .next s

/-- REFERENCE_OSCILLATOR_RECOVERY (R40). -/
def execReferenceOscillatorRecovery (dt : Nat) (s : State) : Out :=
  let s := s.elapse dt
  if s.supplied && !s.pwr.refOk then
    let s := s.readsNow
    .next (State.reclockJets
      { s with pwr := { s.pwr with refOk := true, coreSrc := if s.pwr.pllLock then s.pwr.coreSrc else .ref } } s.cycle)
  else .next s

/-- LPO_FAULT (R40): FLOW is held low. -/
def execLpoFault (dt : Nat) (s : State) : Out :=
  let s := s.elapse dt
  if s.supplied && s.pwr.lpoOk then
    let s := { s with pwr := { s.pwr with lpoOk := false }, flt := { s.flt with flow := false, flowRun := false } }
    .next (s.present1 129)
  else .next s

/-- LPO_RECOVERY (R40). -/
def execLpoRecovery (dt : Nat) (s : State) : Out :=
  let s := s.elapse dt
  .next (if s.supplied then { s with pwr := { s.pwr with lpoOk := true } } else s)

/-! ## STILL and wake -/

/-- A wake has qualified: from SHIP or STILL a reset is due, from WATCH the route to MEASURE is taken (Table 2.7). After a wake by tone
from WATCH, tones follow once the ports are enabled (R299). DEDUCED, log entry 48. -/
def State.wake (s : State) (cause : Nat) : State :=
  match s.pwr.mode with
  | .ship => { s with pwr := { s.pwr with wakeDue := some cause } }
  | .still => { s with pwr := { s.pwr with wakeDue := some cause } }
  | .watch =>
    if s.pwr.commit.isSome then s
    else ({ s with aon := { s.aon with wakeCause := cause }, ecp := { s.ecp with relayDue := decide (cause = 2) } }).beginCommit .measure .auto
  | _ => s

/-- STILL_SCAN (R47, R76, R78): the next cell is compared, 4 ms after the last. -/
def execStillScan (dt cell : Nat) (mv : Int) (s : State) : Out :=
  let s := s.elapse dt
  if s.pwr.mode = .still ∧ cell = s.pwr.scanCell then
    let s := s.until_ (s.pwr.scanAt + 4 * msTicks)
    let s := { s with pwr := { s.pwr with scanAt := s.clk, scanCell := if cell = 24 then 1 else cell + 1 } }
    let lim := s.eff 0x10C
    let out := decide ((lim.extractLsb' 0 16).toInt < mv) || decide (mv < (lim.extractLsb' 16 16).toInt)
    .next (if out && s.used cell && !s.busbar cell && s.bit 0x10B 2 then s.wake 3 else s)
  else .next s

/-- WAKE_TIMER_EXPIRY (R41): the STILL wake timer. -/
def execWakeTimerExpiry (dt : Nat) (s : State) : Out :=
  let s := s.elapse dt
  let t := s.fld 0x10B 16 16
  if s.pwr.mode = .still ∧ t ≠ 0 then .next ((s.until_ (s.pwr.modeAt + t * 1000 * msTicks)).wake 4) else .next s

/-- A pulse of `len` ticks passes a filter that rejects one below `lo` ticks and passes one above `hi` (R453). DESIGN CHOICE, log entry 140. -/
def State.filtered (s : State) (pin lo hi len : Nat) : Bool × State :=
  if len < lo then (false, s)
  else if hi < len then (true, s)
  else (Config.filterPasses pin len s.freeN, { s with freeN := s.freeN + 1 })

/-- The ticks for which a level that ends now, after `len` ticks, has been timed by the LPO: in SHIP those since the LPO runs (R49). -/
def State.lpoTicks (s : State) (len : Nat) : Nat :=
  if s.pwr.mode ≠ .ship then len else if s.pwr.lpoRun then min len (s.clk - s.pwr.lpoAt) else 0

/-- WAKE_PIN (R49, R453): WAKE has been at its level for `len` ticks. -/
def execWakePin (e : PulseAt) (s : State) : Out :=
  let s := s.elapse e.dt
  let (ok, s) := s.filtered 0 9400 10400 (s.lpoTicks e.len)
  if ok ∧ s.bit 0x10B 0 then .next (s.wake 1) else .next s

/-- WAKE_TONE_DETECTED (R298): a tone has lasted 50 LPO cycles at a port, in SHIP as counted from the start of the LPO (R49). -/
def execWakeToneDetected (dt : Nat) (_p : PortId) (s : State) : Out :=
  let s := s.elapse dt
  if s.bit 0x10B 1 ∧ ¬s.pwr.portsOff ∧ (s.pwr.mode ≠ .ship ∨ (s.pwr.lpoRun = true ∧ s.since s.pwr.lpoAt 38000)) then .next (s.wake 2) else .next s

/-- LPO_SHIP_START (R49, R368): the LPO runs, and its divider counts from here. -/
def execLpoShipStart (dt : Nat) (s : State) : Out :=
  let s := s.elapse dt
  .next (if s.pwr.mode = .ship then { s with
      pwr := { s.pwr with lpoRun := true, lpoAt := s.clk }
      flt := { s.flt with divAt := s.clk, divHigh := true } } else s)

/-- LPO_SHIP_STOP (R49). -/
def execLpoShipStop (dt : Nat) (s : State) : Out :=
  let s := s.elapse dt
  .next (if s.pwr.mode = .ship ∧ s.pwr.wakeDue = none then { s with pwr := { s.pwr with lpoRun := false } } else s)

/-! ## WATCH -/

/-- WATCH_INTERVAL in ticks (Table 2.12): 0 counts as 1, and a value above 6,000, of which the manual says nothing, as 6,000. DESIGN
CHOICE, log entry 126. -/
def State.watchTicks (s : State) : Nat := clampTo 1 6000 (s.fld 0x104 16 16) * 10 * msTicks

/-- BUCK_BURST_ENABLE (R444): 200 µs before a burst. -/
def execBuckBurstEnable (dt : Nat) (s : State) : Out :=
  let s := s.elapse dt
  if s.pwr.mode = .watch ∧ ¬s.pwr.burst ∧ ¬s.pwr.buckBurst then
    let s := s.until_ (s.pwr.burstAt + s.watchTicks - 200 * usTicks)
    .next { s with pwr := { s.pwr with buckBurst := true, buckAt := s.clk } }
  else .next s

/-- SUPERVISOR_UNMASK (R444): 150 µs after the buck is enabled. -/
def execSupervisorUnmask (dt : Nat) (s : State) : Out :=
  let s := s.elapse dt
  if s.pwr.mode = .watch ∧ s.pwr.buckBurst ∧ s.pwr.supMask then
    let s := s.until_ (s.pwr.buckAt + 150 * usTicks)
    .next { s with pwr := { s.pwr with supMask := false } }
  else .next s

/-- WATCH_BURST_START (R48): core and jets are clocked; cycles gated off do not count for the watchdogs (R204, R367); a check that is due
begins (R89). DEDUCED, log entry 44. -/
def execWatchBurstStart (dt : Nat) (s : State) : Out :=
  let s := s.elapse dt
  if s.pwr.mode = .watch ∧ ¬s.pwr.burst then
    let s := s.until_ (s.pwr.burstAt + s.watchTicks)
    let gap := s.clk - s.pwr.gateAt
    let s := s.jetsAfterGap gap
    let s := { s with
      pwr := { s.pwr with burst := true, burstAt := s.clk, buckBurst := true, supMask := false }
      flt := { s.flt with stwKey := s.flt.stwKey + gap } }
    .next s.notePower.owEnter
  else .next s

/-- WATCH_BURST_END (R48): the triggers due in the burst are served and no check runs. DEDUCED, log entry 44. -/
def execWatchBurstEnd (dt : Nat) (s : State) : Out :=
  let s := s.elapse dt
  if s.pwr.mode = .watch ∧ s.pwr.burst ∧ s.convs = [] ∧ s.cfe.run = none then
    let s := s.readsNow
    .next (State.notePower { s with pwr := { s.pwr with burst := false, buckBurst := false, supMask := true, gateAt := s.clk } })
  else .next s

end Sys2Proof.Machine
end

