-- ==== Sys2Proof/Machine/Check.lean ====
section
/-! DEFINITION. Machine/Check.lean: the sixteen check-value channels (R325 to R338). -/

namespace Sys2Proof.Machine

/-- The address of register `k` of channel `n`. -/
def chkReg (n k : Nat) : Nat := 0x1800 + 16 * n + k

/-- CHK registers (Table 12.4). -/
def State.rdChk (s : State) (a : Nat) : Word :=
  let c := s.chkOf ((a - 0x1800) / 16)
  match a % 16 with
  | 7 => c.res
  | 9 =>
    let st := if c.feed.isSome then 2 else if c.active then 1 else 0
    let o := match c.owner with | some r => put r.ownerCode 27 3 ||| put r.jetNo 24 3 | none => 0
    put st 30 2 ||| o ||| putb c.mismatch 23 ||| put c.lastEnd 20 3 ||| put c.feedSt 16 3 ||| put c.cntUsed 8 8
  | _ => 0

/-- What CHK_RESn, CHK_STATn and CHK_SEQn of a channel show until now is kept for the reads of this cycle (R27, R329, R331). -/
def State.noteChk (s : State) (n : Nat) : State :=
  (((s.noteOld (chkReg n 7) 0 (s.rdChk (chkReg n 7))).noteOld (chkReg n 9) 0 (s.rdChk (chkReg n 9))).noteOld (chkReg n 1) 0
    (s.eff (chkReg n 1) &&& (regRow (chkReg n 1)).cfg))

/-- The address byte of a fold block (R334). -/
def State.foldAddr (s : State) : Nat := if s.bridge then 0 else s.aon.chainAddr.getD 0xFF

/-- START claims or restarts a channel, which is ACTIVE from the next cycle (R327 to R329, R334). -/
def State.chkStart (s : State) (rq : Requester) (n : Nat) : State :=
  let s := s.noteChk n
  let cfg := s.eff (chkReg n 0)
  let s := s.setChk n (fun c =>
    { c with active := true, owner := some rq, cfg := cfg, crc := (crcAlg (Sys2Proof.fld cfg 0 2)).init, feed := none
             last := s.clk, startAt := some s.clk
             fresh := !c.active || (c.fresh && decide (c.startAt = some s.clk) && decide (c.owner ≠ some rq)) })
  if n < 4 then
    let q := s.fld (chkReg n 1) 0 16
    s.chkBytes n (beBytes 1 s.foldAddr ++ beBytes 2 q)
  else s

/-- The counter byte selected by a copied configuration, and the counter's modulus (R335). -/
def Chk.counter (c : Chk) : Option (Nat × Nat) :=
  match Sys2Proof.fld c.cfg 8 2 with
  | 0 => none
  | 1 => some (c.cnt % 16, 16)
  | _ => some (c.cnt % 256, 256)

/-- The channel is ACTIVE in this cycle for a write after its START's own (R329). -/
def Chk.ready (c : Chk) (clk : Nat) : Bool := c.active && decide (c.startAt ≠ some clk)

/-- FINISH of an active channel (R331, R334 to R336). -/
def State.chkFinish (s : State) (n : Nat) : State :=
  let s := s.noteChk n
  let c := s.chkOf n
  let s := if 4 ≤ n then
      match c.counter with
      | some (b, m) =>
        (s.chkBytes n (beBytes 1 b)).setChk n (fun c => { c with cntUsed := b, cnt := (b + 1) % m })
      | none => s
    else s
  let alg := crcAlg (Sys2Proof.fld c.cfg 0 2)
  let r := crcEnd alg (s.chkOf n).crc
  let s := s.setChk n (fun c => { c.ended 1 with res := BitVec.ofNat 32 r })
  let s := if n < 4 ∧ Sys2Proof.bit c.cfg 12 then
      let q := s.under (chkReg n 1)
      s.setUnder (chkReg n 1) ((q &&& 0xFFFF0000) ||| put (Sys2Proof.fld q 0 16 + 1) 0 16)
    else s
  if Sys2Proof.bit c.cfg 16 ∧ r ≠ Sys2Proof.fld (s.eff (chkReg n 8)) 0 alg.w then
    ((s.setChk n (fun c => { c with mismatch := true })).wcSet (chkReg n 9) (putb true 23)).present1 155
  else s

/-- A feed is refused (R332). DEDUCED, log entry 102. -/
def feedRefused (src : Word) (count : Nat) : Bool :=
  let k := Sys2Proof.fld src 30 2
  decide (count = 0) || decide (k = 0) || decide (k = 3) ||
    (decide (k = 1) && decide (256 < Sys2Proof.fld src 0 8 + count)) ||
    (decide (k = 2) && (decide (Sys2Proof.fld src 0 20 % 8 ≠ 0) || decide (0x100000 < Sys2Proof.fld src 0 20 + 4 * count)))

/-- FEED of an active channel (R332, R333); `finish` says that FINISH was written with it. -/
def State.chkFeed (s : State) (n : Nat) (finish : Bool) : State :=
  let src := s.eff (chkReg n 2)
  let count := s.fld (chkReg n 3) 0 13
  if feedRefused src count then s.setChk n (fun c => { c with feedSt := 2 })
  else s.setChk n (fun c => { c with feed := some ⟨src, count, finish, 0, s.clk⟩ })

/-- The clock at which a feed ends as things stand (R333): with its last word, or with the first uncorrectable one of MRAM. DEDUCED, log entry 101. -/
def State.feedEnd (s : State) (f : Feed) : Nat :=
  let left := f.count - f.got
  let a := Sys2Proof.fld f.src 0 20 / 8 + f.got / 2
  let bad := if f.mram then (List.range ((left + 1) / 2)).find? (fun i => decide (s.eccOf .mram (a + i) = some true)) else none
  match bad with
  | some i => f.last + min left (2 * (i + 1)) * s.cycle
  | none => f.last + left * s.cycle

/-- The end of a feed (R333): HIT is judged, and a held FINISH takes effect in the next cycle. DEDUCED, log entry 101. -/
def State.feedDone (s : State) (n : Nat) : State :=
  let s := s.feedsPage.feedsMram
  match (s.chkOf n).feed with
  | none => s
  | some f =>
    if f.mram || s.pageHit (Sys2Proof.fld f.src 24 4) (Sys2Proof.fld f.src 8 16) then
      let s := s.setChk n (fun c => { c with feed := none, feedSt := 1 })
      if f.finish then (s.noteChk n).nextCycle (·.chkFinish n) else s
    else s.setChk n (fun c => { c.ended 2 with feedSt := 3 })

/-- A write of CHK_CTLn by a requester that may make it (R327 to R333). `none`: refused. -/
def State.chkCtl (s : State) (rq : Requester) (n : Nat) (v : Word) : Option State :=
  let start := Sys2Proof.bit v 31
  let feed := Sys2Proof.bit v 30
  let fin := Sys2Proof.bit v 29
  let abort := Sys2Proof.bit v 28
  if (s.chkOf n).feed.isSome && !start && !abort && (feed || fin) then none
  else
    let s := if (s.chkOf n).feed.isSome then s.feedsPage.feedsMram else s
    let s := if start then s.chkStart rq n else s
    if !(start || (s.chkOf n).ready s.clk) || !(s.chkOf n).active then some s
    else if abort then some (s.setChk n (fun c => c.ended 2))
    else if feed then some (s.chkFeed n fin)
    else if fin then some (s.chkFinish n)
    else some s

/-- The bytes of a CHK_DATAn write in the order that SWAP selects (R330). -/
def dataBytes (swap : Bool) (v : Word) : Bytes := if swap then leBytes 4 v.toNat else beBytes 4 v.toNat

/-- A channel was claimed in this cycle by a requester that R26 puts after `rq`: a START of `rq` comes first (R328). -/
def State.chkYields (s : State) (rq : Requester) (n : Nat) : Bool :=
  let c := s.chkOf n
  match c.owner with
  | some o => c.active && c.fresh && decide (c.startAt = some s.clk) && decide (writeRank rq < writeRank o)
  | none => false

/-- The owner has written a register of its channel (R337). -/
def State.chkOwn (s : State) (rq : Requester) (n : Nat) : State :=
  if (s.chkOf n).active && decide ((s.chkOf n).owner = some rq) then s.setChk n (fun c => { c with last := s.clk }) else s

/-- A write to register `k` of channel `n` (R327 to R330, R333, R334). `none`: refused with access-denied status. -/
def State.chkWrite (s : State) (rq : Requester) (n k : Nat) (v : Word) : Option State :=
  let c := s.chkOf n
  let jet := match rq with | .jet _ => true | _ => false
  if jet && decide (n < 4) then none
  else if k = 9 then some (if Sys2Proof.bit v 23 then (s.chkOwn rq n).setChk n (fun c => { c with mismatch := false }) else s.chkOwn rq n)
  else if k = 7 then some (s.chkOwn rq n)
  else if c.active && decide (c.owner ≠ some rq) then
    if k = 4 && Sys2Proof.bit v 31 && s.chkYields rq n then s.chkCtl rq n v else none
  else
    let s := s.chkOwn rq n
    match k with
    | 4 => s.chkCtl rq n v
    | 5 =>
      if c.feed.isSome then none
      else some (if c.ready s.clk then s.chkBytes n (dataBytes (Sys2Proof.bit c.cfg 4) v) else s)
    | 6 => if c.feed.isSome then none else some (if c.ready s.clk then s.chkBytes n (beBytes 1 (Sys2Proof.fld v 0 8)) else s)
    | _ =>
      let a := chkReg n k
      some (s.setUnder a (merged (s.under a) (taken (BitVec.ofNat 32 (regRow a).rw) (s.covered a) (s.eff a) v) v))

end Sys2Proof.Machine
end

