-- ==== Sys2Proof/Machine/Rill.lean ====
section
/-! DEFINITION. Machine/Rill.lean: the rill bus: its supply, transactions, the search, the directory and polling (R339 to R353). -/

namespace Sys2Proof.Machine

/-! ## Directory -/

/-- Directory entry `i`. -/
def State.rent (s : State) (i : Nat) : RilEnt := vget s.ril.ents default i

/-- The state with a directory entry changed. -/
def State.setRent (s : State) (i : Nat) (f : RilEnt → RilEnt) : State :=
  { s with ril := { s.ril with ents := vmod s.ril.ents i f } }

/-- The sensors present. -/
def State.rilPresent (s : State) : List (BitVec 64) := (s.ril.ents.toList.filter (·.present)).map (·.id)

/-- Nibble `k` of an ID (R343). -/
def nibble (id : BitVec 64) (k : Nat) : Nat := id.toNat / 16 ^ k % 16

/-- Nibbles 0 to `l.length` − 1 of an ID equal the prefix (R344). -/
def hasPrefix (id : BitVec 64) (l : List Nat) : Bool := l.zipIdx.all (fun e => decide (nibble id e.2 = e.1))

/-- The six KIND and serial bytes of an ID carry its CRC-16 in [15:0] (R343). -/
def idOk (id : BitVec 64) : Bool := decide (crcOf (crcAlg 0) (beBytes 6 (id.toNat / 65536)) = id.toNat % 65536)

/-- The bus conditions of R340: modes 4 to 10 with EN set. -/
def State.rilEnabled (s : State) : Bool := s.modeIn 4 10 && s.bit 0x1901 31

/-! ## Request frames -/

/-- A request frame: its characters and the CRC-8 over them (R344). -/
def rilFrame (b : Bytes) : Bytes := b ++ beBytes 1 (crcOf (crcAlg 3) b)

/-- The prefix bytes of a query (R344). -/
def prefixBytes : List Nat → Bytes
  | a :: b :: t => BitVec.ofNat 8 (a + 16 * b) :: prefixBytes t
  | [a] => [BitVec.ofNat 8 a]
  | [] => []

/-- UNIT and an ID. -/
def unitHead (id : BitVec 64) : Bytes := beBytes 1 0x69 ++ beBytes 8 id.toNat

/-- Bytes of a direct transaction's writing (R352). -/
def State.xwBytes (s : State) (n : Nat) : Bytes :=
  (leBytes 4 (s.eff 0x1906).toNat ++ leBytes 4 (s.eff 0x1907).toNat).take (min 8 n)

/-- The direct transaction's entry, where it is a UNIT transaction. -/
def directUnit (x : Word) : Option Nat := if Sys2Proof.bit x 19 then some (Sys2Proof.fld x 8 5) else none

/-- The bytes a direct transaction reads, without its CRC byte. -/
def directLen (x : Word) : Nat := if Sys2Proof.bit x 19 then min 8 (Sys2Proof.fld x 0 4) else 0

/-- The direct transaction expects a reply. -/
def directReply (x : Word) : Bool := Sys2Proof.bit x 19 && (decide (0 < directLen x) || Sys2Proof.bit x 20)

/-- Bytes per poll read (Table 13.6). -/
def State.rlen (s : State) : Nat :=
  match s.fld 0x1901 0 3 with
  | 0 => 1 | 1 => 1 | 2 => 2 | 3 => 3 | _ => 4

/-- The request frame of a transaction. -/
def State.rilRequest (s : State) (t : RilTx) : Bytes :=
  let conv := beBytes 1 0x96 ++ beBytes 1 (s.fld 0x1901 16 8)
  match t with
  | .direct =>
    match s.ril.direct with
    | some x =>
      let head := match directUnit x with | some i => unitHead (s.rent i).id | none => beBytes 1 0x96
      rilFrame (head ++ s.xwBytes (Sys2Proof.fld x 4 4))
    | none => []
  | .conv => rilFrame conv
  | .read i => rilFrame (unitHead (s.rent i).id ++ beBytes 1 (s.fld 0x1901 8 8))
  | .query =>
    match s.ril.search with
    | some q => rilFrame (beBytes 1 0xD2 ++ beBytes 1 q.cur.length ++ prefixBytes q.cur)
    | none => []
  | .echo =>
    match s.ril.search with
    | some q => rilFrame (unitHead ((q.clean.headD (0, 0)).2) ++ beBytes 1 0x7E)
    | none => []

/-- Ticks of a request frame with its break (R341). -/
def frameLen (b : Bytes) : Nat := (350 + 100 * b.length) * usTicks

/-- The clock at which the request frame on the bus ends. -/
def State.requestEnd (s : State) : Nat := s.ril.busAt + frameLen s.ril.frame

/-- Ticks of a query after its request frame: 16 slots, of which the first begins 100 µs after it (R344). -/
def slotsLen : Nat := 16100 * usTicks

/-! ## The order of work on the bus (R345) -/

/-- The poll step that can begin at clock `t`: the GROUP transaction, or the next read after CONV_TIME (R350). -/
def State.pollStep (s : State) (t : Nat) : Option RilTx :=
  match s.ril.round with
  | none => none
  | some r =>
    match r.convEnd with
    | none => some .conv
    | some e =>
      if e + s.fld 0x1902 16 8 * msTicks ≤ t then
        ((List.range 32).find? (fun i => decide (r.cursor ≤ i) && (s.rent i).present && s.bit (0x1960 + i) 28)).map RilTx.read
      else none

/-- The work that begins at clock `t` on a free bus (R345). -/
def State.rilNext (s : State) (t : Nat) : Option RilTx :=
  let searching := s.ril.search.isSome && s.opIs 6 .running
  if s.ril.direct.isSome && !(searching && s.ril.gapD) then some .direct
  else match (if searching && s.ril.gapP then none else s.pollStep t) with
    | some x => some x
    | none =>
      if searching then
        match s.ril.search with
        | some q => some (if q.want then .echo else .query)
        | none => none
      else none

/-- The free bus takes its next work at clock `t`, where it may be used by then (R340, R342, R345). -/
def State.rilStart (s : State) (t : Nat) : State :=
  if s.ril.bus.isSome ∨ ¬s.ril.rlv ∨ t < s.ril.freeAt then s
  else
    match s.rilNext t with
    | none => s
    | some x =>
      let s := { s with ril := { s.ril with bus := some x, busAt := t, frame := s.rilRequest x } }
      match x with
      | .direct => { s with ril := { s.ril with gapD := true } }
      | .conv => { s with ril := { s.ril with gapP := true, pts := BitVec.ofNat 32 (s.tbWhen t) } }
      | .read _ => { s with ril := { s.ril with gapP := true } }
      | .query => { s with ril := { s.ril with gapD := false, gapP := false } }
      | .echo => s

/-- The bus is free from clock `t`. -/
def State.rilFree (s : State) (t : Nat) : State := ({ s with ril := { s.ril with bus := none } }).rilStart t

/-- A poll round with nothing left to read ends (R350). -/
def State.roundEnd (s : State) (t : Nat) : State :=
  match s.ril.round with
  | some r =>
    match r.convEnd with
    | some e =>
      if e + s.fld 0x1902 16 8 * msTicks ≤ t ∧
          ((List.range 32).find? (fun i => decide (r.cursor ≤ i) && (s.rent i).present && s.bit (0x1960 + i) 28)).isNone then
        let s := { s with ril := { s.ril with round := none, rounds := (s.ril.rounds + 1) % 65536 } }
        if s.bit 0x1902 30 then s.setFlag (s.fld 0x1902 24 6) else s
      else s
    | none => s
  | none => s

/-- The direct transaction ends with a status of XST. DEDUCED, log entry 103. -/
def State.directEnd (s : State) (st : Nat) : State := { s with ril := { s.ril with direct := none, xst := st } }

/-- A transaction without a reply ends with its request frame: the clock of its end. DEDUCED, log entry 103. -/
def State.rilTimed (s : State) : Option Nat :=
  match s.ril.bus with
  | some .conv => some s.requestEnd
  | some .direct =>
    match s.ril.direct with
    | some x => if directReply x then none else some s.requestEnd
    | none => none
  | _ => none

/-- Transactions without a reply that have ended by now end, and the next work begins; work that waited for the bus to be usable begins as
it is. DEDUCED, log entry 103. -/
def State.rilSettle : Nat → State → State
  | 0, s => s
  | n + 1, s =>
    match s.rilTimed with
    | some e =>
      if e ≤ s.clk then
        let s := match s.ril.bus with
          | some .conv =>
            { s with ril := { s.ril with round := s.ril.round.map (fun (r : RilRound) => { r with convEnd := some e }) } }
          | _ => s.directEnd 1
        State.rilSettle n (s.rilFree e)
      else s
    | none =>
      if s.ril.bus.isNone ∧ s.ril.freeAt ≤ s.clk then
        let s := s.rilStart s.ril.freeAt
        if s.ril.bus.isSome then State.rilSettle n s else s
      else s

/-- Time passes, and what the bus does by itself in it. -/
def State.rilElapse (s : State) (dt : Nat) : State := (s.elapse dt).rilSettle 6

/-! ## The search -/

/-- The search starts, or starts again from `start` (R347). -/
def RilSearch.restart (q : RilSearch) : RilSearch :=
  { q with todo := [], cur := [], found := [], clean := [], garbled := [], n := 0, want := false }

/-- The search ends (R348, R349): the operation becomes terminal, SEARCHES counts it, STALE is set under END_CODE 2 to
4 (Table 13.2), and the bus serves what waits (R345). -/
def State.searchEnd (s : State) (st : OpSt) (cause code : Nat) : State :=
  let s := { s with ril := { s.ril with search := none, searches := (s.ril.searches + 1) % 65536, stale := s.ril.stale || decide (2 ≤ code) } }
  let s := match s.ril.bus with
    | some .query => { s with ril := { s.ril with bus := none } }
    | some .echo => { s with ril := { s.ril with bus := none } }
    | _ => s
  let s := s.endOp 6 st cause code
  s.rilStart s.clk

/-- RILL_CHANGE in a search, once (R347, R348). -/
def State.searchShow (s : State) (q : RilSearch) : State := if q.shown then s else s.present1 138

/-- A discrepancy (R347). -/
def State.discrepancy (s : State) (q : RilSearch) : State :=
  let s := s.searchShow q
  let s := { s with ril := { s.ril with stale := true, restarts := min 3 (q.restarts + 1) } }
  let q := { q with shown := true, restarts := q.restarts + 1 }
  if 3 < q.restarts then s.searchEnd .failed 4 2
  else { s with ril := { s.ril with search := some q.restart, queries := 0 } }

/-- A new sensor takes an entry (R348). -/
def State.takeEntry (s : State) (id : BitVec 64) : State :=
  match (List.range 32).find? (fun i => !(s.rent i).used) with
  | some i =>
    (s.setRent i (fun e => { e with id := id, used := true, present := true, new := true, st := 0 })).wcSet (0x1960 + i)
      (putb true 29)
  | none =>
    match (List.range 32).find? (fun i => !(s.rent i).present) with
    | some i =>
      let s := s.wcSet (0x1960 + i) (putb true 29)
      (s.setRent i (fun e => { e with id := id, present := true, new := true, st := 0 })).setUnder (0x1960 + i)
        (s.under (0x1960 + i) &&& ~~~0x10001F00#32)
    | none => s

/-- The directory is updated and the search ends (R348). -/
def State.searchCommit (s : State) (q : RilSearch) (more : Bool) : State :=
  let s := (List.range 32).foldl (fun (s : State) i =>
    if !(s.rent i).used then s
    else if q.found.contains (s.rent i).id then s.setRent i (fun e => { e with present := true })
    else s.setRent i (fun e => { e with present := false, st := 3 })) s
  let fresh := q.found.filter (fun id => !s.ril.ents.toList.any (fun e => e.used && decide (e.id = id)))
  let s := fresh.foldl State.takeEntry s
  let now := s.rilPresent
  let changed := !(now.all q.before.contains && q.before.all now.contains)
  let s := { s with ril := { s.ril with stale := more } }
  let s := if changed then s.searchShow q else s
  s.searchEnd .done 1 (if more then 4 else b2n changed)

/-- More sensors are pending behind the slot just confirmed (R347). -/
def RilSearch.more (q : RilSearch) : Bool := decide (q.todo ≠ []) || decide (q.clean ≠ []) || decide (q.garbled ≠ [])

/-- The search goes on after a query or an ECHO (R347): the next CLEAN slot, or the prefixes of the GARBLED ones and the next query. -/
def State.searchStep (s : State) (q : RilSearch) : State :=
  match q.clean with
  | (j, id) :: _ =>
    if !hasPrefix id (q.cur ++ [j]) then s.discrepancy q
    else if q.found.contains id then s.discrepancy q
    else { s with ril := { s.ril with search := some { q with want := true } } }
  | [] =>
    if q.cur ≠ [] ∧ q.n = 1 ∧ q.garbled = [] then s.discrepancy q
    else if q.garbled ≠ [] ∧ q.cur.length = 15 then s.discrepancy q
    else
      match q.garbled.map (fun j => q.cur ++ [j]) ++ q.todo with
      | [] => s.searchCommit q false
      | p :: t => { s with ril := { s.ril with search := some { q with todo := t, cur := p, garbled := [], want := false } } }

/-- The answer of an ECHO (R347). -/
def State.echoDone (s : State) (ok : Bool) : State :=
  match s.ril.search with
  | none => s
  | some q =>
    match q.clean with
    | [] => s
    | (j, id) :: rest =>
      if ok then
        let q := { q with found := q.found ++ [id], clean := rest }
        if q.found.length = 32 ∧ q.more then s.searchCommit q true else s.searchStep q
      else s.searchStep { q with clean := rest, garbled := insertAsc j q.garbled }

/-- A search is requested (R346). DEDUCED, log entry 103. -/
def State.searchStart (s : State) (rq : Requester) : State :=
  let res := fun (s : State) n => { s with ril := { s.ril with srchRes := n } }
  if !(s.modeIn 4 10 && s.ril.rlv) then res s 3
  else if s.ril.search.isSome then res s 2
  else
    let (tag, s) := s.startOp 6 rq
    let q : RilSearch :=
      { tag := tag, todo := [], cur := [], found := [], clean := [], garbled := [], n := 0, want := false, before := s.rilPresent
        restarts := 0, shown := false, lost := false }
    let s := { (res s 1) with ril := { (res s 1).ril with search := some q, tag := tag, restarts := 0, queries := 0, gapD := false, gapP := false } }
    s.rilStart s.clk

/-- AUTO_SEARCH (R346): the steward starts a search at the entry into modes 4 to 10 from RESET and 5 ms after RLV first turned on, which
is not accepted where RLV has turned off by then; with the field clear by then, the search that was due is not started. DEDUCED, log
entry 104. -/
def execAutoSearch (dt : Nat) (s : State) : Out :=
  let s := s.rilElapse dt
  let go := fun (s : State) => if s.bit 0x1901 30 && s.stw then .next (s.searchStart .steward) else .next s
  if s.ril.autoFrom then go { s with ril := { s.ril with autoFrom := false } }
  else match s.ril.autoRlv with
    | some t =>
      let s := (s.until_ (t + 5 * msTicks)).rilSettle 6
      let s := { s with ril := { s.ril with autoRlv := none } }
      if s.ril.rlv ∧ s.ril.rlvSince = t then go s
      else if s.bit 0x1901 30 && s.stw then .next { s with ril := { s.ril with srchRes := 3 } }
      else .next s
    | none => .next s

/-- QUERY_DONE (R344, R347): the sixteen slots of the query on the bus have been classified; a slot that claims to be CLEAN with an ID
whose check fails is GARBLED. -/
def execQueryDone (dt : Nat) (slots : List SlotReply) (s : State) : Out :=
  let s := s.rilElapse dt
  match s.ril.search with
  | none => .next s
  | some q =>
    if s.ril.bus = some .query ∧ s.opIs 6 .running then
      let s := s.until_ (s.requestEnd + slotsLen)
      let l := (slots.take 16).zipIdx
      let clean := l.filterMap (fun (e : SlotReply × Nat) =>
        match e.1 with | .clean id => if idOk id then some (e.2, id) else none | _ => none)
      let garbled := l.filterMap (fun (e : SlotReply × Nat) =>
        match e.1 with | .garbled => some e.2 | .clean id => if idOk id then none else some e.2 | .empty => none)
      let q := { q with clean := clean, garbled := garbled, n := clean.length + garbled.length }
      let s := { s with ril := { s.ril with bus := none, queries := inc 63 s.ril.queries } }
      let s := if q.cur ≠ [] ∧ q.n = 0 then s.discrepancy q else s.searchStep q
      .next (s.rilStart s.clk)
    else .next s

/-- ECHO (R344, R347): the ECHO on the bus has been answered or not. -/
def execRilEcho (dt : Nat) (ok : Bool) (s : State) : Out :=
  let s := s.rilElapse dt
  if s.ril.bus = some .echo ∧ s.opIs 6 .running then
    let s := s.until_ s.requestEnd
    let s := ({ s with ril := { s.ril with bus := none } }).echoDone ok
    .next (s.rilStart s.clk)
  else .next s

/-! ## Supply and bus faults -/

/-- A search ends FAILED at once (R347); one that is suspended does so when it runs again, since Table 7.10 has no route from SUSPENDED to
FAILED. DEDUCED, log entry 103. -/
def State.searchFail (s : State) : State :=
  if s.opIs 6 .suspended then { s with ril := { s.ril with search := s.ril.search.map (fun (q : RilSearch) => { q with lost := true }) } }
  else if s.ril.search.isSome then s.searchEnd .failed 4 3
  else s

/-- The transaction on the bus ends with BUS_FAULT (R340, R342), and a search with it (R347); a poll round whose last read it was ends
(R350). -/
def State.rilBusFault (s : State) : State :=
  let s := match s.ril.bus with
    | some .direct => s.directEnd 4
    | some .conv => { s with ril := { s.ril with round := s.ril.round.map (fun (r : RilRound) => { r with convEnd := some s.clk }) } }
    | some (.read i) =>
      let s := s.setRent i (fun e => { e with st := 4 })
      { s with ril := { s.ril with round := s.ril.round.map (fun (r : RilRound) => { r with cursor := i + 1 }) } }
    | _ => s
  (({ s with ril := { s.ril with bus := none } }).roundEnd s.clk).searchFail

/-- RLV turns off (R340): the running transaction ends with BUS_FAULT, work that waits for the bus ends, a poll round is given up. DEDUCED, log entry 103. -/
def State.rlvOff (s : State) : State :=
  if !s.ril.rlv then s
  else
    let s := ({ s with ril := { s.ril with rlv := false } }).rilBusFault
    let s := if s.ril.direct.isSome then s.directEnd 4 else s
    { s with ril := { s.ril with round := none } }

/-- RLV is switched off where the conditions of R340 no longer hold; nothing is left to be turned on again. -/
def State.rlvCheck (s : State) : State :=
  if s.rilEnabled then s
  else
    let s := s.rlvOff
    { s with ril := { s.ril with rlvRetry := none } }

/-- RLV turns on (R340): no transaction begins within 5 ms, nor within what is left of 10 ms after a stuck bus (R342). -/
def State.rlvTurnOn (s : State) : State :=
  { s with ril :=
      { s.ril with
        rlv := true, rlvSince := s.clk, rlvRetry := none, freeAt := max s.ril.freeAt (s.clk + 5 * msTicks)
        autoRlv := if !s.ril.rlvEver && s.bit 0x1901 30 then some s.clk else s.ril.autoRlv, rlvEver := true } }

/-- RLV_ON (R340). -/
def execRlvOn (dt : Nat) (s : State) : Out :=
  let s := s.rilElapse dt
  if s.rilEnabled && !s.ril.rlv && s.ril.rlvRetry.isNone then .next s.rlvTurnOn else .next s

/-- RLV_CURRENT_LIMIT (R340). -/
def execRlvCurrentLimit (dt : Nat) (s : State) : Out :=
  let s := s.rilElapse dt
  if s.ril.rlv then
    let s := s.rlvOff
    .next ((({ s with ril := { s.ril with rlvFault := true, rlvRetry := some s.clk } }).wcSet 0x1903 (putb true 28)).present1 139)
  else .next s

/-- RLV_RETRY (R340): 1 s after the current limit. -/
def execRlvRetry (dt : Nat) (s : State) : Out :=
  let s := s.rilElapse dt
  match s.ril.rlvRetry with
  | some t =>
    let s := s.until_ (t + 1000 * msTicks)
    if s.rilEnabled then .next s.rlvTurnOn else .next { s with ril := { s.ril with rlvRetry := none } }
  | none => .next s

/-- BUS_STUCK (R342): the next transaction begins at least 10 ms later. -/
def execBusStuck (dt : Nat) (s : State) : Out :=
  let s := s.rilElapse dt
  if s.ril.rlv then
    let s := { s with ril := { s.ril with stuck := true, freeAt := max s.ril.freeAt (s.clk + 10 * msTicks) } }
    .next ((s.rilBusFault.wcSet 0x1903 (putb true 27)).present1 139)
  else .next s

/-! ## Polling and direct transactions -/

/-- POLL_ROUND (R350): the timebase reaches a multiple of PERIOD × 2,000,000 ticks. -/
def execPollRound (dt : Nat) (s : State) : Out :=
  let s := s.rilElapse dt
  if !(s.bit 0x1902 31 && s.ril.rlv && s.coreOn) then .next s
  else
    let s := (s.untilMod (atLeast1 (s.fld 0x1902 0 16) * 2000000) 0).rilSettle 6
    if s.ril.round.isSome then .next { s with ril := { s.ril with skipped := inc 65535 s.ril.skipped } }
    else .next (({ s with ril := { s.ril with round := some ⟨none, 0, false⟩ } }).rilStart s.clk)

/-- POLL_READ (R350, R351): CONV_TIME is over and the next read begins on a free bus; with none left the round ends. -/
def execPollRead (dt : Nat) (s : State) : Out :=
  let s := s.rilElapse dt
  match s.ril.round with
  | some r =>
    match r.convEnd with
    | some e =>
      let s := s.until_ (e + s.fld 0x1902 16 8 * msTicks)
      let s := s.rilStart s.clk
      .next (if s.ril.bus = none then s.roundEnd s.clk else s)
    | none => .next s
  | none => .next s

/-- The read of entry `i` is over; the round goes on or ends (R350). -/
def State.readOver (s : State) (i : Nat) : State :=
  let s := { s with ril := { s.ril with round := s.ril.round.map (fun (r : RilRound) => { r with cursor := i + 1 }), bus := none } }
  (s.roundEnd s.clk).rilStart s.clk

/-- A polled sensor has not answered (R351). -/
def State.noAnswer (s : State) (i : Nat) : State :=
  let shown := match s.ril.round with | some r => r.shown | none => true
  let s := s.setRent i (fun e => { e with present := false, st := 3 })
  let s := { s with ril := { s.ril with stale := true, round := s.ril.round.map (fun (r : RilRound) => { r with shown := true }) } }
  if shown then s else s.present1 138

/-- REPLY_TIMEOUT (R344): no start bit within 300 µs of the request frame. -/
def execReplyTimeout (dt : Nat) (s : State) : Out :=
  let s := s.rilElapse dt
  let due := fun (s : State) => s.until_ (s.requestEnd + 300 * usTicks)
  match s.ril.bus with
  | some (.read i) => .next (((due s).noAnswer i).readOver i)
  | some .direct =>
    match s.ril.direct with
    | some x => if directReply x then let s := due s; .next ((s.directEnd 2).rilFree s.clk) else .next s
    | none => .next s
  | some .echo =>
    if s.opIs 6 .running then
      let s := due s
      let s := ({ s with ril := { s.ril with bus := none } }).echoDone false
      .next (s.rilStart s.clk)
    else .next s
  | _ => .next s

/-- The bytes read, first byte in [7:0], as `n` bytes of words. -/
def readWord (b : Bytes) : Word := BitVec.ofNat 32 (leNat (b.take 4))

/-- RILL_REPLY (R344, R351, R352): the reply of a UNIT transaction and, where one is expected, its CRC byte. -/
def execRillReply (dt : Nat) (bytes : Bytes) (crc : Byte) (s : State) : Out :=
  let s := s.rilElapse dt
  match s.ril.bus with
  | some (.read i) =>
    let s := s.until_ s.requestEnd
    let b := bytes.take s.rlen
    let s := if crcOf (crcAlg 3) b = crc.toNat then s.setRent i (fun e => { e with val := readWord b, st := 1 })
      else s.setRent i (fun e => { e with st := 2 })
    .next (s.readOver i)
  | some .direct =>
    match s.ril.direct with
    | some x =>
      if directReply x then
        let s := s.until_ s.requestEnd
        let b := bytes.take (directLen x)
        let bad := Sys2Proof.bit x 20 && decide (crcOf (crcAlg 3) b ≠ crc.toNat)
        let s := { s with ril := { s.ril with xr0 := readWord b, xr1 := readWord (b.drop 4) } }
        .next ((s.directEnd (if bad then 3 else 1)).rilFree s.clk)
      else .next s
    | none => .next s
  | some .echo =>
    if s.opIs 6 .running then
      let s := s.until_ s.requestEnd
      let kind : Bytes := match s.ril.search with
        | some q => beBytes 1 ((q.clean.headD (0, 0)).2.toNat / 2 ^ 56)
        | none => []
      let ok := decide (bytes.take 1 = kind) && decide (crcOf (crcAlg 3) (bytes.take 1) = crc.toNat)
      let s := ({ s with ril := { s.ril with bus := none } }).echoDone ok
      .next (s.rilStart s.clk)
    else .next s
  | _ => .next s

/-- RIL_XCTL is written: a direct transaction starts (R352). -/
def State.directStart (s : State) (x : Word) : State :=
  if !Sys2Proof.bit x 31 then s
  else if s.ril.direct.isSome then ({ s with ril := { s.ril with ign := true } }).wcSet 0x1905 (putb true 29)
  else if !(s.rilEnabled && s.ril.rlv) then { s with ril := { s.ril with xst := 6 } }
  else if (match directUnit x with | some i => !(s.rent i).present | none => false) then { s with ril := { s.ril with xst := 5 } }
  else
    let s := { s with ril := { s.ril with direct := some x } }
    s.rilStart s.clk

/-! ## Suspension (R349) -/

/-- A suspended search holds no part of the bus. -/
def State.suspendRil (s : State) : State :=
  let s := s.rilSettle 6
  match s.ril.bus with
  | some .query => s.rilFree s.clk
  | some .echo => s.rilFree s.clk
  | _ => s

/-- A search is resumed from `start`; where RLV has turned off or the bus has failed since, it ends FAILED. -/
def State.resumeRil (s : State) : State :=
  let s := s.rilSettle 6
  match s.ril.search with
  | some q =>
    if s.ril.rlv ∧ ¬q.lost then
      let s := { s with ril := { s.ril with search := some q.restart, queries := 0 } }
      s.rilStart s.clk
    else s.searchEnd .failed 4 3
  | none => s

end Sys2Proof.Machine
end

