-- ==== Sys2Proof/Machine/Crypto.lean ====
section
/-! DEFINITION. Machine/Crypto.lean: SHA-256 and ECDSA over P-256, which R421 and R422 name. The manual gives neither algorithm: they are
those of FIPS 180-4 and FIPS 186-4 (PRESUMED, log entry 12). -/

namespace Sys2Proof.Machine

/-! ## SHA-256

The constants are worked out as FIPS 180-4 defines them, from the roots of the first primes; the eight working words are held as the last
four values of each of the two sequences that a round extends. -/

/-- The first 64 primes. -/
def shaPrimes : List Nat := (List.range 312).filter (fun n => decide (2 ≤ n) && (List.range n).all (fun d => decide (d < 2) || decide (n % d ≠ 0)))

/-- The whole part of the `k`-th root of `n`, below 2 ^ 40. -/
def wholeRoot (k n : Nat) : Nat :=
  (List.range 40).foldl (fun r i => if (r + 2 ^ (39 - i)) ^ k ≤ n then r + 2 ^ (39 - i) else r) 0

/-- The first 32 bits of the fraction of the `k`-th root of a prime. -/
def rootBits (k p : Nat) : Word := BitVec.ofNat 32 (wholeRoot k (p * 2 ^ (32 * k)))

/-- The constant of each round. -/
def shaKeys : List Word := shaPrimes.map (rootBits 3)

/-- The exclusive or of a word turned right by each of some amounts. -/
def turned (by_ : List Nat) (w : Word) : Word := by_.foldl (fun x k => x ^^^ w.rotateRight k) 0

/-- Both sequences of a hash, the last four values of each, the latest first. -/
structure ShaState where
  as_ : List Word
  es  : List Word
deriving DecidableEq, Repr

/-- Value `i` back. -/
def back (l : List Word) (i : Nat) : Word := l.getD i 0

/-- The state that the first block goes into. -/
def ShaState.start : ShaState :=
  let h := (shaPrimes.take 8).map (rootBits 2)
  ⟨h.take 4, h.drop 4⟩

/-- One round: `x` is the sum of the round's constant and its word of the block. -/
def ShaState.round (v : ShaState) (x : Word) : ShaState :=
  let e := back v.es 0
  let a := back v.as_ 0
  let pick := (back v.es 1 &&& e) ||| (back v.es 2 &&& ~~~e)
  let most := (back v.as_ 1 &&& back v.as_ 2) ||| (a &&& (back v.as_ 1 ||| back v.as_ 2))
  let add := x + back v.es 3 + pick + turned [6, 11, 25] e
  ⟨(add + most + turned [2, 13, 22] a) :: v.as_.take 3, (add + back v.as_ 3) :: v.es.take 3⟩

/-- The words of a block carried on to 64, the latest first. -/
def shaCarry : Nat → List Word → List Word
  | 0, w => w
  | n + 1, w =>
    let lo := back w 14
    let hi := back w 1
    shaCarry n (((turned [17, 19] hi ^^^ (hi >>> 10)) + back w 6 + (turned [7, 18] lo ^^^ (lo >>> 3)) + back w 15) :: w)

/-- A block of 64 bytes taken into a hash. -/
def ShaState.block (v : ShaState) (b : Bytes) : ShaState :=
  let first := (List.range 16).map (fun i => BitVec.ofNat 32 (beNat ((b.drop (60 - 4 * i)).take 4)))
  let u := (List.zipWith (· + ·) shaKeys (shaCarry 48 first).reverse).foldl ShaState.round v
  ⟨List.zipWith (· + ·) v.as_ u.as_, List.zipWith (· + ·) v.es u.es⟩

/-- SHA-256 of a byte string: after it one bit, zeros up to 8 bytes short of a whole block, and its length in bits. -/
def sha256 (m : Bytes) : Bytes :=
  let blocks := (m.length + 72) / 64
  let all := m ++ [0x80] ++ List.replicate (64 * blocks - m.length - 9) 0 ++ beBytes 8 (8 * m.length)
  let v := (List.range blocks).foldl (fun (v : ShaState) i => v.block ((all.drop (64 * i)).take 64)) ShaState.start
  (v.as_ ++ v.es).flatMap (fun w => beBytes 4 w.toNat)

/-! ## P-256 -/

/-- The prime of the field. -/
def p256P : Nat := 0xffffffff00000001000000000000000000000000ffffffffffffffffffffffff

/-- The order of the base point. -/
def p256N : Nat := 0xffffffff00000000ffffffffffffffffbce6faada7179e84f3b9cac2fc632551

/-- The coefficient b of the curve y² = x³ − 3x + b. -/
def p256B : Nat := 0x5ac635d8aa3a93e7b3ebbd55769886bc651d06b0cc53b0f63bce3c3e27d2604b

/-- The base point. -/
def p256G : Nat × Nat :=
  (0x6b17d1f2e12c4247f8bce6e563a440f277037d812deb33a0f4a13945d898c296,
   0x4fe342e2fe1a7f9b8ee7eb4a7c0f9e162bce33576b315ececbb6406837bf51f5)

/-- `x` to the power given by the low `bits` bits of `e`, modulo `m`. -/
def powMod (m x : Nat) : Nat → Nat → Nat
  | 0, _ => 1
  | bits + 1, e =>
    let h := powMod m x bits (e / 2)
    if e % 2 = 1 then h * h % m * x % m else h * h % m

/-- The inverse modulo a prime of 256 bits. -/
def invMod (m x : Nat) : Nat := powMod m x 256 (m - 2)

/-- The point (x, y) lies on the curve. -/
def onCurve (q : Nat × Nat) : Bool :=
  decide (q.1 < p256P) && decide (q.2 < p256P) &&
    decide (q.2 * q.2 % p256P = (q.1 * q.1 * q.1 + (p256P - 3) * q.1 + p256B) % p256P)

/-- The point on the line of slope `l` through two points, mirrored. -/
def chordPoint (l : Nat) (a b : Nat × Nat) : Nat × Nat :=
  let x := (l * l + 2 * p256P - a.1 - b.1) % p256P
  (x, (l * (a.1 + p256P - x) + p256P - a.2) % p256P)

/-- The sum of two points; none is the point at infinity. -/
def addPoint (a b : Option (Nat × Nat)) : Option (Nat × Nat) :=
  match a, b with
  | none, b => b
  | a, none => a
  | some a, some b =>
    if a.1 ≠ b.1 then
      some (chordPoint ((b.2 + p256P - a.2) * invMod p256P ((b.1 + p256P - a.1) % p256P) % p256P) a b)
    else if a.2 = b.2 ∧ a.2 ≠ 0 then
      some (chordPoint ((3 * a.1 * a.1 + p256P - 3) * invMod p256P (2 * a.2 % p256P) % p256P) a a)
    else none

/-- The multiple of a point by the low `bits` bits of `k`. -/
def mulPoint (q : Nat × Nat) : Nat → Nat → Option (Nat × Nat)
  | 0, _ => none
  | bits + 1, k =>
    let h := mulPoint q bits (k / 2)
    if k % 2 = 1 then addPoint (addPoint h h) (some q) else addPoint h h

/-- The point of a key given as the bytes of X and of Y, the most significant first. -/
def keyPoint (x y : Bytes) : Nat × Nat := (beNat x, beNat y)

/-- The key is a point of P-256 (R422). -/
def pointOk (x y : Bytes) : Bool := onCurve (keyPoint x y)

/-- A signature, r before s, each 32 bytes with the most significant first, is valid for a digest under a key (R421). -/
def ecdsaOk (x y digest sig : Bytes) : Bool :=
  let r := beNat (sig.take 32)
  let t := beNat (sig.drop 32)
  let w := invMod p256N t
  let u1 := beNat digest * w % p256N
  let u2 := r * w % p256N
  pointOk x y && decide (0 < r) && decide (r < p256N) && decide (0 < t) && decide (t < p256N) &&
    (match addPoint (mulPoint p256G 256 u1) (mulPoint (keyPoint x y) 256 u2) with
     | none => false
     | some v => decide (v.1 % p256N = r))

end Sys2Proof.Machine
end

