-- ==== Sys2Proof/Machine/Dsp.lean ====
section
/-! DEFINITION. Machine/Dsp.lean: the arithmetic of the spectrum engine (R82, R261, R262, R268, R270): sines and cosines with 64 fraction
bits, the fit, the correlation sums and their corrections. DESIGN CHOICE, log entry 21. -/

namespace Sys2Proof.Machine

/-- 1.0 with 64 fraction bits. -/
def fixOne : Nat := 2 ^ 64

/-- π with 64 fraction bits. -/
def fixPi : Nat := 57952155664616982739

/-- The series 1 − x²/(k(k+1)) + … times `term`, from index `k` on: `sq` is x² with 64 fraction bits. -/
def fixSeries : Nat → Nat → Int → Int → Int
  | 0, _, term, _ => term
  | n + 1, k, term, sq => term + fixSeries n (k + 2) (-(term * sq / fixOne) / (k * (k + 1) : Nat)) sq

/-- Cosine and sine of a quarter turn's fraction: `r` counts 2^−64 turns, below 2^62. -/
def quarter (r : Nat) : Int × Int :=
  let x : Int := 2 * fixPi * r / fixOne
  let sq := x * x / fixOne
  (fixSeries 14 1 fixOne sq, fixSeries 14 2 x sq)

/-- Cosine and sine of `num` / `den` turns, with 64 fraction bits. -/
def turn (num : Int) (den : Nat) : Int × Int :=
  let t := (num % den).toNat * fixOne / den
  let (c, s) := quarter (t % 2 ^ 62)
  match t / 2 ^ 62 with
  | 0 => (c, s)
  | 1 => (-s, c)
  | 2 => (-c, -s)
  | _ => (s, -c)

/-- A fixed-point value as a rational number. -/
def ofFix (x : Int) : Rat := (x : Rat) / fixOne

/-! ## The responses that a phasor is corrected for -/

/-- |H| of the sinc⁴ stage at `f` mHz, for decimation `m` and a modulator period of `p` ticks (Table 4.4). -/
def sincMag (p m f : Nat) : Rat :=
  let a := (turn (f * p) 400000000000).2
  let b := (turn (f * p * m) 400000000000).2
  if a = 0 then 1 else ((b : Rat) / ((a : Rat) * m)) ^ 4

/-- |H| of a half-band stage whose input has a period of `q` ticks (Table 4.4). -/
def halfMag (q f : Nat) : Rat :=
  let c1 := ofFix (turn (f * q) 200000000000).1
  let c3 := ofFix (turn (3 * f * q) 200000000000).1
  (16 + 18 * c1 - 2 * c3) / 32

/-- |h_dec| at `f` mHz for OSR exponent `k` and a modulator period of `p` ticks (R100, R262). -/
def decMag (p k f : Nat) : Rat :=
  let m := 2 ^ (k - 2)
  let h := sincMag p m f * halfMag (p * m) f * halfMag (2 * p * m) f
  if h < 0 then -h else h

/-- ω R C of the input network at `f` mHz: R = 2 × FILT_R in Ω, C = FILT_C in 0.1 nF (R82). -/
def netPole (fr fc f : Nat) : Rat := 4 * ofFix fixPi * ((f * fr * fc : Nat) : Rat) / 10000000000000

/-! ## Phasors -/

/-- A phasor in µV or µA (R262). -/
structure Cplx where
  re : Rat
  im : Rat
deriving DecidableEq, Repr, Inhabited

/-- A phasor times a real number. -/
def Cplx.scale (z : Cplx) (q : Rat) : Cplx := ⟨z.re * q, z.im * q⟩

/-- The product of two phasors. -/
def Cplx.mul (a b : Cplx) : Cplx := ⟨a.re * b.re - a.im * b.im, a.re * b.im + a.im * b.re⟩

/-- The square of a phasor's magnitude. -/
def Cplx.sq (z : Cplx) : Rat := z.re * z.re + z.im * z.im

/-- The conjugate of a phasor. -/
def Cplx.conj (z : Cplx) : Cplx := ⟨z.re, -z.im⟩

/-! ## Fit and correlation (R262) -/

/-- What the correlators hold of samples (t, x): their number and the sums of t, t², x, x t and x². -/
structure FitSums where
  n  : Nat
  t  : Int
  tt : Int
  x  : Int
  xt : Int
  xx : Int
deriving DecidableEq, Repr, Inhabited

/-- The sums over a list of samples. -/
def fitSums (l : List (Int × Int)) : FitSums :=
  l.foldl (fun f e => ⟨f.n + 1, f.t + e.1, f.tt + e.1 * e.1, f.x + e.2, f.xt + e.2 * e.1, f.xx + e.2 * e.2⟩) ⟨0, 0, 0, 0, 0, 0⟩

/-- The least-squares a and b of x ~ a + b t; one sample, or none, has no trend. -/
def FitSums.line (f : FitSums) : Rat × Rat :=
  let d : Int := f.n * f.tt - f.t * f.t
  let b : Rat := if d = 0 then 0 else ((f.n * f.xt - f.t * f.x : Int) : Rat) / d
  (if f.n = 0 then 0 else ((f.x : Rat) - b * f.t) / f.n, b)

/-- The mean square of the residuals (R270). -/
def FitSums.residual (f : FitSums) : Rat :=
  let (a, b) := f.line
  if f.n = 0 then 0 else ((f.xx : Rat) - a * f.x - b * f.xt) / f.n

/-- The phasor of the residuals at `f` mHz (R262): t counts from t_s, and the phase from `lead` ticks before it. -/
def correlate (l : List (Int × Int)) (lead f : Nat) : Cplx :=
  let s := fitSums l
  let (a, b) := s.line
  let one := fun (w : Int → Int → Int) =>
    l.foldl (fun (acc : Int) e => acc + w e.1 e.2) 0
  let th := fun (t : Int) => turn (f * (t + lead)) 200000000000
  let re := (one (fun t x => x * (th t).1) : Rat) - a * one (fun t _ => (th t).1) - b * one (fun t _ => t * (th t).1)
  let im := (one (fun t x => x * (th t).2) : Rat) - a * one (fun t _ => (th t).2) - b * one (fun t _ => t * (th t).2)
  if s.n = 0 then ⟨0, 0⟩ else Cplx.scale ⟨re, -im⟩ (2 / ((s.n : Rat) * fixOne))

/-! ## Magnitude and phase (R270) -/

/-- The square root of a value that is not negative, in whole units; the rounding of one that is not whole is open. `k` says which
value is meant. DESIGN CHOICE, log entry 19. -/
def freeSqrt (k : Nat) (q : Rat) : Nat :=
  let m := Nat.sqrt q.floor.toNat
  if (m * m : Nat) = q then m else if Config.roundUp k q then m + 1 else m

/-- The whole units of 2π / 65,536 in the first quadrant's phase of (x, y), 16 steps of bisection from `lo` with span `w`. -/
def phaseIn : Nat → Nat → Rat → Rat → Nat
  | 0, lo, _, _ => lo
  | n + 1, lo, x, y =>
    let mid := lo + 2 ^ n
    let (c, s) := turn mid 65536
    phaseIn n (if x * s ≤ y * c then mid else lo) x y

/-- The phase of a phasor in units of 2π / 65,536 (R270), none for the phasor 0; the rounding of one that is not whole is open. DESIGN
CHOICE, log entry 21. -/
def phasorPhase (re im : Rat) : Option (BitVec 16) :=
  let (q, x, y) : Nat × Rat × Rat :=
    if 0 < re ∧ 0 ≤ im then (0, re, im) else if re ≤ 0 ∧ 0 < im then (1, im, -re)
    else if re < 0 ∧ im ≤ 0 then (2, -re, -im) else (3, -im, re)
  if re = 0 ∧ im = 0 then none
  else
    let k := phaseIn 14 0 x y
    let up := !(decide (y = 0) || decide (x = y)) && Config.roundUp 5 (y / x)
    some (BitVec.ofNat 16 (16384 * q + k + (if up then 1 else 0)))

/-! ## The fundamental (R268) -/

/-- A list of samples (t, x) with the mean of each 20 ms interval from `t0` on removed: t and x as rational values. -/
def meanFree (t0 : Nat) (l : List (Nat × Int)) : List (Nat × Rat) :=
  let slot := fun (t : Nat) => (t - t0) / (20 * msTicks)
  l.map (fun e =>
    let same := l.filter (fun g => decide (slot g.1 = slot e.1))
    (e.1, (e.2 : Rat) - ((same.map (·.2)).sum : Rat) / same.length))

/-- The positive-going zero crossings of samples in time order, with a hysteresis from −`lo` to `hi`: the instants in ticks, oldest
first. `armed` says that the signal has been at or below −lo, `last` is the sample before, `zero` the last crossing of 0 seen. DESIGN
CHOICE, log entry 131. -/
def crossings (lo hi : Rat) : Bool → Option (Nat × Rat) → Option Rat → List (Nat × Rat) → List Rat
  | _, _, _, [] => []
  | armed, last, zero, (t, x) :: rest =>
    let zero := match last with
      | some (t', x') =>
        if x' < 0 ∧ 0 ≤ x then some ((t' : Rat) + ((t : Rat) - t') * (-x') / (x - x')) else if x < 0 then none else zero
      | none => zero
    let armed := armed || decide (x ≤ -lo)
    match armed && decide (hi ≤ x), zero with
    | true, some z => z :: crossings lo hi false (some (t, x)) zero rest
    | _, _ => crossings lo hi armed (some (t, x)) zero rest

/-- F1 in mHz from samples in time order (R268), none before the seventeenth crossing; `lay` thousandths of the
hysteresis lie below zero. DESIGN CHOICE, log entry 131. -/
def fundamental (t0 lay : Nat) (l : List (Nat × Int)) : Option Nat :=
  let y := meanFree t0 l
  let top := y.foldl (fun (m : Rat) e => if m < e.2 then e.2 else m) 0
  let low := y.foldl (fun (m : Rat) e => if e.2 < m then e.2 else m) 0
  let h := (top - low) / 100000
  let k := min lay 1000
  match crossings (h * k) (h * (1000 - k : Nat)) false none none y with
  | z :: t =>
    match t[15]? with
    | some z' => if z < z' then some ((16 * 200000000 * 1000 / (z' - z) + 1 / 2).floor.toNat) else none
    | none => none
  | [] => none

end Sys2Proof.Machine
end

