-- ==== Sys2Proof/Machine/Rotation.lean ====
section
/-! DEFINITION. Machine/Rotation.lean: spare rotation and background calibration, the calibration run, and the commands of samples
and grants (R91 to R94, R100, R110 to R125, R211). -/

namespace Sys2Proof.Machine

/-! ## The crossbar and the spares -/

/-- Ticks that a spare stays at SOURCE 0 between two sources: 1 µs or more (R92). -/
def parkTicks : Nat := usTicks + Config.xbarPark

/-- A switch on its way to a source from clock `clk` on, break before make (R92): a source it has it keeps. -/
def Xbar.go (x : Xbar) (clk source : Nat) : Xbar :=
  if source = x.source then x
  else
    let p := if x.source = 0 then x.parkAt else clk
    { x with source := source, parkAt := p, leftAt := if source = 0 then x.leftAt else max clk (p + parkTicks) }

/-- The crossbar switch of a spare changed. -/
def State.modXbar (s : State) (sp : Nat) (f : Xbar → Xbar) : State :=
  { s with cfe := { s.cfe with xbar := vmod s.cfe.xbar sp f } }

/-- The crossbar takes a spare to a source and a state (R91, R92). -/
def State.setXbar (s : State) (sp : Nat) (st : XbarSt) (side : Bool) (source : Nat) : State :=
  s.modXbar sp (fun x => { x.go s.clk source with st := st, side := side, sweep := 0 })

/-- A spare goes through the sources 25, 26 and 27, `d` ticks at each (Table 4.6). -/
def State.sweepXbar (s : State) (sp d : Nat) : State :=
  s.modXbar sp (fun x =>
    { ({ x with source := if x.source = 25 then 26 else x.source }).go s.clk 25 with st := .parked, side := false, sweep := d })

/-- Ticks of a calibration point of a visit: at most 4 ms (Table 4.6). -/
def pointTicks : Nat := max 1 (min (4 * msTicks) Config.visitPoint)

/-- What CFE_XBARn shows (R91, R92): SOURCE 0 between two sources, a precharge of at most 5 µs before a cell, the points in turn.
DEDUCED, log entry 136. -/
def State.xbarNow (s : State) (sp : Nat) : Xbar :=
  let x := vget s.cfe.xbar default sp
  let parked := { x with st := .parked, side := false, source := 0 }
  if x.source = 0 then x
  else if s.clk < x.leftAt then parked
  else if x.source ≤ 24 then
    if s.clk < x.leftAt + min (5 * usTicks) Config.xbarPre then { x with st := .precharge, side := false } else x
  else if x.sweep = 0 then x
  else
    let i := min 2 ((s.clk - x.leftAt) / x.sweep)
    if 0 < i ∧ s.clk < x.leftAt + i * x.sweep + parkTicks then parked else { x with source := 25 + i }

/-- A spare takes the side of cell modulator `m` (R115). -/
def State.standSpare (s : State) (sp m : Nat) : State := s.setXbar sp .standing (decide (m % 2 = 1)) (m / 2 + 1)

/-- The switch of a spare that the repair map assigns: at the cell of its modulator, parked while that cell is unused (R93, R94).
DEDUCED, log entry 136. -/
def State.seatRepair (s : State) (sp : Nat) : State :=
  let s := s.modXbar sp (fun x => { x with repair := decide ((s.spare sp).used.any (· < 48)) })
  match (s.spare sp).used with
  | some m => if m < 48 ∧ s.used (m / 2 + 1) then s.standSpare sp m else s.setXbar sp .parked false 0
  | none => s

/-- A spare parks (R91); one that the repair map assigns goes back to its cell (R94). -/
def State.parkSpare (s : State) (sp : Nat) : State :=
  let s := (s.setSpare sp (fun p => { p with visit := none, stand := none, due := none })).setXbar sp .parked false 0
  if (s.spare sp).used.isSome then s.seatRepair sp else s

/-- A spare joins the cell of modulator `m` in parallel and waits for the boundary at which it takes its side (R92, R115). -/
def State.askSide (s : State) (sp m : Nat) : State :=
  (s.setSpare sp (fun p => { p with due := some (.take m) })).setXbar sp .parallel false (m / 2 + 1)

/-- The spares that stand in for modulator `m` without a repair give its side back at the next boundary (R115). -/
def State.giveBack (s : State) (m : Nat) : State :=
  (List.range 4).foldl (fun (s : State) i =>
    let p := s.spare i
    if p.stand = some m then s.setSpare i (fun p => { p with due := some .leave })
    else if p.used.isNone ∧ p.due = some (.take m) then s.parkSpare i
    else s) s

/-- The modulator that a visit to the side of modulator `m` deals with: `m`, or the spare that the repair map has put in its place
(Table 16.5). -/
def State.visited (s : State) (m : Nat) : Nat := match s.assigned m with | some i => 48 + i | none => m

/-- A spare that is visited in the place of modulator `m` leaves its cell for its calibration points (Tables 4.6, 16.5). -/
def State.detach (s : State) (m : Nat) : State := match s.assigned m with | some i => s.sweepXbar i pointTicks | none => s

/-- It joins its cell again in parallel. -/
def State.rejoinCell (s : State) (m : Nat) : State :=
  match s.assigned m with | some i => s.setXbar i .parallel false (m / 2 + 1) | none => s

/-- It has its side again. -/
def State.reseat (s : State) (m : Nat) : State := match s.assigned m with | some i => s.seatRepair i | none => s

/-- The step of a spare's visit changed. -/
def State.setVisit (s : State) (sp : Nat) (v : Visit) : State := s.setSpare sp (fun p => { p with visit := some v })

/-- A visit that has not come to its handover (R118). DEDUCED, log entry 52. -/
def Visit.early (v : Visit) : Bool :=
  match v.step with
  | .sliceSpare => true | .calSpare => true | .match1 => true | .handDue => true | _ => false

/-- A pause of rotation takes effect (R117, R118): early visits are abandoned; whether the cause of SPARE_EXHAUSTED arises. -/
def State.pauseStep (s : State) : Bool × State :=
  let s := s.rotClock
  let s := (List.range 4).foldl (fun (s : State) i =>
    match (s.spare i).visit with
    | some v =>
      if s.pauseCause = 0 then
        if v.step = .rejoin then (s.setVisit i { v with step := .match2, tries := 0, since := s.clk }).rejoinCell v.m else s
      else if v.early then s.parkSpare i
      else s
    | none => s) s
  let none_ := decide (s.freeSpares = [])
  let new := none_ && !s.mod.exhSeen
  (new, { s with mod := { s.mod with exhSeen := none_ } })

/-- A pause of rotation takes effect (R117, R118), with SPARE_EXHAUSTED when its cause arises. -/
def State.pauseCheck (s : State) : State :=
  let (new, s) := s.pauseStep
  if new then s.present1 147 else s

/-- 2 mV in 1/64 LSB of the channel of modulator `m` (Table 4.2): the LSB of STACK is 100 µV. DEDUCED, log entry 53. -/
def offLimit (m : Nat) : Int := if m = 63 then 1280 else 128000

/-- Offset within ±2 mV and gain within ±0.5 % of nominal (R114). -/
def coefOk (m : Nat) (off : Int) (gain : Nat) : Bool :=
  decide (-offLimit m ≤ off) && decide (off ≤ offLimit m) &&
    decide (4194304 * 995 ≤ gain * 1000) && decide (gain * 1000 ≤ 4194304 * 1005)

/-- A failure of modulator `m` in a visit of spare `sp`: LAST_FAIL, BIST_FAIL, and a first FAIL of its unit (R113, R114, R402). -/
def State.rotFail (s : State) (m sp : Nat) : State := (({ s with mod := { s.mod with lastFail := m } }).firstFail m sp).present1 145

/-- The modes in which background slices run (R393). -/
def State.sliceMode (s : State) : Bool :=
  match s.pwr.mode with
  | .measure => true | .balance => true | .calibrate => true | .service => true | .safe => true | _ => false

/-- Background slices run (R393, R398). -/
def State.bgOn (s : State) : Bool := s.bit 0x1D01 31 && s.sliceMode && s.stw && s.bst.camp.isNone

/-- Rotation visits carry slices (R393). -/
def State.rotSlices (s : State) : Bool := s.bgOn && s.bit 0x1D01 29

/-- The live coefficients of a modulator. -/
def State.setLive (s : State) (m : Nat) (off : Int) (gain : Nat) : State :=
  s.setModul m (fun q => { q with live := some ⟨off, gain, s.clk⟩ })

/-- The cell of modulator `m` is at an averaging-window boundary: no word of it is half formed (R115). -/
def State.atBoundary (s : State) (m : Nat) : Bool :=
  s.convs.all (fun c => !c.granted ||
    c.chans.all (fun x => decide (x.ch ≠ modChan m) || x.word.isSome || (decide (x.n = 0) && x.half.isNone)))

/-- A spare that serves nothing and waits for nothing: parked, not assigned, in no visit (R121, R395). -/
def Spare.idle (p : Spare) : Bool := p.used.isNone && p.stand.isNone && p.visit.isNone && p.due.isNone

/-- What a spare waits to do at a window boundary takes effect where there is one now (R115). -/
def State.handDue (s : State) (i : Nat) : State :=
  let p := s.spare i
  match p.due with
  | some (.take m) =>
    if s.atBoundary m then
      ((s.setSpare i (fun p => { p with due := none, stand := if p.used = some m then none else some m })).standSpare i m).skipFive m
    else s
  | some .leave =>
    let m := p.stand.getD 0
    if s.atBoundary m then
      let s := (s.parkSpare i).skipFive m
      match p.used with
      | some n => if n < 48 ∧ s.used (n / 2 + 1) then (s.askSide i n).modXbar i (fun x => { x with repair := true }) else s
      | none => s
    else s
  | none => s

/-- A spare gives up what it does: the side that it serves at the next window boundary (R115). -/
def State.releaseSpare (s : State) (i : Nat) : State :=
  match (s.spare i).serves with
  | some m =>
    if m < 48 then (s.setSpare i (fun p => { p with visit := none, stand := some m, due := some .leave })).handDue i else s.parkSpare i
  | none => s.parkSpare i

/-- Rotation skips modulator `m` now (R111), or a spare already deals with it. One that is permanently replaced is skipped for the spare in its
place, which is visited instead (Table 16.5). DEDUCED, log entry 112. -/
def State.rotSkip (s : State) (m : Nat) : Bool :=
  (List.range 4).any (fun i => decide ((s.spare i).stand = some m) ||
    decide ((s.spare i).due = some (.take m)) ||
    (match (s.spare i).visit with | some v => decide (v.m = m) | none => false)) ||
    (s.standIn (if m % 2 = 0 then m + 1 else m - 1)).isSome || s.owHeld (m / 2 + 1)

/-- The next modulator of the rotation in ascending order, and whether a round ends before it (R111). DEDUCED, log entry 52. -/
def State.nextVisit (s : State) : Option (Nat × Bool) :=
  let n := 2 * s.ncells
  let from_ := if s.mod.next < n then s.mod.next else 0
  let ahead := (List.range n).filter (fun m => decide (from_ ≤ m) && !s.rotSkip m)
  let behind := (List.range n).filter (fun m => decide (m < from_) && !s.rotSkip m)
  match ahead, behind with
  | m :: _, _ => some (m, decide (n ≤ s.mod.next))
  | [], m :: _ => some (m, true)
  | [], [] => none

/-- INTERVAL in ticks (Table 4.17). -/
def State.rotInterval (s : State) : Nat := max 10 (s.fld 0x601 0 8) * 10 * msTicks

/-- The earliest clock at which a spare may start a visit (R111). -/
def State.visitDue (s : State) (sp : Nat) : Nat :=
  (List.range 4).foldl (fun d i =>
    match (s.spare i).startAt with
    | some t => max d (t + (if i = sp then s.rotInterval else s.rotInterval / max 1 s.freeSpares.length))
    | none => d) 0

/-- ROTATION_VISIT_START (R111, R112, R393): a free spare begins its visit, with its SMOD slice first where visits carry slices. -/
def execRotationVisitStart (dt sp : Nat) (s : State) : Out :=
  let s := (s.elapse dt).pauseCheck
  let p := s.spare sp
  if sp < 4 ∧ s.pauseCause = 0 ∧ s.coreOn ∧ p.idle ∧ ¬p.bad then
    match s.nextVisit with
    | some (m, wrap) =>
      let s := s.until_ (s.visitDue sp)
      let s := { s with mod := { s.mod with next := m + 1, rounds := if wrap then (s.mod.rounds + 1) % 65536 else s.mod.rounds } }
      let step := if s.rotSlices then VisitStep.sliceSpare else .calSpare
      let s := s.setSpare sp (fun p => { p with visit := some ⟨m, step, 0, s.clk⟩, startAt := some s.clk })
      let s := if s.rotSlices then s.startSlice (48 + sp) (.visit sp) else s
      .next (s.sweepXbar sp (if step = .sliceSpare then max 1 (pointTicks / 6) else pointTicks))
    | none => .next s
  else .next s

/-- SPARE_CAL_DONE (R112 step 4, R114): the spare joins the cell, or parks and is not used again. LAST_FAIL, which R114 gives for a
modulator that fails at step 7, does not change. DEDUCED, log entry 53. -/
def execSpareCalDone (dt sp : Nat) (off : Int) (gain : Nat) (s : State) : Out :=
  let s := (s.elapse dt).pauseCheck
  match (s.spare sp).visit with
  | some v =>
    if v.step = .calSpare then
      if coefOk (48 + sp) off gain then
        let s := (s.setLive (48 + sp) off gain).setSpare sp (fun p => { p with failed := false })
        if s.used (v.m / 2 + 1) then
          .next ((s.setVisit sp { v with step := .match1, tries := 0, since := s.clk }).setXbar sp .parallel false (v.m / 2 + 1))
        else .next (s.parkSpare sp)
      else .next (((s.setSpare sp (fun p => { p with bad := true, failed := true })).parkSpare sp).firstFail (48 + sp) 4)
    else .next s
  | none => .next s

/-- MATCH_TOL in 1/64 µV (R113). -/
def State.matchTol (s : State) : Int := atLeast1 (s.fld 0x601 8 6) * 64

/-- The length of a match window in ticks: 8 ms, above OSR 8,192 16 output periods after the discard (R112). -/
def State.matchTicks (s : State) (m : Nat) : Nat :=
  match (s.modul m).decim with
  | some d => if 13 < d.osrK then 21 * s.modP * 2 ^ d.osrK else 8 * msTicks
  | none => 8 * msTicks

/-- MATCH_WINDOW_END (R113): the difference of the mean corrected outputs in 1/64 µV is judged. DEDUCED, log entry 53. -/
def execMatchWindowEnd (dt sp : Nat) (diff : Int) (s : State) : Out :=
  let s := (s.elapse dt).pauseCheck
  match (s.spare sp).visit with
  | some v =>
    if v.step = .match1 ∨ v.step = .match2 then
      let s := s.until_ (v.since + s.matchTicks v.m)
      if diff ≤ s.matchTol ∧ -s.matchTol ≤ diff then
        .next (s.setVisit sp { v with step := if v.step = .match1 then .handDue else .backDue })
      else if v.tries < 2 then .next (s.setVisit sp { v with tries := v.tries + 1, since := s.clk })
      else if v.step = .match1 then .next ((s.parkSpare sp).rotFail (s.visited v.m) sp)
      else .next ((s.setSpare sp (fun p => { p with visit := none, stand := some v.m })).rotFail (s.visited v.m) sp)
    else .next s
  | none => .next s

/-- HANDOVER (R112 step 6, R86, R115): the side is taken from the spare. -/
def execHandover (dt sp : Nat) (s : State) : Out :=
  let s := (s.elapse dt).pauseCheck
  match (s.spare sp).visit with
  | some v =>
    if v.step = .handDue ∧ s.atBoundary v.m ∧ s.used (v.m / 2 + 1) ∧
        ¬s.res.owSpans.any (fun e => decide (e.1 = v.m / 2 + 1) && s.inSpan e.2) then
      .next (((s.setVisit sp { v with step := .calMod, since := s.clk }).standSpare sp v.m).detach v.m)
    else .next s
  | none => .next s

/-- MODULATOR_CAL_DONE (R112 step 7, R114, R118): not while rotation is paused. -/
def execModulatorCalDone (dt sp : Nat) (off : Int) (gain : Nat) (s : State) : Out :=
  let s := (s.elapse dt).pauseCheck
  match (s.spare sp).visit with
  | some v =>
    if v.step = .calMod ∧ s.pauseCause = 0 then
      let u := s.visited v.m
      if coefOk u off gain then
        let s := s.setLive u off gain
        if s.rotSlices then
          .next ((s.setVisit sp { v with step := .sliceMod, tries := 0, since := s.clk }).startSlice u (.visit sp))
        else .next ((s.setVisit sp { v with step := .match2, tries := 0, since := s.clk }).rejoinCell v.m)
      else .next ((s.setSpare sp (fun p => { p with visit := none, stand := some v.m })).rotFail u sp)
    else .next s
  | none => .next s

/-- HAND_BACK (R112 steps 9 and 10, R115): the modulator takes its side back and the spare parks. -/
def execHandBack (dt sp : Nat) (s : State) : Out :=
  let s := (s.elapse dt).pauseCheck
  match (s.spare sp).visit with
  | some v => if v.step = .backDue ∧ s.atBoundary v.m then .next ((s.parkSpare sp).reseat v.m) else .next s
  | none => .next s

/-- The decimator of a modulator does not run: its input has gone to calibration or test (R101, R104). -/
def State.stopDecim (s : State) (m : Nat) : State := s.setModul m (fun q => { q with decim := none })

/-- The modulator of 52 to 63 that a running calibration has under way. -/
def State.calOther (s : State) : Option Nat :=
  match s.mod.run with
  | some r =>
    if s.opIs 3 .running ∧ r.trim = none ∧ r.taken then
      (match r.todo with | m :: _ => if 52 ≤ m then some m else none | [] => none)
    else none
  | none => none

/-- A slice of unit `u` begins with the unit on its test inputs (Table 16.1): the decimator of a modulator whose side nothing serves does
not run, a spare takes sources 25 to 27, a balance switch closes for 50 µs (R45). -/
def State.startTest (s : State) (u : Nat) (of_ : SliceOf) : State :=
  let s := s.startSlice u of_
  match kindOf u with
  | 1 => if (s.standIn u).isNone then s.stopDecim u else s
  | 2 =>
    let s := s.sweepXbar (u - 48) (max 1 (pointTicks / 6))
    (match s.roleOf u with | some m => s.stopDecim m | none => s)
  | 3 => s.stopDecim u
  | 7 => s.setBal (u - 367) (fun c => { c with on := true, since := s.clk, edge := s.edgeNow, pulse := some (s.clk + 50 * usTicks) })
  | _ => s

/-- A spare goes back to what it was connected to before its calibration or test inputs: the side that it serves, the cell that it has joined,
else it parks (R91, R94). -/
def State.seatAgain (s : State) (i : Nat) : State :=
  let p := s.spare i
  match p.due, s.roleOf (48 + i) with
  | some (.take m), _ => s.setXbar i .parallel false (m / 2 + 1)
  | _, some m => if p.guest = some m then s.standSpare i m else s.seatRepair i
  | _, none => if p.visit.isSome || p.used.any (· < 48) then s else s.parkSpare i

/-- The unit of a slice that has ended is back in its own place (R388, R395). -/
def State.endTest (s : State) (u : Nat) : State :=
  match kindOf u with
  | 2 =>
    s.seatAgain (u - 48)
  | 7 => s.setBal (u - 367) (fun c =>
      match c.pulse with | some t => c.opened (min t s.clk) s.edgeNow | none => c)
  | _ => s

/-- The conversions that a slice of unit `u` kept from its modulator start under R103 now (R396). -/
def State.serveLate (s : State) (u : Nat) : State :=
  let m := if u < 48 ∨ 52 ≤ u then u else (s.roleOf u).getD 255
  let s := s.stopDecim m
  (s.convs.filter (fun c => c.granted && c.needs.contains m)).foldl
    (fun (s : State) (c : Conv) => s.startDecims c (s.gridFrom c) (s.startOf c)) s

/-- XMOD_IN_PLACE_CAL (R119): a modulator of AUX, DIAG or STACK that no conversion has held for 30 ms and that has not been calibrated
in place for 10 s. -/
def execXmodInPlaceCal (dt m : Nat) (off : Int) (gain : Nat) (s : State) : Out :=
  let s := s.elapse dt
  if 52 ≤ m ∧ m < 64 ∧ s.stw ∧ s.coreOn ∧ ¬s.modHeld m ∧ s.calOther ≠ some m then
    let s := s.until_ ((s.modul m).busyAt + 30 * msTicks)
    let s := match (s.modul m).calAt with | some t => s.until_ (t + 10000 * msTicks) | none => s
    let s := (s.stopDecim m).setModul m (fun q => { q with calAt := some s.clk })
    .next (if coefOk m off gain then s.setLive m off gain else s)
  else .next s

/-- The calibration copy in use replaced. -/
def State.setCalCopy (s : State) (c : CalCopy) : State :=
  if s.mod.useB then { s with mod := { s.mod with copyB := c } } else { s with mod := { s.mod with copyA := c } }

/-- COEFF_HOURLY_COPY (R110): after each hour of rotation, live coefficients go into the stored set of the band in effect. -/
def execCoeffHourlyCopy (dt : Nat) (s : State) : Out :=
  let s := (s.elapse dt).rotClock
  if s.stw ∧ s.pauseCause = 0 ∧ ¬s.mramHeld then
    let s := (s.until_ (s.mod.rotFrom.getD s.clk + (3600000 * msTicks - s.mod.rotRun)))
    let s := s.pageDone (calArea s.mod.useB) 0x4000
    let c := s.calCopy
    let coefs := (List.range 64).foldl (fun t m =>
      match (s.modul m).live with
      | some l => Sparse.set (0, 0x400000) t (s.thm.band * 64 + m) (l.off, l.gain)
      | none => t) c.coefs
    .next ({ s with mod := { s.mod with hourAt := s.clk, rotRun := 0, rotFrom := some s.clk } }.setCalCopy { c with coefs := coefs })
  else .next s

/-! ## Calibration run -/

/-- The modulators that SCOPE names (R121). DEDUCED, log entry 53. -/
def State.calScope (s : State) : List Nat :=
  (List.range 64).filter (fun m =>
    let free := !((List.range 4).any (fun i => decide ((s.spare i).used = some m)))
    (decide (m < 2 * s.ncells) && s.bit 0x609 0 && free) ||
      (decide (48 ≤ m) && decide (m < 52) && s.bit 0x609 1 && (s.spare (m - 48)).used.isNone) ||
      (decide (52 ≤ m) && s.bit 0x609 2 && free))

/-- The run in progress changed. -/
def State.setCal (s : State) (r : CalRun) : State := { s with mod := { s.mod with run := some r } }

/-- A run takes the modulator at its front, once no spare waits for a boundary: a spare joins a cell modulator's cell, without one the
modulator is skipped; a spare goes to source 25, at a window boundary of the side that it serves, if any, and one that a repair has assigned
in the meantime is passed over; the others leave their channel once no conversion holds it (R121 step 1). A spare that has not been
calibrated since reset counts as one that passed. DEDUCED, log entry 53; DESIGN CHOICE, log entry 145. -/
def State.calTake : Nat → State → State
  | 0, s => s
  | n + 1, s =>
    match s.mod.run with
    | some r =>
      match r.todo with
      | [] => s
      | m :: t =>
        if 48 ≤ m ∧ m < 52 ∧ (s.spare (m - 48)).used.isSome then
          State.calTake n (s.setCal { r with todo := t, taken := false, point := 0, means := [], cuts := 0 })
        else if r.taken || r.trim.isSome || !(s.opIs 3 .running) || (List.range 4).any (fun i => (s.spare i).due.isSome) then s
        else
          let took := fun (s : State) => s.setCal { r with taken := true }
          if 52 ≤ m then took s
          else if 48 ≤ m then
            match s.roleOf m with
            | some c => if s.atBoundary c then took ((s.stopDecim c).setXbar (m - 48) .parked false 25) else s
            | none => took (s.setXbar (m - 48) .parked false 25)
          else
            match (List.range 4).find? (fun i => (s.spare i).idle && !(s.spare i).bad && !(s.spare i).failed) with
            | some i => took ((s.askSide i m).handDue i)
            | none =>
              State.calTake n
                (({ s with mod := { s.mod with skipped := min 64 (s.mod.skipped + 1) } }).setCal { r with todo := t, failed := true })
    | none => s

/-- Window boundaries are used (R115): spares take and give back what they wait for, and a calibration run goes on. -/
def State.handsDue (s : State) : State := ((List.range 4).foldl State.handDue s).calTake 64

/-- The modulator under calibration returns to service at the next boundary, and its stand-in parks (R121 step 4). -/
def State.calReturn (s : State) (m : Nat) : State :=
  if 52 ≤ m then s
  else if 48 ≤ m then (if (s.roleOf m).isSome then (s.seatAgain (m - 48)).serveLate m else s.seatAgain (m - 48))
  else s.giveBack m

/-- A run goes on to its next modulator. DEDUCED, log entry 53. -/
def State.calNext (s : State) (r : CalRun) : State :=
  let s := match r.todo with | m :: _ => s.calReturn m | [] => s
  (s.setCal { r with todo := r.todo.drop 1, taken := false, point := 0, means := [], cuts := 0 }).handsDue

/-- A calibration run is requested (R120): START_RES and, on acceptance, the run in the operation table. -/
def State.calStart (s : State) (rq : Requester) : State :=
  let res := fun (n : Nat) => { s with mod := { s.mod with startRes := n } }
  let ext := s.bit 0x609 8
  let cell := s.fld 0x609 16 5
  if s.pwr.mode ≠ .calibrate then res 2
  else if (s.oper 3).isSome then res 3
  else if s.calScope = [] ∨ (ext ∧ (¬s.used cell ∨ s.busbar cell)) then res 4
  else
    let (tag, s) := s.startOp 3 rq
    let r : CalRun :=
      { tag := tag, trim := if ext then some cell else none, todo := s.calScope, taken := false, point := 0, means := [], cuts := 0
        scale := s.calCopy.scale, fresh := [], failed := false, wait := none }
    let s := { s with mod := { s.mod with startRes := 1, calTag := tag, skipped := 0, run := some r } }
    s.pauseCheck.handsDue

/-- The run ends (R121, R123). -/
def State.calEnd (s : State) (st : OpSt) (cause code : Nat) : State :=
  let s := match s.mod.run with
    | some r => (match r.todo with | m :: _ => s.calReturn m | [] => s)
    | none => s
  ((({ s with mod := { s.mod with run := none } }).endOp 3 st cause code).rotClock).handsDue

/-- The number of cells has changed (R76, R93, R96): the modulators of unused cells are powered down, a spare leaves an unused cell and
one that the repair map assigns goes to its cell again, a calibration run passes over unused cells. DEDUCED, log entry 136. -/
def State.cellsOff (s : State) : State :=
  let gone := fun m => decide (m < 48) && !s.used (m / 2 + 1)
  let s := (List.range 48).foldl (fun (s : State) m =>
    if gone m then
      let s := s.stopDecim m
      if (s.unitOf m).first then s.setUnit m (fun r => { r with first := false }) else s
    else s) s
  let s := (List.range 4).foldl (fun (s : State) i =>
    let p := s.spare i
    let away := p.stand.any gone || p.visit.any (fun v => gone v.m) ||
      (match p.due with | some (.take m) => gone m | _ => false)
    match p.used with
    | some m => if p.due.isSome && !gone m then s else (s.setSpare i (fun p => { p with due := none })).seatRepair i
    | none => if away then s.parkSpare i else s) s
  match s.mod.run with
  | some r =>
    if r.todo.any gone then
      let todo := r.todo.filter (fun m => !gone m)
      if todo.head? = r.todo.head? then (s.setCal { r with todo := todo, failed := true }).notePower
      else (s.setCal { r with todo := todo, taken := false, point := 0, means := [], cuts := 0, failed := true }).handsDue.notePower
    else s.notePower
  | none => s.notePower

/-- CAL_TRIM_DONE (R122): the mean in 1/64 µV against MOD_CALREF. DESIGN CHOICE, log entry 18; DEDUCED, log entry 53. -/
def execCalTrimDone (dt : Nat) (mean : Int) (s : State) : Out :=
  let s := s.elapse dt
  match s.mod.run with
  | some r =>
    if r.trim.isSome && s.opIs 3 .running then
      let ref := sword (s.eff 0x60A)
      let q : Rat := (ref : Rat) * 64 / mean
      if mean ≠ 0 ∧ 995 / 1000 ≤ q ∧ q ≤ 1005 / 1000 then
        .next (s.setCal { r with trim := none, scale := (freeRound 1 (q * 2 ^ 30)).toNat }).handsDue
      else .next (s.calEnd .failed 4 2)
    else .next s
  | none => .next s

/-- The modulator under calibration has left its side or channel: its stand-in serves its side, no conversion holds its channel. -/
def State.calReady (s : State) (m : Nat) : Bool :=
  if m < 48 then (s.standIn m).isSome else decide (m < 52) || !s.modHeld m

/-- Whether the last calibration of modulator `m` passed is noted for a spare (R121). -/
def State.noteCal (s : State) (m : Nat) (passed : Bool) : State :=
  if 48 ≤ m ∧ m < 52 then s.setSpare (m - 48) (fun p => { p with failed := !passed }) else s

/-- CAL_POINT_DONE (R121): the mean of a point; after the third the coefficients are judged. A modulator of 52 to 63 that a
conversion holds waits for its end. DESIGN CHOICE, log entry 18; DEDUCED, log entry 53. -/
def execCalPointDone (dt : Nat) (mean : Int) (s : State) : Out :=
  let s := (s.elapse dt).handsDue
  match s.mod.run with
  | some r =>
    match r.todo with
    | m :: _ =>
      if s.opIs 3 .running && r.trim.isNone && r.taken && s.calReady m then
        let s := if 52 ≤ m then s.stopDecim m else s
        let means := r.means ++ [mean]
        match means with
        | [z, p, n] =>
          let (off, gain) := Config.calCoef r.scale z p n
          if coefOk m off gain then .next ((s.noteCal m true).calNext { r with fresh := r.fresh ++ [(m, off, gain)] })
          else
            let s := { s.noteCal m false with mod := { (s.noteCal m false).mod with calFail := m } }
            .next ((s.calNext { r with failed := true }).present1 145)
        | _ =>
          let s := if 48 ≤ m ∧ m < 52 then s.setXbar (m - 48) .parked false (26 + r.point) else s
          .next (s.setCal { r with means := means, point := r.point + 1, cuts := 0 })
      else .next s
    | [] => .next s
  | none => .next s

/-- The CALIB entry of the ledger (Table 17.3). -/
def State.calibEntry (s : State) (b : Bool) (gen : Nat) : LedgEnt :=
  { kind := 7, source := 0xFFFF, time := s.tb, data := leBytes 1 (b2n b) ++ leBytes 3 0 ++ leBytes 4 gen ++ leBytes 4 0 }

/-- CAL_RUN_COMMIT (R123): the copy not in use is written and verified. -/
def execCalRunCommit (dt : Nat) (ok : Bool) (s : State) : Out :=
  let s := (s.elapse dt).handsDue
  match s.mod.run with
  | some r =>
    if r.todo = [] ∧ r.trim = none ∧ s.opIs 3 .running ∧ ¬s.mramHeld then
      let (good, s) := s.mramRead (calArea s.mod.useB) 0x4000
      if !good then .next (s.calEnd .failed 4 4)
      else
        let s := s.pageDone (calArea (!s.mod.useB)) 0x4000
        let c := s.calCopy
        let coefs := r.fresh.foldl (fun t e => Sparse.set (0, 0x400000) t (s.thm.band * 64 + e.1) (e.2.1, e.2.2)) c.coefs
        let new : CalCopy := ⟨ok, c.gen + 1, r.scale, coefs⟩
        let toB := !s.mod.useB
        let s := { s with mod := if toB then { s.mod with copyB := new } else { s.mod with copyA := new } }
        if ok then
          let s := { s with mod := { s.mod with useB := toB } }
          .next ((s.ledger (s.calibEntry toB new.gen)).calEnd .done 1 (b2n r.failed))
        else .next (s.calEnd .failed 4 3)
    else .next s
  | none => .next s

/-- A run is suspended (R124): the point in progress is discarded, the modulator returns to service at the next boundary and every spare
that the run holds parks. DEDUCED, log entry 54. -/
def State.calSuspend (s : State) : State :=
  match s.mod.run with
  | some r =>
    let s := match r.todo with | m :: _ => if r.taken then s.calReturn m else s | [] => s
    (s.setCal { r with taken := false, point := 0, means := [], cuts := 0 }).handsDue
  | none => s

/-! ## Samples and grants -/

/-- DECIMATED_SAMPLE (R100 to R109, R126 to R132): the chain of modulator `m` delivers the raw sample of the modulator's values `xs`. -/
def execDecimatedSample (dt m : Nat) (xs : List Int) (overload : Bool) (s : State) : Out :=
  let s := (s.elapse dt).handsDue
  if s.modsOn then .next (s.deliver m xs overload).handsDue else .next s

/-- A conversion granted on the modulator under calibration cuts its point; the fourth cut skips it (R121). -/
def State.calCut (s : State) : State :=
  match s.mod.run with
  | some r =>
    if r.cuts < 3 then s.setCal { r with cuts := r.cuts + 1 }
    else
      ({ s with mod := { s.mod with skipped := min 64 (s.mod.skipped + 1) } }).calNext { r with failed := true }
  | none => s

/-- A conversion has been granted a cell modulator whose slice runs with no stand-in: a parked spare serves it where there is one
(R395). -/
def State.serveSlices (s : State) : State :=
  s.bst.slices.foldl (fun (s : State) x =>
    if x.unit < 48 ∧ (s.standIn x.unit).isNone ∧ s.modHeld x.unit then
      match (List.range 4).find? (fun i => (s.spare i).idle && !(s.spare i).bad) with
      | some i => (s.setSpare i (fun p => { p with stand := some x.unit })).standSpare i x.unit
      | none => s
    else s) s

/-- ARBITER_GRANT (R211 to R213): the arbiter handles the waiting requests of a cycle. DEDUCED, log entry 55. -/
def execArbiterGrant (dt : Nat) (s : State) : Out :=
  let s := (s.elapse dt).handsDue
  if s.coreOn then
    let s := match s.calOther with
      | some m => if s.modHeld m then s else s.stopDecim m
      | none => s
    let t := s.arbitrate.serveSlices
    match s.calOther with
    | some m => .next (if !(s.modHeld m) && t.modHeld m then t.calCut else t).handsDue
    | none => .next t.handsDue
  else .next s

end Sys2Proof.Machine
end

