-- ==== Sys2Proof/Machine/SluiceEvents.lean ====
section
/-! DEFINITION. Machine/SluiceEvents.lean: the frames and slots of the sluice, quotas, and the balance-path checks (R235 to R248,
R257, R259). -/

namespace Sys2Proof.Machine

/-- The period of a frame of the given length in ticks (R237). -/
def frameTicks (len : Nat) : Nat := len * 2000000

/-- The start of slot `i` from the frame start in ticks (R237). DEDUCED, log entry 75. -/
def slotAt (len i : Nat) : Nat := i * frameTicks len / 256

/-- The mode of SLU_XFET takes effect in cell `n`; a cell whose mode changes is predicted by the formula of its new mode (R234). -/
def State.frameMode (s : State) (n : Nat) : State :=
  s.setBal n (fun c =>
    let x := s.bit 0x1002 (n - 1)
    { c with xfet := x, xnew := decide (x ≠ c.xfet), slots := if x = c.xfet then c.slots else 0 })

/-- The sums of cell `n` begin anew (R241) and a fault may be presented again; the on-interval of the sluice's frame is checked anew
(R247), one of the square wave of a spectrum run goes on (R259). -/
def State.frameSums (s : State) (n : Nat) : State :=
  let same := decide (s.pwr.mode = .spectrum)
  s.setBal n (fun c =>
    { c with faulted := false, checked := same && c.checked, closedIn := 0, sumCD := 0, sumCB := 0, sumT := 0
             slots := 0 })

/-- The powers of cell `n` at full duty, its eligibility and its level are taken (R240, R241). -/
def State.takeCell (s : State) (n : Nat) : State :=
  let pd := s.pdOf n
  let pb := s.pbOf n
  let e := s.eligible n
  let lv := (s.effReq n).asLevel
  s.setBal n (fun c =>
    { c with elig := e, l := if e then min lv s.slu.frameU else 0, pd := pd, pb := pb, ran := !c.xfet && decide (0 < c.slots) })

/-- A frame is computed (R238 to R240): SLU_RES, SLU_GAP, budgets, usable slots, every cell, the duties; outside BALANCE no cell is
eligible. -/
def State.computeFrame (s : State) : State :=
  let s := { s with slu :=
      { s.slu with
        frameRes := some (s.eff 0x1003), frameGap := some (s.eff 0x1004), frameU := 256 - 2 * min 32 (s.fld 0x1004 8 5), frameDie := clampTo 100 2000 (s.fld 0x1001 0 12)
        frameBoard := 10 * s.fld 0x1001 16 16 } }
  let s := (cellNos.foldl State.takeCell s).allocate
  let bal := decide (s.pwr.mode = .balance)
  { s with slu :=
      { s.slu with running := bal, frames := if bal && s.bit 0x1000 31 then (s.slu.frames + 1) % 65536 else s.slu.frames } }

/-- SLUICE_FRAME_START (R237, R240): the timebase reaches a multiple of FRAME × 2,000,000 ticks. -/
def execSluiceFrameStart (dt : Nat) (s : State) : Out :=
  let s := s.elapse dt
  if !s.coreOn then .next s
  else
    let len := atLeast1 (s.fld 0x1000 16 8)
    let s := s.untilMod (frameTicks len) 0
    let s := cellNos.foldl State.frameMode s
    let s := cellNos.foldl State.frameSums s.computeFrame
    .next { s with slu := { s.slu with frameLen := len, gapSent := false, next := 0, slot := 0 } }

/-! ## Slots -/

/-- What was measured in the slot that ends on internal cell `n`. DEDUCED, log entries 6 and 51. -/
def slotMeas (meas : List SlotMeas) (n : Nat) : SlotMeas := (meas.find? (fun m => decide (m.cell = n))).getD ⟨n, 0, 0, 0⟩

/-- Ticks of the slot in progress in which the output of cell `n` has been on by the sluice. -/
def State.onTicks (s : State) (n : Nat) : Nat :=
  (s.bal n).onT + (match (s.bal n).mark with | some m => s.clk - m | none => 0)

/-- A quota is used up: withdrawal, QDONE, QFLAG (R243). DEDUCED, log entry 77. -/
def State.quotaDone (s : State) (n : Nat) : State :=
  let s := (s.setBal n (fun c => { c with req := .none, owner := none })).withdrawDuty n
  let s := ({ s with slu := { s.slu with qdone := maskSet s.slu.qdone (n - 1) true } }).wcSet 0x100A (putb true (n - 1))
  if s.bit 0x1000 7 then s.setFlag (s.fld 0x1000 0 6) else s

/-- The slot that ends is accounted for cell `n`, for the time that it was on in it: its sums and its quota (R241, R243). A quota is
judged at the end of a slot. DEDUCED, log entry 77. -/
def State.account (s : State) (meas : List SlotMeas) (n : Nat) : State :=
  let t := s.onTicks n
  if t = 0 then s
  else
    let m := slotMeas meas n
    let x := (s.bal n).xfet
    let whole := decide ((s.bal n).mark = some s.slu.slotClk)
    let s := s.setBal n (fun c =>
      { c with
        cur := if c.on && !x then m.cur else 0, onT := 0, mark := c.mark.map (fun _ => s.clk)
        slots := if whole && !x then c.slots + 1 else c.slots, sumT := c.sumT + t, sumCD := c.sumCD + m.cur * m.drop * t
        sumCB := c.sumCB + m.cur * (m.vcell - m.drop) * t })
    match s.effReq n with
    | .quota r =>
      let r := max 0 (r - (if x then s.extCur n else (m.cur : Rat)) * t)
      let s := s.setBal n (fun c => { c with req := .quota r })
      if r = 0 then s.quotaDone n else s
    | _ => s

/-- The column powers of the slot that ends, over internal cells that were on in it or that a run excites (R246, R257): current times
voltage, die dissipation. -/
def State.columns (s : State) (meas : List SlotMeas) : State :=
  let exc := s.spc.run.any (·.exc)
  let sum := fun (lo : Nat) (f : SlotMeas → Nat) =>
    ((cellNos.filter (fun n =>
      decide (lo < n) && decide (n ≤ lo + 12) && (exc || (s.bal n).on || decide (0 < s.onTicks n)) && !(s.bal n).xfet)).map
      (fun n => f (slotMeas meas n))).sum / 10000
  State.notePower
    { s with slu :=
        { s.slu with
          col1 := sum 0 (fun m => m.cur * m.vcell), col2 := sum 12 (fun m => m.cur * m.vcell)
          colDie1 := sum 0 (fun m => m.cur * m.drop), colDie2 := sum 12 (fun m => m.cur * m.drop) } }

/-- Slot `i` begins the gap of the frame (R239). -/
def State.gapEdge (s : State) (i : Nat) : State :=
  if i = s.slu.frameU ∧ i < 256 ∧ ¬s.slu.gapSent then
    let s := { s with slu := { s.slu with gapSent := true } }
    if s.sluGap.getLsbD 7 then s.setFlag (Sys2Proof.fld s.sluGap 0 6) else s
  else s

/-- The slot before the boundary of slot `i` is accounted (R243, R246); while a spectrum run excites, the columns have their own slots
(R257). -/
def State.slotAcct (s : State) (i : Nat) (meas : List SlotMeas) : State :=
  cellNos.foldl (fun (s : State) n => s.account meas n) (if 0 < i ∧ ¬s.spc.run.any (·.exc) then s.columns meas else s)

/-- Slot `i` begins: outputs open and close (R242). -/
def State.slotBegin (s : State) (i : Nat) : State :=
  let u := { s with slu := { s.slu with next := i + 1, slot := min i 255, slotClk := s.clk } }
  if u.pwr.mode = .balance ∧ u.slu.running then cellNos.foldl (fun (s : State) n => s.driveCell i n) u else u

/-- The boundary of slot `i` of the frame in progress (R237, R239, R242, R243, R246). -/
def State.slotEdge (s : State) (i : Nat) (meas : List SlotMeas) : State := ((s.slotAcct i meas).slotBegin i).gapEdge i

/-- SLOT_START (R237, R239, R242, R243, R246, R257): the next boundary of a slot; while a spectrum run excites, the column powers of its
slots of 390.625 µs, whichever comes first, and both where they fall in one tick. DEDUCED, log entry 75. -/
def execSlotStart (dt : Nat) (meas : List SlotMeas) (s : State) : Out :=
  let s := s.elapse dt
  if !s.coreOn then .next s
  else
    let i := s.slu.next
    let slot := s.untilMod (frameTicks s.slu.frameLen) (slotAt s.slu.frameLen i % frameTicks s.slu.frameLen)
    match s.spc.run with
    | some r =>
      let cols := s.untilMod 78125 (r.tx % 78125)
      if r.exc ∧ (256 < i ∨ cols.clk ≤ slot.clk) then
        .next (if i ≤ 256 ∧ cols.clk = slot.clk then (cols.columns meas).slotEdge i meas else cols.columns meas)
      else if 256 < i then .next s
      else .next (slot.slotEdge i meas)
    | none => if 256 < i then .next s else .next (slot.slotEdge i meas)

/-! ## Balance-path checks -/

/-- The cells of a spectrum run's set (R250, R251). -/
def State.runCells (s : State) (r : SpcRun) : List Nat :=
  cellNos.filter (fun n => s.used n && (vget r.cfg 0 3).getLsbD (n - 1))

/-- Cell `n` is held off after a fault found by check `k` of Table 8.3, which is recorded (R247, R248, R259). -/
def State.balHold (s : State) (n k : Nat) : State :=
  let u := (s.setBal n (fun c => { c with hold := true, faulted := true, lowN := 0, highN := 0 })).withdrawDuty n
  let u := ({ u with slu := { u.slu with flastCell := n, flastCheck := k } }).wcSet 0x1008 (putb true (n - 1))
  match u.spc.run with
  | some r =>
    if r.kind = 0 ∧ r.phase ≠ SpcPhase.notStarted ∧ (u.runCells r).contains n then
      u.setRun { r with faults := maskSet r.faults (n - 1) true }
    else u
  | none => u

/-- A spectrum run of kind 0 ends once every cell of its set is held off (R259); a suspended one when it runs again, since Table 7.10 has
no route from SUSPENDED to FAILED. -/
def State.allHeld (s : State) : State :=
  match s.spc.run with
  | some r =>
    if r.kind = 0 ∧ r.phase ≠ SpcPhase.notStarted ∧ s.opIs 1 .running ∧ (s.runCells r).all (fun c => (s.bal c).hold) then
      s.endSpec .failed 4 4
    else s
  | none => s

/-- A balance-path fault of cell `n` by check `k` of Table 8.3 (R247, R248, R259). DEDUCED, log entry 76. -/
def State.balFault (s : State) (n k : Nat) : State :=
  if s.stopped ∨ (s.bal n).faulted then s else ((s.balHold n k).present1 (72 + n)).allHeld

/-- The cell's path is an internal one of a used cell (R76). -/
def State.internalCell (s : State) (n : Nat) : Bool := s.used n && !(s.bal n).xfet

/-- The path of cell `n` is under no SWITCH slice, which presents no BAL_FAULT (R389). -/
def State.pathFree (s : State) (n : Nat) : Bool := (s.sliceOf (367 + n)).isNone

/-- BAL_OVERCURRENT (R247): current above the trip of Table 8.1, at any time. -/
def execBalOvercurrent (dt cell : Nat) (s : State) : Out :=
  let s := s.elapse dt
  if s.internalCell cell ∧ s.pathFree cell then .next (s.balFault cell 1) else .next s

/-- The on-interval of cell `n` has 2 slots or more (R247), or the half period of the excitation is 100 µs or more (R259). -/
def State.checkable (s : State) (n : Nat) : Bool :=
  match s.spc.run with
  | some r => if r.kind = 0 then decide (40000 ≤ r.period) else false
  | none => decide (2 + (s.bal n).closedIn ≤ (if n % 2 = 1 then (s.bal n).duty else s.slu.frameU))

/-- I_exp of a cell in 0.1 mA (R247). -/
def State.expCur (s : State) (cell : Nat) : Rat := (s.sluV cell : Rat) / (2 * (s.rh : Rat) / 10 + 3 / 2) / 100

/-- A balance current in 0.1 mA is low (Table 8.3). -/
def State.curLow (s : State) (cell cur : Nat) : Bool := decide ((cur : Rat) < 3 / 4 * s.expCur cell - 50)

/-- A balance current in 0.1 mA is high (Table 8.3). -/
def State.curHigh (s : State) (cell cur : Nat) : Bool := decide (5 / 4 * s.expCur cell + 50 < (cur : Rat))

/-- BAL_CURRENT_CHECK (R247): the measured current, in units of 0.1 mA, 50 µs after closing. -/
def execBalCurrentCheck (dt cell cur : Nat) (s : State) : Out :=
  let s := s.elapse dt
  if s.internalCell cell ∧ s.pathFree cell ∧ (s.bal cell).on ∧ ¬(s.bal cell).checked then
    let s := s.until_ ((s.bal cell).since + 50 * usTicks)
    let s := s.setBal cell (fun c => { c with checked := true, cur := cur })
    if !s.checkable cell ∨ suspectOf (s.latest (cell - 1)) then .next s
    else
      let low := s.curLow cell cur
      let high := s.curHigh cell cur
      let s := s.setBal cell (fun c =>
        { c with lowN := if low then c.lowN + 1 else 0, highN := if high then c.highN + 1 else 0 })
      if 3 ≤ (s.bal cell).lowN then .next (s.balFault cell 2)
      else if 3 ≤ (s.bal cell).highN then .next (s.balFault cell 3)
      else .next s
  else .next s

/-- BAL_STUCK_ON (R247): the measured current of an open internal switch, in units of 0.1 mA, 50 µs after opening. -/
def execBalStuckOn (dt cell cur : Nat) (s : State) : Out :=
  let s := s.elapse dt
  if s.internalCell cell ∧ s.pathFree cell ∧ ¬(s.bal cell).on then
    let s := (s.until_ ((s.bal cell).since + 50 * usTicks)).setBal cell (fun c => { c with cur := cur })
    if 20 < cur then .next (s.balFault cell 4) else .next s
  else .next s

/-- BAL_GATE_CHECK (R247): gate–source and cell voltage in mV, 20 µs plus the edge time after a command. -/
def execBalGateCheck (dt cell : Nat) (vgs vcell : Int) (s : State) : Out :=
  let s := s.elapse dt
  if s.used cell ∧ (s.bal cell).xfet then
    let s := s.until_ ((s.bal cell).since + 20 * usTicks + (s.bal cell).edge.ticks)
    if (s.bal cell).on then
      if vgs * 5 < vcell * 4 then .next (s.balFault cell 5) else .next s
    else if vcell < vgs * 5 then .next (s.balFault cell 6)
    else .next s
  else .next s

end Sys2Proof.Machine
end

