-- ==== Sys2Proof/Machine/Spectrum.lean ====
section
/-! DEFINITION. Machine/Spectrum.lean: the start, the passes and windows, the publications and the end of a spectrum run (R182,
R250 to R272). -/

namespace Sys2Proof.Machine

/-! ## Acceptance -/

/-- SPC register `a` as Table 9.1 judges it: the field in effect now. -/
abbrev State.spcF (s : State) (a lo len : Nat) : Nat := s.fld a lo len

/-- Multiplier of bin `b` of step `k` (Table 9.10). -/
def State.mult (s : State) (k b : Nat) : Nat :=
  if b < 4 then s.fld (0x1230 + k) (8 * b) 8 else s.fld (0x1240 + k) (8 * (b - 4)) 8

/-- The steps of a configuration. -/
def State.spcSteps (s : State) : List Nat := List.range (s.fld 0x1202 16 4 + 1)

/-- A frequency in mHz is above the BAND limit at OSR exponent `k` (Table 9.1). -/
def aboveBand (f k : Nat) : Bool := decide (5000000 < f) || decide (10000000000 < f * 2 ^ k)

/-- The used cells of SPC_CELLS. -/
def State.spcCells (s : State) : List Nat := cellNos.filter (fun n => s.used n && s.bit 0x1203 (n - 1))

/-- The eight multipliers of step `k`. -/
def State.mults (s : State) (k : Nat) : List Nat := (List.range 8).map (s.mult k)

/-- The predicted die power of pass `p` of run kind 0 in mW (R257): of a cell that was on in the frame before, as measured. -/
def State.passPower (s : State) (p : Nat) : Rat :=
  1 / 2 * ((s.spcCells.filter (fun n => decide (n % 2 = 1 - p))).map (fun n =>
    if (s.bal n).ran then (s.bal n).pd else s.pdPred n)).sum

/-- The refusal cause of Table 9.1 for a run kind, the lowest code first; 0 where the configuration passes. DEDUCED, log entry 78. -/
def State.spcRefuse (s : State) (kind : Nat) : Nat :=
  let f0 := fun k => s.fld (0x1210 + k) 0 23
  let ok := fun k => s.fld (0x1210 + k) 24 5
  let ahead := (s.eff 0x1204 - s.tb.setWidth 32).toInt
  let src := s.fld 0x1202 20 2
  let track := s.bit 0x1208 31
  let chain := s.bit 0x1202 31
  if kind = 3 then 10
  else if s.spcCells = [] then 1
  else if s.spcSteps.any (fun k => decide (f0 k < 50) || decide (5000000 < f0 k) || decide (ok k < 7) || decide (16 < ok k) ||
      decide (s.fld (0x1220 + k) 16 16 = 0) || (s.mults k).all (fun m => decide (m = 0))) then 2
  else if s.spcSteps.any (fun k => (s.mults k).any (fun m => decide (m ≠ 0) && aboveBand (m * f0 k) (ok k))) then 3
  else if kind = 0 ∧ s.spcSteps.any (fun k => (s.mults k).any (fun m => decide (m ≠ 0) && decide (m % 2 = 0))) then 4
  else if kind = 0 ∧ s.spcCells.any (fun n => (s.bal n).xfet || s.busbar n) then 5
  else if kind = 0 ∧ ((clampTo 100 2000 (s.fld 0x1001 0 12) : Rat) < s.passPower 0 ∨
      (clampTo 100 2000 (s.fld 0x1001 0 12) : Rat) < s.passPower 1) then 6
  else if (src = 1 ∧ (ahead < 20000 ∨ 2000000000 < ahead)) ∨ (src = 2 ∧ s.fld 0xC60 8 2 = 0) then 7
  else if (kind = 1 ∨ kind = 2) ∧ (s.fld 0x1206 0 24 = 0 ∨
      (chain ∧ (62 < s.fld 0x1202 24 6 ∨ s.addr = some (s.fld 0x1202 24 6) ∨ track))) then 8
  else if kind = 2 ∧ (s.fld 0x1208 24 6 = 0 ∨ 40 < s.fld 0x1208 24 6 ∨ s.fld 0x1208 16 5 < 7 ∨ 16 < s.fld 0x1208 16 5 ∨
      (¬track ∧ (s.fld 0x1209 0 23 < 500 ∨ 5000000 < s.fld 0x1209 0 23 ∨ aboveBand (s.fld 0x1209 0 23) (s.fld 0x1208 16 5)))) then 9
  else 0

/-! ## Passes -/

/-- The cells of a pass of a run: of one parity in run kind 0, of the whole set otherwise (R254). -/
def State.passCells (s : State) (r : SpcRun) (pass : Nat) : List Nat :=
  (s.runCells r).filter (fun n => decide (r.kind ≠ 0) || decide (n % 2 = 1 - pass))

/-- The first pass of a step: pass 1 where pass 0 has no cell (R254). -/
def State.firstPass (s : State) (r : SpcRun) : Nat := if s.passCells r 0 = [] then 1 else 0

/-- The pass that follows (R254). -/
def State.nextPass (s : State) (r : SpcRun) : Option (Nat × Nat) :=
  if r.kind = 0 ∧ r.pass = 0 ∧ s.passCells r 1 ≠ [] then some (r.step, 1)
  else if r.step < r.fld 0x1202 16 4 then some (r.step + 1, s.firstPass r)
  else none

/-- A pass or window begins; the held decimators run at its OSR and start on the grid (R253, R255). -/
def State.startPass (s : State) (r : SpcRun) (tb : Nat) : State :=
  let s := s.beginPass r tb
  let s := match s.convs.find? (fun (c : Conv) => decide (c.why = ConvFor.spec) && c.granted) with
    | some c => s.startDecims c tb (roundUp tb (s.modP * 2 ^ c.osrK) 0)
    | none => s
  s.pruneSmp

/-- A pass that THROTTLE held restarts once no THROTTLE is in effect any longer (R260). DEDUCED, log entry 107. -/
def State.unhold (s : State) : State :=
  match s.spc.run with
  | some r => if r.phase = .held ∧ ¬s.throttled ∧ s.opIs 1 .running then s.startPass r s.tbn else s
  | none => s

/-- The run requests its sides (R253). -/
def State.requestSides (s : State) (r : SpcRun) : State :=
  let need := 2 ^ min 8 (r.fld 0x1202 12 4)
  let aux := if r.kind ≠ 0 ∧ ¬(vget r.cfg 0 2).getLsbD 31 then [32] else []
  let c : Conv :=
    { id := s.nextId, why := .spec, stand := 0, jet := 8, osrK := r.osrK, s := 0, merge := s.bit 0x600 4, diff := s.bit 0x600 8, grid := true
      after := none, start := none, strm := none
      chans := ((s.runCells r).map (· - 1) ++ aux).map (fun ch => ConvCh.fresh ch need) }
  { s with convs := s.convs ++ [c], nextId := s.nextId + 1 }

/-- What a run does when it starts, and again when it is resumed in a phase with nothing before it: the trim of run kind 0, the
tracking or the first window of run kind 2, the first pass of run kind 1 (R255, R258, R268, R269). -/
def State.enterRun (s : State) (r : SpcRun) (tb : Nat) : State :=
  let r := { r with step := 0, pass := s.firstPass r, win := 0 }
  if r.kind = 0 then s.setRun { r with phase := .trim, since := s.clk, tb := tb + 1000000 }
  else if r.kind = 1 then s.startPass r tb
  else if r.fld 0x1208 31 1 = 1 then (s.setRun { r with phase := .track, since := s.clk, tb := tb }).pruneSmp
  else
    let f := r.fld 0x1209 0 23
    ({ s with spc := { s.spc with f1m := f } }).startPass { r with f1 := f } tb

/-- The run starts at timebase value `tb` (R252, R253); rotation pauses (R117, R118). -/
def State.startRun (s : State) (r : SpcRun) (tb : Nat) : State := ((s.requestSides r).enterRun r tb).pauseCheck

/-- A start request of run kind `kind`, 0 to 3 (R250 to R252). DEDUCED, log entry 34. -/
def State.specStart (s : State) (rq : Requester) (kind : Nat) : State :=
  let res := fun (s : State) n why => { s with spc := { s.spc with startRes := n, refuse := why } }
  if s.pwr.mode ≠ .spectrum then res s 2 0
  else if s.spc.run.isSome then res s 3 0
  else if s.spcRefuse kind ≠ 0 then res s 4 (s.spcRefuse kind)
  else
    let (tag, s) := s.startOp 1 rq
    let r : SpcRun :=
      { tag := tag, kind := kind, cfg := Vector.ofFn (fun i : Fin 80 => s.eff (0x1200 + i.val)), phase := .notStarted
        step := 0, pass := 0, win := 0, f1 := 0, since := s.clk, tb := 0, tx := 0, ts := 0, te := 0, tf := 0, trims := [], faults := 0
        exc := false, closed := false, edge := none, pubs := [] }
    let s := (res s 1 0).setRun r
    let s := { s with spc := { s.spc with tag := tag, sweep := [], sweepSt := [] } }
    if r.fld 0x1202 20 2 = 1 ∨ r.fld 0x1202 20 2 = 2 then s else s.startRun r s.tbn

/-- EXC (R182): kind 3 does not decode. -/
def execExc (dt j : Nat) (rd : Reg) (kind : BitVec 2) (s : State) : Out :=
  (s.elapse dt).issue j (.exc rd kind)
    (fun s =>
      let at_ := s.clk
      let s := s.specStart (.jet j) kind.toNat
      let v : Int :=
        if s.spc.startRes = 1 then s.spc.tag else if s.spc.startRes = 2 then -1 else if s.spc.startRes = 3 then -2 else -3
      (s.setReg j rd (wordOfInt v)).retire j at_ 3)

/-- SPECTRUM_RUN_BEGIN (R252): an accepted run starts when the timebase reaches TSTART, or at the SYNC edge it waited for. -/
def execSpectrumRunBegin (dt : Nat) (s : State) : Out :=
  let s := s.elapse dt
  match s.spc.run with
  | some r =>
    if r.phase = .notStarted ∧ s.opIs 1 .running then
      if r.fld 0x1202 20 2 = 1 then
        let d := (vget r.cfg 0 4 - s.tb.setWidth 32)
        let s := if s.reached32 (vget r.cfg 0 4) then s else s.elapseTb d.toNat
        .next (s.startRun r s.tbn)
      else
        match r.edge with
        | some t => .next (s.startRun r t)
        | none => .next s
    else .next s
  | none => .next s

/-- The trim corrects by more than ±5 % where the sense shows `ua` for 100 mA: the correction is 100 mA / `ua` less 1 (R258). -/
def trimFails (ua : Nat) : Bool := decide (ua < 20 * (ua - 100000) ∨ ua < 20 * (100000 - ua))

/-- CURRENT_TRIM_DONE (R258): 5 ms after the start the current sense of every cell of the set is trimmed; a cell whose trim would
correct too much is not excited. A cell without a reading shows 100 mA. DEDUCED, log entry 6. -/
def execCurrentTrimDone (dt : Nat) (sense : List TrimMeas) (s : State) : Out :=
  let s := s.elapse dt
  match s.spc.run with
  | some r =>
    if r.phase = .trim ∧ s.opIs 1 .running then
      let s := s.untilTb (BitVec.ofNat 64 r.tb)
      let cells := s.runCells r
      if cells.all (fun c => (s.bal c).hold) then .next (s.endSpec .failed 4 4)
      else
        let l := sense.filter (fun m => cells.contains m.cell)
        let f := (l.filter (fun m => trimFails m.sense)).foldl (fun k m => maskSet k (m.cell - 1) true) r.faults
        .next (s.startPass { r with trims := l.map (fun m => (m.cell, m.sense)), faults := f } r.tb)
    else .next s
  | none => .next s

/-! ## Excitation and windows -/

/-- The cells of the pass that are excited (R256, R258, R259). -/
def State.excCells (s : State) (r : SpcRun) : List Nat :=
  (s.passCells r r.pass).filter (fun n => !r.faults.testBit (n - 1) && !(s.bal n).hold)

/-- The switches of the pass close or open (R256); none closes while STOP_BALANCE is in effect (R24). -/
def State.driveSpec (s : State) (r : SpcRun) (close : Bool) : State :=
  let s := if close then
      if s.stopped then s
      else (s.excCells r).foldl (fun (s : State) n =>
        s.setBal n (fun c => { c with on := true, since := s.clk, edge := s.edgeNow, checked := false })) s
    else (s.excCells r).foldl State.openOut s
  s.setRun { r with closed := close }

/-- PASS_EXCITE (R255, R256): t_x of a pass. A cell held open is excited no further in the run. -/
def execPassExcite (dt : Nat) (s : State) : Out :=
  let s := s.elapse dt
  match s.spc.run with
  | some r =>
    if r.phase = .settle ∧ ¬r.exc ∧ s.opIs 1 .running then
      let s := s.untilTb (BitVec.ofNat 64 r.tx)
      let r := { r with exc := true }
      if r.kind = 0 then
        let held := (s.passCells r r.pass).filter (fun n => (s.bal n).hold)
        let r := { r with faults := held.foldl (fun m n => maskSet m (n - 1) true) r.faults }
        .next (s.driveSpec r (decide (0 < (r.period / 2).floor)))
      else .next (s.setRun r)
    else .next s
  | none => .next s

/-- The first tick at or after `t` at which the square wave of the run changes over from `closed` (R256). -/
def SpcRun.nextEdge (r : SpcRun) (closed : Bool) (t : Nat) : Nat :=
  let p := r.period
  let half : Nat := (p / 2).floor.toNat
  let q : Nat := (((t - r.tx : Nat) : Rat) / p).floor.toNat
  let openAt : Nat := r.tx + ((q : Rat) * p + half).ceil.toNat
  let closeAt : Nat := r.tx + (((q + 1 : Nat) : Rat) * p).ceil.toNat
  if closed then max t openAt else closeAt

/-- EXCITATION_EDGE (R256): the next edge of the square wave before t_e. -/
def execExcitationEdge (dt : Nat) (s : State) : Out :=
  let s := s.elapse dt
  match s.spc.run with
  | some r =>
    if r.kind = 0 ∧ r.exc ∧ (r.phase = .settle ∨ r.phase = .window) ∧ s.opIs 1 .running then
      let t := r.nextEdge r.closed s.tbn
      if t < r.te then .next ((s.untilTb (BitVec.ofNat 64 t)).driveSpec r (!r.closed)) else .next s
    else .next s
  | none => .next s

/-- WINDOW_OPEN (R255): t_s. -/
def execWindowOpen (dt : Nat) (s : State) : Out :=
  let s := s.elapse dt
  match s.spc.run with
  | some r =>
    if r.phase = .settle ∧ r.exc ∧ s.opIs 1 .running then
      .next ((s.untilTb (BitVec.ofNat 64 r.ts)).setRun { r with phase := .window })
    else .next s
  | none => .next s

/-- The run takes the chain's current (R265): CUR_SRC 1 of run kinds 1 and 2. -/
def SpcRun.chainCur (r : SpcRun) : Bool := decide (r.kind ≠ 0) && (vget r.cfg 0 2).getLsbD 31

/-- Multiplier of bin `b` of the run's step `k`. -/
def SpcRun.mult (r : SpcRun) (k b : Nat) : Nat :=
  if b < 4 then r.fld (0x1230 + k) (8 * b) 8 else r.fld (0x1240 + k) (8 * (b - 4)) 8

/-- The frequency in mHz of bin or harmonic index `i`, none for one that is not computed (R253, R269). -/
def SpcRun.freq (r : SpcRun) (k i : Nat) : Option Nat :=
  if r.kind = 2 then
    if i = 0 ∨ r.fld 0x1208 24 6 < i ∨ aboveBand (i * r.f1) (r.fld 0x1208 16 5) then none else some (i * r.f1)
  else
    let m := r.mult k i
    if m = 0 then none else some (m * r.fld (0x1210 + k) 0 23)

/-- The pass or window of the run ends: its publication is due, and with CUR_PUB its current phasors are to be sent (R263, R264); a run
of kind 0, in which every cell has a current of its own, sends none. DESIGN CHOICE, log entry 148. -/
def State.pubDue (s : State) (r : SpcRun) : State :=
  let p : PubDue :=
    { step := if r.kind = 2 then r.win % 256 else r.step, pass := r.pass, osrK := r.osrK, tx := r.tx, ts := r.ts, te := r.te
      tf := r.tf
      cells := (s.passCells r r.pass).foldl (fun m n => maskSet m (n - 1) true) 0, fault := r.faults, wait := r.chainCur
      cur := [], parts := 0 }
  let snd : SendDue :=
    { runId := r.fld 0x1205 0 16, step := p.step, pass := r.pass, tx := r.tx, ts := r.ts, te := r.te, tf := r.tf, osrK := r.osrK
      cur := vget r.cfg 0 6, dly := vget r.cfg 0 7
      freqs := if r.kind = 2 then (List.range (r.fld 0x1208 24 6)).map (fun h => r.freq 0 (h + 1))
        else (List.range 8).map (r.freq r.step) }
  let sends := if r.kind ≠ 0 ∧ ¬r.chainCur ∧ (vget r.cfg 0 2).getLsbD 30 then s.spc.sends ++ [snd] else s.spc.sends
  { s with spc := { s.spc with run := some { r with pubs := r.pubs ++ [p] }, sends := sends } }

/-- The window that follows a window without a gap (R269). -/
def SpcRun.nextWindow (r : SpcRun) : SpcRun :=
  let osr := 2 ^ r.osrK
  let te := r.te + roundNat ((atLeast1 (r.fld 0x1208 0 10) : Rat) * r.period)
  { r with win := r.win + 1, ts := r.te, te := te, tf := te + (11 * osr / 4 - 2) * 5 + 5 * osr }

/-- WINDOW_CLOSE (R255, R256, R269): t_e. Excitation ends; under CONT the next window opens at once. -/
def execWindowClose (dt : Nat) (s : State) : Out :=
  let s := s.elapse dt
  match s.spc.run with
  | some r =>
    if r.phase = .window ∧ s.opIs 1 .running then
      let s := s.untilTb (BitVec.ofNat 64 r.te)
      if r.kind = 2 ∧ r.fld 0x1208 30 1 = 1 then
        let s := s.pubDue r
        match s.spc.run with
        | some r => .next (s.setRun r.nextWindow)
        | none => .next s
      else
        let s := if r.kind = 0 then s.openAll else s
        .next (s.setRun { r with phase := .tail, exc := false, closed := false })
    else .next s
  | none => .next s

/-- PASS_END (R255): t_f. The publication is due, and the next pass begins. -/
def execPassEnd (dt : Nat) (s : State) : Out :=
  let s := s.elapse dt
  match s.spc.run with
  | some r =>
    if r.phase = .tail ∧ s.opIs 1 .running then
      let s := (s.untilTb (BitVec.ofNat 64 r.tf)).pubDue r
      match s.spc.run with
      | some r =>
        match (if r.kind = 2 then none else s.nextPass r) with
        | some (k, p) => .next (s.startPass { r with step := k, pass := p } r.tf)
        | none => .next (s.setRun { r with phase := .ending })
      | none => .next s
    else .next s
  | none => .next s

/-! ## Publication -/

/-- The samples of channel `ch` whose instants lie in [ts, te), in time order: t counted from ts, and the corrected sample in 1/64
LSB (R262). -/
def State.samples (s : State) (ch ts te : Nat) : List (Int × Int) :=
  (s.spc.smp.filterMap (fun e =>
    if e.ch = ch ∧ ts ≤ e.tau ∧ e.tau < te then e.x.map (fun x => ((e.tau : Int) - ts, x)) else none)).reverse

/-- A sample of channel `ch` in [ts, te) is clamped or falls under a condition of Table 4.9 (Table 9.3). -/
def State.smpSuspect (s : State) (ch ts te : Nat) : Bool :=
  s.spc.smp.any (fun e => decide (e.ch = ch) && decide (ts ≤ e.tau) && decide (e.tau < te) && e.sus)

/-- The current in µA that one 1/64 µV of AUX9 stands for: GAIN and SIGN (R261). -/
def auxScale (cur : Word) : Rat := (Sys2Proof.fld cur 0 24 : Rat) / 64000 * (if cur.getLsbD 31 then -1 else 1)

/-- A current phasor in µA from the samples of AUX9: gain and sign, decimation, delay (R261, R262). -/
def auxPhasor (cur dly : Word) (osrK lead f : Nat) (l : List (Int × Int)) : Cplx :=
  let z := (correlate l lead f).scale (auxScale cur / decMag 5 osrK f)
  let (c, s) := turn (f * (dly.extractLsb' 0 16).toInt) 1000000000000
  z.mul ⟨ofFix c, ofFix s⟩

/-- The factor that trims the current sense of cell `n` (R258). -/
def SpcRun.trimOf (r : SpcRun) (n : Nat) : Rat :=
  match r.trims.find? (fun e => decide (e.1 = n)) with
  | some e => if e.2 = 0 then 1 else 100000 / (e.2 : Rat)
  | none => 1

/-- The current phasor in µA of a cell in run kind 0 from its switch-current sense, trimmed by `trim` and negated (R258, R262). -/
def ownPhasor (trim : Rat) (osrK lead f : Nat) (l : List (Int × Int)) : Cplx :=
  (correlate l lead f).scale (-(trim / 1000) / decMag 5 osrK f)

/-- A voltage phasor in µV from the samples of a cell, corrected for the decimation stages and the input network (R82, R262). -/
def State.cellPhasor (s : State) (osrK lead f : Nat) (l : List (Int × Int)) : Cplx :=
  let d := (correlate l lead f).scale (1 / 64 / decMag 5 osrK f)
  let (fr, fc) := (s.fld 0x402 16 16, s.fld 0x402 0 16)
  if fr = 0 ∨ fc = 0 then d else d.mul ⟨1, netPole fr fc f⟩

/-- An impedance component saturated to a word: the word, and whether it overflowed (Table 9.3). DEDUCED, log entry 79. -/
def satZ (z : Int) : Word × Bool :=
  if 0x7FFFFFFF < z then (0x7FFFFFFF, true) else if z < -0x7FFFFFFF then (0x80000001, true) else (wordOfInt z, false)

/-- A phasor component in whole µV or µA. DEDUCED, log entry 79. -/
def microV (x : Rat) : Word := wordOfInt (roundInt x)

/-- The current phasor is below IMIN mA (R262). -/
def belowImin (imin : Nat) (i : Cplx) : Bool := decide (i.sq < (((imin * 1000) ^ 2 : Nat) : Rat))

/-- The words and status of a bin for which the manual gives none: free values. DESIGN CHOICE, log entries 13 and 80. -/
def State.openBin (s : State) : (Word × Word × Nat) × State :=
  let (a, s) := s.free
  let (b, s) := s.free
  let (c, s) := s.free
  ((a, b, c.toNat % 8), s)

/-- The words and status of a bin (R262, Table 9.3): the state is that after the free values taken. `i` is the current phasor, none
where it did not arrive. DESIGN CHOICE, log entries 13 and 80. -/
def State.binWords (s : State) (imin : Nat) (v : Cplx) (i : Option Cplx) : (Word × Word × Nat) × State :=
  match i with
  | none => ((microV v.re, microV v.im, 2), s)
  | some i =>
    if belowImin imin i then ((microV v.re, microV v.im, 3), s)
    else if i.sq = 0 then s.openBin
    else
      let z := (v.mul i.conj).scale (1000000 / i.sq)
      let re := satZ (roundInt z.re)
      let im := satZ (roundInt z.im)
      ((re.1, im.1, if re.2 || im.2 then 5 else 1), s)

/-- A bin of cell `n` in step `k` is written to SPC_Z, SPC_ZST and the sweep table (R263). -/
def State.putBin (s : State) (k n b : Nat) (re im : Word) (st : Nat) : State :=
  let z := 16 * (n - 1) + 2 * b
  let t := ((k * 24 + n - 1) * 8 + b) * 2
  let d : Word := 0x80000000
  let nib := fun (w : Word) => (w &&& ~~~(put 15 (4 * b) 4)) ||| put st (4 * b) 4
  { s with spc :=
      { s.spc with
        z := Sparse.set d (Sparse.set d s.spc.z z re) (z + 1) im
        zst := Sparse.set 0 s.spc.zst (n - 1) (nib (Sparse.get 0 s.spc.zst (n - 1)))
        sweep := Sparse.set d (Sparse.set d s.spc.sweep t re) (t + 1) im
        sweepSt := Sparse.set 0 s.spc.sweepSt (24 * k + n - 1) (nib (Sparse.get 0 s.spc.sweepSt (24 * k + n - 1))) } }

/-- The samples of the switch-current sense of cell `n` in the window of a publication (R262). -/
def senseOf (p : PubDue) (cur : List CurSense) (n : Nat) : List (Int × Int) :=
  ((cur.filter (fun c => decide (c.cell = n))).flatMap (·.xs)).filterMap (fun e =>
    if p.ts ≤ e.1 ∧ e.1 < p.te then some ((e.1 : Int) - p.ts, e.2) else none)

/-- The samples of the current of cell `n` for a publication, where it is local: of the cell's own sense in run kind 0, of AUX9
otherwise. -/
def State.curSamples (s : State) (r : SpcRun) (p : PubDue) (cur : List CurSense) (n : Nat) : List (Int × Int) :=
  if r.kind = 0 then senseOf p cur n else s.samples 32 p.ts p.te

/-- The current phasor of a bin or harmonic (R262, R266): a cell's own in run kind 0, AUX9's, or the chain's. -/
def State.curOf (s : State) (r : SpcRun) (p : PubDue) (cur : List CurSense) (n i f : Nat) : Option Cplx :=
  if r.chainCur then
    (p.cur.find? (fun e => decide (e.1 = i))).map (fun e => ⟨e.2.re, e.2.im⟩)
  else
    let l := s.curSamples r p cur n
    some (if r.kind = 0 then ownPhasor (r.trimOf n) p.osrK (p.ts - p.tx) f l
      else auxPhasor (vget r.cfg 0 6) (vget r.cfg 0 7) p.osrK (p.ts - p.tx) f l)

/-- A voltage or current sample of a cell's window is clamped or suspect (Table 9.3); cell 0 is the current channel. -/
def State.pubSuspect (s : State) (r : SpcRun) (p : PubDue) (n : Nat) : Bool :=
  (decide (n ≠ 0) && s.smpSuspect (n - 1) p.ts p.te) ||
    (decide (r.kind ≠ 0) && !r.chainCur && s.smpSuspect 32 p.ts p.te)

/-- The samples of cell `n` and of its current for a publication are there: without any, the manual gives no phasor (R262). -/
def State.pubData (s : State) (r : SpcRun) (p : PubDue) (cur : List CurSense) (n : Nat) : Bool :=
  decide (s.samples (n - 1) p.ts p.te ≠ []) && (r.chainCur || decide (s.curSamples r p cur n ≠ []))

/-- A pass is published (R263). DEDUCED, log entry 79. -/
def State.pubBins (s : State) (r : SpcRun) (p : PubDue) (cur : List CurSense) : State :=
  (cellNos.filter (fun n => p.cells.testBit (n - 1))).foldl (fun (s : State) n =>
    (List.range 8).foldl (fun (s : State) b =>
      match r.freq p.step b with
      | none => s
      | some f =>
        let sus := if s.pubSuspect r p n then 8 else 0
        if p.fault.testBit (n - 1) then s.putBin p.step n b 0x80000000 0x80000000 (4 + sus)
        else
          let ((re, im, st), s) :=
            if s.pubData r p cur n then
              s.binWords (r.fld 0x1207 16 16) (s.cellPhasor p.osrK (p.ts - p.tx) f (s.samples (n - 1) p.ts p.te))
                (s.curOf r p cur n b f)
            else s.openBin
          s.putBin p.step n b re im (st + sus)) s) s

/-- The magnitude of a phasor in whole µV or µA (R270). -/
def magOf (p : Cplx) : Nat := freeSqrt 6 p.sq

/-- The phase of the product of `a` and the conjugate of `b` to the power `h` (R270): the phase of `a` less `h` times that of `b`. -/
def phaseBy (a b : Cplx) (h : Nat) : BitVec 16 :=
  let z := (List.range h).foldl (fun (z : Cplx) _ => z.mul b.conj) a
  (phasorPhase z.re z.im).getD Config.noPhase

/-- The rms of the residuals of a channel's samples in µV, or for the current in µA (R270). -/
def State.rmsOf (s : State) (r : SpcRun) (p : PubDue) (ch : Nat) : Nat :=
  let res := fun (c : Nat) => (fitSums (s.samples c p.ts p.te)).residual
  if ch = 0 then freeSqrt 7 (res 32 * auxScale (vget r.cfg 0 6) ^ 2) else freeSqrt 7 (res (ch - 1) / 4096)

/-- The harmonic table entry of a channel (R270, Table 9.5). Where the window holds no sample of it or of its current, the manual gives
no value: those are free. DESIGN CHOICE, log entry 21; DEDUCED, log entry 79. -/
def State.harmOf (s : State) (r : SpcRun) (p : PubDue) (ch h : Nat) : Harm × State :=
  let none_ : Harm := ⟨0, 0, 0⟩
  let inSet := if ch = 0 then true else p.cells.testBit (ch - 1)
  let sus := s.pubSuspect r p ch
  let mk := fun (m : Nat) (ph : BitVec 16) (st : Nat) => (⟨BitVec.ofNat 32 m, ph, st + (if sus then 8 else 0)⟩ : Harm)
  let bare := (decide (ch ≠ 0) && decide (s.samples (ch - 1) p.ts p.te = [])) || (!r.chainCur && decide (s.samples 32 p.ts p.te = []))
  if !inSet || decide (r.fld 0x1208 24 6 < h) || (decide (h = 0) && decide (ch = 0) && r.chainCur) then (none_, s)
  else if 0 < h ∧ (r.freq 0 h).isNone then (mk 0 0 2, s)
  else if bare then
    let ((m, ph, st), s) := s.openBin
    (mk m.toNat (ph.setWidth 16) st, s)
  else if h = 0 then (mk (s.rmsOf r p ch) 0 1, s)
  else
    let f := h * r.f1
    let imin := r.fld 0x1207 16 16
    let i := s.curOf r p [] ch h f
    let v := if ch = 0 then i.getD ⟨0, 0⟩ else s.cellPhasor p.osrK (p.ts - p.tx) f (s.samples (ch - 1) p.ts p.te)
    match i with
    | none => (if ch = 0 then mk 0 0 3 else mk (magOf v) (phaseBy v v 0) 3, s)
    | some i =>
      if belowImin imin i then (mk (magOf v) (phaseBy v v 0) 4, s)
      else if ch = 0 then (mk (magOf i) (phaseBy i ((s.curOf r p [] 0 1 r.f1).getD ⟨0, 0⟩) h) 1, s)
      else (mk (magOf v) (phaseBy v i 1) 1, s)

/-- A window is published: the whole harmonic table is replaced (R270). -/
def State.pubHarm (s : State) (r : SpcRun) (p : PubDue) : State :=
  let (t, s) := (List.range 1025).foldl (fun (acc : Sparse Harm × State) k =>
    let (e, s) := acc.2.harmOf r p (k / 41) (k % 41)
    (Sparse.set ⟨0, 0, 0⟩ acc.1 k e, s)) ([], s)
  { s with spc := { s.spc with harm := t } }

/-- A publication (R263, R270, R272): the values, PUBS, PUB_FLAG, and the end of a run whose last it was. DEDUCED, log entry 81. -/
def State.publish (s : State) (r : SpcRun) (p : PubDue) (cur : List CurSense) : State :=
  let s := if r.kind = 2 then s.pubHarm r p else s.pubBins r p cur
  let s := { s with spc := { s.spc with pubs := (s.spc.pubs + 1) % 65536 } }
  let s := if (vget r.cfg 0 2).getLsbD 8 then s.setFlag (r.fld 0x1202 0 6) else s
  let r := { r with pubs := r.pubs.drop 1 }
  let s := (s.setRun r).pruneSmp
  if r.phase = .ending ∧ r.pubs = [] then s.endSpec .done 1 0 else s

/-- The run is unfinished and not being cancelled: what it has measured is published, suspended or not (R263, R271). -/
def State.specLive (s : State) : Bool := decide (s.opIs 1 .running) || decide (s.opIs 1 .suspended)

/-- PUBLISH (R263): the oldest publication that waits for no current, at t_f or once its current has come. `cur` holds what the current sense of each cell
has given in a pass of run kind 0. DEDUCED, log entry 81. -/
def execPublish (dt : Nat) (cur : List CurSense) (s : State) : Out :=
  let s := s.elapse dt
  match s.spc.run with
  | some r =>
    match r.pubs.find? (fun p => !p.wait) with
    | some p =>
      if s.specLive then .next ((s.untilTb (BitVec.ofNat 64 p.tf)).publish { r with pubs := p :: r.pubs.erase p } p cur)
      else .next s
    | none => .next s
  | none => .next s

/-- CURRENT_TIMEOUT (R266): no matching frame by t_f + 10 ms for the publication due in place `n`, the
oldest being in place 0; its voltage phasors are published without a current. DEDUCED, log entry 82. -/
def execCurrentTimeout (dt n : Nat) (s : State) : Out :=
  let s := s.elapse dt
  match s.spc.run with
  | some r =>
    match r.pubs[n]? with
    | some p =>
      if p.wait && s.specLive then
        let r := { r with pubs := p :: r.pubs.eraseIdx n }
        .next ((s.untilTb (BitVec.ofNat 64 (p.tf + 2000000))).publish r { p with wait := false, cur := [] } [])
      else .next s
    | none => .next s
  | none => .next s

/-! ## The chain's current -/

/-- A frame of a peer type that this device originates leaves by both ports (R264, R289), by the south port of the bridge only to a split
segment (R303); the bridge takes it as well. DEDUCED, log entry 87. -/
def State.sendPeer (s : State) (f : Frame) : State :=
  let t := s.send .north f
  let t := if s.bridge && !s.splitOn then t else t.send .south f
  if s.bridge then t.rxPut ⟨0, 6, 0, some f⟩ else t

/-- The bytes of a current phasor in µA; without data 0x8000_0000 twice (Table 9.4). DEDUCED, log entry 99. -/
def phasorBytes (p : Option Cplx) : Bytes :=
  match p with
  | some p => beBytes 4 (microV p.re).toNat ++ beBytes 4 (microV p.im).toNat
  | none => beBytes 4 0x80000000 ++ beBytes 4 0x80000000

/-- One current phasor frame (Tables 9.4 and 10.6). DEDUCED, log entry 99. -/
def State.phasorFrame (s : State) (d : SendDue) (part : Nat) (l : List (Option Cplx)) : Frame :=
  ⟨0xD, 0, s.addr.getD 0, 1, 0,
    [1, 0, 0, 0] ++ beBytes 2 d.runId ++ beBytes 1 d.step ++ beBytes 1 (part * 128 + d.pass) ++ beBytes 4 (d.ts % 2 ^ 32) ++
      beBytes 1 l.length ++ [0, 0, 0] ++ l.flatMap phasorBytes⟩

/-- CURRENT_PHASOR_SEND (R264): the phasors of the pass in place `n` of those still to be sent, the oldest being in place 0, in bin or
harmonic order; a window without a sample gives no data. DEDUCED, log entry 99. -/
def execCurrentPhasorSend (dt n : Nat) (s : State) : Out :=
  let s := s.elapse dt
  match s.spc.sends[n]? with
  | some d =>
    let rest := s.spc.sends.eraseIdx n
    let s := s.untilTb (BitVec.ofNat 64 d.tf)
    let x := s.samples 32 d.ts d.te
    let s := State.pruneSmp { s with spc := { s.spc with sends := rest } }
    let l := d.freqs.map (fun (e : Option Nat) =>
      if x = [] then none else e.map (fun f => auxPhasor d.cur d.dly d.osrK (d.ts - d.tx) f x))
    if l.length ≤ 20 then .next (s.sendPeer (s.phasorFrame d 0 l))
    else .next ((s.sendPeer (s.phasorFrame d 0 (l.take 20))).sendPeer (s.phasorFrame d 1 (l.drop 20)))
  | none => .next s

/-- The signed phasors of a frame, by index from `i` on; one without data is left out. DEDUCED, log entry 99. -/
def phasorsOf : Nat → Nat → Bytes → List (Nat × Phasor)
  | 0, _, _ => []
  | k + 1, i, b =>
    let re := BitVec.ofNat 32 (beField b 0 4)
    let im := BitVec.ofNat 32 (beField b 4 4)
    let t := phasorsOf k (i + 1) (b.drop 8)
    if re = 0x80000000 ∧ im = 0x80000000 then t else (i, ⟨re.toInt, im.toInt⟩) :: t

/-- A current phasor frame from address `src` is taken by the publication that it matches (R265, R266). -/
def State.takePhasors (s : State) (src : Nat) (b : Bytes) : State :=
  match s.spc.run with
  | some r =>
    match r.pubs.find? (fun p =>
        p.wait && decide (beField b 0 2 = r.fld 0x1205 0 16) && decide (beField b 2 1 = p.step) &&
          decide (beField b 3 1 % 2 = p.pass) && decide (beField b 4 4 = p.ts % 2 ^ 32)) with
    | some p =>
      if r.chainCur ∧ src = r.fld 0x1202 24 6 ∧ s.tbn ≤ p.tf + 2000000 then
        let part := beField b 3 1 / 128
        let first := if r.kind = 2 then 1 + 20 * part else 0
        let parts := maskSet p.parts part true
        let all := if r.kind = 2 ∧ 20 < r.fld 0x1208 24 6 then 3 else 1
        let q := { p with cur := p.cur ++ phasorsOf (beField b 8 1) first (b.drop 12), parts := parts, wait := decide (parts ≠ all) }
        s.setRun { r with pubs := r.pubs.map (fun x => if x = p then q else x) }
      else s
    | none => s
  | none => s

/-! ## Ends -/

/-- SPECTRUM_HELD_TIMEOUT (R260). -/
def execSpectrumHeldTimeout (dt : Nat) (s : State) : Out :=
  let s := s.elapse dt
  match s.spc.run with
  | some r =>
    if r.phase = .held ∧ s.opIs 1 .running then .next ((s.until_ (r.since + 10000 * msTicks)).endSpec .failed 4 2)
    else .next s
  | none => .next s

/-- F1 in mHz, where the samples of AUX9 taken since the tracking began give it (R268). DESIGN CHOICE, log entry 131. -/
def State.f1Found (s : State) (r : SpcRun) (lay : Nat) : Option Nat :=
  let l := (s.samples 32 r.tb (2 ^ 64)).map (fun e => (((r.tb : Int) + e.1).toNat, if (vget r.cfg 0 6).getLsbD 31 then -e.2 else e.2))
  match fundamental r.tb lay l with
  | some f => if 500 ≤ f ∧ f ≤ 5000000 then some f else none
  | none => none

/-- F1_TRACK_DONE (R268): the seventeenth crossing gives F1, and the first window begins. `lay` is the part of the hysteresis that lies
below zero, in 1/1000. DESIGN CHOICE, log entry 131. -/
def execF1TrackDone (dt lay : Nat) (s : State) : Out :=
  let s := s.elapse dt
  match s.spc.run with
  | some r =>
    match s.f1Found r lay with
    | some f1 =>
      if r.phase = .track ∧ s.opIs 1 .running ∧ s.clk ≤ r.since + 20000 * msTicks then
        .next (({ s with spc := { s.spc with f1m := f1 } }).startPass { r with f1 := f1 } s.tbn)
      else .next s
    | none => .next s
  | none => .next s

/-- F1_TRACK_TIMEOUT (R268). -/
def execF1TrackTimeout (dt : Nat) (s : State) : Out :=
  let s := s.elapse dt
  match s.spc.run with
  | some r =>
    if r.phase = .track ∧ s.opIs 1 .running then .next ((s.until_ (r.since + 20000 * msTicks)).endSpec .failed 4 3)
    else .next s
  | none => .next s

/-- The run is suspended: switches open, partial sums discarded, sides released (R271). -/
def State.suspendSpec (s : State) : State :=
  let s := s.releaseSpec
  match s.spc.run with
  | some r => s.setRun { r with exc := false, closed := false }
  | none => s

/-- The run goes on: it requests its sides again and restarts what was interrupted with t_b now (R271); one whose cells have all been held
off since ends (R259). DEDUCED, log entry 54. -/
def State.resumeSpec (s : State) : State :=
  match s.spc.run with
  | some r =>
    let s := if r.phase = .notStarted then s else s.requestSides r
    State.allHeld <| match r.phase with
    | .notStarted => s
    | .trim => (s.setRun { r with since := s.clk, tb := s.tbn + 1000000 }).pauseCheck
    | .track => ((s.setRun { r with since := s.clk, tb := s.tbn }).pruneSmp).pauseCheck
    | .ending => s
    | _ => (s.startPass r s.tbn).pauseCheck
  | none => s

end Sys2Proof.Machine
end

