-- ==== Sys2Proof/Machine/Thermal.lean ====
section
/-! DEFINITION. Machine/Thermal.lean: die sensors, thermal model, limits, throttle controller, bands and the orderly shutdown (R370
to R385). Temperatures are in 1/64 °C. -/

namespace Sys2Proof.Machine

/-- Sensor `k`. -/
def State.sens (s : State) (k : Nat) : Sens := vget s.thm.sens default k

/-- The state with a sensor changed. -/
def State.setSens (s : State) (k : Nat) (f : Sens → Sens) : State :=
  { s with thm := { s.thm with sens := vmod s.thm.sens k f } }

/-- The sensors' numbers. -/
def sensNos : List Nat := List.range 6

/-- A temperature limit field in °C with its range, in 1/64 °C. -/
def State.limC (s : State) (lo : Nat) (a b : Nat) : Int := 64 * (clampTo a b (s.fld 0x1C01 lo 8) : Int)

/-- SHUT_T. -/
def State.shutT (s : State) : Int := s.limC 24 135 160
/-- THR_T. -/
def State.thrT (s : State) : Int := s.limC 16 60 140
/-- HOT_T. -/
def State.hotT (s : State) : Int := s.limC 8 60 150
/-- THR_T less HYST. -/
def State.thrLow (s : State) : Int := s.thrT - 64 * (atLeast1 (s.fld 0x1C00 12 4) : Int)
/-- SHUT_T less SHUT_HYST. -/
def State.shutLow (s : State) : Int := s.shutT - 128 * (atLeast1 (s.fld 0x1C00 4 4) : Int)
/-- DIS_TOL. -/
def State.disTol (s : State) : Int := 64 * (max 2 (s.fld 0x1C00 8 4) : Nat)
/-- RISE in 1/64 °C/s. -/
def State.riseLim (s : State) : Int := 16 * (atLeast1 (s.fld 0x1C01 0 8) : Int)

/-! ## Model and ambient (R371, R372) -/

/-- The ticks for which a port has transmitted since reset. -/
def Port.sent (q : Port) (clk : Nat) : Nat :=
  q.sentT - (q.busyTo - clk) - (match q.toneEnd with | some t => t - clk | none => 0)

/-- The ticks for which the ports have transmitted since reset. -/
def State.sent (s : State) : Nat := s.ecp.north.sent s.clk + s.ecp.south.sent s.clk

/-- The power input of a node averaged over the time since the previous step (Table 15.1), that of nodes 1 to 6 being 0 in the gaps
between WATCH bursts (R371). DESIGN CHOICE, log entry 17. -/
def State.nodePower (s : State) (k : Nat) : Rat :=
  let n : Rat := ((s.clk - s.thm.stepAt : Nat) : Rat)
  if 1 ≤ k ∧ k ≤ 4 then ((vget s.thm.powSum 0 (k - 1) : Nat) : Rat) / n
  else match k with
    | 0 => (Config.biasPower : Rat)
    | 5 => ((s.sent - s.thm.sentAt : Nat) : Rat) / n
    | 7 => (clampTo 50 1000 (s.fld 0x1C08 0 16) : Rat)
    | _ => (Config.activity s.freeN : Rat) * (vget s.thm.powSum 0 4 : Nat) / n

/-- The model makes one step; the first step after a reset puts every node at the reading of T0. DESIGN CHOICE, log entry 17. -/
def State.modelStep (s : State) (t0 : Int) : State :=
  let s := s.notePower
  let old := s.thm.model.toList
  let m : Vector Int 8 :=
    if s.thm.started then
      Vector.ofFn (fun i : Fin 8 => Config.thermalStep i.val old s.thm.amb (s.nodePower i.val) (s.clk - s.thm.stepAt) s.freeN)
    else .replicate 8 t0
  { s with thm := { s.thm with model := m, powSum := .replicate 5 0, sentAt := s.sent }, freeN := s.freeN + 1 }

/-- Model estimate M_k. -/
def State.nodeTemp (s : State) (k : Nat) : Int := vget s.thm.model 0 k

/-- The ambient estimate moves by 1/1,024 of the mean difference of the trusted sensors. -/
def State.ambientStep (s : State) (r : Nat → Int) : State :=
  if !s.thm.started then { s with thm := { s.thm with amb := (r 0 : Rat) } }
  else
    let l := (sensNos.filter (fun k => !(s.sens k).replaced && decide ((r k - s.nodeTemp k).natAbs ≤ s.disTol))).map (fun k => r k - s.nodeTemp k)
    if l = [] then s
    else { s with thm := { s.thm with amb := s.thm.amb + (l.sum : Rat) / l.length / 1024 } }

/-! ## Sensors (R373 to R378) -/

/-- Sensor `k` is cross-checked (R374, R375): the number of presentations of THERMAL_MODEL_DISAGREE, and the state. -/
def State.crossCheck (s : State) (k : Nat) (r : Int) : Nat × State :=
  let q := s.sens k
  if q.replaced then (0, s)
  else
    let dis := decide (s.disTol < (r - s.nodeTemp k).natAbs)
    let since := if dis then (match q.disSince with | some t => some t | none => some s.clk) else none
    let long := match since with
      | some t => s.since t (atLeast1 (s.fld 0x1C00 0 4) * 1000 * msTicks)
      | none => false
    let out := decide (r < -3840) || decide (12800 < r)
    let first := dis && q.disSince.isNone
    if out || long then (b2n first + 1, s.setSens k (fun q => { q with replaced := true, disSince := none }))
    else (b2n first, s.setSens k (fun q => { q with disSince := since }))

/-- The effective temperature of sensor `k` from its reading; `wasRep` says that it was replaced before this step (R373, R375). -/
def State.effTemp (s : State) (wasRep : Bool) (k : Nat) (r : Int) : Int := if wasRep then s.nodeTemp k + s.disTol else r

/-- DIE_TEMP of sensor `k` (R377): the sources to present and the state. -/
def State.hotStep (s : State) (k : Nat) (e : Int) : List Nat × State :=
  let q := s.sens k
  let above := decide (s.hotT < e)
  let due := above && (match q.hotAt with | some t => s.since t (100 * msTicks) | none => true)
  let s := s.setSens k (fun q =>
    { q with
      hot := above || (q.hot && decide (s.hotT - 128 ≤ e))
      hotAt := if due then some s.clk else if above then q.hotAt else none })
  (if due then [107 + k] else [], s)

/-- DIE_RISE of sensor `k` (R378): the sources to present, the rise where it is evaluated, which is never in WATCH, and the state. DEDUCED,
log entry 109. -/
def State.riseStep (s : State) (k : Nat) (e : Int) : List Nat × Option Int × State :=
  let q := s.sens k
  match (if s.pwr.mode = .watch then none else q.hist[249]?) with
  | some old =>
    let rise := (e - old) * 4
    let above := decide (s.riseLim < rise)
    let due := above && (!q.rise || s.since q.riseAt (100 * msTicks))
    let s := s.setSens k (fun q => { q with rise := above, riseAt := if due then s.clk else q.riseAt })
    (if due then [113 + k] else [], some rise, s)
  | none => ([], none, s.setSens k (fun q => { q with rise := false }))

/-- The step of one sensor: what it adds to the sources, to the extra presentations of THERMAL_MODEL_DISAGREE, and to the rises. -/
def State.sensStep (acc : List Nat × Nat × List (Nat × Int) × State) (k : Nat) (r : Int) : List Nat × Nat × List (Nat × Int) × State :=
  let (srcs, dis, rises, s) := acc
  let was := (s.sens k).replaced
  let (n, s) := s.crossCheck k r
  let e := s.effTemp was k r
  let (a, s) := s.hotStep k e
  let (b, rise, s) := s.riseStep k e
  let watch := decide (s.pwr.mode = .watch)
  let s := s.setSens k (fun q => { q with meas := r, eff := e, hist := if watch then [] else (e :: q.hist).take 250 })
  (srcs ++ a ++ b, dis + n, rises ++ (match rise with | some x => [(k, x)] | none => []), s)

/-- The greatest of a list of sensors with their values, the lowest-numbered on a tie. -/
def greatest : List (Nat × Int) → Option (Nat × Int)
  | [] => none
  | a :: t => match greatest t with
    | some b => if a.2 < b.2 then some b else some a
    | none => some a

/-! ## Controller, bands, shutdown (R376, R379 to R385) -/

/-- Three or more sensors are replaced (R376). -/
def State.manyReplaced (s : State) : Bool := decide (3 ≤ (sensNos.filter (fun k => (s.sens k).replaced)).length)

/-- DEGRADED and its presentations (R376). -/
def State.degradeStep (s : State) : Nat × State :=
  let deg := s.manyReplaced
  let due := deg && (!s.thm.degraded || s.since s.thm.degAt (1000 * msTicks))
  (b2n due, { s with thm := { s.thm with degraded := deg, degAt := if due then s.clk else s.thm.degAt } })

/-- The controller enforces (Table 15.3). -/
def State.enforce (s : State) : State :=
  { s with thm := { s.thm with thr := .enforced, enfAt := s.clk, cntEnf := inc 65535 s.thm.cntEnf } }

/-- The throttle controller is judged on TMAX (Table 15.3): the sources to present and the state. -/
def State.throttleStep (s : State) : List Nat × State :=
  match s.thm.thr with
  | .idle =>
    if s.thrT ≤ s.thm.tmax then
      let g := s.fld 0x1C00 16 16
      let s := { s with thm := { s.thm with thr := .requested, graceEnd := s.tbn + g * msTicks } }
      if g = 0 then ([120, 121], s.enforce) else ([120], s)
    else ([], s)
  | .requested =>
    if s.thm.tmax < s.thrLow then ([], { s with thm := { s.thm with thr := .idle } })
    else if s.thm.graceEnd ≤ s.tbn then ([121], s.enforce)
    else ([], s)
  | .enforced =>
    if s.thrT ≤ s.thm.tmax ∧ s.since s.thm.enfAt (1000 * msTicks) then ([121], s.enforce)
    else if s.thm.tmax < s.thrLow then ([], { s with thm := { s.thm with thr := .idle } })
    else ([], s)

/-- A temperature has reached the lower bound of band `b` (Table 15.4). -/
def bandReached (b : Nat) (t : Int) : Bool :=
  match b with
  | 0 => true
  | 1 => decide (-640 ≤ t)
  | 2 => decide (1600 ≤ t)
  | 3 => decide (4480 ≤ t)
  | _ => decide (6720 < t)

/-- The lower bound of band `b`. -/
def bandLow : Nat → Int
  | 1 => -640 | 2 => 1600 | 3 => 4480 | _ => 6720

/-- The band of a temperature without hysteresis. -/
def bandOf (t : Int) : Nat := if bandReached 4 t then 4 else if bandReached 3 t then 3 else if bandReached 2 t then 2 else if bandReached 1 t then 1 else 0

/-- The temperature band follows TMAX (R381); after a reset it follows the first reading of T0. -/
def State.bandStep (s : State) (t0 : Int) : State :=
  let b := s.thm.band
  let put := fun n => { s with thm := { s.thm with band := n, bandAt := some s.clk, bandWas := b } }
  if !s.thm.started then { s with thm := { s.thm with band := bandOf t0 } }
  else if (match s.thm.bandAt with | some t => !s.since t (100 * msTicks) | none => false) then s
  else if b < 4 ∧ bandReached (b + 1) s.thm.tmax then put (b + 1)
  else if 0 < b ∧ s.thm.tmax ≤ bandLow b - 128 then put (b - 1)
  else s

/-- Shutdown begins when TMAX reaches SHUT_T, and the park and the hold end below SHUT_T − SHUT_HYST (R383 to R385). DEDUCED, log entry 110. -/
def State.shutStep (s : State) : State :=
  let above := decide (s.shutT ≤ s.thm.tmax)
  let start := above && !s.thm.shutOver
  let low := decide (s.thm.tmax < s.shutLow)
  { s with thm :=
      { s.thm with
        shutOver := above, nvmHold := start || (s.thm.nvmHold && !low), shutDue := start || s.thm.shutDue
        parked := s.thm.parked && !low } }

/-- SENSOR_STEP (R370 to R385): the six readings of a step, at a multiple of 200,000 ticks, in WATCH once at the start of a burst. DEDUCED, log entry 6. -/
def execSensorStep (dt : Nat) (readings : List Int) (s : State) : Out :=
  let s := s.elapse dt
  let watch := decide (s.pwr.mode = .watch)
  if s.pwr.mode = .reset ∨ ¬s.coreOn ∨ (watch ∧ s.thm.started ∧ s.pwr.burstAt ≤ s.thm.stepAt) then .next s
  else
    let s := if watch then s
      else (if s.thm.started && decide (s.thm.stepAt = s.clk) then s.elapse 1 else s).untilMod msTicks 0
    let r := fun k => readings.getD k 0
    let s := (s.modelStep (r 0)).ambientStep r
    let (srcs, dis, rises, s) := sensNos.foldl (fun a k => State.sensStep a k (r k)) ([], 0, [], s)
    let (n, s) := s.degradeStep
    let (hk, top) := (greatest (sensNos.map (fun k => (k, (s.sens k).eff)))).getD (0, 0)
    let (rk, rate) := (greatest rises).getD (0, 0)
    let s := { s with thm := { s.thm with tmax := top, hottest := hk, rateSens := rk, rate := rate } }
    let s := (s.bandStep (r 0)).shutStep
    let (thr, s) := s.throttleStep
    let s := { s with thm := { s.thm with started := true, stepAt := s.clk } }
    .next (s.present (srcs ++ (if 0 < dis + n then [119] else []) ++ thr))

/-- GRACE_EXPIRY (R379): the grace timer expires; in WATCH, in the first burst at or after its end. -/
def execGraceExpiry (dt : Nat) (s : State) : Out :=
  let s := s.elapse dt
  if s.thm.thr = .requested ∧ s.coreOn then
    let s := s.untilTb (BitVec.ofNat 64 s.thm.graceEnd)
    .next (if s.thm.tmax < s.thrLow then { s with thm := { s.thm with thr := .idle } } else s.enforce.present1 121)
  else .next s

/-- THERMAL_SHUTDOWN (R383, R385): no page write is in progress any longer; the source is presented and the chain is parked. DEDUCED, log entry 110. -/
def execThermalShutdown (dt : Nat) (s : State) : Out :=
  let s := s.elapse dt
  if s.thm.shutDue then
    let s := { s with thm := { s.thm with shutDue := false, parked := true, cntShut := inc 65535 s.thm.cntShut } }
    .next (s.present1 122)
  else .next s

/-- Replaced sensors are restored (R375): each is judged again from the next step; DEGRADED ends where fewer than three stay replaced
(R376). -/
def State.restoreSens (s : State) (mask : Nat) : State :=
  let s := (bitsOf 6 mask).foldl (fun (s : State) k =>
    s.setSens k (fun q => if q.replaced then { q with replaced := false, disSince := none } else q)) s
  { s with thm := { s.thm with degraded := s.thm.degraded && s.manyReplaced } }

end Sys2Proof.Machine
end

