-- ==== Sys2Proof/Machine/SelfTest.lean ====
section
/-! DEFINITION. Machine/SelfTest.lean: slices, campaigns, confirmation, repairs and the stored repair map (R387 to R407). -/

namespace Sys2Proof.Machine

/-! ## Repairs -/

/-- The lowest-numbered spare that may replace a modulator for good: free under R33, its last SMOD slice passed (R403). One that self-test has
not cleared is not used (R114). -/
def State.substFor (s : State) : Option Nat :=
  (List.range 4).find? (fun i => (s.spare i).used.isNone && !(s.spare i).bad && decide ((s.unitOf (48 + i)).last = 1))

/-- The marker of a spare that is retired: it counts as permanently assigned and serves no side (R403). -/
def retiredMark : Nat := 255

/-- A spare is assigned to modulator `m` for good: one that serves its side keeps it, one that serves another gives that back first, and no
spare goes to an unused cell (R93, R115, Table 16.5). -/
def State.assignSpare (s : State) (i m : Nat) : State :=
  let was := (s.spare i).serves
  let s := s.setSpare i (fun p => { p with used := some m, visit := none, stand := none, due := none })
  let s := s.modXbar i (fun x => { x with repair := true })
  if was = some m ∨ ¬s.used (m / 2 + 1) then s.seatRepair i
  else match was with
    | some c => ((s.setSpare i (fun p => { p with stand := some c, due := some .leave })).handDue i).handDue i
    | none => (s.askSide i m).handDue i

/-- The repair of cell modulator `m` is entered (R404, Table 16.5): the substitute takes its side at the next window boundary (R115). What is
presented, and the state. -/
def State.repairCell (s : State) (m cause : Nat) : List Nat × State :=
  match s.substFor with
  | some i => ([148], ((((s.assignSpare i m).giveBack m).handsDue).addEntry ⟨1, cause, m, 48 + i⟩).notePower)
  | none => (s.exhaustFor ⟨5, cause, m, 0xFFFF⟩, ((s.giveBack m).handsDue).addEntry ⟨5, cause, m, 0xFFFF⟩)

/-- The repair of spare `i` is entered (Table 16.5): it gives back the side that it serves at a window boundary and is retired, and the
modulator that it was standing in for is repaired again. What is presented, and the state. -/
def State.retireSpare (s : State) (i cause : Nat) : List Nat × State :=
  let side := (s.spare i).serves
  let s := s.setSpare i (fun p =>
    { p with used := some retiredMark, visit := none, stand := side.filter (· < 48), due := if side.any (· < 48) then some .leave else none })
  let s := if side.any (· < 48) then s else s.seatRepair i
  let s := s.addEntry ⟨2, cause, 48 + i, 0xFFFF⟩
  match side with
  | some m => if m < 48 then let (l, s) := s.repairCell m cause; (148 :: l, s.handDue i) else ([148], s)
  | none => ([148], s)

/-- A repair of a cell modulator or a spare takes effect in one cycle with all that it presents (R358, R403). -/
def State.repairIn (r : List Nat × State) : State :=
  let (new, s) := r.2.pauseStep
  s.present (if new then 147 :: r.1 else r.1)

/-- A confirmed FAIL of unit `u` is repaired (R403, R404, Table 16.5). DEDUCED, log entry 112. -/
def State.repairUnit (s : State) (u cause : Nat) : State :=
  let s := s.setUnit u (fun r => { r with conf := false, first := false })
  if u < 48 then State.repairIn (s.repairCell u cause)
  else if u < 52 then State.repairIn (s.retireSpare (u - 48) cause)
  else if 64 ≤ u ∧ u < 328 then s.repairPage (u - 64) cause
  else s.repaired ⟨5, cause, u, 0xFFFF⟩

/-! ## Service requests (R395) -/

/-- The open-wire phase in progress needs the sink of tap `t` (R84). -/
def State.owUses (s : State) (t : Nat) : Bool :=
  match s.cfe.run with
  | some r => (s.owTaps r.phase).contains t
  | none => false

/-- A page is held by a stream. -/
def State.pageHeld (s : State) (p : Nat) : Bool :=
  (List.range 16).any (fun m => (s.strm m).pages.any (fun x => decide (x.phys = p)))

/-- A service request for unit `u` has arisen that no spare serves (R395). -/
def State.sliceClash (s : State) (u : Nat) : Bool :=
  match kindOf u with
  | 1 => (s.standIn u).isNone && s.modHeld u
  | 2 => (match s.roleOf u with | some m => s.modHeld m | none => false)
  | 3 => s.modHeld u
  | 4 => s.pageHeld (u - 64)
  | 5 => (match s.spc.run with | some r => decide (r.phase ≠ SpcPhase.notStarted) && (s.runCells r).contains (u - 327) | none => false)
  | 6 => (s.chkOf (u - 352)).active
  | 8 => s.owUses (u - 392)
  | _ => false

/-- What a slice runs under has ended: the CUT code that its end takes (R394, R401, Table 16.8). DEDUCED, log entry 111. -/
def State.mustCut (s : State) (x : Slice) : Option Nat :=
  match x.of_ with
  | .camp =>
    match s.oper 2 with
    | some o =>
      match o.st with
      | .running => if !s.stw then some 4 else if o.pend then some 2 else none
      | .suspended => if !s.stw then some 4 else some 2
      | _ => some 3
    | none => some 3
  | .back => if !s.stw then some 4 else if !s.sliceMode then some 3 else none
  | .visit sp =>
    if !s.stw then some 4
    else if !s.sliceMode then some 3
    else match (s.spare sp).visit with
      | some v => if v.step = .sliceSpare ∨ v.step = .sliceMod then none else some 3
      | none => some 3

/-! ## The campaign (R398 to R401) -/

/-- The units of a campaign in its order (R399). -/
def campOrder : List Nat :=
  (List.range 4).map (· + 48) ++ List.range 48 ++ (List.range 12).map (· + 52) ++ (List.range 24).map (· + 328) ++
    (List.range 16).map (· + 352) ++ (List.range 264).map (· + 64) ++ (List.range 24).map (· + 368) ++
    (List.range 25).map (· + 392)

/-- A unit is not testable at its turn (R400); neither is the switch of a cell whose output stays open (R248). DEDUCED, log entry 111. -/
def State.campSkip (s : State) (u : Nat) : Bool :=
  match kindOf u with
  | 1 => !s.used (u / 2 + 1) || (List.range 4).any (fun i => decide ((s.spare i).used = some u))
  | 4 => s.pageHeld (u - 64)
  | 6 => (s.chkOf (u - 352)).active
  | 7 =>
    let n := u - 367
    !s.used n || s.busbar n || (s.bal n).xfet || (s.bal n).hold || s.throttled || s.stopped
  | 8 => decide (s.ncells < u - 392)
  | _ => false

/-- The spare that stands in for a cell modulator in a campaign: free, with its own SMOD slice passed (R399). -/
def State.campSpare (s : State) : Option Nat :=
  (List.range 4).find? (fun i =>
    let p := s.spare i
    p.idle && decide ((s.unitOf (48 + i)).camp = 1))

/-- The campaign ends with its confirmed failures repaired (R401, Table 16.4). -/
def State.campEnd (s : State) (st : OpSt) (cause : Nat) : State :=
  match s.bst.camp with
  | none => s
  | some c =>
    let s := { s with bst := { s.bst with camp := none } }
    let s := c.fails.foldl (fun (s : State) u =>
      if s.bit 0x1D01 30 then s.repairUnit u 1 else s.setUnit u (fun r => { r with conf := true, first := false })) s
    let s := match c.todo with
      | u :: _ => if u < 48 ∧ ¬(s.unitOf u).first then (s.giveBack u).handsDue else s
      | [] => s
    let code := if st = .done then (if c.fails ≠ [] then 1 else if c.inc then 2 else 0) else 0
    s.endOp 2 st cause code

/-- The campaign starts its next slice, passing over units that are skipped (R399, R400). A cell modulator waits for the window
boundary at which a spare takes its side; a unit that serves a request waits until it has served it (R395). DEDUCED, log entry 111. -/
def State.campNext : Nat → State → State
  | 0, s => s
  | n + 1, s =>
    match s.bst.camp with
    | none => s
    | some c =>
      if !(s.opIs 2 .running && s.stw) || s.bst.slices.any (fun x => decide (x.of_ = SliceOf.camp)) then s
      else match c.todo with
        | [] => s.campEnd .done 1
        | u :: t =>
          if s.campSkip u then
            State.campNext n
              (({ s with bst := { s.bst with camp := some { c with todo := t, reruns := 0 } } }).setUnit u (fun r => { r with camp := 4 }))
          else if u < 48 ∧ (s.standIn u).isNone then
            match s.campSpare with
            | some i =>
              if s.atBoundary u then ((s.askSide i u).handDue i).startTest u .camp else s
            | none => if s.sliceClash u then s else s.startTest u .camp
          else if s.sliceClash u then s
          else s.startTest u .camp

/-- A campaign is requested (R398). -/
def State.campStart (s : State) (rq : Requester) : State :=
  let res := fun (s : State) n => { s with bst := { s.bst with startRes := n } }
  if s.pwr.mode ≠ .selftest then res s 2
  else if (s.oper 2).isSome then res s 3
  else
    let (tag, s) := s.startOp 2 rq
    let s := (res s 1)
    let s := (List.range 417).foldl (fun (s : State) u => if (s.unitOf u).camp = 0 then s else s.setUnit u (fun r => { r with camp := 0 })) s
    let s := { s with bst := { s.bst with tag := tag, camp := some ⟨tag, campOrder, 0, [], false⟩ } }
    State.campNext 420 s

/-- A cell modulator goes back to service: its stand-in hands back at the next window boundary. DEDUCED, log entry 52. -/
def State.handBackOf (s : State) (m : Nat) (step : VisitStep) : State :=
  (List.range 4).foldl (fun (s : State) i =>
    if (s.spare i).stand = some m then s.setSpare i (fun p => { p with stand := none, visit := some ⟨m, step, 0, s.clk⟩ })
    else s) s

/-- What follows the end of a campaign's slice: a rerun, a confirming slice, or the next unit (R399, R402). -/
def State.campAfter (s : State) (u res : Nat) : State :=
  match s.bst.camp with
  | none => s
  | some c =>
    let rerun := decide (res = 3) && decide (c.reruns < 3)
    let first := decide (res = 2) && !(s.unitOf u).first
    let c' : Camp :=
      if rerun then { c with reruns := c.reruns + 1 }
      else if first then { c with reruns := 0 }
      else
        { c with
          todo := c.todo.drop 1, reruns := 0, fails := if res = 2 then c.fails ++ [u] else c.fails, inc := c.inc || decide (res = 3) }
    let clear := decide (res = 1) && (s.unitOf u).first && decide (48 ≤ u) && decide (u < 52)
    let s := if clear then s.setSpare (u - 48) (fun p => { p with bad := false }) else s
    let s := s.setUnit u (fun r => { r with first := first || (decide (res = 3) && r.first), cause := if first then 1 else r.cause })
    let s := if u < 48 ∧ ¬rerun ∧ ¬first then (s.giveBack u).handsDue else s
    State.campNext 420 { s with bst := { s.bst with camp := some c' } }

/-! ## Ends of slices -/

/-- The cell modulator whose side unit `u` belongs to: its own, or that of a spare which the repair map has put in its place. -/
def State.sideUnit (s : State) (u : Nat) : Option Nat :=
  if u < 48 then some u else if u < 52 then (s.spare (u - 48)).used.filter (· < 48) else none

/-- A unit has passed its confirming slice (R402, R404): a modulator goes back to service, a spare is used again. -/
def State.cleared (s : State) (u : Nat) : State :=
  let s := if 48 ≤ u ∧ u < 52 then s.setSpare (u - 48) (fun p => { p with bad := false }) else s
  match s.sideUnit u with
  | some m =>
    let step : VisitStep := if (s.unitOf u).cause ≠ 2 then .backDue else if s.pauseCause = 0 then .match2 else .rejoin
    (s.handBackOf m step).rejoinCell m
  | none => s

/-- What follows the end of a slice outside a campaign (R402 to R404): the visit goes on, a confirming slice becomes due, a unit
returns to service or is repaired. -/
def State.backAfter (s : State) (x : Slice) (res : Nat) : State :=
  let u := x.unit
  let r := s.unitOf u
  let s :=
    if res = 1 then
      let s := s.setUnit u (fun r => { r with first := false })
      if r.first then s.cleared u else s
    else if res = 2 then
      if r.first then
        let s := s.setUnit u (fun r => { r with first := false })
        if s.bit 0x1D01 30 then s.repairUnit u r.cause else s.setUnit u (fun r => { r with conf := true })
      else s.setUnit u (fun r => { r with first := true, cause := 1, mate := match x.of_ with | .visit sp => sp | _ => 4 })
    else s
  match x.of_ with
  | .visit sp =>
    match (s.spare sp).visit with
    | some v =>
      if res = 2 then
        if v.step = .sliceSpare then (s.setSpare sp (fun p => { p with bad := true })).parkSpare sp
        else s.setSpare sp (fun p => { p with visit := none, stand := some v.m })
      else if v.step = .sliceSpare then (s.setVisit sp { v with step := .calSpare, since := s.clk }).sweepXbar sp pointTicks
      else if s.pauseCause = 0 then (s.setVisit sp { v with step := .match2, tries := 0, since := s.clk }).rejoinCell v.m
      else s.setVisit sp { v with step := .rejoin, since := s.clk }
    | none => s
  | _ => s

/-- A slice ends with a result and all that follows it. -/
def State.endSlice (s : State) (x : Slice) (res cut : Nat) (sig : Option Word) : State :=
  let s := (s.sliceOver x.unit res cut sig).endTest x.unit
  if x.of_ = .camp then (if cut = 2 ∨ cut = 3 ∨ cut = 4 then s else s.campAfter x.unit res) else s.backAfter x res

/-- The conditions of R391 besides the signature: offset, gain and noise of a modulator, for which twice the typical value at OSR 8,192
is 12 µV (Table 4.5); current and comparator of a switch; current of a sink. -/
def State.measOk (s : State) (u : Nat) (m : SliceMeas) : Bool :=
  let k := kindOf u
  if k ≤ 3 then coefOk u m.offset m.gain && decide (m.noise ≤ 120)
  else if k = 7 then !s.curLow (u - 367) m.current && !s.curHigh (u - 367) m.current && m.tripped
  else if k = 8 then
    let set := 500 * 2 ^ s.fld 0x403 0 2
    decide (9 * set ≤ 10 * m.current) && decide (10 * m.current ≤ 11 * set)
  else true

/-- The signature register after one more response word (R390): the register moves one place towards its high end, its top bit feeds back
through x^32 + x^22 + x^2 + x + 1, and the word is added. DESIGN CHOICE, log entry 22. -/
def misrStep (r w : Word) : Word := (r <<< 1 ^^^ if r.msb then 0x00400007 else 0) ^^^ w

/-- The signature of the response words of a slice (R390). -/
def misr (ws : List Word) : Word := ws.foldl misrStep 0xFFFFFFFF

/-- SLICE_END (R390, R391): every step of the slice of unit `unit` has run, and its unit has given the response words `resp`. DEDUCED, log
entries 6 and 111; DESIGN CHOICE, log entry 22. -/
def execSliceEnd (dt unit : Nat) (resp : List Word) (meas : SliceMeas) (s : State) : Out :=
  let s := State.campNext 420 (s.elapse dt)
  let sig := misr resp
  match s.sliceOf unit with
  | some x =>
    if (s.mustCut x).isSome ∨ s.sliceClash unit ∨ x.since + sliceBudget unit < s.clk then .next s
    else .next (s.endSlice x (if s.measOk unit meas ∧ sig = Config.goldenSig (kindOf unit) then 1 else 2) 0 (some sig))
  | none => .next s

/-- SLICE_BUDGET_EXPIRY (R388). -/
def execSliceBudgetExpiry (dt unit : Nat) (s : State) : Out :=
  let s := State.campNext 420 (s.elapse dt)
  match s.sliceOf unit with
  | some x => .next ((s.until_ (x.since + sliceBudget unit)).endSlice x 3 5 none)
  | none => .next s

/-- The requests that a slice of unit `unit` has kept waiting, and the clock of the first (R395, R396). -/
def State.lateReqs (s : State) (unit since : Nat) : Nat × Nat :=
  let m := if unit < 48 ∨ 52 ≤ unit then unit else (s.roleOf unit).getD 255
  let l := (s.convs.filter (fun (c : Conv) => c.granted && c.needs.contains m)).map Conv.at_
  if kindOf unit = 5 then (1, max since (match s.spc.run with | some r => r.since | none => since))
  else (l.length, max since (l.foldl min s.clk))

/-- SLICE_CUT (R394 to R397, R401): a slice is cut at its safe point for the cause `cut` of BST_LAST.CUT; for a service request the unit is
reinitialised within 10 µs, in `reinit` ticks, in PAGE, CHK and OWSINK slices in the same cycle, and then serves. DEDUCED, log entry
111. -/
def execSliceCut (dt unit cut reinit : Nat) (s : State) : Out :=
  let s := State.campNext 420 (s.elapse dt)
  match s.sliceOf unit with
  | some x =>
    if cut = 1 ∧ s.sliceClash unit then
      let late := decide (kindOf unit ≠ 4) && decide (kindOf unit ≠ 6) && decide (kindOf unit ≠ 8)
      let (n, at_) := s.lateReqs unit x.since
      let s := s.endSlice x 3 1 none
      if late then
        let s := (s.elapse (min reinit (10 * usTicks))).serveLate unit
        .next { s with bst :=
            { s.bst with lateN := min 65535 (s.bst.lateN + n), lateMax := max s.bst.lateMax (min 65535 (s.clk - at_)) } }
      else .next (s.serveLate unit)
    else if cut ≠ 0 ∧ s.mustCut x = some cut then .next (s.endSlice x 3 cut none)
    else .next s
  | none => .next s

/-! ## Background slices -/

/-- A unit of kinds 3 to 6 is free for a slice in the background (R393). -/
def State.bgFree (s : State) (u : Nat) : Bool :=
  match kindOf u with
  | 3 => !(s.modHeld u) && s.since (s.modul u).busyAt (30 * msTicks)
  | 4 => !s.pageHeld (u - 64)
  | 5 => s.spc.run.isNone
  | 6 => !(s.chkOf (u - 352)).active
  | _ => false

/-- A background unit is due (R393). -/
def State.bgDue (s : State) (u : Nat) : Bool := s.bit 0x1D01 (8 + kindOf u - 3) && s.bgFree u

/-- A background slice of kinds 3 to 6 runs. -/
def State.bgBusy (s : State) : Bool := s.bst.slices.any (fun x => decide (3 ≤ kindOf x.unit) && decide (x.of_ = SliceOf.back))

/-- The next background unit in ascending order from `bst.next`, then from the first again. -/
def State.bgNext (s : State) : Option Nat :=
  let all := (List.range 316).map (· + 52)
  match all.find? (fun u => decide (s.bst.next ≤ u) && s.bgDue u) with
  | some u => some u
  | none => all.find? s.bgDue

/-- BACKGROUND_SLICE (R393, R394): a turn of the background scheduler, every BG_PERIOD × 10 ms. -/
def execBackgroundSlice (dt : Nat) (s : State) : Out :=
  let s := s.elapse dt
  if !s.bgOn || s.bgBusy then .next s
  else
    let s := s.until_ (s.bst.bgAt + atLeast1 (s.fld 0x1D01 16 8) * 10 * msTicks)
    let s := { s with bst := { s.bst with bgAt := s.clk } }
    let again := match s.bst.bgUnit with
      | some u => if (s.unitOf u).last = 3 ∧ s.bst.tries < s.fld 0x1D01 0 4 ∧ s.bgDue u then some u else none
      | none => none
    match again with
    | some u => .next (({ s with bst := { s.bst with tries := s.bst.tries + 1 } }).startTest u .back)
    | none =>
      match s.bgNext with
      | some u =>
        .next (({ s with bst := { s.bst with bgUnit := some u, tries := 0, next := if u = 367 then 52 else u + 1 } }).startTest u .back)
      | none => .next s

/-- A unit awaits its confirming slice (R402). -/
def State.confDue (s : State) (u : Nat) : Bool := (s.unitOf u).first && (s.sliceOf u).isNone

/-- The confirming slice of unit `u` can start outside a campaign (R393, R397, R402): a modulator serves no side, a unit of kinds 3 to 6 is
free; switches and sinks are tested in a campaign only (Table 16.1). -/
def State.confReady (s : State) (u : Nat) : Bool :=
  match kindOf u with
  | 1 => s.used (u / 2 + 1) && (s.standIn u).isSome
  | 2 => (s.roleOf u).isNone && (s.spare (u - 48)).visit.isNone && (s.spare (u - 48)).due.isNone
  | _ => !s.bgBusy && s.bgFree u

/-- The spare that takes a side for the confirming slice of unit `u` (R402): the visit's, else the lowest-numbered idle one. -/
def State.confSpare (s : State) (u : Nat) : Option Nat :=
  let ok := fun i => (s.spare i).idle && !(s.spare i).bad && decide (48 + i ≠ u)
  let mate := (s.unitOf u).mate
  if mate < 4 ∧ (s.spare mate).used.isNone ∧ ¬(s.spare mate).bad then (if ok mate then some mate else none)
  else (List.range 4).find? ok

/-- A spare is asked to take the side of unit `u` for its confirming slice, unless one has been (R115, R402). -/
def State.confAsk (s : State) (u : Nat) : State :=
  match s.sideUnit u with
  | some m =>
    if s.used (m / 2 + 1) ∧ (List.range 4).all (fun i => decide ((s.spare i).due ≠ some (.take m))) then
      match s.confSpare u with
      | some i => (s.askSide i m).handDue i
      | none => s
    else s
  | none => s

/-- CONFIRM_SLICE (R402, R404): within 100 ms the lowest unit with a first FAIL that can be tested gets its confirming slice; a cell modulator
waits until a spare stands in, a spare is parked. -/
def execConfirmSlice (dt : Nat) (s : State) : Out :=
  let s := (s.elapse dt).handsDue
  if !(s.stw && s.sliceMode && s.bst.camp.isNone) then .next s
  else
    let s := ((List.range 52).filter (fun u => s.confDue u && !s.confReady u)).foldl State.confAsk s
    match (List.range 368).find? (fun u => s.confDue u && s.confReady u) with
    | some u => .next (s.startTest u .back)
    | none => .next s

/-! ## The stored map and MRAM rows -/

/-- REPAIR_MAP_STORE (R406): the map is written into the copy not in use and, where it verifies, becomes the one in use. -/
def execRepairMapStore (dt : Nat) (ok : Bool) (s : State) : Out :=
  let s := s.elapse dt
  if s.bst.mapPend ∧ s.stw ∧ ¬s.mramHeld then
    let s := s.pageDone (if s.bst.useB then 0xB4800 else 0xB4C00) 0x400
    let gen := (if s.bst.useB then s.bst.copyB else s.bst.copyA).gen
    let new : MapCopy := ⟨ok, (gen + 1) % 2 ^ 32, s.bst.entries⟩
    let toB := !s.bst.useB
    let s := { s with bst := if toB then { s.bst with copyB := new } else { s.bst with copyA := new } }
    .next (if ok then { s with bst := { s.bst with useB := toB, mapPend := false } } else s)
  else .next s

/-- MRAM_ROW_REPAIR (R405, R412): a reported row is read through its code, copied to the lowest free spare row and switched over. Words that were uncorrectable stay so. DEDUCED, log entry 114. -/
def execMramRowRepair (dt row : Nat) (s : State) : Out :=
  let s := s.elapse dt
  if s.nvm.rowDue.contains row ∧ ¬s.mramHeld then
    match (List.range 64).find? (fun k => s.nvm.rows.all (fun e => decide (e.2 ≠ k))) with
    | some k =>
      let s := (s.mramRead (1024 * row) 1024).2
      let s := { s with nvm := { s.nvm with rowDue := s.nvm.rowDue.filter (fun r => decide (r ≠ row)), pulse := pulseOf s.thm.band } }
      let s := { s with
        nvm := { s.nvm with
          rows := (row, k) :: s.nvm.rows, rowErrs := Sparse.set 0 s.nvm.rowErrs row 0
          hotWords := s.nvm.hotWords.filter (fun w => decide (rowOf w ≠ row)) }
        ecc := s.ecc.filter (fun e => !(decide (e.1 = EccArea.mram) && decide (rowOf e.2.1 = row) && !e.2.2)) }
      .next (s.repaired ⟨4, 4, row, k⟩)
    | none =>
      .next ({ s with nvm := { s.nvm with rowDue := s.nvm.rowDue.filter (fun r => decide (r ≠ row)) } }.unrepaired row 4)
  else .next s

end Sys2Proof.Machine
end

