-- ==== Sys2Proof/Machine/Ledger.lean ====
section
/-! DEFINITION. Machine/Ledger.lean: page writes, the scrub, the ledger, the pack binding and the customer area (R410 to R419, R423). -/

namespace Sys2Proof.Machine

/-! ## Page writes -/

/-- MRAM_PAGE_WRITE (R410): the oldest requested page write is carried out where no hold applies (R36, R383). DEDUCED, log entry 113. -/
def execMramPageWrite (dt : Nat) (s : State) : Out :=
  let s := (s.elapse dt).feedsMram
  match s.nvm.wq with
  | w :: t => .next (if s.mramHeld then s else ({ s with nvm := { s.nvm with wq := t } }).pageWrite w)
  | [] => .next s

/-! ## Scrub (R413) -/

/-- A scrub starts, where none is unfinished, in one of the modes 4 to 10 (Table 7.9). -/
def State.scrubBegin (s : State) (rq : Requester) : State :=
  if s.nvm.scrub.isSome || !s.modeIn 4 10 then s
  else
    let (tag, s) := s.startOp 5 rq
    { s with nvm := { s.nvm with scrub := some (tag, 0, false), scrubAt := s.clk, pageAt := s.clk } }

/-- Ticks of a scrub period. -/
def State.scrubTicks (s : State) : Nat := atLeast1 (s.fld 0x1E02 16 8) * 3600000 * msTicks

/-- The scrub ends (R413, R224). -/
def State.scrubEnd (s : State) (st : OpSt) (cause : Nat) : State :=
  match s.nvm.scrub with
  | some (_, _, bad) =>
    let s := { s with nvm := { s.nvm with scrub := none, passes := if st = OpSt.done then (s.nvm.passes + 1) % 65536 else s.nvm.passes } }
    s.endOp 5 st cause (if st = OpSt.done then b2n bad else 0)
  | none => s

/-- SCRUB_PAGE (R413): one page of 256 bytes is read through its code each millisecond. -/
def execScrubPage (dt : Nat) (s : State) : Out :=
  let s := s.elapse dt
  match s.nvm.scrub with
  | some (tag, p, bad) =>
    if s.stw && (match s.oper 5 with | some o => decide (o.st = .running) && !o.pend | none => false) then
      let s := s.until_ (s.nvm.pageAt + msTicks)
      let (good, s) := s.mramRead (256 * p) 256
      let s := { s with nvm := { s.nvm with scrub := some (tag, p + 1, bad || !good), pageAt := s.clk } }
      .next (if p = 4095 then s.scrubEnd .done 1 else s)
    else .next s
  | none => .next s

/-! ## Ledger -/

/-- The code of a record kind in a FAULT entry (Table 17.3). -/
def RecKind.code : RecKind → Nat
  | .first => 1 | .escalated => 2 | .cleared => 3 | .secondary => 4 | .reaction => 5

/-- The FAULT entry of a record (Table 17.3). -/
def FltRec.entry (r : FltRec) : LedgEnt :=
  { kind := 1, source := r.src, time := r.time
    data := leBytes 1 r.kind.code ++ leBytes 1 (r.cls * 64 + b2n r.sec * 32 + r.react) ++ leBytes 2 r.cnt ++ leBytes 8 r.first.toNat }

/-- The 32 bytes of an entry (Table 17.2). -/
def LedgEnt.bytes (e : LedgEnt) (seq : Nat) : Bytes :=
  let b := leBytes 4 seq ++ leBytes 1 e.kind ++ leBytes 1 0 ++ leBytes 2 e.source ++ leBytes 8 e.time.toNat ++ e.data
  b ++ leBytes 4 (crc32c b)

/-- The address of a ledger slot. -/
def ledgAddr (i : Nat) : Nat := 0xA4000 + 32 * i

/-- An entry is written into the slot after the newest entry (R414). -/
def State.ledgPut (s : State) (e : LedgEnt) : State :=
  let i := (s.nvm.head + 1) % 2048
  let q := (s.nvm.lastSeq + 1) % 2 ^ 32
  let s := s.mramStore (ledgAddr i) (e.bytes q)
  { s with nvm := { s.nvm with head := i, lastSeq := q, wrapped := s.nvm.wrapped || decide (i = 2047) } }

/-- LEDGER_WRITE (R366, R414, R415): the steward writes the oldest entry that is due: start-up and occasional entries, then a LOST entry
where FLT_REC.LOST has risen, then the queued fault records. Page writes requested before it come first, and what feeds have read by now is
read before it. DEDUCED, log entries 101 and 113. -/
def execLedgerWrite (dt : Nat) (s : State) : Out :=
  let s := (s.elapse dt).feedsMram
  if s.stw ∧ ¬s.mramHeld then
    match s.nvm.ledgDue with
    | e :: t => .next (({ s with nvm := { s.nvm with ledgDue := t } }).flushWrites.ledgPut e)
    | [] =>
      if s.nvm.lostSeen < s.flt.lost then
        .next (({ s with nvm := { s.nvm with lostSeen := s.flt.lost } }).flushWrites.ledgPut
          ⟨8, 0xFFFF, s.tb, leBytes 1 s.flt.lost ++ leBytes 11 0⟩)
      else match s.flt.queue with
        | r :: t => .next (({ s with flt := { s.flt with queue := t } }).flushWrites.ledgPut r.entry)
        | [] => .next s
  else .next s

/-- A ledger slot is read through its code: SEQ of its entry, none where its CHECK is not valid (R411, R415, Table 17.2), and the state after. -/
def State.ledgSeq (s : State) (i : Nat) : Option Nat × State :=
  let b := s.mramBytes (ledgAddr i) 32
  let (good, s) := s.mramRead (ledgAddr i) 32
  (if good ∧ leField b 28 4 = crc32c (b.take 28) then some (leField b 0 4) else none, s)

/-- The steward takes the entry with a valid CHECK and the highest SEQ as the newest (R415). -/
def State.ledgScan (s : State) : State :=
  let (newest, s) := (List.range 2048).foldl (fun (r : (Nat × Nat) × State) i =>
    match r.2.ledgSeq i with
    | (some q, s) => (if r.1.2 < q then (i, q) else r.1, s)
    | (none, s) => (r.1, s)) ((2047, 0), s)
  { s with nvm := { s.nvm with head := newest.1, lastSeq := newest.2 } }

/-! ## Binding -/

/-- The pack ID, position and counter in use; an unbound device where no copy is valid (R417). -/
def State.bound (s : State) : BindCopy := s.binding.getD ⟨true, 0, 0, 0⟩

/-- The expected pack ID. -/
def State.expPack (s : State) : BitVec 128 := s.eff 0x1E1B ++ s.eff 0x1E1A ++ s.eff 0x1E19 ++ s.eff 0x1E18

/-- The live bit of BINDING_MISMATCH (R419). -/
def State.bindWrong (s : State) : Bool :=
  s.bit 0x1E1C 31 &&
    (decide (s.bound.pack = 0) || decide (s.bound.pack ≠ s.expPack) ||
      (match s.addr with | some a => decide (s.bound.pos ≠ a) | none => false))

/-- The live bit of BINDING_MISMATCH is brought up to date; its rise is presented (R419). -/
def State.bindCheck (s : State) : State :=
  let now := s.bindWrong
  let rise := now && !s.nvm.bindMis
  let s := { s with nvm := { s.nvm with bindMis := now } }
  if rise then s.present1 156 else s

/-- A write of NVM_BCTL.KEY by the lock owner (R418). `none`: refused. -/
def State.bindKey (s : State) (key : Nat) : Option State :=
  if key = 0xB1D5 ∨ key = 0x0B1D then
    if s.nvm.bindBusy.isSome ∨ s.bound.cnt = 0xFFFFFFFF then none
    else
      let pack : BitVec 128 := if key = 0xB1D5 then s.eff 0x1E33 ++ s.eff 0x1E32 ++ s.eff 0x1E31 ++ s.eff 0x1E30 else 0
      some { s with nvm := { s.nvm with bindBusy := some ⟨true, pack, s.fld 0x1E14 0 8, s.bound.cnt + 1⟩ } }
  else some s

/-- BINDING_WRITE_DONE (R417, R418): the copy not in use is written and verified, becomes the copy in use and is logged. -/
def execBindingWriteDone (dt : Nat) (ok : Bool) (s : State) : Out :=
  let s := s.elapse dt
  match s.nvm.bindBusy with
  | some c =>
    if s.mramHeld then .next s
    else
      let c := { c with ok := ok }
      let toB := decide (s.binding = some s.nvm.bindA)
      let s := s.pageDone (if toB then 0xB4440 else 0xB4400) 0x40
      let s := { s with nvm := if toB then { s.nvm with bindB := c, bindBusy := none } else { s.nvm with bindA := c, bindBusy := none } }
      let s := if ok then
          s.ledger ⟨5, 0xFFFF, s.tb, leBytes 1 c.pos ++ leBytes 3 0 ++ leBytes 4 c.cnt ++ leBytes 4 c.pack.toNat⟩
        else s
      .next s.bindCheck
  | none => .next s

/-! ## Customer area -/

/-- The byte address of the customer word that a selector names (Table 17.14). -/
def custAddr (sel : Word) : Nat := 0xB5000 + 4 * min 76799 (Sys2Proof.fld sel 0 17)

/-- A customer word written by read-modify-write of its 64-bit word, which is read when its page write is carried out (R423). -/
def State.custWrite (s : State) (rq : Requester) (v : Word) : State := s.mramPut (custAddr (s.bank rq).caddr) (leBytes 4 v.toNat)

/-- A customer word read: all ones where its 64-bit word is uncorrectable (R411). -/
def State.custRead (s : State) (rq : Requester) : Word × State :=
  let a := custAddr (s.bank rq).caddr
  let w := BitVec.ofNat 32 (leNat (s.mramBytes a 4))
  let (good, s) := s.mramRead a 4
  (if good then w else 0xFFFFFFFF, s)

/-! ## The steward's and the collector's timed actions -/

/-- SHADOW_END (R363): a balance or mode shadow closes. -/
def execShadowEnd (dt : Nat) (mode : Bool) (s : State) : Out :=
  let s := s.elapse dt
  match (if mode then s.flt.shadowM else s.flt.shadowB) with
  | some h =>
    let s := s.until_ h.ends
    .next { s with flt := if mode then { s.flt with shadowM := none } else { s.flt with shadowB := none } }
  | none => .next s

/-- FAULT_WINDOW_EXPIRY (R357): a counting window that has run W without reaching N closes. -/
def execFaultWindowExpiry (dt i : Nat) (s : State) : Out :=
  let s := s.elapse dt
  if i < 160 ∧ (s.fsrc i).winOpen then
    let s := s.elapseTb ((s.fsrc i).winStart + atLeast1 (s.fld (0x1B00 + i) 0 16) * msTicks - s.tbn).toNat
    .next (s.setFsrc i { s.fsrc i with winOpen := false })
  else .next s

/-- The steward writes its key (R367). -/
def State.aliveKey (s : State) : State :=
  if s.stw then { s with flt := { s.flt with stwAlive := true, stwKey := s.clk } } else s

/-- ALIVE_KEY (R367). -/
def execAliveKey (dt : Nat) (s : State) : Out := .next (s.elapse dt).aliveKey

/-- The conditions under which FLOW toggles (R368). DEDUCED, log entry 108. -/
def State.flowOk (s : State) : Bool :=
  decide (s.maxClass < 2) && s.flt.stwAlive && s.pwr.lpoOk && s.modeIn 3 10 && !s.bit 0x1A00 30

/-- FLOW_TOGGLE (R368): a boundary of the divider, 125 LPO cycles after the last. At the start of a period FLOW rises where every condition
holds, at its half it falls. DEDUCED, log entry 108. -/
def execFlowToggle (dt : Nat) (s : State) : Out :=
  let s := s.elapse dt
  if s.pwr.lpoRun then
    let s := s.until_ (s.flt.divAt + 98000)
    let high := !s.flt.divHigh
    .next { s with flt :=
      { s.flt with
        divAt := s.clk, divHigh := high, flow := high && s.flowOk, flowRun := s.flowOk && (high || s.flt.flowRun) } }
  else .next s

/-- FLOW_DROP (R368): a condition has failed and FLOW goes low. DEDUCED, log entry 108. -/
def execFlowDrop (dt : Nat) (s : State) : Out :=
  let s := s.elapse dt
  if s.flowOk then .next s else .next { s with flt := { s.flt with flow := false, flowRun := false } }

/-- Sticky bits of a group of 32 sources are cleared (R360). DEDUCED, log entry 107. -/
def State.stickyClear (s : State) (k : Nat) (v : Word) : State :=
  ((bitsOf 32 v.toNat).foldl (fun (s : State) j => s.clearSticky (32 * k + j)) s).unhold

/-- Secondary bits of a group of 32 sources are cleared (R364). -/
def State.secClear (s : State) (k : Nat) (v : Word) : State :=
  (bitsOf 32 v.toNat).foldl (fun (s : State) j => s.clearSec (32 * k + j)) s

/-- A write of FLT_CLRALL (R360). -/
def State.clearAll (s : State) : State :=
  ((List.range 160).foldl (fun (s : State) i => (s.clearSticky i).clearSec i) s).unhold

/-! ## Check-value channels and pages -/

/-- CHK_FEED_DONE (R333): the words of a feed have been processed, one in each core cycle, or it has ended at an uncorrectable one. DEDUCED, log entry 101. -/
def execChkFeedDone (dt n : Nat) (s : State) : Out :=
  let s := s.elapse dt
  match (s.chkOf n).feed with
  | some f => .next ((s.until_ (s.feedEnd f)).feedDone n)
  | none => .next s

/-- CHK_IDLE_RELEASE (R337): the owner of a channel has made no write to it for 100 ms. -/
def execChkIdleRelease (dt n : Nat) (s : State) : Out :=
  let s := s.elapse dt
  if (s.chkOf n).active then
    let s := s.until_ ((s.chkOf n).last + 100 * msTicks)
    .next (s.setChk n (fun c => { c.ended 3 with crc := 0 }))
  else .next s

/-- PAGE_AGE_CLOSE (R147, R152): the open page of a stream reaches its age limit, in every mode but LOCKOUT. DEDUCED, log entry 61. -/
def execPageAgeClose (dt stream : Nat) (s : State) : Out :=
  let s := s.elapse dt
  match (s.strm stream).openPage with
  | some p =>
    let age := s.fld (0xA10 + stream) 0 8
    if stream < 16 ∧ age ≠ 0 ∧ s.pwr.mode ≠ .lockout then .next ((s.until_ (p.opened + age * 10 * msTicks)).closePage stream) else .next s
  | none => .next s

end Sys2Proof.Machine
end

