-- ==== Sys2Proof/Machine/Session.lean ====
section
/-! DEFINITION. Machine/Session.lean: update sessions: images, their checks, the undo journal, and the end of a session (R420 to R430). -/

namespace Sys2Proof.Machine

/-! ## Images -/

/-- A field of an image header, least significant byte first (R420). -/
def hdrField (h : Bytes) (off len : Nat) : Nat := leField h off len

/-- What an image header says of the image (Table 17.5). -/
def hdrImg (h : Bytes) : Img :=
  { ver := put (hdrField h 0x18 1) 24 8 ||| put (hdrField h 0x19 1) 16 8 ||| put (hdrField h 0x1A 2) 0 16
    proto := hdrField h 0x1C 1, pmin := hdrField h 0x1D 1, pmax := hdrField h 0x1E 1
    schema := hdrField h 0x20 2, oldest := hdrField h 0x22 2 }

/-- The payload offset of the data of block `k` of an image that is not stored whole (R420). -/
def blockOff (k : Nat) : Nat := if k = 0 then 0 else 508 + 1020 * (k - 1)

/-- The payload bytes in the data of a block. -/
def blockData (k : Nat) (b : Bytes) : Bytes := if k = 0 then (b.drop 512).take 508 else b.take 1020

/-- The bounds of NBLK of a target (Table 17.6). -/
def nblkOk (target n : Nat) : Bool :=
  match target with
  | 1 => decide (1 ≤ n) && decide (n ≤ 256)
  | 2 => decide (n = 17)
  | 3 => decide (1 ≤ n) && decide (n ≤ 65)
  | 4 => decide (n = 9)
  | 5 => decide (n = 17)
  | _ => decide (n = 2)

/-- PAYLOAD_LEN fits its target (Tables 17.5, 17.6). -/
def lenOk (target nblk len : Nat) : Bool :=
  match target with
  | 1 => decide (len = nblk * 1024)
  | 2 => decide (len = 16384)
  | 3 => decide (len ≤ 65536)
  | 4 => decide (len = 8192)
  | 5 => decide (len = 16384)
  | _ => decide (len = 1024)

/-- Every byte of a part of a header is 0. -/
def hdrZero (h : Bytes) (off len : Nat) : Bool := ((h.drop off).take len).all (fun b => decide (b = 0))

/-- Check 1 of Table 17.7 passes. -/
def hdrOk (h : Bytes) (target : Nat) : Bool :=
  decide (h.length = 512) && decide (hdrField h 0 4 = 0xFA1E0B17) && decide (hdrField h 4 2 = 1) &&
    decide (hdrField h 6 1 = target) && decide (hdrField h 7 1 < 4) && decide (hdrField h 0xB 1 = 0) && hdrZero h 0x1F 1 &&
    hdrZero h 0x26 2 && hdrZero h 0x2C 84 && hdrZero h 0x120 224 && ((hdrField h 7 1).testBit 0 || hdrZero h 0xC 12) &&
    nblkOk target (hdrField h 0x24 2) && lenOk target (hdrField h 0x24 2) (hdrField h 0x28 4)

/-! ## The journal (R427, R428) -/

/-- Where block `k` of a journalled target lies. -/
def homeAddr (target k : Nat) : Nat := (if target = 1 then 0x8000 else progStore) + 1024 * k

/-- Journal slot `k`. -/
def slotAddr (k : Nat) : Nat := 0x48000 + 1024 * k

/-- The journal control with every waiting write done, IDLE where no copy is valid (R429). -/
def State.jrnOr (s : State) : Jrn := s.jrnNow.getD ⟨.idle, 0, 0, [], s.nvm.stored, s.nvm.stored⟩

/-- The journal control is written anew with generation plus one (R428). -/
def State.jrnStep (s : State) (f : Jrn → Jrn) : State :=
  let j := s.jrnOr
  s.jrnPut { f j with gen := j.gen + 1 }

/-- Block `k` of the target is copied into its slot and the slot marked, where it is not yet marked: whether every word was readable, and
the state after. OVERWRITING is set before the first mark. DEDUCED, log entry 120. -/
def State.journal (s : State) (target k : Nat) (new : Img) : Bool × State :=
  let s := if s.jrnOr.st = .overwriting then s
    else s.jrnStep (fun j => { j with st := .overwriting, target := target, slots := [], oldImg := s.nvm.stored, newImg := new })
  if s.jrnOr.slots.contains k then (true, s)
  else
    let old := s.mramBytes (homeAddr target k) 1024
    let (good, s) := s.mramRead (homeAddr target k) 1024
    if good then (true, (s.mramPut (slotAddr k) old).jrnStep (fun j => { j with slots := insertAsc k j.slots }))
    else (false, s)

/-- A marked slot is read through its code and copied back; a slot with an uncorrectable word is not (R411). DEDUCED, log entry 120. -/
def State.copyBack (s : State) (target k : Nat) : State :=
  let b := s.mramBytes (slotAddr k) 1024
  let (good, s) := s.mramRead (slotAddr k) 1024
  if good then s.mramPut (homeAddr target k) b else s

/-- Every marked slot is copied back in place and IDLE is written (R429, R430). DEDUCED, log entry 120. -/
def State.rollback (s : State) : State :=
  let j := s.jrnOr
  let s := j.slots.foldl (fun (s : State) k => s.copyBack j.target k) s
  s.jrnStep (fun j => { j with st := .idle, slots := [] })

/-! ## Events and the end of a session -/

/-- The UPDATE entry of a session (Table 17.3). The version that an image of another target than FIRMWARE replaces is held nowhere and is
a free value. -/
def State.logUpdate (s : State) (event target code : Nat) (new old : Word) : State :=
  s.ledger ⟨4, 0xFFFF, s.tb, leBytes 1 event ++ leBytes 1 target ++ leBytes 1 code ++ leBytes 1 0 ++ leBytes 4 new.toNat ++
    leBytes 4 old.toNat⟩

/-- The version of the image that a session brings: its header's, or 0 before a header has arrived. DEDUCED, log entry 116. -/
def Sess.ver (x : Sess) : Word := if x.hdr = [] then 0 else (hdrImg x.hdr).ver

/-- The UPDATE entry of the open session (Table 17.3). DEDUCED, log entry 116. -/
def State.logSess (s : State) (x : Sess) (event code : Nat) : State :=
  if x.target = 1 then s.logUpdate event 1 code x.ver s.nvm.img.ver
  else
    let (w, s) := s.free
    s.logUpdate event x.target code x.ver w

/-- The session changes its state: UPDATE_STATE (R435). -/
def State.setSess (s : State) (x : Sess) : State :=
  let was : Option SessSt := s.nvm.sess.map (·.st)
  let s := { s with nvm := { s.nvm with sess := some x } }
  if was = some x.st then s else s.present1 153

/-- A page write is one into the copy that the open session writes. -/
def State.staged (s : State) (w : PageWr) : Bool :=
  match w with
  | .bytes a _ => (s.stageOff a).isSome
  | _ => false

/-- The session is gone, its lock released, and what it has put into the copy not in use with it (R426, R430). -/
def State.dropSess (s : State) : State :=
  { s with nvm :=
    { s.nvm with sess := none, ifc := 0, tgt := 0, sid := 0, tactReg := 0, wq := s.nvm.wq.filter (fun w => !s.staged w) } }

/-- A session ends other than by activation (R426, R430): `back` says that the target is rolled back now. A session of the loader has no
journal to roll back (R436). From RUNNING or SUSPENDED the operation ends in one step. DEDUCED, log entry 120; DESIGN CHOICE, log entry
147. -/
def State.endSess (s : State) (st : OpSt) (cause code : Nat) (back : Bool) : State :=
  match s.nvm.sess with
  | some x =>
    let s := s.logSess x (if st = .failed then 4 else 3) code
    let s := if back ∧ !s.nvm.noImg ∧ s.jrnOr.st = .overwriting then s.rollback else s
    (s.dropSess.present1 153).endOp 4 st cause code
  | none => s

/-- A session ends DONE by its activation (R431). -/
def State.doneSess (s : State) (log : Bool) : State :=
  match s.nvm.sess with
  | some x =>
    let s := if log then s.logSess x 2 0 else s
    (s.dropSess.present1 153).endOp 4 .done 1 0
  | none => s

/-! ## Checks of an image (R421) -/

/-- The data and CRC words of an image that is not stored whole, block by block, as they came (R421). -/
def imageBlocks (hdr : Bytes) (payload : Nat → Byte) (nblk : Nat) : Bytes :=
  (List.range nblk).flatMap (fun k =>
    let data := (List.range (if k = 0 then 508 else 1020)).map (fun i => payload (blockOff k + i))
    let b := (if k = 0 then hdr else []) ++ data
    b ++ leBytes 4 (crc32c b))

/-- Where the payload of a target that is not stored whole lies. -/
def State.payBase (s : State) (target : Nat) : Nat := if target = 3 then progStore else s.stageBase target

/-- The payload bytes that a session writes (R420): those of its target, and of those only PAYLOAD_LEN once the header has come. -/
def Sess.limit (x : Sess) : Nat :=
  let size := if x.target = 3 then 65536 else stageSize x.target
  if x.hdr = [] then size else min size (hdrField x.hdr 0x28 4)

/-- A payload byte of the open session as stored; beyond PAYLOAD_LEN the payload is 0 (R420). -/
def State.payByte (s : State) (x : Sess) (i : Nat) : Byte :=
  if i < x.limit then s.mramByte (s.payBase x.target + i) else 0

/-- The stored image of the session is read through the code (R411): whether every word was good or corrected. -/
def State.imageRead (s : State) (x : Sess) : Bool × State :=
  if x.target = 1 then s.mramRead 0x8000 (1024 * hdrField x.hdr 0x24 2) else s.mramRead (s.payBase x.target) x.limit

/-- The bytes of the session's image as stored. -/
def State.imageBytes (s : State) (x : Sess) : Bytes :=
  let n := hdrField x.hdr 0x24 2
  if x.target = 1 then s.mramBytes 0x8000 (1024 * n) else imageBlocks x.hdr (s.payByte x) n

/-- The bytes that the digest covers (Table 17.5). -/
def digestBytes (img : Bytes) : Bytes := img.take 0x80 ++ img.drop 0x200

/-- The payload of the session. -/
def State.payload (s : State) (x : Sess) : Bytes := (List.range (hdrField x.hdr 0x28 4)).map (s.payByte x)

/-- A configuration copy read from a payload: none where its CRC, its directory or an entry address fails (Table 17.7, check 10). DESIGN CHOICE, log entry 23. -/
def parsedCfg (b : Bytes) : Option CfgCopy :=
  match Config.parseCfg b with
  | some (schema, gen, base, es) =>
    if es.any (fun e => ovlAddrBad e.2.1) then none
    else
      some ⟨true, schema, gen, base.foldl (fun (l : Sparse Word) e => Sparse.set (BitVec.ofNat 32 (regRow e.1).init) l e.1 e.2) [],
        es.foldl (fun (l : Sparse OvlEntry) (e : Nat × Nat × BitVec 32 × BitVec 32) =>
          Sparse.set ⟨false, 0, 0, 0⟩ l e.1 ⟨true, e.2.1, e.2.2.1, e.2.2.2⟩) []⟩
  | none => none

/-- A calibration copy read from a payload (Table 4.16). -/
def parsedCal (b : Bytes) : Option CalCopy :=
  if leField b 0 4 = 0xCA1B0001 ∧ leField b 0x3FFC 4 = crc32c (b.take 0x3FFC) then
    some ⟨true, leField b 4 4, leField b 8 4,
      (List.range 320).foldl (fun (l : Sparse (Int × Nat)) k =>
        Sparse.set (0, 0x400000) l k ((BitVec.ofNat 32 (leField b (0x10 + 8 * k) 4)).toInt, leField b (0x14 + 8 * k) 4)) []⟩
  else none

/-- A repair map copy read from a payload (Table 16.6). -/
def parsedMap (b : Bytes) : Option MapCopy :=
  let n := leField b 2 2
  if leField b 0 2 = 0xB57A ∧ n ≤ 126 ∧ leField b 0xC 4 = crc32c (b.take 0xC ++ (b.drop 0x10).take (8 * n)) then
    some ⟨true, leField b 4 4,
      (List.range n).map (fun i => ⟨leField b (0x10 + 8 * i) 1, leField b (0x11 + 8 * i) 1, leField b (0x12 + 8 * i) 2, leField b (0x14 + 8 * i) 2⟩)⟩
  else none

/-- Check 7 of Table 17.7 passes. PRESUMED, log entry 12. -/
def State.countersignOk (s : State) (h digest : Bytes) : Bool :=
  if (hdrField h 7 1).testBit 1 then s.nvm.keySet && ecdsaOk s.nvm.keyX s.nvm.keyY digest ((h.drop 0xE0).take 64)
  else !(s.nvm.keySet && s.nvm.keyReq)

/-- Check 8 of Table 17.7 passes. -/
def State.schemaOk (s : State) (x : Sess) : Bool :=
  let i := hdrImg x.hdr
  match x.target with
  | 1 => s.ovl.cfgLost || (decide (i.oldest ≤ s.cfgCopy.schema) && decide (s.cfgCopy.schema ≤ i.schema))
  | 4 =>
    match Config.parseCfg (s.payload x) with
    | some (schema, gen, _, _) => decide (schema = s.nvm.img.schema) && (s.ovl.cfgLost || decide (s.cfgCopy.gen < gen))
    | none => true
  | _ => true

/-- Check 10 of Table 17.7: whether it passes, and the state after. -/
def State.payloadOk (s : State) (x : Sess) : Bool × State :=
  match x.target with
  | 3 =>
    match s.checkContainer with
    | (.inl _, s) => (false, s)
    | (.inr _, s) => (true, s)
  | 4 => ((parsedCfg (s.payload x)).isSome, s)
  | 5 => ((parsedCal (s.payload x)).isSome, s)
  | 6 => ((parsedMap (s.payload x)).isSome, s)
  | _ => (true, s)

/-- VERIFY's checks in table order (R421): the code of the first that fails, 0 where all pass, and the state after. A stored word that
cannot be read fails check 5 (R411). PRESUMED, log entry 12; DESIGN CHOICE, log entry 22; DEDUCED, log entry 116. -/
def State.verify (s : State) (x : Sess) : Nat × State :=
  let h := x.hdr
  let n := hdrField h 0x24 2
  if !hdrOk h x.target then (1, s)
  else if hdrField h 8 3 ≠ 0x246457 then (2, s)
  else if (hdrField h 7 1).testBit 0 ∧ hdrField h 0xC 12 ≠ s.nvm.uid.toNat then (3, s)
  else if !(List.range n).all (fun k => x.good.contains k) then (4, s)
  else
    let digest := sha256 (digestBytes (s.imageBytes x))
    let (good, s) := s.imageRead x
    if !good ∨ digest ≠ (h.drop 0x80).take 32 then (5, s)
    else if !ecdsaOk Config.vendorKey.1 Config.vendorKey.2 digest ((h.drop 0xA0).take 64) then (6, s)
    else if !s.countersignOk h digest then (7, s)
    else if !s.schemaOk x then (8, s)
    else
      let (ok, s) := s.payloadOk x
      (if ok then 0 else 10, s)

end Sys2Proof.Machine
end

