-- ==== Sys2Proof/Machine/LongOps.lean ====
section
/-! DEFINITION. Machine/LongOps.lean: control of long operations, the stop and the start of the steward as they see it, and the command
queue (R217 to R229). -/

namespace Sys2Proof.Machine

/-! ## Suspend, resume, cancel (R224, R226, R227) -/

/-- What a kind of operation does when it is suspended. -/
def State.onSuspend (s : State) (kind : Nat) : State :=
  match kind with
  | 1 => s.suspendSpec
  | 3 => s.calSuspend
  | 6 => s.suspendRil
  | _ => s

/-- What a kind of operation does when it runs again. -/
def State.onResume (s : State) (kind : Nat) : State :=
  match kind with
  | 1 => s.resumeSpec
  | 2 => State.campNext 420 s
  | 3 => s.handsDue
  | 5 => { s with nvm := { s.nvm with pageAt := s.clk } }
  | 6 => s.resumeRil
  | _ => s

/-- The slices of a campaign are cut (R394, R401). -/
def State.cutCamp (s : State) (cut : Nat) : State :=
  (s.bst.slices.filter (fun x => decide (x.of_ = SliceOf.camp))).foldl (fun (s : State) x => s.endSlice x 3 cut none) s

/-- A suspended operation without a cause runs again (R224). -/
def State.tryResume (s : State) (kind : Nat) : State :=
  match s.oper kind with
  | some o =>
    if o.st = .suspended ∧ ¬o.scReq ∧ ¬o.scStw then (s.setOp kind (fun o => { o with st := .running, pend := false })).onResume kind
    else if o.st = .running ∧ ¬o.scReq then s.setOp kind (fun o => { o with pend := false })
    else s
  | none => s

/-- An action on the operation with a tag (R226): the result code and the state. -/
def State.opCtl (s : State) (action tag : Nat) : Nat × State :=
  match s.seq.ops.toList.find? (fun o => decide (o.tag = tag) && decide (tag ≠ 0)) with
  | none => (3, s)
  | some o =>
    if !o.live || decide (o.st = .cancelling) then (4, s)
    else match action with
      | 1 =>
        if o.scReq then (2, s)
        else (1, s.setOp o.kind (fun o => { o with scReq := true, pend := decide (o.st = .running) }))
      | 2 =>
        if o.scReq then (1, (s.setOp o.kind (fun o => { o with scReq := false })).tryResume o.kind) else (2, s)
      | _ => (1, s.setOp o.kind (fun o => { o with st := .cancelling, pend := false }))

/-- OP_SUSPENDED (R224): the operation reaches its safe point. -/
def execOpSuspended (dt kind : Nat) (s : State) : Out :=
  let s := s.elapse dt
  match s.oper kind with
  | some o =>
    if o.st = .running ∧ o.pend then
      let s := s.setOp kind (fun o => { o with st := .suspended, pend := false })
      .next ((if kind = 2 then s.cutCamp 2 else s).onSuspend kind)
    else .next s
  | none => .next s

/-- OP_CANCELLED (R224, R228): the clean-up of a cancelled operation is complete. -/
def execOpCancelled (dt kind : Nat) (s : State) : Out :=
  let s := s.elapse dt
  match s.oper kind with
  | some o =>
    if o.st = .cancelling ∧ (kind = 1 ∨ s.stw) then
      let c := o.cancelCause
      .next (match kind with
        | 1 => s.endSpec .cancelled c 0
        | 2 => (s.cutCamp 3).campEnd .cancelled c
        | 3 => s.calEnd .cancelled c 0
        | 4 => s.endSess .cancelled c 0 true
        | 5 => s.scrubEnd .cancelled c
        | 6 => (s.rilSettle 6).searchEnd .cancelled c 0
        | _ => s.endOp kind .cancelled c 0)
    else .next s
  | none => .next s

/-! ## The steward stops and runs (R28, R29, R227, R337, R430) -/

/-- The operation of a kind is held while the steward does not run. -/
def State.holdOp (s : State) (kind : Nat) : State :=
  match s.oper kind with
  | some o =>
    if o.st = .cancelling then s
    else
      let run := decide (o.st = .running)
      let s := s.setOp kind (fun o => { o with st := .suspended, pend := false, scStw := true })
      if run then s.onSuspend kind else s
  | none => s

/-- The steward stops: an open session ends FAILED, the operations it carries are suspended, its channels are released. DEDUCED, log entries 74 and 119. -/
def State.stewardStop (s : State) : State :=
  let s := { s with
    flt := { s.flt with stwRun := false, stwAlive := false }
    ecc := s.ecc.filter (fun e => decide (e.1 ≠ EccArea.steward)) }
  let s := s.endSess .failed 4 1 false
  let s := [2, 3, 5, 6].foldl State.holdOp s
  (s.releaseChk .steward).pauseCheck

/-- The steward runs: operations it carries that have no other cause run again. DEDUCED, log entry 74. -/
def State.stewardRun (s : State) : State :=
  let s := { s with flt := { s.flt with stwRun := true, stwAlive := false, stwKey := s.clk } }
  let s := [2, 3, 5, 6].foldl (fun (s : State) k => (s.setOp k (fun o => { o with scStw := false })).tryResume k) s
  s.pauseCheck

/-! ## Command queue -/

/-- A packet as a frame on the service port (R424). -/
def srvFrame (p : Bytes) : Bytes :=
  let b := beBytes 2 p.length ++ p
  beBytes 1 0x7E ++ b ++ beBytes 2 (crcOf (crcAlg 0) b)

/-- A command is answered (R221): by a CMD_RSP frame, or in a service packet with its body as data, whose SEQ is that of the request.
DESIGN CHOICE, log entry 116. -/
def State.cmdAnswer (s : State) (rq : Requester) (tag id status : Nat) (late : Bool) (detail : Nat) : State :=
  let b := beBytes 2 id ++ beBytes 1 status ++ beBytes 1 (b2n late) ++ beBytes 1 detail ++ beBytes 3 0
  match rq with
  | .chain => s.respond 4 1 tag b
  | _ =>
    { s with
      answer := ⟨.ok, [], some (id, status, late, detail)⟩
      nvm := { s.nvm with srvOut := srvFrame (beBytes 1 (Config.cmdOp % 128 + 128) ++ beBytes 1 tag ++ beBytes 2 0 ++ b) } }

/-- The operand length of a command code (Table 7.7). -/
def cmdLen : Nat → Option Nat
  | 1 => some 2 | 2 => some 4 | 3 => some 1 | 4 => some 1 | 5 => some 16 | 6 => some 4 | 7 => some 1 | _ => none

/-- A command body is well formed (R219, check 1). -/
def cmdOk (b : Bytes) : Bool :=
  let code := beField b 0 1
  let a := b.drop 8
  decide (cmdLen code = some a.length) && decide (beField b 1 1 < 2) &&
    (match code with
    | 2 => decide (beField a 0 1 ≤ 7) && decide (beField a 1 1 = 0) && decide (beField a 2 2 ≤ 16383)
    | 6 => decide (1 ≤ beField a 0 1) && decide (beField a 0 1 ≤ 3) && decide (beField a 1 1 = 0)
    | _ => true)

/-- A command body of 8 bytes or more arrives (R50, R217 to R220). A DUE_TIME exactly 2^31 ticks off lies in neither direction and has
BAD_TIME. DEDUCED, log entry 70; DESIGN CHOICE, log entry 146. -/
def State.cmdArrive (s : State) (rq : Requester) (tag : Nat) (b : Bytes) : State :=
  let id := beField b 2 2
  let due := decide (beField b 1 1 % 2 = 1)
  let t := BitVec.ofNat 32 (beField b 4 4)
  let late := due && s.reached32 t
  let ahead := (t - s.tb.setWidth 32).toNat
  if s.pwr.mode = .lockout then s.cmdAnswer rq tag id 6 false 0
  else if !cmdOk b then s.cmdAnswer rq tag id 3 false 0
  else if due ∧ !late ∧ 2000000000 < ahead then s.cmdAnswer rq tag id 2 false 0
  else if 64 ≤ s.seq.queue.length then
    ({ s with seq := { s.seq with fullRef := inc 65535 s.seq.fullRef } }).cmdAnswer rq tag id 1 false 0
  else
    let e : CqEnt :=
      { code := beField b 0 1, due := if due && !late then some (s.tb + BitVec.ofNat 64 ahead) else none, late := late, cmdId := id
        args := b.drop 8, rq := rq, tag := tag }
    { s with seq := { s.seq with queue := s.seq.queue ++ [e] } }

/-- Every entry still held is discarded with status LOCKOUT (R50, R221). -/
def State.cmdFlush (s : State) : State :=
  let q := s.seq.queue
  q.foldl (fun (s : State) e => s.cmdAnswer e.rq e.tag e.cmdId 6 e.late 0) { s with seq := { s.seq with queue := [] } }

/-- An entry is due (R173, R220): the timebase value of its DUE_TIME, taken at arrival, is reached. -/
def State.cmdDue (s : State) (e : CqEnt) : Bool := match e.due with | none => true | some t => s.reached t

/-- The entries that are due stay due where the timebase is set back (R220). -/
def State.cmdReach (s : State) : State :=
  { s with seq := { s.seq with queue := s.seq.queue.map (fun e => if s.cmdDue e then { e with due := none } else e) } }

/-- Ticks until the first entry falls due. -/
def State.cmdWait (s : State) : Nat :=
  let ws := s.seq.queue.map (fun e =>
    match e.due with | none => 0 | some t => t.toNat - s.tbn)
  match ws with
  | [] => 0
  | w :: t => t.foldl min w

/-- An entry with one number taken out of the queue: all entries but the first that is due. -/
def dropDue (due : CqEnt → Bool) : List CqEnt → List CqEnt
  | [] => []
  | e :: t => if due e then t else e :: dropDue due t

/-- The oldest entry due is executed where it is a command of code `code`: `run` gives status, detail and the state; at
most one entry is executed in a core cycle (R220, R221). DEDUCED, log entries 69 and 70. -/
def State.cmdRun (s : State) (code : Nat) (run : State → CqEnt → Nat × Nat × State) : State :=
  if !s.coreOn || s.seq.queue.isEmpty then s
  else
    let s := (s.elapseTb s.cmdWait).until_ s.seq.cqNext
    match s.seq.queue.find? s.cmdDue with
    | some e =>
      if e.code = code then
        let s := { s with seq := { s.seq with queue := dropDue s.cmdDue s.seq.queue, cqNext := s.clk + s.cycle } }
        let (status, detail, s) := run s e
        s.cmdAnswer e.rq e.tag e.cmdId status e.late detail
      else s
    | none => s

/-- TRIG (Table 7.7). -/
def execTrigCmd (dt : Nat) (s : State) : Out :=
  .next ((s.elapse dt).cmdRun 1 (fun s e =>
    let m := beField e.args 0 2
    let any := (List.range 16).any (fun g => m.testBit g && decide (s.grpTrig g = 1))
    (if any then 0 else 5, 0, s.triggerAll 1 1 false (fun g => m.testBit g))))

/-- JSTART (Table 7.7). -/
def execJstartCmd (dt : Nat) (s : State) : Out :=
  .next ((s.elapse dt).cmdRun 2 (fun s e =>
    let j := beField e.args 0 1
    (if (s.jet j).busy || s.dying j then 5 else 0, 0, s.startJet j (beField e.args 2 2))))

/-- JSTOP (Table 7.7). -/
def execJstopCmd (dt : Nat) (s : State) : Out :=
  .next ((s.elapse dt).cmdRun 3 (fun s e =>
    let l := bitsOf 8 (beField e.args 0 1)
    let any := l.any (fun j => (s.jet j).busy && decide ((s.jet j).st ≠ .stopping))
    (if any then 0 else 5, 0, l.foldl State.stopReq s)))

/-- JKILL (Table 7.7). -/
def execJkillCmd (dt : Nat) (s : State) : Out :=
  .next ((s.elapse dt).cmdRun 4 (fun s e =>
    let l := bitsOf 8 (beField e.args 0 1)
    (if l.any (fun j => (s.jet j).busy) then 0 else 5, 0, l.foldl State.killJet s)))

/-- FLAGS (R163, Table 7.7). -/
def execFlagsCmd (dt : Nat) (s : State) : Out :=
  .next ((s.elapse dt).cmdRun 5 (fun s e => (0, 0, (s.clearFlags (beField e.args 8 8)).setFlags (beField e.args 0 8))))

/-- OP (R226, Table 7.7). -/
def execOpCmd (dt : Nat) (s : State) : Out :=
  .next ((s.elapse dt).cmdRun 6 (fun s e =>
    let (r, s) := s.opCtl (beField e.args 0 1) (beField e.args 2 2)
    (if r = 1 then 0 else 5, r, s)))

/-- LOAD (R197, Table 7.7). DEDUCED, log entry 71. -/
def execLoadCmd (dt : Nat) (s : State) : Out :=
  .next ((s.elapse dt).cmdRun 7 (fun s e =>
    if s.pwr.lockOwner = some e.rq then (0, 0, s.loadStart (beField e.args 0 1)) else (4, 0, s)))

end Sys2Proof.Machine
end

