-- ==== Sys2Proof/Machine/Update.lean ====
section
/-! DEFINITION. Machine/Update.lean: service requests, update sessions, activation, confirmation and fall-back, and the start of the steward
(R28, R423 to R437). -/

namespace Sys2Proof.Machine

/-! ## Responses -/

/-- A response packet (R423): framed on the service port, or as the payload of an SVC_RSP frame. DEDUCED, log entry 116. -/
def State.reply (s : State) (q : SvcReq) (op status detail : Nat) (data : Bytes) : State :=
  let p := beBytes 1 (op % 128 + 128) ++ beBytes 1 q.seq ++ beBytes 1 status ++ beBytes 1 detail ++ data
  if q.srv then { s with nvm := { s.nvm with srvOut := srvFrame p } } else s.respond 0xF 3 q.tag p

/-- The requester behind a service request. -/
def svcRq (q : SvcReq) : Requester := if q.srv then .service else .chain

/-- UPD_STAT (Table 17.14). -/
def State.updStat (s : State) : Word :=
  put (match s.nvm.sess with | some x => x.st.num | none => 0) 29 3 ||| put s.nvm.ifc 27 2 ||| put s.nvm.tgt 24 3 |||
    put s.nvm.check 20 4 ||| put s.nvm.sid 0 16

/-- UPD_RCV (Table 17.14). -/
def State.updRcv (s : State) : Word := put s.nvm.rcvN 16 9 ||| put s.nvm.rcvC 0 9

/-- Ticks of the confirmation window (R432). -/
def State.confirmTicks (s : State) : Nat := clampTo 10 600 (s.fld 0x1F03 0 10) * 1000 * msTicks

/-- UPD_ACT (Table 17.14): LEFT in whole seconds begun. -/
def State.updAct (s : State) : Word :=
  let left := if s.nvm.act = 1 then (s.nvm.actAt + s.confirmTicks - s.clk + 199999999) / 200000000 else 0
  put s.nvm.act 30 2 ||| put s.nvm.fbCause 28 2 ||| put left 0 10

/-- UPD_ACT.STATE changes: UPDATE_STATE (R435). -/
def State.setAct (s : State) (n cause : Nat) : State :=
  let was := s.nvm.act
  let s := { s with nvm := { s.nvm with act := n, fbCause := cause } }
  if was = n then s else s.present1 153

/-! ## Serving -/

/-- The requests that the loader handles: OPEN, WRITE, STATUS, VERIFY, ACTIVATE and READ (R436). -/
def loaderOp (op : Nat) : Bool := [1, 2, 3, 4, 5, 0x10].contains op

/-- The steward serves requests, or the loader serves its own where no image passed (R29, R44, R436): none, or the status and detail of
the refusal. -/
def State.svcBusy (s : State) (op : Nat) : Option (Nat × Nat) :=
  if s.stw || (s.nvm.noImg && loaderOp op) then none else some (1, 2)

/-- Requests reach the device: by the service port (`srv`) from start-up step 5 on and in WATCH during bursts, by the ports and the host
port from step 8 on and not in WATCH (R443, Table 18.2). -/
def State.svcOn (s : State) (srv : Bool) : Bool :=
  match s.pwr.mode with
  | .reset => decide ((if srv then 5 else 8) ≤ s.pwr.step) || s.pwr.stuck
  | .ship => false
  | .still => false
  | .watch => srv && s.pwr.burst
  | _ => true

/-- A packet with the identifier of the open session has arrived (R426). -/
def State.sessPkt (s : State) (sid : Nat) : State :=
  { s with nvm := { s.nvm with sess := s.nvm.sess.map (fun (x : Sess) => if x.sid = sid then { x with lastPkt := s.clk } else x) } }

/-- A request is served by `run`; the device answers BUSY while neither steward nor loader serves it, and LOCKOUT in LOCKOUT but for
READ and STATUS (R50, Table 17.9). -/
def State.serve (s : State) (q : SvcReq) (op : Nat) (open_ : Bool) (run : State → State) : State :=
  if !s.svcOn q.srv then s
  else
    let s := s.sessPkt q.sid
    match s.svcBusy op with
    | some (st, d) => s.reply q op st d []
    | none => if s.pwr.mode = .lockout ∧ ¬open_ then s.reply q op 9 0 [] else run s

/-- A request of an open session: its session, or the reply of Table 17.9 (R425, R426). -/
def State.inSess (s : State) (q : SvcReq) (op : Nat) (run : State → Sess → State) : State :=
  if s.pwr.mode ≠ .service ∧ ¬s.nvm.noImg then s.reply q op 7 0 []
  else match s.nvm.sess with
    | some x =>
      if x.sid = q.sid ∧ x.srv = q.srv then run s x
      else s.reply q op 2 0 []
    | none => s.reply q op 2 0 []

/-- OPEN (R425, R436). DESIGN CHOICE, log entry 24. -/
def execSvcOpen (dt : Nat) (q : SvcReq) (target : Nat) (s : State) : Out :=
  .next ((s.elapse dt).serve q 1 false (fun s =>
    if s.pwr.mode ≠ .service ∧ ¬s.nvm.noImg then s.reply q 1 7 0 []
    else if s.nvm.sess.isSome then s.reply q 1 1 1 []
    else if s.nvm.act = 1 then s.reply q 1 3 0 []
    else if target = 0 ∨ 6 < target then s.reply q 1 4 0 []
    else if s.nvm.noImg ∧ target ≠ 1 then s.reply q 1 3 0 []
    else
      let (tag, s) := s.startOp 4 (svcRq q)
      let s := s.setOp 4 (fun o => { o with st := .running, scStw := false })
      let sid := match Config.newSid s.nvm.nextSid % 65536 with | 0 => 1 | n + 1 => n + 1
      let x : Sess :=
        { st := .open_, srv := q.srv, target := target, sid := sid, tag := tag, chunks := [], good := [], hdr := [], stage := []
          tact := 0, now := false, goAt := 0, begun := false, lastPkt := s.clk }
      let s := { s with nvm :=
        { s.nvm with nextSid := s.nvm.nextSid + 1, ifc := if q.srv then 2 else 1, tgt := target, sid := sid, rcvN := 0, rcvC := 0 } }
      ((s.setSess x).logSess x 1 0).reply q 1 0 0 (beBytes 2 sid ++ beBytes 2 tag)))

/-- Bytes are written in place and read back through the code (R427): whether every word is readable, and the state after. Under a hold
they wait, and are read when they are next needed. DEDUCED, log entry 116. -/
def State.writeBack (s : State) (a : Nat) (b : Bytes) : Bool × State :=
  let s := s.mramPut a b
  if s.mramHeld then (true, s) else s.flushWrites.mramRead a b.length

/-- A block with a good CRC is written (R427, R436): whether every word was readable, and the state after. DEDUCED, log entry 116. -/
def State.putBlock (s : State) (x : Sess) (k : Nat) (b : Bytes) : Bool × State :=
  let new := hdrImg x.hdr
  match x.target with
  | 1 =>
    if s.nvm.noImg then s.writeBack (homeAddr 1 k) b
    else
      let (ok, s) := s.journal 1 k new
      if ok then s.writeBack (homeAddr 1 k) b else (false, s)
  | 3 =>
    let r := (List.range 64).foldl (fun (r : Bool × State) i => if r.1 then r.2.journal 3 i new else r) (true, s)
    if r.1 then r.2.writeBack (progStore + blockOff k) ((blockData k b).take (x.limit - blockOff k)) else r
  | t => s.writeBack (s.stageBase t + blockOff k) ((blockData k b).take (x.limit - blockOff k))

/-- The eight chunks of a block, where all are present. -/
def Sess.block (x : Sess) (k : Nat) : Option Bytes :=
  let l := (List.range 8).map (fun i => Sparse.get [] x.chunks (8 * k + i))
  if l.all (fun c => decide (c ≠ [])) then some l.flatten else none

/-- The highest block of a target (Table 17.6). -/
def blockMax : Nat → Nat
  | 1 => 255 | 2 => 16 | 3 => 64 | 4 => 8 | 5 => 16 | _ => 1

/-- WRITE (R427): a chunk is stored; the eighth of a block has the block checked and written. DEDUCED, log entry 116. -/
def execSvcWrite (dt : Nat) (q : SvcReq) (block chunk : Nat) (data : Bytes) (s : State) : Out :=
  .next ((s.elapse dt).serve q 2 false (fun s => s.inSess q 2 (fun s x =>
    if data.length ≠ 128 then s.reply q 2 8 0 []
    else if ¬s.opIs 4 .running ∨ (x.st ≠ .open_ ∧ x.st ≠ .verified) then s.reply q 2 3 0 []
    else if 7 < chunk ∨ blockMax x.target < block then s.reply q 2 4 0 []
    else
      let x := { x with st := .open_, chunks := Sparse.set [] x.chunks (8 * block + chunk) data }
      let s := s.setSess x
      match x.block block with
      | none => s.reply q 2 0 0 []
      | some b =>
        let kept := x.chunks.filter (fun e => decide (e.1 / 8 ≠ block))
        if leField b 1020 4 ≠ crc32c (b.take 1020) then (s.setSess { x with chunks := kept }).reply q 2 5 0 []
        else
          let x := { x with chunks := kept, good := insertAsc block x.good, hdr := if block = 0 then b.take 512 else x.hdr }
          let s := s.setSess x
          let s := { s with nvm :=
            { s.nvm with rcvC := x.good.length, rcvN := if block = 0 then hdrField x.hdr 0x24 2 else s.nvm.rcvN } }
          let (ok, s) := s.putBlock x block b
          if ok then s.reply q 2 0 0 [] else (s.endSess .failed 4 4 true).reply q 2 2 0 [])))

/-- STATUS (Table 17.8). -/
def execSvcStatus (dt : Nat) (q : SvcReq) (s : State) : Out :=
  .next ((s.elapse dt).serve q 3 true (fun s =>
    s.reply q 3 0 0 (wordsBe [s.updStat, s.updRcv, s.updAct])))

/-- VERIFY (R421). -/
def execSvcVerify (dt : Nat) (q : SvcReq) (s : State) : Out :=
  .next ((s.elapse dt).serve q 4 false (fun s => s.inSess q 4 (fun s x =>
    if ¬s.opIs 4 .running ∨ (x.st ≠ .open_ ∧ x.st ≠ .verified) then s.reply q 4 3 0 []
    else
      let (c, s) := s.verify x
      if c = 0 then (s.setSess { x with st := .verified }).reply q 4 0 0 []
      else (({ s with nvm := { s.nvm with check := c } }).setSess { x with st := .open_ }).reply q 4 6 c [])))

/-- ACTIVATE (R421, R431, R436, R437). -/
def execSvcActivate (dt : Nat) (q : SvcReq) (tact : Tick) (chainMin chainMax : Nat) (s : State) : Out :=
  .next ((s.elapse dt).serve q 5 false (fun s => s.inSess q 5 (fun s x =>
    let i := hdrImg x.hdr
    let ahead : Int := tact.toNat - s.tbn
    if ¬s.opIs 4 .running ∨ x.st ≠ .verified then s.reply q 5 3 0 []
    else if tact ≠ 0 ∧ (s.nvm.noImg ∨ ahead < 2000000 ∨ 120000000000 < ahead) then s.reply q 5 4 0 []
    else if !(decide (i.pmin ≤ chainMin) && decide (chainMin ≤ i.pmax) && decide (i.pmin ≤ chainMax) && decide (chainMax ≤ i.pmax)) then
      ({ s with nvm := { s.nvm with check := 9 } }).reply q 5 6 9 []
    else
      let s := { s with nvm := { s.nvm with tactReg := tact.setWidth 32 } }
      (s.setSess { x with st := .scheduled, tact := tact, now := decide (tact = 0), goAt := s.clk + s.cycle }).reply q 5 0 0 [])))

/-- CLOSE (R426, R430). -/
def execSvcClose (dt : Nat) (q : SvcReq) (s : State) : Out :=
  .next ((s.elapse dt).serve q 6 false (fun s => s.inSess q 6 (fun s x =>
    if x.st = .activating then s.reply q 6 3 0 [] else (s.endSess .cancelled 2 0 true).reply q 6 0 0 [])))

/-- CONFIRM (R432, Table 17.8). -/
def execSvcConfirm (dt : Nat) (q : SvcReq) (s : State) : Out :=
  .next ((s.elapse dt).serve q 7 false (fun s =>
    if s.nvm.act = 1 then ({ s with nvm := { s.nvm with confirm := true } }).reply q 7 0 0 [] else s.reply q 7 3 0 []))

/-- RESTART (R28): the steward is restarted by an open session, which ends with it (R430). DEDUCED, log entry 119. -/
def execSvcRestart (dt : Nat) (q : SvcReq) (s : State) : Out :=
  .next ((s.elapse dt).serve q 8 false (fun s => s.inSess q 8 (fun s _ => (s.reply q 8 0 0 []).stewardStop)))

/-- READ (R416, Table 17.8): the key slot's private area does not exist. -/
def execSvcRead (dt : Nat) (q : SvcReq) (addr count : Nat) (s : State) : Out :=
  .next ((s.elapse dt).serve q 0x10 true (fun s =>
    if count = 0 ∨ 248 < count ∨ 0x100000 < addr + count then s.reply q 0x10 4 0 []
    else
      let b := s.mramBytes addr count
      (s.mramRead addr count).2.reply q 0x10 0 0 b))

/-- The key slot has been written, or its page write waits (R422). -/
def State.keyGiven (s : State) : Bool := s.nvm.keySet || s.nvm.wq.any (fun w => match w with | .key _ _ _ => true | _ => false)

/-- KEYSLOT (R410, R422): the slot is written by a page write. -/
def execSvcKeyslot (dt : Nat) (q : SvcReq) (require : Bool) (x y : Bytes) (s : State) : Out :=
  .next ((s.elapse dt).serve q 0x11 false (fun s =>
    if s.keyGiven ∨ s.pwr.lockOwner ≠ some (svcRq q) then s.reply q 0x11 10 0 []
    else if !pointOk x y then s.reply q 0x11 6 0 []
    else
      let s := s.feedsMram
      ({ s with nvm := { s.nvm with wq := s.nvm.wq ++ [PageWr.key require x y] } }).reply q 0x11 0 0 []))

/-- SESSION_TIMEOUT (R426): no packet of the session for 30 s, but not while it is SCHEDULED. -/
def execSessionTimeout (dt : Nat) (s : State) : Out :=
  let s := s.elapse dt
  match s.nvm.sess with
  | some x =>
    if (x.st = .open_ ∨ x.st = .verified) ∧ (s.stw ∨ s.nvm.noImg) then
      .next ((s.until_ (x.lastPkt + 30000 * msTicks)).endSess .failed 4 3 true)
    else .next s
  | none => .next s

/-! ## Activation (R431, R432, Table 17.6) -/

/-- A configuration copy that has become the one in use is loaded: base values in effect, pending RWO values discarded, overlays
replaced (Table 17.6). DEDUCED, log entry 118. -/
def State.loadCfg (s : State) (c : CfgCopy) : State :=
  let (es, bad) := c.loadEntries
  let addrs := s.regs.map (·.1) ++ c.base.map (·.1)
  let back := fun (s : State) (a : Nat) =>
    let m := BitVec.ofNat 32 (regRow a).nv
    s.setUnder a ((s.under a &&& ~~~m) ||| (c.value a &&& m))
  let s := addrs.foldl back s
  { s with rwo := [], ovl := { s.ovl with entries := es, loadClr := s.ovl.loadClr || bad } }

/-- The effect of an activation for a target that needs no restart (Table 17.6): none where it fails. -/
def State.activated (s : State) (x : Sess) : Option State :=
  let b := s.payload x
  match x.target with
  | 2 => some ((s.mramStore 0 b).mramStore 0x4000 b)
  | 4 =>
    (parsedCfg b).map (fun c =>
      let toB := !s.ovl.cfgLost && !s.ovl.copyB
      let o := if toB then { s.ovl with copyB_ := c } else { s.ovl with copyA := c }
      ({ s with ovl := { o with copyB := toB, cfgLost := false } }).loadCfg c)
  | 5 =>
    (parsedCal b).map (fun c =>
      let m := if s.mod.useB then { s.mod with copyA := c } else { s.mod with copyB := c }
      { s with mod := { m with useB := !s.mod.useB } })
  | _ =>
    (parsedMap b).map (fun c =>
      let m := if s.bst.useB then { s.bst with copyA := c } else { s.bst with copyB := c }
      { s with bst := { m with useB := !s.bst.useB } })

/-- A FIRMWARE activation (R432): LAUNCH is written, the session ends DONE, the steward restarts. Without a running image the loader starts
the image (R436), and a journal record that an earlier session left is IDLE from then on. DEDUCED, log entry 120. -/
def State.launch (s : State) (x : Sess) : State :=
  let new := hdrImg x.hdr
  if s.nvm.noImg then
    let s := (s.jrnStep (fun j => { j with st := .idle, slots := [] })).flushWrites
    (({ s with
      nvm := { s.nvm with stored := new, img := new, noImg := false }
      pwr := if s.pwr.stuck then { s.pwr with stuck := false, step := 5 } else s.pwr }).doneSess true)
  else
    let s := (s.jrnStep (fun j => { j with st := .launch, target := 1, oldImg := s.nvm.img, newImg := new })).flushWrites
    ((({ s with nvm := { s.nvm with prev := s.nvm.img.ver, stored := new } }).doneSess false).stewardStop)

/-- A PROGRAM activation (Table 17.6): a load is started, and its end ends the session. DEDUCED, log entry 118. -/
def State.activateProgram (s : State) (x : Sess) : State :=
  if x.begun then
    if s.seq.load.isSome then s
    else if s.seq.loadSt = 1 then
      (s.jrnStep (fun j => { j with st := .idle, slots := [] })).doneSess true
    else s.endSess .failed 4 2 true
  else
    let busy := s.seq.load.isSome
    let s := (s.setSess { x with begun := true }).loadStart 0xFF
    if busy ∨ s.seq.load.isNone then s.endSess .failed 4 2 true else s

/-- ACTIVATION (R431): the timebase reaches T, or the cycle after the response comes. The session is ACTIVATING from then on, and the effect
waits while MRAM writes are held. DEDUCED, log entry 118. -/
def execActivation (dt : Nat) (s : State) : Out :=
  let s := s.elapse dt
  match s.nvm.sess with
  | some x =>
    if (x.st = .scheduled ∨ x.st = .activating) ∧ (s.stw ∨ s.nvm.noImg) ∧ s.opIs 4 .running then
      let x := { x with st := .activating }
      let s := (if x.now then s.until_ x.goAt else s.untilTb x.tact).setSess x
      if s.mramHeld then .next s
      else
        let s := s.flushWrites
        if x.target = 3 then .next (s.activateProgram x)
        else if x.target = 1 then .next (s.launch x)
        else
          let (good, s) := s.imageRead x
          match (if good then s.activated x else none) with
          | some t =>
            let t := t.doneSess true
            .next (if x.target = 4 ∧ t.pwr.commit.isNone then t.beginCommit t.pwr.mode .auto else t)
          | none => .next (s.endSess .failed 4 2 true)
    else .next s
  | none => .next s

/-! ## Confirmation and fall-back (R432 to R434) -/

/-- The clock from which the conditions of R432 on the sync state and the bridge-ward port have held, none where they do not hold. -/
def State.linkSince (s : State) : Option Nat :=
  if s.bridge then (if s.ecp.north.st = .up then some (max s.nvm.actAt s.ecp.north.upAt) else none)
  else
    let p := s.port s.bridgeWard
    if s.net.sync = .locked ∧ p.st = .up then some (max s.nvm.actAt (max s.net.lockAt p.upAt)) else none

/-- An uncorrectable error has occurred in the steward's SRAM since it was last loaded (R28, R432). DESIGN CHOICE, log entry 125. -/
def State.stwSramBad (s : State) : Bool := s.ecc.any (fun e => decide (e.1 = EccArea.steward) && e.2.2)

/-- IMAGE_CONFIRM (R432): the new image confirms once its conditions hold, before its window ends (R433). DEDUCED, log entry 117. -/
def execImageConfirm (dt : Nat) (s : State) : Out :=
  let s := s.elapse dt
  match s.linkSince with
  | some t =>
    if s.nvm.act = 1 ∧ s.stw ∧ s.nvm.launchOk ∧ ¬s.stwSramBad ∧ (s.bit 0x1F03 31 → s.nvm.confirm) ∧ ¬s.mramHeld then
      let s := s.until_ (t + 5000 * msTicks)
      if s.nvm.actAt + s.confirmTicks < s.clk then .next s
      else
        let s := (s.jrnStep (fun j => { j with st := .idle, slots := [] })).flushWrites
        .next ((s.logUpdate 5 1 0 s.nvm.img.ver s.nvm.prev).setAct 2 0)
    else .next s
  | none => .next s

/-- The device falls back (R433): FELL_BACK with its cause, its ledger entry, and IMAGE_FALLBACK, which a start-up presents with its other
sources at the end of step 7 (R466). -/
def State.fallBack (s : State) (cause : Nat) : State :=
  let s := s.logUpdate 6 1 0 s.jrnOr.newImg.ver s.jrnOr.oldImg.ver
  if s.pwr.mode = .reset then { s with nvm := { s.nvm with act := 3, fbCause := cause, fbDue := true } }
  else ({ s with nvm := { s.nvm with act := 3, fbCause := cause } }).present [153, 154]

/-- CONFIRM_WINDOW_EXPIRY (R433): the window ends unconfirmed; the steward restarts with the old image. -/
def execConfirmWindowExpiry (dt : Nat) (s : State) : Out :=
  let s := s.elapse dt
  if s.nvm.act = 1 ∧ s.stw then .next (((s.until_ (s.nvm.actAt + s.confirmTicks)).fallBack 1).stewardStop) else .next s

/-- The old image selects the configuration copy that is valid for it (R63, R434). -/
def State.reselectCfg (s : State) : State :=
  let a := s.cfgValid s.ovl.copyA
  let b := s.cfgValid s.ovl.copyB_
  if a && b then { s with ovl := { s.ovl with copyB := decide (s.ovl.copyA.gen < s.ovl.copyB_.gen) } }
  else if a then { s with ovl := { s.ovl with copyB := false } }
  else if b then { s with ovl := { s.ovl with copyB := true } }
  else s

/-- A new image migrates the configuration copy in use to its own schema (R434). A migration that fails leaves the image unconfirmed. DESIGN CHOICE, log entry 23. -/
def State.migrate (s : State) : State :=
  let c := s.cfgCopy
  if s.ovl.cfgLost ∨ c.schema = s.nvm.img.schema then s
  else if Config.migrateOk c.schema s.nvm.img.schema then
    let n : CfgCopy := { c with schema := s.nvm.img.schema, gen := c.gen + 1 }
    let s := s.pageDone (cfgArea (!s.ovl.copyB)) 0x2000
    { s with ovl := if s.ovl.copyB then { s.ovl with copyA := n, copyB := false } else { s.ovl with copyB_ := n, copyB := true } }
  else { s with nvm := { s.nvm with launchOk := false } }

/-- The old image is taken and the journal copied back (R429). For PROGRAM the store is restored. -/
def State.restoreOld (s : State) : State :=
  let j := s.jrnOr
  let s := if j.target = 1 then { s with nvm := { s.nvm with img := j.oldImg, stored := j.oldImg } } else s
  s.rollback.reselectCfg

/-- Where the loader takes block `k` of the image from (R429): its journal slot, where the old image is loaded and the block is marked. -/
def State.imgFrom (s : State) (k : Nat) : Nat :=
  let j := s.jrnOr
  if (j.st = .overwriting ∨ j.st = .activated) ∧ j.target = 1 ∧ j.slots.contains k then slotAddr k else homeAddr 1 k

/-- The loader reads the image through the code, block by block, and checks each block's CRC (R43, R411, R420, R429): whether the image
passes, and the state after. -/
def State.loadImage (s : State) : Bool × State :=
  let n := leField (s.mramBytes (s.imgFrom 0 + 0x24) 2) 0 2
  let (ok, s) := (List.range (max 1 (min n 256))).foldl (fun (r : Bool × State) k =>
    let b := r.2.mramBytes (r.2.imgFrom k) 1024
    let (good, s) := r.2.mramRead (r.2.imgFrom k) 1024
    (r.1 && good && decide (leField b 1020 4 = crc32c (b.take 1020)), s)) (true, s)
  (ok && decide (1 ≤ n) && decide (n ≤ 256), s)

/-- What the loader does with the journal state (R429, R432, R433): where it finds LAUNCH it has written ACTIVATED before the image runs. -/
def State.journalStart (s : State) : State :=
  match s.jrnNow with
  | none =>
    let s := { s with nvm := { s.nvm with jrnFound := 0xFF, img := s.nvm.stored } }
    let j : Jrn := ⟨.idle, 0, 1, [], s.nvm.stored, s.nvm.stored⟩
    (s.jrnPut j).jrnPut j
  | some j =>
    let s := { s with nvm := { s.nvm with jrnFound := j.st.num } }
    match j.st with
    | .idle => { s with nvm := { s.nvm with img := s.nvm.stored } }
    | .launch =>
      let s := (s.jrnStep (fun j => { j with st := .activated })).flushWrites
      let s := { s with nvm := { s.nvm with img := j.newImg, stored := j.newImg, actAt := s.clk, confirm := false, launchOk := true } }
      ((s.logUpdate 2 1 0 j.newImg.ver j.oldImg.ver).migrate).setAct 1 0
    | .overwriting => s.restoreOld
    | .activated => (if s.nvm.act = 1 then s.fallBack 2 else s).restoreOld

/-- The start of the steward waits: the loader finds LAUNCH, whose ACTIVATED it cannot write under a hold (R410, R429). -/
def State.startWaits (s : State) : Bool := s.mramHeld && (match s.jrnNow with | some j => decide (j.st = .launch) | none => false)

/-- STEWARD_START (R28, R29, R429): the loader starts the steward, at start-up once an image is copied, or after a stop, where it copies the
image anew and serves in its place where none passes (R436). DEDUCED, log entries 74, 119 and 120. -/
def execStewardStart (dt : Nat) (s : State) : Out :=
  let s := s.elapse dt
  if s.stw ∨ s.nvm.noImg ∨ s.startWaits ∨ s.pwr.mode = .ship ∨ s.pwr.mode = .still ∨ (s.pwr.mode = .reset ∧ s.pwr.step < 6) then .next s
  else if s.pwr.mode = .reset then .next s.journalStart.stewardRun
  else
    let (ok, s) := s.loadImage
    .next (if ok then s.journalStart.stewardRun else { s with nvm := { s.nvm with noImg := true, act := 0 } })

/-- STEWARD_WATCHDOG (R367): the period has passed without a key write; the source is presented and the steward restarts. DEDUCED, log entry 74. -/
def execStewardWatchdog (dt : Nat) (s : State) : Out :=
  let s := s.elapse dt
  if s.stw ∧ s.coreOn then
    let s := s.until_ (s.flt.stwKey + atLeast1 (s.fld 0x1A00 8 8) * 10 * msTicks)
    let s := { s with nvm := { s.nvm with launchOk := false } }
    .next ((s.present1 159).stewardStop)
  else .next s

/-! ## Packets -/

/-- A service packet is served (Table 17.8): an unknown OP or a wrong length has status FORMAT. -/
def State.packet (s : State) (q : SvcReq) (op : Nat) (o : Bytes) : Out :=
  let bad := Host.Outcome.next (s.serve q op true (fun s => s.reply q op 8 0 []))
  match op with
  | 1 => if o.length = 4 then execSvcOpen 0 q (beField o 0 1) s else bad
  | 2 => if o.length = 132 then execSvcWrite 0 q (beField o 0 2) (beField o 2 1) (o.drop 4) s else bad
  | 3 => if o.length = 0 then execSvcStatus 0 q s else bad
  | 4 => if o.length = 0 then execSvcVerify 0 q s else bad
  | 5 => if o.length = 12 then execSvcActivate 0 q (BitVec.ofNat 64 (beField o 0 8)) (beField o 8 1) (beField o 9 1) s else bad
  | 6 => if o.length = 0 then execSvcClose 0 q s else bad
  | 7 => if o.length = 0 then execSvcConfirm 0 q s else bad
  | 8 => if o.length = 0 then execSvcRestart 0 q s else bad
  | 0x10 => if o.length = 8 then execSvcRead 0 q (beField o 0 4) (beField o 4 1) s else bad
  | 0x11 => if o.length = 68 then execSvcKeyslot 0 q (decide (beField o 0 1 % 2 = 1)) ((o.drop 4).take 32) ((o.drop 36).take 32) s else bad
  | n =>
    if q.srv ∧ n = Config.cmdOp % 128 ∧ 8 ≤ o.length then .next (if s.svcOn true then s.cmdArrive .service q.seq o else s) else bad

/-- The packets of the good frames among bytes received on the service port up to a gap (R424). A frame with a LEN outside 4 to 256 or a bad
CRC is discarded and the receiver waits for the next 0x7E; so is the frame within which the gap falls. DEDUCED, log entry 116. -/
def srvPackets : Nat → Bytes → List Bytes
  | 0, _ => []
  | _, [] => []
  | k + 1, c :: t =>
    let n := beField t 0 2
    if c ≠ 0x7E then srvPackets k t
    else if t.length < 2 then []
    else if n < 4 ∨ 256 < n then srvPackets k (t.drop 2)
    else if t.length < n + 4 then []
    else
      let rest := srvPackets k (t.drop (n + 4))
      if beField t (n + 2) 2 = crcOf (crcAlg 0) (t.take (n + 2)) then (t.drop 2).take n :: rest else rest

/-- A packet that has come over the service port is served. -/
def State.srvTake (s : State) (b : Bytes) : State :=
  match s.packet ⟨true, beField b 1 1, beField b 2 2, 0, .south⟩ (beField b 0 1) (b.drop 4) with
  | .next t => t
  | _ => s

/-- SERVICE_FRAME_GAP (R424): the good frames among the bytes that have come are served, and the frame within which the gap falls is
discarded. DEDUCED, log entry 116. -/
def execServiceFrameGap (e : GapAt) (s : State) : Out :=
  .next ((srvPackets (e.got.length + 1) e.got).foldl State.srvTake (s.elapse e.dt))

end Sys2Proof.Machine
end

