-- ==== Sys2Proof/Machine/RegRead.lean ====
section
/-! DEFINITION. Machine/RegRead.lean: what a read of a register returns and what it does (R10, R59, R128, R153, R154, R193, R458 to R465). -/

namespace Sys2Proof.Machine

/-! ## Banked selectors (R464) -/

/-- The selector register at address `a` of a bank. -/
def Bank.get (b : Bank) : Nat → Word
  | 0xA02 => b.bsnWin | 0xA50 => b.ptSel | 0xC48 => b.pwin | 0xC4A => b.swin | 0x120B => b.tsel | 0x120D => b.hsel
  | 0x1A04 => b.fltSel | 0x1D06 => b.rsel | 0x1D0A => b.msel | 0x1E04 => b.lsel | 0x1E20 => b.caddr | _ => 0

/-- A bank with its selector register at address `a` written. -/
def Bank.put (b : Bank) (a : Nat) (w : Word) : Bank :=
  match a with
  | 0xA02 => { b with bsnWin := w }
  | 0xA50 => { b with ptSel := w }
  | 0xC48 => { b with pwin := w }
  | 0xC4A => { b with swin := w }
  | 0x120B => { b with tsel := w }
  | 0x120D => { b with hsel := w }
  | 0x1A04 => { b with fltSel := w }
  | 0x1D06 => { b with rsel := w }
  | 0x1D0A => { b with msel := w }
  | 0x1E04 => { b with lsel := w }
  | 0x1E20 => { b with caddr := w }
  | _ => b

/-- A selector of a requester as the hardware acts on it (R59, R464). DEDUCED, log entry 29. -/
def State.sel (s : State) (rq : Requester) (a : Nat) : Word := overlaid s.ovl.snap a ((s.bank rq).get a)

/-- The low `n` bits of a selector advanced by 1, from `top` on to 0 (R193, R274, R369, R408, R438). -/
def advanced (w : Word) (n top : Nat) : Word :=
  let i := Sys2Proof.fld w 0 n
  (w &&& ~~~(put (2 ^ n - 1) 0 n)) ||| put (if top ≤ i then 0 else i + 1) 0 n

/-- A requester's selector advances after an access where its AUTOINC is set. DEDUCED, log entry 33. -/
def State.advance (s : State) (rq : Requester) (a n top : Nat) : State :=
  if (s.sel rq a).getLsbD 31 then s.setBank rq (fun b => b.put a (advanced (b.get a) n top)) else s

/-- The fault source that a requester selects (R369). -/
def State.fltIdx (s : State) (rq : Requester) : Nat := min 159 (Sys2Proof.fld (s.sel rq 0x1A04) 0 8)

/-- The unit that a requester selects (R408). -/
def State.bstIdx (s : State) (rq : Requester) : Nat := min 416 (Sys2Proof.fld (s.sel rq 0x1D06) 0 9)

/-! ## Status bits by block -/

/-- ID_PART to ID_FWVER (Tables 1.9 to 1.11). -/
def State.rdId (s : State) : Nat → Word
  | 0 => 0x24645711
  | 1 => s.nvm.uid.extractLsb' 0 32
  | 2 => s.nvm.uid.extractLsb' 32 32
  | 3 => s.nvm.uid.extractLsb' 64 32
  | 4 => put s.sparePages.length 23 4 ||| put s.freeSpares.length 20 3 ||| put 8 16 4 ||| put 0x40 8 8 ||| put 0x18 0 8
  | 5 => s.nvm.img.ver
  | _ => 0

/-- The OWNER code of the configuration lock (Table 2.12). -/
def lockOwnerCode : Option Requester → Nat
  | some .chain => 1 | some .service => 2 | some .steward => 3 | _ => 0

/-- PWR registers (Table 2.12). DESIGN CHOICE, log entry 8. -/
def State.rdPwr (s : State) : Nat → Word
  | 0x100 =>
    putb (s.pwr.commit.isSome || (decide (s.pwr.mode ≠ .reset) && decide (s.pwr.modeAt = s.clk))) 17 ||| putb s.pwr.localSet 16 ||| put s.pwr.reqStatus 12 4 ||| put s.pwr.returnMode.num 8 4 |||
      put s.pwr.prevMode.num 4 4 ||| put s.pwr.mode.num 0 4
  | 0x102 => put s.aon.appliedEpoch 16 16 ||| put s.pwr.prepEpoch 0 16
  | 0x103 =>
    put s.pwr.missed.epoch 16 16 ||| put s.pwr.missed.cause 12 4 ||| put s.pwr.missed.target 8 4 |||
      put s.pwr.prepTarget 4 4 ||| put s.pwr.prepState 0 2
  | 0x105 =>
    put s.pwr.relocks 16 8 ||| putb s.pwr.lpoOk 9 ||| putb s.pwr.refOk 8 ||| put s.pwr.coreSrc.num 5 2 ||| putb s.pwr.pllLock 4
  | 0x107 => putb s.pwr.mramHold 6 ||| put s.pwr.supplyOk 0 6
  | 0x108 =>
    put s.aon.supplySrc 12 4 ||| put s.aon.wakeCause 8 4 ||| putb s.aon.lockout 4 ||| put s.aon.resetCause 0 4
  | 0x109 => put s.aon.dipDuration 16 16 ||| put s.aon.dipVmin 0 16
  | 0x10A => put (lockOwnerCode s.pwr.lockOwner) 17 3 ||| putb s.pwr.lockOwner.isSome 16
  | _ => 0

/-- OVL registers (Table 2.13). -/
def State.rdOvl (s : State) : Nat → Word
  | 0x201 =>
    putb s.ovl.loadClr 22 ||| putb s.ovl.cfgLost 21 ||| putb s.ovl.copyB 20 ||| putb s.ovl.saveErr 19 |||
      putb s.ovl.saveBusy 18 ||| put s.ovlUsed 8 10 ||| put (s.ovlCount (s.fld 0x200 0 4)) 0 8
  | a =>
    match s.ovlSel with
    | none => 0
    | some k =>
      let e := Sparse.get ⟨false, 0, 0, 0⟩ s.ovl.entries k
      if a = 0x203 then putb e.valid 16 ||| put e.addr 0 16
      else if a = 0x204 then e.mask
      else if a = 0x205 then e.val else 0

/-- CFE registers (Table 3.7). -/
def State.rdCfe (s : State) (a : Nat) : Word :=
  if a = 0x404 then
    put s.cfe.checks 16 16 ||| putb s.cfe.anyOpen 10 ||| putb s.cfe.deferred 9 ||| putb s.cfe.run.isSome 8 ||| put s.cfe.phase 4 2
  else if a = 0x405 then put s.cfe.openTaps 0 25
  else if 0x408 ≤ a ∧ a ≤ 0x40B then
    let x := s.xbarNow (a - 0x408)
    putb x.repair 12 ||| put x.st.num 8 2 ||| putb x.side 6 ||| put x.source 0 5
  else 0

/-- The modulator that a spare visits, 0xFF for none. -/
def State.visitOf (s : State) (sp : Nat) : Nat := match (s.spare sp).visit with | some v => v.m | none => 0xFF

/-- MOD registers (Table 4.12). DESIGN CHOICE, log entry 8. -/
def State.rdMod (s : State) (a : Nat) : Word :=
  let m := s.fld 0x605 0 6
  match a with
  | 0x602 =>
    let pause := if s.coreOn then s.pauseCause else 0
    put s.mod.rounds 16 16 ||| put s.mod.lastFail 8 8 ||| putb (decide (pause ≠ 0)) 7 ||| put pause 0 7
  | 0x603 => put (s.visitOf 3) 24 8 ||| put (s.visitOf 2) 16 8 ||| put (s.visitOf 1) 8 8 ||| put (s.visitOf 0) 0 8
  | 0x606 => (BitVec.ofInt 20 (s.coefOf m).2.1).setWidth 32
  | 0x607 => put (s.coefOf m).2.2 0 24
  | 0x608 =>
    let age := match (s.modul m).live with | some c => min 65535 ((s.clk - c.at_) / (1000 * msTicks)) | none => 0xFFFF
    put age 16 16 ||| put s.thm.band 8 3 ||| putb (!(s.coefOf m).1) 1 ||| putb (s.modul m).live.isSome 0
  | 0x609 => put s.mod.startRes 28 3
  | 0x60B => put s.mod.calTag 16 16 ||| put s.mod.calFail 8 8 ||| put s.mod.skipped 0 7
  | _ => 0

/-- RES registers (Table 4.14). -/
def State.rdRes (s : State) (a : Nat) : Word :=
  if a < 0x824 then s.latest (a - 0x800)
  else if 0x830 ≤ a ∧ a ≤ 0x853 then vget s.res.snap 0 (a - 0x830)
  else match a with
    | 0x824 => put s.res.ovr0 0 24
    | 0x825 => put s.res.ovr1 0 12
    | 0x828 => put s.res.snaps 16 16
    | 0x891 => put s.res.ovMask 0 24
    | 0x892 => put s.res.uvMask 0 24
    | 0x893 => putb s.res.diagOut 12 ||| putb s.res.stackUv 11 ||| putb s.res.stackOv 10 ||| put s.res.aux 0 10
    | _ => 0

/-- A page table entry (Table 5.4). -/
def BPage.entry (p : BPage) : Word := putb true 31 ||| putb p.isOpen 30 ||| putb p.bad 29 ||| put p.phys 16 9 ||| put p.seq 0 16

/-- BSN registers but the page window's data (Table 5.4). Where a stream holds two pages whose sequences agree modulo 64, the entry
shows the older. DESIGN CHOICE, log entry 135. -/
def State.rdBsn (s : State) (rq : Requester) (a : Nat) : Word :=
  if a = 0xA00 then
    put s.bsn.retired.length 22 9 ||| put s.bsn.spareOut 18 4 ||| put s.resv 9 9 ||| put s.bsn.free.length 0 9
  else if a = 0xA01 then put s.bsn.ceCount 16 16 ||| putb s.bsn.ue 15 ||| put s.bsn.uePage 0 9
  else if a = 0xA02 then
    let w := s.sel rq 0xA02
    putb (s.pageHit (Sys2Proof.fld w 16 4) (Sys2Proof.fld w 0 16)) 31
  else if 0xA20 ≤ a ∧ a ≤ 0xA2F then
    let t := s.strm (a - 0xA20)
    putb t.active 31 ||| putb t.cfgErr 30 ||| putb t.openPage.isSome 29 ||| putb t.exhausted 28 ||| put t.lastDrop 26 2 |||
      putb t.ackShort 25 ||| put t.pages.length 16 7 ||| put (match t.openPage with | some p => p.fill | none => 0) 0 10
  else if 0xA30 ≤ a ∧ a ≤ 0xA3F then put (s.strm (a - 0xA30)).lostPages 16 16 ||| put (s.strm (a - 0xA30)).dropped 0 16
  else if 0xA40 ≤ a ∧ a ≤ 0xA4F then
    let t := s.strm (a - 0xA40)
    put (match t.pages with | p :: _ => p.seq | [] => t.nextSeq) 16 16 |||
      put (match t.pages.getLast? with | some p => p.seq | none => t.nextSeq + 65535) 0 16
  else if 0xA80 ≤ a ∧ a ≤ 0xABF then
    match (s.strm (Sys2Proof.fld (s.sel rq 0xA50) 0 4)).pages.find? (fun p => decide (p.seq % 64 = a - 0xA80)) with
    | some p => p.entry
    | none => 0
  else 0

/-- SEQ registers but the windows' data (Tables 6.13 and 7.12). DEDUCED, log entry 33. -/
def State.rdSeq (s : State) (rq : Requester) (a : Nat) : Word :=
  if 0xC00 ≤ a ∧ a ≤ 0xC0F then putb (s.grp (a - 0xC00)).cfgErr 30
  else if 0xC30 ≤ a ∧ a ≤ 0xC3F then
    let g := s.grp (a - 0xC30)
    putb (s.grpBusy (a - 0xC30)) 31 ||| putb g.held.isSome 30 ||| put g.last 24 3 ||| put g.aborts 16 8 ||| put g.overruns 0 16
  else if 0xC50 ≤ a ∧ a ≤ 0xC57 then
    let q := s.jet (a - 0xC50)
    put q.depth 22 4 ||| put q.cause 16 4 ||| put q.exitPc 0 14
  else if 0xC58 ≤ a ∧ a ≤ 0xC5F then (s.jet (a - 0xC58)).word
  else if 0xC88 ≤ a ∧ a ≤ 0xC8F then
    let o := vget s.seq.ops Oper.empty (a - 0xC88)
    if o.tag = 0 then 0
    else
      put o.tag 16 16 ||| put o.st.num 13 3 ||| put o.kind 10 3 ||| put o.owner.ownerCode 7 3 ||| put o.owner.jetNo 4 3 |||
        putb o.pend 3 ||| putb o.scReq 2 ||| putb o.scStw 1
  else if 0xC90 ≤ a ∧ a ≤ 0xC97 then
    put (vget s.seq.ops Oper.empty (a - 0xC90)).endCause 8 8 ||| put (vget s.seq.ops Oper.empty (a - 0xC90)).endCode 0 8
  else match a with
    | 0xC40 => s.seq.flags.extractLsb' 0 32
    | 0xC41 => s.seq.flags.extractLsb' 32 32
    | 0xC4C => put s.seq.ceCount 16 16 ||| putb s.seq.ue 15 ||| putb s.seq.ueArea 14 ||| put s.seq.ueIndex 0 14
    | 0xC61 => putb s.seq.load.isSome 30 ||| put s.seq.loadSt 24 4 ||| put s.seq.loadGen 0 16
    | 0xC63 =>
      putb s.seq.startIgn 24 ||| ((List.range 8).foldl (fun (w : Word) j => w ||| put (s.jet j).st.num (3 * j) 3) 0)
    | 0xC78 =>
      put (s.seq.queue.filter (fun e => !s.cmdDue e)).length 24 7 ||| put s.seq.queue.length 16 7 ||| put s.seq.fullRef 0 16
    | 0xC79 => put (min 31 (s.convs.filter (fun (c : Conv) => c.start.isNone)).length) 16 5 ||| put s.seq.preempts 0 16
    | 0xC7A => s.seq.syncTs
    | 0xC80 => put (s.bank rq).opRes 28 4
    | _ => 0

/-- The KIND of a balance request. -/
def BalReq.kind : BalReq → Nat
  | .none => 0 | .level _ => 1 | .quota _ => 2

/-- SLU registers (Table 8.6). -/
def State.rdSlu (s : State) (a : Nat) : Word :=
  if 0x1020 ≤ a ∧ a ≤ 0x1037 then
    let c := s.bal (a - 0x101F)
    let o := match c.owner with | some r => put r.ownerCode 27 3 ||| put r.jetNo 24 3 | none => 0
    let r := s.effReq (a - 0x101F)
    put r.kind 30 2 ||| o ||| put r.levelField 0 9
  else if 0x1060 ≤ a ∧ a ≤ 0x1077 then put (s.bal (a - 0x105F)).req.remain 0 32
  else if 0x1080 ≤ a ∧ a ≤ 0x1097 then
    let n := a - 0x107F
    let c := s.bal n
    let on := c.on && (match c.pulse with | some t => decide (s.clk < t) | none => true)
    let cur := if c.xfet then (if on then (s.extCur n).floor.toNat else 0) else c.cur
    put c.duty 23 9 ||| putb (s.eligible n) 20 ||| putb on 19 ||| put (min 65535 cur) 0 16
  else match a with
    | 0x1005 =>
      put s.slu.k256 23 9 ||| putb s.slu.limBoard 22 ||| putb s.slu.limDie 21 ||| putb s.throttled 20 ||| putb s.stopped 19 |||
        putb (decide (s.pwr.mode = .balance) && s.bit 0x1000 31) 18 ||| put s.slu.frames 0 16
    | 0x1006 => put (min 65535 s.slu.boardP) 16 16 ||| put (min 65535 s.slu.dieP) 0 16
    | 0x1007 => put (min 65535 s.slu.col2) 16 16 ||| put (min 65535 s.slu.col1) 0 16
    | 0x1008 => (List.range 24).foldl (fun (w : Word) i => w ||| putb (s.bal (i + 1)).hold i) 0
    | 0x1009 => put s.slu.flastCell 8 5 ||| put s.slu.flastCheck 0 3
    | 0x100A => put s.slu.qdone 0 24
    | _ => 0

/-- A word of the sweep table by its index (Table 9.10). -/
def State.sweepWord (s : State) (i : Nat) : Word :=
  if i < 6144 then Sparse.get 0x80000000 s.spc.sweep i
  else if i < 6528 then Sparse.get 0 s.spc.sweepSt (i - 6144) else 0

/-- A harmonic table entry by its index. -/
def State.harmAt (s : State) (i : Nat) : Harm := if i < 1025 then Sparse.get ⟨0, 0, 0⟩ s.spc.harm i else ⟨0, 0, 0⟩

/-- SPC registers (Table 9.10). DEDUCED, log entry 33. -/
def State.rdSpc (s : State) (rq : Requester) (a : Nat) : Word :=
  if 0x1260 ≤ a ∧ a ≤ 0x1277 then Sparse.get 0 s.spc.zst (a - 0x1260)
  else if 0x1280 ≤ a then Sparse.get 0x80000000 s.spc.z (a - 0x1280)
  else match a with
    | 0x1201 =>
      let r := match s.spc.run with
        | some r =>
          putb (decide (r.phase = .held)) 22 ||| putb (r.pubs.any (fun p => p.wait && decide (p.tf ≤ s.tbn))) 21 ||| put r.pass 20 1 ||| put r.step 16 4
        | none => 0
      put s.spc.startRes 29 3 ||| put s.spc.refuse 24 4 ||| putb (s.oper 1).isSome 23 ||| r ||| put s.spc.tag 0 16
    | 0x1205 => put s.spc.pubs 16 16
    | 0x120A => put s.spc.f1m 0 23
    | 0x120C => s.sweepWord (Sys2Proof.fld (s.sel rq 0x120B) 0 13)
    | 0x120E => (s.harmAt (Sys2Proof.fld (s.sel rq 0x120D) 0 11)).mag
    | 0x120F =>
      let h := s.harmAt (Sys2Proof.fld (s.sel rq 0x120D) 0 11)
      put h.phase.toNat 16 16 ||| put h.st 0 4
    | _ => 0

/-- ECP_xSTAT (Table 10.10). -/
def Port.stat (p : Port) : Word :=
  put p.st.num 29 2 ||| putb p.farRdy 28 ||| putb p.bridgeward 27 ||| put p.txcnt 20 4 ||| put p.rxexp 16 4 ||| put p.retrains 0 16

/-- ECP_xERR (Table 10.10). -/
def Port.errs (p : Port) : Word := put p.crcErr 24 8 ||| put p.cntErr 16 8 ||| put p.lost 8 8 ||| put p.fmtErr 0 8

/-- ECP_xQ (Table 10.10). -/
def Port.q (p : Port) : Word := put p.drops 24 8 ||| put p.buf.length 16 5 ||| put p.aborts 8 8 ||| put p.timeouts 0 8

/-- ECP registers (Table 10.10). -/
def State.rdEcp (s : State) : Nat → Word
  | 0x1402 => s.ecp.north.stat
  | 0x1403 => s.ecp.south.stat
  | 0x1404 => s.ecp.north.errs
  | 0x1405 => s.ecp.south.errs
  | 0x1406 => s.ecp.north.q
  | 0x1407 => s.ecp.south.q
  | 0x1408 => putb s.ecp.wakeIgn 8 ||| putb s.ecp.south.toneEnd.isSome 1 ||| putb s.ecp.north.toneEnd.isSome 0
  | _ => 0

/-- The average of hop delays (R314). -/
def avgDelay (l : List Nat) : Nat := if l = [] then 0 else l.sum / l.length

/-- A signed number saturated to 32 bits. -/
def satInt32 (i : Int) : Word := BitVec.ofInt 32 (max (-2147483648) (min 2147483647 i))

/-- Frames that wait for a tag while all 128 are held (R310): those of the host but PEER, and those of the bridge's own. -/
def State.tagWaits (s : State) : Nat :=
  let own := fun (q : Port) => (q.buf.filter (fun f => decide (f.tag = noTag))).length
  if s.tagNext.isSome then 0
  else (s.net.txq.filter (fun (e : TxEnt) => decide (e.frame.typ ≠ 13))).length + own s.ecp.north + own s.ecp.south

/-- NET registers (Table 11.11). DEDUCED, log entry 97. -/
def State.rdNet (s : State) (rq : Requester) : Nat → Word
  | 0x1602 =>
    putb (if s.bridge then true else s.aon.chainAddr.isSome) 31 ||| putb s.net.posErr 30 ||| put s.net.hopsSeen 16 6 |||
      put (s.addr.getD 0) 0 6
  | 0x1603 => if !s.bridge then 0 else putb s.net.enumRun.isSome 31 ||| putb s.net.ringSeen 30 ||| put s.net.enumRes 28 2 ||| put s.net.enumCount 0 6
  | 0x1604 => s.tb.extractLsb' 0 32
  | 0x1605 => (s.bank rq).tbh
  | 0x1606 =>
    put (if s.bridge then 2 else s.net.sync.num) 30 2 ||| putb s.net.stepped 29 ||| put s.net.losses 16 8 ||| put s.net.sseq 0 16
  | 0x1607 => satInt32 s.net.ofs
  | 0x1608 => BitVec.ofInt 32 s.time.rate
  | 0x1609 => put (min 65535 (avgDelay s.net.delayS)) 16 16 ||| put (min 65535 (avgDelay s.net.delayN)) 0 16
  | 0x160A => if !s.bridge then 0 else put s.net.ring.num 30 2 ||| put s.net.split 16 6 ||| put s.net.splits 8 8 ||| put s.net.heals 0 8
  | 0x160B =>
    if !s.bridge then 0 else put s.net.tags.length 24 8 ||| put s.net.timeouts 16 8 ||| put s.net.lateRsp 8 8 ||| put s.tagWaits 0 8
  | 0x160C => if !s.bridge then 0 else put s.net.txq.length 24 5 ||| put s.net.rxq.length 16 6 ||| put s.net.rxDrop 8 8 ||| put s.net.spiErr 0 8
  | _ => 0

/-- RIL registers (Table 13.6). -/
def State.rdRil (s : State) (a : Nat) : Word :=
  let s := s.rilSettle 6
  let ent := fun i => vget s.ril.ents default i
  if 0x1910 ≤ a ∧ a ≤ 0x1913 then
    (List.range 8).foldl (fun (w : Word) j => w ||| put (ent (8 * (a - 0x1910) + j)).st (4 * j) 4) 0
  else if 0x1920 ≤ a ∧ a ≤ 0x193F then (ent (a - 0x1920)).id.extractLsb' 0 32
  else if 0x1940 ≤ a ∧ a ≤ 0x195F then (ent (a - 0x1940)).id.extractLsb' 32 32
  else if 0x1960 ≤ a ∧ a ≤ 0x197F then
    let e := ent (a - 0x1960)
    putb e.present 31 ||| putb e.used 30 ||| putb e.new 29 ||| put ((e.id.extractLsb' 56 8).toNat) 0 8
  else if 0x1980 ≤ a ∧ a ≤ 0x199F then (ent (a - 0x1980)).val
  else match a with
    | 0x1903 =>
      putb s.ril.stale 31 ||| putb s.ril.bus.isSome 30 ||| putb s.ril.rlv 29 ||| putb s.ril.rlvFault 28 ||| putb s.ril.stuck 27 |||
        putb (s.oper 6).isSome 26 ||| put s.ril.srchRes 24 2 |||
        put ((List.range 32).filter (fun i => (ent i).present)).length 16 6 ||| put s.ril.tag 0 16
    | 0x1904 => put (min 3 s.ril.restarts) 30 2 ||| put (min 63 s.ril.queries) 24 6 ||| put s.ril.searches 0 16
    | 0x1905 => putb s.ril.direct.isSome 30 ||| putb s.ril.ign 29 ||| put s.ril.xst 24 3
    | 0x1908 => s.ril.xr0
    | 0x1909 => s.ril.xr1
    | 0x190A => put s.ril.rounds 16 16 ||| put s.ril.skipped 0 16
    | 0x190B => s.ril.pts
    | _ => 0

/-- A word of 32 source bits. -/
def srcBits (f : Nat → Bool) (k : Nat) : Word := (List.range 32).foldl (fun (w : Word) j => w ||| putb (f (32 * k + j)) j) 0

/-- A shadow is open now. -/
def State.shadowOpen (s : State) (sh : Option Shadow) : Bool :=
  match sh with | some h => decide (h.opens ≤ s.clk) && decide (s.clk < h.ends) | none => false

/-- FLT registers (Table 14.5). DESIGN CHOICE, log entry 8; DEDUCED, log entry 106. -/
def State.rdFlt (s : State) (rq : Requester) (a : Nat) : Word :=
  let i := s.fltIdx rq
  let f := s.fsrc i
  let unc := (s.flt.src.filter (fun e => e.2.sticky)).length
  if 0x1A10 ≤ a ∧ a ≤ 0x1A14 then srcBits (fun j => (s.fsrc j).sticky) (a - 0x1A10)
  else if 0x1A18 ≤ a ∧ a ≤ 0x1A1C then srcBits s.live (a - 0x1A18)
  else if 0x1A20 ≤ a ∧ a ≤ 0x1A24 then srcBits (fun j => (s.fsrc j).sec) (a - 0x1A20)
  else match a with
    | 0x1A01 =>
      put unc 24 8 ||| putb s.flt.stwAlive 17 ||| putb s.flt.flowRun 16 ||| putb (s.shadowOpen s.flt.shadowM) 12 |||
        putb (s.shadowOpen s.flt.shadowB) 11 ||| putb s.stopped 9 ||| putb s.throttled 8 ||| putb (decide (unc ≠ 0)) 3 |||
        put s.maxClass 0 2
    | 0x1A03 => put s.flt.lost 16 8 ||| put s.flt.queue.length 0 6
    | 0x1A05 => s.eff (0x1B00 + i)
    | 0x1A06 =>
      put (s.eclass i) 30 2 ||| put (s.ereact i) 27 3 ||| putb f.first.isSome 26 ||| putb (f.holdT || f.holdS) 25 |||
        putb (f.winOpen && !s.winOver i) 24 ||| put f.cnt 16 8 ||| put f.secCnt 8 8 ||| put f.escCnt 0 8
    | 0x1A07 => f.firstReg.extractLsb' 0 32
    | 0x1A08 => f.firstReg.extractLsb' 32 32
    | 0x1A09 => put f.last 0 32
    | 0x1A0A => put s.flt.lastSrc 16 8 ||| put s.flt.lastRe 0 3
    | _ => 0

/-- A temperature as its register shows it (Table 15.7). -/
def temp16 (t : Int) : Word := (BitVec.ofInt 16 t).setWidth 32

/-- THM registers (Table 15.7). DESIGN CHOICE, log entry 19; DEDUCED, log entry 109. -/
def State.rdThm (s : State) (a : Nat) : Word :=
  if 0x1C10 ≤ a ∧ a ≤ 0x1C15 then
    (temp16 (s.nodeTemp (a - 0x1C10)) <<< 16) ||| temp16 (s.sens (a - 0x1C10)).meas
  else match a with
    | 0x1C02 =>
      put s.thm.thr.num 30 2 ||| put s.thm.band 24 3 ||| putb s.thm.parked 23 ||| putb s.thm.nvmHold 22 ||| putb s.thm.degraded 21 |||
        put s.thm.hottest 16 3 ||| temp16 s.thm.tmax
    | 0x1C03 => if s.thm.thr = .requested then put ((s.thm.graceEnd - s.tbn + msTicks - 1) / msTicks) 0 16 else 0
    | 0x1C04 => (List.range 6).foldl (fun (w : Word) k => w ||| putb (s.sens k).replaced k) 0
    | 0x1C05 => put s.thm.rateSens 16 3 ||| temp16 s.thm.rate
    | 0x1C06 => put s.thm.cntEnf 16 16 ||| put s.thm.cntShut 0 16
    | 0x1C07 => temp16 (Config.ambShown s.thm.amb)
    | 0x1C16 => temp16 (s.nodeTemp 6)
    | 0x1C17 => temp16 (s.nodeTemp 7)
    | _ => 0

/-- The map entries for a unit by its global index (Table 16.6). -/
def MapEnt.ofUnit (e : MapEnt) (u : Nat) : Bool := decide (e.key = (false, u))

/-- A repair map entry as BST_MENT shows it (Table 16.8). -/
def MapEnt.word (e : MapEnt) : Word :=
  put e.kind 28 4 ||| put e.cause 24 4 ||| put e.unit 12 12 ||| put (if e.subst = 0xFFFF then 0xFFF else e.subst) 0 12

/-- BST registers (Table 16.8). DEDUCED, log entries 33, 111 and 112. -/
def State.rdBst (s : State) (rq : Requester) : Nat → Word
  | 0x1D02 =>
    put s.bst.startRes 29 3 ||| putb s.bgOn 28 ||| putb (decide (s.bst.slices ≠ [])) 27 ||| putb s.bst.mapLost 26 |||
      putb s.bst.mapPend 25 ||| put s.bst.tag 0 16
  | 0x1D03 => put s.bst.lastKind 28 4 ||| put s.bst.lastRes 25 3 ||| put s.bst.lastCut 22 3 ||| put s.bst.lastUnit 12 9
  | 0x1D04 => put s.bst.lateN 16 16 ||| put s.bst.lateMax 0 16
  | 0x1D05 => put s.bst.count 16 16 ||| put s.bst.fails 8 8 ||| put s.bst.incs 0 8
  | 0x1D07 =>
    let u := s.bstIdx rq
    let r := s.unitOf u
    let l := s.bst.entries.filter (fun e => e.ofUnit u)
    put r.last 29 3 ||| put r.camp 26 3 |||
      putb (match l.getLast? with | some e => decide (e.subst ≠ 0xFFFF) | none => false) 25 |||
      putb (l.any (fun e => decide (e.cause = 1) || decide (e.cause = 2) || decide (e.cause = 5))) 24 ||| put r.fails 16 8
  | 0x1D08 => (s.unitOf (s.bstIdx rq)).sig
  | 0x1D09 =>
    put s.bst.entries.length 24 8 ||| put s.nvm.rows.length 16 8 |||
      put (if s.bst.useB then s.bst.copyB else s.bst.copyA).gen 0 16
  | 0x1D0B =>
    match s.bst.entries[Sys2Proof.fld (s.sel rq 0x1D0A) 0 7]? with
    | some e => e.word
    | none => 0
  | _ => 0

/-- NVM and UPD registers but the windows' data (Table 17.14). -/
def State.rdNvm (s : State) (a : Nat) : Word :=
  if 0x1E10 ≤ a ∧ a ≤ 0x1E13 then s.bound.pack.extractLsb' (32 * (a - 0x1E10)) 32
  else match a with
    | 0x1E00 =>
      putb s.mramHeld 31 ||| putb (s.oper 5).isSome 30 ||| putb s.nvm.wrapped 29 ||| put (min 255 s.nvm.wq.length) 16 8 |||
        put s.nvm.head 0 11
    | 0x1E01 => put (min 255 s.nvm.ceCount) 24 8 ||| putb s.nvm.ue 23 ||| put s.nvm.ueWord 0 17
    | 0x1E02 => put s.nvm.passes 0 16
    | 0x1E03 => put s.nvm.lastSeq 0 32
    | 0x1E14 => put (if s.bound.pack = 0 then 0 else if s.nvm.bindMis then 2 else 1) 30 2 ||| put s.bound.pos 16 8
    | 0x1E15 => putb s.nvm.bindBusy.isSome 31
    | 0x1E16 => put s.bound.cnt 0 32
    | 0x1F00 => s.updStat
    | 0x1F01 => s.updRcv
    | 0x1F02 => s.updAct
    | 0x1F04 => s.nvm.tactReg
    | 0x1F05 => s.nvm.prev
    | 0x1F06 => put s.nvm.img.proto 16 8 ||| put s.nvm.img.pmin 8 8 ||| put s.nvm.img.pmax 0 8
    | 0x1F07 => put s.nvm.img.schema 16 16 ||| put s.cfgCopy.schema 0 16
    | 0x1F08 => putb s.nvm.keySet 31 ||| putb s.nvm.keyReq 30
    | 0x1F09 =>
      match Jrn.use s.nvm.jrnA s.nvm.jrnB with
      | some j => put j.st.num 30 2 ||| put j.target 24 3 ||| put j.slots.length 0 9
      | none => 0
    | _ => 0

/-! ## A read -/

/-- The bits of a register that its storage holds, as the hardware acts on them; the level of a balance request stands in the sluice. -/
def State.rdCfg (s : State) (rq : Requester) (a : Nat) : Word :=
  if isSelector a then s.sel rq a &&& (regRow a).cfg
  else if 0x1020 ≤ a ∧ a ≤ 0x1037 then 0
  else if a = 0x104 ∧ s.fld 0x104 16 16 = 0 then (s.eff a ||| 0x10000) &&& (regRow a).cfg
  else s.eff a &&& (regRow a).cfg

/-- The status bits of register `a`. -/
def State.rdStat (s : State) (rq : Requester) (a : Nat) : Word :=
  if a < 0x100 then s.rdId a
  else if a < 0x200 then s.rdPwr a
  else if a < 0x400 then s.rdOvl a
  else if a < 0x600 then s.rdCfe a
  else if a < 0x800 then s.rdMod a
  else if a < 0xA00 then s.rdRes a
  else if a < 0xC00 then s.rdBsn rq a
  else if a < 0x1000 then s.rdSeq rq a
  else if a < 0x1200 then s.rdSlu a
  else if a < 0x1400 then s.rdSpc rq a
  else if a < 0x1600 then s.rdEcp a
  else if a < 0x1800 then s.rdNet rq a
  else if a < 0x1900 then s.rdChk a
  else if a < 0x1A00 then s.rdRil a
  else if a < 0x1C00 then s.rdFlt rq a
  else if a < 0x1D00 then s.rdThm a
  else if a < 0x1E00 then s.rdBst rq a
  else s.rdNvm a

/-- What register `a` shows to a requester, but for the windows onto SECDED words. -/
def State.peek (s : State) (rq : Requester) (a : Nat) : Word :=
  if regExists a then s.rdCfg rq a ||| s.rdStat rq a else 0

/-- A word of program SRAM or scratch read through its window (R164, R193). -/
def State.rdSeqWin (s : State) (rq : Requester) (prog : Bool) : Word × State :=
  if prog then
    let i := Sys2Proof.fld (s.sel rq 0xC48) 0 14
    let w := if s.seqBad .prog i then 0xFFFFFFFF else s.progWord i
    (w, (s.seqEcc .prog i).advance rq 0xC48 14 16383)
  else
    let x := s.sel rq 0xC4A
    let i := Sys2Proof.fld x 16 3 * 1024 + Sys2Proof.fld x 0 10
    let w := if s.seqBad .scratch i then 0xFFFFFFFF else s.scratchWord i
    (w, (s.seqEcc .scratch i).advance rq 0xC4A 10 1023)

/-- Word `k` of the ledger slot that a requester selects (R411, R416, R438); the manual gives no value for an uncorrectable word. DESIGN CHOICE, log entry 13; DEDUCED, log entry 114. -/
def State.rdLedger (s : State) (rq : Requester) (k : Nat) : Word × State :=
  let a := ledgAddr (Sys2Proof.fld (s.sel rq 0x1E04) 0 11) + 4 * k
  let w := BitVec.ofNat 32 (leNat (s.mramBytes a 4))
  let (good, s) := s.mramRead a 4
  let (w, s) := if good then (w, s) else s.free
  (w, if k = 7 then s.advance rq 0x1E04 11 2047 else s)

/-- The effects of the reads of Table 19.3 on registers that `peek` shows; `host` says that the access came over the host port. -/
def State.readEffect (s : State) (rq : Requester) (host : Bool) (a : Nat) : State :=
  if 0x800 ≤ a ∧ a ≤ 0x823 then s.takeRead (a - 0x800)
  else match a with
    | 0x1604 => s.setBank rq (fun b => { b with tbh := s.tb.extractLsb' 32 32 })
    | 0x120C => s.advance rq 0x120B 13 8191
    | 0x120F => s.advance rq 0x120D 11 2047
    | 0x1A09 => s.advance rq 0x1A04 8 159
    | 0x1D08 => s.advance rq 0x1D06 9 416
    | 0x160A => if host && s.bridge then { s with net := { s.net with attn := false } } else s
    | _ => s

/-- What register `a` holds for a requester, and what a read of it brings about (R460, R462). -/
def State.readNow (s : State) (rq : Requester) (host : Bool) (a : Nat) : Word × State :=
  if 0xB00 ≤ a ∧ a ≤ 0xBFF then
    let w := s.sel rq 0xA02
    s.pageWord (Sys2Proof.fld w 16 4) (Sys2Proof.fld w 0 16) (a - 0xB00)
  else if a = 0xC49 then s.rdSeqWin rq true
  else if a = 0xC4B then s.rdSeqWin rq false
  else if 0x1E08 ≤ a ∧ a ≤ 0x1E0F then s.rdLedger rq (a - 0x1E08)
  else if a = 0x1E21 then
    let (w, s) := s.custRead rq
    (w, s.advance rq 0x1E20 17 131071)
  else (s.peek rq a, s.readEffect rq host a)

/-- The register and the part of it that an access of `a` by a requester reaches: its own bank of a selector, the selected word of a
window (R464, Table 19.4). DEDUCED, log entry 133. -/
def State.partOf (s : State) (rq : Requester) (a : Nat) : Nat × Nat :=
  if isSelector a then (a, rq.bank)
  else match a with
    | 0x203 => (a, s.ovlSel.getD 0)
    | 0x204 => (a, s.ovlSel.getD 0)
    | 0x205 => (a, s.ovlSel.getD 0)
    | 0xC49 => (a, Sys2Proof.fld (s.sel rq 0xC48) 0 14)
    | 0xC4B => (a, Sys2Proof.fld (s.sel rq 0xC4A) 0 19)
    | 0xC80 => (a, rq.bank)
    | 0x1A05 => (0x1B00 + s.fltIdx rq, 0)
    | 0x1E21 => (a, Sys2Proof.fld (s.sel rq 0x1E20) 0 17)
    | _ => (a, 0)

/-- A read of register `a` by a requester (R10, R27, R460, R462): its value, which is the one before the writes of the same core cycle,
and the state after. -/
def State.readReg (s : State) (rq : Requester) (host : Bool) (a : Nat) : Word × State :=
  let r := s.readNow rq host a
  ((s.oldWord (s.partOf rq a).1 (s.partOf rq a).2).getD r.1, r.2)

/-- `n` registers read from `a` on in ascending order, one in each core cycle (R462). -/
def State.readRegs : Nat → State → Requester → Bool → Nat → List Word × State
  | 0, s, _, _, _ => ([], s)
  | n + 1, s, rq, host, a =>
    let (w, s) := s.readReg rq host a
    let (l, s) := State.readRegs n (if n = 0 then s else s.elapse s.cycle) rq host (a + 1)
    (w :: l, s)

end Sys2Proof.Machine
end

