-- ==== Sys2Proof/Machine/RegWrite.lean ====
section
/-! DEFINITION. Machine/RegWrite.lean: what a write of a register does, and when it is refused (R11 to R14, R50, R56 to R61, R77, R194,
R460, R461). -/

namespace Sys2Proof.Machine

/-! ## Storage -/

/-- The RW, RWL and RWO bits of register `a` written: RWO bits stay pending (R11, R14, R59). DEDUCED, log entry 30. -/
def State.storeReg (s : State) (a : Nat) (v : Word) : State :=
  let r := regRow a
  let m := taken (BitVec.ofNat 32 (r.rw + r.rwl)) (s.covered a) (s.eff a) v
  let p := taken (BitVec.ofNat 32 r.rwo) (s.covered a) (s.eff a) v
  let s := if r.rw + r.rwl = 0 then s else s.setUnder a (merged (s.under a) m v)
  if p = 0 then s
  else
    let old := Sparse.get (0, 0) s.rwo a
    { s with rwo := Sparse.set (0, 0) s.rwo a (old.1 ||| p, merged old.2 p v) }

/-- A banked selector written (R59, R464). -/
def State.storeSel (s : State) (rq : Requester) (a : Nat) (v : Word) : State :=
  let m := taken (regRow a).cfg (s.covered a) (s.sel rq a) v
  s.setBank rq (fun b => b.put a (merged (b.get a) m v))

/-! ## Refusals -/

/-- A requester owns the open configuration lock. -/
def State.owns (s : State) (rq : Requester) : Bool := decide (s.pwr.lockOwner = some rq)

/-- The writes that LOCKOUT does not refuse (R50). -/
def lockoutOpen (a : Nat) (v : Word) : Bool :=
  (decide (0x1A10 ≤ a) && decide (a ≤ 0x1A14)) || (decide (0x1A20 ≤ a) && decide (a ≤ 0x1A24)) ||
    (isSelector a && (decide (a ≠ 0x1E20) || !(v.getLsbD 30))) || !regExists a

/-- A write of SLU_XFET breaks the order of return nodes (R234). -/
def xfetBad (v : Word) : Bool := (List.range 24).any (fun i => decide (0 < i) && !(v.getLsbD i) && v.getLsbD (i - 1))

/-- A requester is a jet. -/
def isJet : Requester → Bool
  | .jet _ => true
  | _ => false

/-- The word that an RWL data register of a window compares with, and the bits compared (R13). -/
def State.winRwl (s : State) (rq : Requester) (a : Nat) : Option (Word × Word) :=
  match a with
  | 0x203 => s.ovlSel.map (fun _ => (s.rdOvl a, 0x1FFFF))
  | 0x204 => s.ovlSel.map (fun _ => (s.rdOvl a, 0xFFFFFFFF))
  | 0x205 => s.ovlSel.map (fun _ => (s.rdOvl a, 0xFFFFFFFF))
  | 0xC49 => some (s.progWord (Sys2Proof.fld (s.sel rq 0xC48) 0 14), 0xFFFFFFFF)
  | 0x1A05 => some (s.eff (0x1B00 + s.fltIdx rq), 0xB7FFFFFF)
  | _ => none

/-- The write would change an RWL field, or sets a bit with RWL semantics (R13). -/
def State.changesRwl (s : State) (rq : Requester) (a : Nat) (v : Word) : Bool :=
  match s.winRwl rq a with
  | some (w, m) => decide ((v ^^^ w) &&& m ≠ 0)
  | none =>
    decide ((v ^^^ s.eff a) &&& BitVec.ofNat 32 (regRow a).rwl ≠ 0) || decide (v &&& BitVec.ofNat 32 (regRow a).wol ≠ 0)

/-- The register holds a field that the configuration lock protects. DEDUCED, log entry 28. -/
def protectedReg (a : Nat) : Bool :=
  decide ((regRow a).rwl ≠ 0) || decide ((regRow a).wol ≠ 0) || (decide (0x203 ≤ a) && decide (a ≤ 0x205)) || decide (a = 0xC49) ||
    decide (a = 0x1A05)

/-- A write that the register's own rule refuses (R61, R207, R234, R327, R367, R418, R434, R438). -/
def State.ownRefusal (s : State) (rq : Requester) (a : Nat) (v : Word) : Bool :=
  if 0x203 ≤ a ∧ a ≤ 0x205 then (s.ovlWrite a v).isNone
  else if 0x1800 ≤ a ∧ a < 0x1900 then (s.chkWrite rq ((a - 0x1800) / 16) (a % 16) v).isNone
  else match a with
    | 0x200 => v.getLsbD 8 && !(v.getLsbD 9) && decide (s.nvm.act = 1)
    | 0xC62 => isJet rq
    | 0x1002 => xfetBad v
    | 0x1A02 => decide (rq ≠ .steward)
    | 0x1E15 => (s.bindKey (Sys2Proof.fld v 0 16)).isNone
    | 0x1E21 => !((s.sel rq 0x1E20).getLsbD 30)
    | _ => false

/-- A write is refused with access-denied status. -/
def State.refuses (s : State) (rq : Requester) (a : Nat) (v : Word) : Bool :=
  if s.pwr.mode = .lockout ∧ rq ≠ .steward ∧ ¬lockoutOpen a v then true
  else if !regExists a then false
  else (s.changesRwl rq a v && !s.owns rq) || s.ownRefusal rq a v

/-! ## Effects -/

/-- What a change of NCELLS does (R77): registers and live bits of cells that become unused are cleared, conversions leave them out. DEDUCED, log entries 50 and 58. -/
def State.cellsChanged (s : State) (old : Nat) : State :=
  let n := s.ncells
  if old ≤ n then s
  else
    let s := (List.range 24).foldl (fun (s : State) c =>
      if c < n then s
      else { s with res :=
        { s.res with
          latest := vset s.res.latest c 0, unread := vset s.res.unread c false, had := maskSet s.res.had c false
          ovMask := maskSet s.res.ovMask c false, uvMask := maskSet s.res.uvMask c false } }) s
    let s := { s with cfe := { s.cfe with openTaps := s.cfe.openTaps % 2 ^ (n + 1) } }
    let s := { s with convs := s.convs.map (fun (c : Conv) =>
      { c with chans := c.chans.filter (fun (x : ConvCh) => decide (24 ≤ x.ch) || decide (x.ch < n)) }) }
    let done := s.convs.filter (fun (c : Conv) => c.granted && c.chans.all (fun (x : ConvCh) => x.word.isSome))
    (done.foldl (fun l c => insertByGroup c l) []).foldl State.completeConv s

/-- RING_EN or ROLE has changed: without a ring the ring state is none (R303, R321). -/
def State.ringCheck (s : State) (was : Bool) : State :=
  if s.ringOn then (if was then s else { s with net := { s.net with ringLast := s.clk, ringLost := false } })
  else if was then
    ({ s with net := { s.net with split := 0, collect := none, healing := false } }).setRing .none
  else s

/-- What follows at once where the configuration in effect has changed: everything that a condition of it turns on or off. -/
def State.settle (s : State) (cells : Nat) (ring : Bool) : State :=
  let s := if s.ncells = cells then s else (s.cellsChanged cells).cellsOff
  (((((s.dropLost.pauseCheck).rlvCheck).ringCheck ring).portCheck).bindCheck).setRate s.time.rate

/-- A register whose change brings something about at once. -/
def settles (a : Nat) : Bool :=
  [0x200, 0x400, 0x401, 0x600, 0x601, 0x1000, 0x1008, 0x1400, 0x1600, 0x1901, 0x1E18, 0x1E19, 0x1E1A, 0x1E1B, 0x1E1C].contains a

/-- RES_SNAP_CTRL.TAKE (R130). -/
def State.takeSnap (s : State) : State :=
  (List.range 36).foldl State.takeRead
    { s with res := { s.res with snap := Vector.ofFn (fun i : Fin 36 => s.latestRead i.val), snaps := (s.res.snaps + 1) % 65536 } }

/-- A write of SEQ_OPCTL (R226); CMD 0 is no action. DEDUCED, log entry 33. -/
def State.opWrite (s : State) (rq : Requester) (v : Word) : State :=
  if Sys2Proof.fld v 24 2 = 0 then s
  else
    let (r, s) := s.opCtl (Sys2Proof.fld v 24 2) (Sys2Proof.fld v 0 16)
    s.setBank rq (fun b => { b with opRes := r })

/-- A write of SEQ_JCTLn: KILL prevails over STOP, STOP over START (R200 to R202). -/
def State.jetWrite (s : State) (j : Nat) (v : Word) : State :=
  if v.getLsbD 29 then s.killJet j
  else if v.getLsbD 30 then s.stopReq j
  else if v.getLsbD 31 then s.startJet j (s.fld (0xC68 + j) 0 14) else s

/-- CLR_CNT of ECP_CTRL (R300). -/
def Port.clearCounts (p : Port) : Port :=
  { p with crcErr := 0, cntErr := 0, lost := 0, fmtErr := 0, drops := 0, aborts := 0, timeouts := 0 }

/-- A write of ECP_CTRL after its enables are stored (R297, R300). -/
def State.ecpWrite (s : State) (v : Word) : State :=
  let s := if v.getLsbD 8 then s.toneSend .north else s
  let s := if v.getLsbD 9 then s.toneSend .south else s
  if v.getLsbD 16 then (s.setPort .north Port.clearCounts).setPort .south Port.clearCounts else s

/-- ENUM of NET_CTRL (R306): ignored on a node and while an enumeration runs. -/
def State.enumBegin (s : State) (clear : Bool) : State :=
  if !s.bridge || s.net.enumRun.isSome then s
  else if s.ecp.north.st ≠ .up then { s with net := { s.net with enumRes := 2 } }
  else
    let e : EnumRun := ⟨if clear then .clear else .assign, 0, s.clk, noTag, false, 0, false⟩
    let t := s.enumSend e (if clear then 1 else 2)
    match t.net.enumRun with
    | some r => if r.step = .clear ∧ r.lone then s.enumSend { e with step := .assign } 2 else t
    | none => t

/-- A write of NET_CTRL (R306, R322). -/
def State.netWrite (s : State) (v : Word) : State :=
  let s := if v.getLsbD 31 then s.enumBegin (v.getLsbD 30) else s
  if v.getLsbD 29 && s.bridge then s.sendNormal else s

/-- A write of BST_CTRL (R398, R403, R408). -/
def State.bstWrite (s : State) (rq : Requester) (v : Word) : State :=
  let u := Sys2Proof.fld v 0 9
  let s := if v.getLsbD 31 then s.campStart rq else s
  let s := if v.getLsbD 30 && (s.unitOf u).conf then s.repairUnit u 5 else s
  if v.getLsbD 29 then { s with bst := { s.bst with count := 0, fails := 0, incs := 0, lateN := 0, lateMax := 0 } } else s

/-- The state with the WC bits that a write of 1 clears cleared, for WC fields that one bit of State holds. -/
def State.clearWc (s : State) (a : Nat) (v : Word) : State :=
  let b := fun i => v.getLsbD i
  match a with
  | 0x824 => { s with res := { s.res with ovr0 := s.res.ovr0 &&& (2 ^ 24 - 1 - Sys2Proof.fld v 0 24) } }
  | 0x825 => { s with res := { s.res with ovr1 := s.res.ovr1 &&& (2 ^ 12 - 1 - Sys2Proof.fld v 0 12) } }
  | 0xA01 => if b 15 then { s with bsn := { s.bsn with ue := false } } else s
  | 0xC4C => if b 15 then { s with seq := { s.seq with ue := false } } else s
  | 0xC63 => if b 24 then { s with seq := { s.seq with startIgn := false } } else s
  | 0x1008 => (bitsOf 24 v.toNat).foldl (fun (s : State) i => s.setBal (i + 1) (fun c => { c with hold := false })) s
  | 0x100A => { s with slu := { s.slu with qdone := s.slu.qdone &&& (2 ^ 24 - 1 - Sys2Proof.fld v 0 24) } }
  | 0x1408 => if b 8 then { s with ecp := { s.ecp with wakeIgn := false } } else s
  | 0x1602 => if b 30 then { s with net := { s.net with posErr := false } } else s
  | 0x1606 => if b 29 then { s with net := { s.net with stepped := false } } else s
  | 0x1903 => { s with ril := { s.ril with rlvFault := s.ril.rlvFault && !b 28, stuck := s.ril.stuck && !b 27 } }
  | 0x1905 => if b 29 then { s with ril := { s.ril with ign := false } } else s
  | 0x1D02 => if b 26 then { s with bst := { s.bst with mapLost := false } } else s
  | 0x1E01 => if b 23 then { s with nvm := { s.nvm with ue := false } } else s
  | _ => s

/-- A key write of PWR_RESET (Table 2.12); the level of TEST at the reset's step 1 is open (R442). DEDUCED, log entries 4 and 27. -/
def State.resetWrite (s : State) (v : Word) : State :=
  if Sys2Proof.fld v 0 16 = 0x9E3A ∧ s.pwr.lockOwner.isSome then s.resetWith (Config.testLevel s.resets) (s.aon.keep 3) 1 else s

/-- What a write of a register without RWL, RW or RWO storage of its own in `regs` does, once it is not refused: the registers
0x0100 to 0x0BFF. -/
def State.effectLow (s : State) (rq : Requester) (armed : Bool) (a : Nat) (v : Word) : State :=
  if 0xA10 ≤ a ∧ a ≤ 0xA1F then (if v.getLsbD 29 then s.resetStrm (a - 0xA10) else s).examine (a - 0xA10)
  else if 0xA20 ≤ a ∧ a ≤ 0xA2F then
    if v.getLsbD 25 then s.setStrm (a - 0xA20) (fun t => { t with ackShort := false }) else s
  else match a with
    | 0x101 => s.localRequest (Sys2Proof.fld v 0 4)
    | 0x10A => s.keyWrite rq (Sys2Proof.fld v 0 16) armed
    | 0x10D => s.resetWrite v
    | 0x200 => if v.getLsbD 9 then s.cfgDiscard else if v.getLsbD 8 then s.cfgSave else s
    | 0x203 => (s.ovlWrite a v).getD s
    | 0x204 => (s.ovlWrite a v).getD s
    | 0x205 => (s.ovlWrite a v).getD s
    | 0x404 => if v.getLsbD 0 then s.owDue else s
    | 0x609 => if v.getLsbD 31 then s.calStart rq else s
    | 0x828 => if v.getLsbD 0 then s.takeSnap else s
    | 0xA03 => s.ackPages (Sys2Proof.fld v 16 4) (Sys2Proof.fld v 0 16)
    | 0xA04 => (bitsOf 16 v.toNat).foldl State.closePage s
    | _ => s.clearWc a v

/-- The same for the registers 0x0C00 to 0x13FF. -/
def State.effectMid (s : State) (rq : Requester) (a : Nat) (v : Word) : State :=
  if a < 0xC30 then s.examineGrp (a % 16)
  else if 0xC68 ≤ a ∧ a ≤ 0xC6F then s.jetWrite (a - 0xC68) v
  else if 0x1020 ≤ a ∧ a ≤ 0x1037 then s.writeLevel rq (a - 0x101F) v
  else if 0x1040 ≤ a ∧ a ≤ 0x1057 then s.reqQuota rq (a - 0x103F) v.toNat
  else match a with
    | 0xC42 => s.setFlags v.toNat
    | 0xC43 => s.setFlags (v.toNat * 2 ^ 32)
    | 0xC44 => s.clearFlags v.toNat
    | 0xC45 => s.clearFlags (v.toNat * 2 ^ 32)
    | 0xC49 => (s.putProg (Sys2Proof.fld (s.sel rq 0xC48) 0 14) v).advance rq 0xC48 14 16383
    | 0xC4B =>
      let x := s.sel rq 0xC4A
      (s.putScratch (Sys2Proof.fld x 16 3 * 1024 + Sys2Proof.fld x 0 10) v).advance rq 0xC4A 10 1023
    | 0xC61 => if v.getLsbD 31 then s.loadStart (s.fld 0xC61 16 8) else s
    | 0xC62 => s.nextCycle (·.triggerAll 1 1 false (fun g => v.getLsbD g))
    | 0xC80 => s.opWrite rq v
    | 0x1200 => if v.getLsbD 31 && !isJet rq then s.specStart rq (Sys2Proof.fld v 0 2) else s
    | _ => s.clearWc a v

/-- The same for the registers from 0x1400. DEDUCED, log entry 34. -/
def State.effectHigh (s : State) (rq : Requester) (a : Nat) (v : Word) : State :=
  if 0x1800 ≤ a ∧ a < 0x1900 then (s.chkWrite rq ((a - 0x1800) / 16) (a % 16) v).getD s
  else if 0x1960 ≤ a ∧ a ≤ 0x197F then
    if v.getLsbD 29 then { s with ril := { s.ril with ents := vmod s.ril.ents (a - 0x1960) (fun e => { e with new := false }) } } else s
  else if 0x1A10 ≤ a ∧ a ≤ 0x1A14 then s.stickyClear (a - 0x1A10) v
  else if 0x1A20 ≤ a ∧ a ≤ 0x1A24 then s.secClear (a - 0x1A20) v
  else match a with
    | 0x1400 => s.ecpWrite v
    | 0x1601 => s.netWrite v
    | 0x1900 => if v.getLsbD 31 then (s.rilSettle 6).searchStart rq else s
    | 0x1905 => ((s.rilSettle 6).clearWc a v).directStart ((s.eff 0x1905 &&& (regRow 0x1905).cfg) ||| putb (v.getLsbD 31) 31)
    | 0x1A02 => if Sys2Proof.fld v 0 16 = 0x6C1D then s.aliveKey else s
    | 0x1A05 => s.storeReg (0x1B00 + s.fltIdx rq) v
    | 0x1A0B => if Sys2Proof.fld v 0 16 = 0xC1EA then s.clearAll else s
    | 0x1C04 => s.restoreSens (Sys2Proof.fld v 8 6)
    | 0x1D00 => s.bstWrite rq v
    | 0x1E02 => if v.getLsbD 30 then s.scrubBegin rq else s
    | 0x1E15 => (s.bindKey (Sys2Proof.fld v 0 16)).getD s
    | 0x1E21 => (s.custWrite rq v).advance rq 0x1E20 17 131071
    | _ => s.clearWc a v

/-- A level request is not stored with the registers, and a check-value channel stores its own. -/
def storesReg (a : Nat) : Bool := !(decide (0x1020 ≤ a) && decide (a ≤ 0x1037)) && !(decide (0x1800 ≤ a) && decide (a < 0x1900))

/-- The note of the lock's owner at work (R57). -/
def State.ownerActs (s : State) (rq : Requester) (a : Nat) : State :=
  if s.owns rq && protectedReg a then { s with pwr := { s.pwr with lockLast := s.clk } } else s

/-- The stored bits of a written register. -/
def State.stored (s : State) (rq : Requester) (a : Nat) (v : Word) : State :=
  if storesReg a then (s.ownerActs rq a).storeReg a v else s.ownerActs rq a

/-- What a write of a register does beside its stored bits, by the register's own rule; a WC bit that the device has set in the same
cycle stays set (R12). -/
def State.effect (s : State) (rq : Requester) (armed : Bool) (a : Nat) (v : Word) : State :=
  let v := v &&& ~~~(s.wcFresh a)
  if a < 0xC00 then s.effectLow rq armed a v
  else if a < 0x1400 then s.effectMid rq a v
  else s.effectHigh rq a v

/-- A register whose own rule takes the word written as its value, not as an action. -/
def holdsWord (a : Nat) : Bool :=
  (decide (0x203 ≤ a) && decide (a ≤ 0x205)) || (decide (0x1020 ≤ a) && decide (a ≤ 0x1037)) ||
    (decide (0x1040 ≤ a) && decide (a ≤ 0x1057)) || [0xC49, 0xC4B, 0x1A05, 0x1E21].contains a ||
    (decide (0x1800 ≤ a) && decide (a < 0x1900) && (decide (a % 16 ≤ 3) || decide (a % 16 = 8)))

/-- A write that another of its cycle follows in the order of R26: its word is replaced, its actions stand. DEDUCED, log entry 133. -/
def State.replaced (s : State) (rq : Requester) (armed : Bool) (a : Nat) (v : Word) : State :=
  if !holdsWord a then (s.ownerActs rq a).effect rq armed a v
  else match a with
    | 0xC49 => s.advance rq 0xC48 14 16383
    | 0xC4B => s.advance rq 0xC4A 10 1023
    | 0x1E21 => s.advance rq 0x1E20 17 131071
    | _ => if 0x1800 ≤ a ∧ a < 0x1900 then s.chkOwn rq ((a - 0x1800) / 16) else s

/-- The record of a write in its cycle (R26, R27); NET_TBL, the timebase, is not written. -/
def State.noteWrite (s : State) (rq : Requester) (a : Nat) : State :=
  if a = 0x1604 then s else
  let k := s.partOf rq a
  let u := s.noteOld k.1 k.2 (s.readNow rq false a).1
  if s.outranked rq k.1 k.2 then u else u.noteRank rq k.1 k.2

/-- Before a register of the rill bus is written, what the bus has done by now is taken up (R342, R352). -/
def State.busNow (s : State) (a : Nat) : State := if 0x1900 ≤ a ∧ a < 0x1A00 then s.rilSettle 6 else s

/-- A write of AUX_DIFF or SEL has changed the input of modulator 60 or 62 (R101). -/
def State.inputWrite (s : State) (a : Nat) : State :=
  match a with
  | 0x600 => s.inputChanged 60
  | 0x604 => s.inputChanged 62
  | _ => s

/-- A write that is not refused takes effect. -/
def State.applyWrite (s : State) (rq : Requester) (armed : Bool) (a : Nat) (v : Word) : State :=
  if !regExists a then s
  else
    let s := s.busNow a
    let u := s.noteWrite rq a
    if isSelector a then u.storeSel rq a v
    else
      let w :=
        if s.outranked rq (s.partOf rq a).1 (s.partOf rq a).2 then u.replaced rq armed a v
        else (u.stored rq a v).effect rq armed a v
      (if settles a then w.settle s.ncells s.ringOn else w).inputWrite a

/-- A register write by a requester undoes its first key of the lock (R56). -/
def State.disarm (s : State) (rq : Requester) : State :=
  { s with pwr := { s.pwr with keyArmed := s.pwr.keyArmed.filter (fun q => decide (q ≠ rq)) } }

/-- A write waits for a commit, behind those of earlier cycles and those that R26 applies before it. -/
def Commit.hold (c : Commit) (w : HeldWrite) : Commit :=
  let after := fun (e : HeldWrite) => decide (e.at_ = w.at_) && decide (writeRank w.rq < writeRank e.rq)
  { c with waits := c.waits.filter (fun e => !after e) ++ w :: c.waits.filter after }

/-- A write of register `a` by a requester (R13, R60): judged when it comes; then refused, held until the overlay commit in progress
has taken effect, or effective at once. DEDUCED, log entries 28 and 31. -/
def State.writeReg (s : State) (rq : Requester) (a : Nat) (v : Word) : AccSt × State :=
  let st := if s.refuses rq a v then AccSt.denied else .ok
  match s.pwr.commit with
  | some c => (st, { s with pwr := { s.pwr with commit := some (c.hold ⟨rq, a, v, decide (st = .ok), s.clk⟩) } })
  | none =>
    let u := s.disarm rq
    (st, if st = .ok then u.applyWrite rq (s.pwr.keyArmed.contains rq) a v else u)

/-- Registers written from `a` on in ascending order, one in each core cycle (R285, R462): the writes done before the first refused
one, and the state. A reset on the way ends the access. -/
def State.writeRegs : List Word → State → Requester → Nat → Nat × AccSt × State
  | [], s, _, _ => (0, .ok, s)
  | v :: t, s, rq, a =>
    let (st, s') := s.writeReg rq a v
    match st with
    | .denied => (0, .denied, s')
    | .ok =>
      if s'.resets ≠ s.resets then (1, .ok, s')
      else
        let (n, st, s'') := State.writeRegs t (if t = [] then s' else s'.elapse s'.cycle) rq (a + 1)
        (n + 1, st, s'')

/-- The device serves register accesses of a requester: the core is clocked and, in RESET, the ports are enabled (Table 2.5, R44). DEDUCED, log entry 36. -/
def State.serves (s : State) (rq : Requester) : Bool :=
  match rq with
  | .steward => s.stw
  | .jet _ => s.coreOn && s.modeIn 3 10
  | rq => s.svcOn (decide (rq = .service)) && !s.pwr.stuck

/-- A register write that arrives at the device: its effect and the status that the requester sees. DEDUCED, log entry 35. -/
def State.access (s : State) (rq : Requester) (a : Nat) (v : Word) : State :=
  if s.serves rq then
    let (st, s) := s.writeReg rq a v
    s.answers st []
  else s

/-- A register read that arrives at the device. -/
def State.readAccess (s : State) (rq : Requester) (host : Bool) (a : Nat) : State :=
  if s.serves rq then
    let (w, s) := s.readReg rq host a
    s.answers .ok [w]
  else s

end Sys2Proof.Machine
end

