-- ==== Sys2Proof/Machine/Commit.lean ====
section
/-! DEFINITION. Machine/Commit.lean: the overlay commit, and what leaving one mode and entering another does (R14, R45, R50, R55, R60,
R89, R98, R203, R337). -/

namespace Sys2Proof.Machine

/-- Ticks from the first to the last cycle of a commit, which takes 4 cycles and one for each valid entry withdrawn and applied (R60). DEDUCED, log entry 32. -/
def State.commitTicks (s : State) (c : Commit) : Nat := (3 + s.ovl.snap.length + c.snap.length) * s.cycle

/-- Pending RWO values become underlying values (R14). -/
def State.moveRwo (s : State) : State :=
  s.rwo.foldl (fun (s : State) e => s.setUnder e.1 (merged (s.under e.1) e.2.1 e.2.2)) { s with rwo := [] }

/-- The commit is a chain-wide one. -/
def CommitWhy.epoch : CommitWhy → Option Nat
  | .chain e => some e
  | _ => none

/-- The registers of mode control after a commit (R55, R60, R66). -/
def State.commitMode (s : State) (c : Commit) : State :=
  let m := c.target
  { s with
    ovl := { s.ovl with snap := c.snap }
    aon := { s.aon with appliedEpoch := c.why.epoch.getD s.aon.appliedEpoch }
    pwr :=
      { s.pwr with
        commit := none, mode := m, prevMode := s.pwr.mode
        returnMode := if 6 ≤ m.num ∧ m.num ≤ 9 ∧ m ≠ s.pwr.mode then s.pwr.mode else s.pwr.returnMode
        localSet := if c.why.epoch.isSome then false else s.pwr.localSet || decide (m ≠ s.pwr.mode)
        prepState := if c.why.epoch.isSome then b2n s.pwr.prepared.isSome else s.pwr.prepState
        modeAt := s.clk } }

/-- The spread of the configuration in effect on the PLL (R38, R39). -/
def State.takeSpread (s : State) : State := { s with pwr := { s.pwr with spread := s.fld 0x105 0 2 % 3 } }

/-- Conversions that hold their sides wait for them again: the modulator clock has changed (R98). -/
def State.reclock (s : State) : State :=
  let s := s.clearDecims
  { s with convs := s.convs.map (fun (c : Conv) => if c.granted then c.afresh else c) }

/-- Every group conversion is aborted (R50, R203, R213). DEDUCED, log entry 45. -/
def State.abortGroups (s : State) : State :=
  (s.convs.filter (fun (c : Conv) => match c.why with | .group _ => true | _ => false)).foldl (fun (s : State) (c : Conv) => s.abortConv c true) s

/-- A running check ends because the modulator clock changes, and a new check is held (R89). -/
def State.owReclock (s : State) : State :=
  if s.cfe.run.isSome then { (s.owAbort) with cfe := { s.owAbort.cfe with deferred := true } } else s

/-- The jets that run, wait or stop come to a stop (R203). -/
def State.haltJets (s : State) (f : State → Nat → State) : State :=
  (List.range 8).foldl (fun (s : State) j => if (s.jet j).busy then f s j else s) s

/-- The continuous conversion of LOCKOUT: a request for each used cell and for STACK (R50). DEDUCED, log entry 57. -/
def State.lockConvs (s : State) : State :=
  ((List.range 24).filter (fun c => s.used (c + 1)) ++ [35]).foldl (fun (s : State) ch =>
    let c : Conv :=
      { id := s.nextId, why := .lock ch, stand := 1, jet := 8, osrK := 13, s := 2, merge := s.bit 0x600 4, diff := s.bit 0x600 8, grid := false
        after := none, start := none, strm := none, chans := [ConvCh.fresh ch 4] }
    { s with convs := s.convs ++ [c], nextId := s.nextId + 1 }) s

/-- Entry to LOCKOUT (R50, R203, R220, R337). -/
def State.enterLockout (s : State) : State :=
  let s := s.haltJets (fun s j => s.stopJet j 14 0 false)
  let s := s.abortGroups
  let s := (List.range 16).foldl (fun (s : State) g =>
    if (s.grp g).held.isSome then (s.setGrp g (fun r => { r with held := none })).heldResolved g none else s) s
  let s := s.cmdFlush
  let s := { s with chk := s.chk.map (fun (c : Chk) =>
    if c.active then { c with active := false, owner := none, feed := none, crc := 0, lastEnd := 3 } else c) }
  s.lockConvs

/-- Entry to SHIP or STILL: jets are killed, conversions aborted, the steward and the clocks stop (R29, R47, R49, R203). -/
def State.enterSleep (s : State) : State :=
  let s := (s.haltJets State.killNow).abortGroups
  let s := (s.owAbort.stewardStop).clearDecims
  let ship := decide (s.pwr.mode = .ship)
  let s := s.dropConvs (fun _ => true)
  { s with
    pwr :=
      { s.pwr with
        pllLock := false, refOk := false, coreSrc := .lpo, lpoRun := !ship && s.pwr.lpoRun, scanCell := 1, scanAt := s.clk } }

/-- Entry to WATCH: the PLL is off, core and modulators run from the reference in bursts (R48, R98, R444). DEDUCED, log entry 44. -/
def State.enterWatch (s : State) : State :=
  let s := s.owReclock.reclock.readsNow
  State.notePower <| State.reclockJets
    { s with
      thm := { s.thm with sens := s.thm.sens.map (fun (q : Sens) => { q with hist := [] }) }
      pwr :=
        { s.pwr with
          pllLock := false, coreSrc := .ref, burst := false, buckBurst := false, supMask := true, gateAt := s.clk
          burstAt := s.clk } } s.cycle

/-- WATCH is left: the PLL runs again, and the cycles gated off count for no watchdog (R48, R98, R204, R367, R378). DEDUCED, log entry 44. -/
def State.leaveWatch (s : State) : State :=
  let gap := if s.pwr.burst then 0 else s.clk - s.pwr.gateAt
  let s := (s.owReclock.reclock.jetsAfterGap gap).readsNow
  State.notePower <| State.reclockJets
    { s with
      pwr :=
        { s.pwr with
          pllLock := s.pwr.refOk, coreSrc := if s.pwr.refOk then .pll else .lpo, retries := 0, pllAt := s.clk, burst := false
          buckBurst := false, supMask := false }
      thm := { s.thm with sens := s.thm.sens.map (fun (q : Sens) => { q with hist := [] }) }
      flt := { s.flt with stwKey := s.flt.stwKey + gap } } s.cycle

/-- What leaving mode `old` brings about (R45). DEDUCED, log entry 45. -/
def State.leaveMode (s : State) (old : Mode) : State :=
  match old with
  | .balance => if s.pwr.mode = .balance then s else ({ s with slu := { s.slu with running := false } }).openAll
  | .spectrum => if s.pwr.mode = .spectrum then s else s.openAll
  | .selftest => if s.pwr.mode = .selftest then s else s.openAll
  | .watch => if s.pwr.mode = .watch ∨ s.pwr.mode = .ship ∨ s.pwr.mode = .still then s else s.leaveWatch
  | _ => s

/-- What entering the present mode brings about; `old` is the mode left. DEDUCED, log entry 29. -/
def State.enterMode (s : State) (old : Mode) : State :=
  let s := match s.pwr.mode with
    | .ship => s.enterSleep
    | .still => s.enterSleep
    | .watch => if old = Mode.watch then s else s.enterWatch
    | .lockout => if old = Mode.lockout then s else s.enterLockout
    | _ => s
  let s := if s.ecp.relayDue ∧ s.pwr.mode = .measure then
      { s with ecp := { s.ecp with relayDue := false, relayAt := some (s.clk + 200 * usTicks) } }
    else s
  let s := if old = Mode.reset ∧ s.modeIn 4 10 then { s with ril := { s.ril with autoFrom := s.bit 0x1901 30 } } else s
  match s.pwr.mode with
  | .reset => s.owAbort
  | .ship => s.owAbort
  | .still => s.owAbort
  | .spectrum => s.owAbort
  | _ => s.owEnter

/-- Streams and groups are examined under the configuration in effect (R139, R205). -/
def State.examineCfg (s : State) : State := (List.range 16).foldl State.examineGrp s.examineAll

/-- A commit's last cycle: everything takes effect together (R60). DEDUCED, log entry 41. -/
def State.completeCommit (s : State) (c : Commit) : State :=
  let s := s.rilSettle 6
  let cells := s.ncells
  let ring := s.ringOn
  let old := s.pwr.mode
  let s := ((s.moveRwo).commitMode c).takeSpread
  let s := (s.leaveMode old).enterMode old
  let s := (s.settle cells ring).examineCfg
  if c.why = .reaction then s.preemptPrepared else s

/-- The mode reaction that waited for a commit follows at once (R25). DEDUCED, log entry 42. -/
def State.nextReaction (s : State) : State :=
  match s.pwr.nextReact with
  | some m => ({ s with pwr := { s.pwr with nextReact := none } }).beginCommit m .reaction
  | none => s

/-- The word of an accepted write with its RWL bits as they stand: such a write of a requester that does not own the lock changes none
of them (R13). -/
def State.keepRwl (s : State) (rq : Requester) (a : Nat) (v : Word) : Word :=
  match s.winRwl rq a with
  | some (w, m) => (v &&& ~~~m) ||| (w &&& m)
  | none => let m := BitVec.ofNat 32 (regRow a).rwl; (v &&& ~~~m) ||| (s.eff a &&& m)

/-- No write of this cycle stands before another (the writes that waited are in order already). -/
def State.unranked (s : State) : State := s.cycMod (fun c => { c with ranks := [] })

/-- A write that waited for the commit takes effect; one that was refused when it came only undoes its requester's first key. -/
def State.replayOne (s : State) (e : HeldWrite) : State :=
  let u := s.disarm e.rq
  if e.ok then (u.unranked.applyWrite e.rq (s.pwr.keyArmed.contains e.rq) e.addr (s.keepRwl e.rq e.addr e.val)).unranked else u

/-- Writes that waited for the commit, in the order in which they came (R60); a reset drops those behind it. DEDUCED, log entry 31. -/
def State.replay : List HeldWrite → State → State
  | [], s => s
  | e :: t, s =>
    let u := s.replayOne e
    if u.resets = s.resets then State.replay t u else u

/-- OVERLAY_COMMIT (R60): the commit in progress completes; the writes that waited follow, then a mode reaction that waited (R25).
DEDUCED, log entry 32. -/
def execOverlayCommit (dt : Nat) (s : State) : Out :=
  let s := s.elapse dt
  match s.pwr.commit with
  | some c =>
    let s := s.until_ (c.start + s.commitTicks c)
    .next ((s.completeCommit c).replay c.waits).nextReaction
  | none => .next s

end Sys2Proof.Machine
end

