-- ==== Sys2Proof/Machine/Startup.lean ====
section
/-! DEFINITION. Machine/Startup.lean: start-up steps 5 to 9 of Table 2.5 (R43, R44, R63, R64, R407, R415, R466). -/

namespace Sys2Proof.Machine

/-- Start-up stands at a step, and not in the factory test state. -/
def State.atStep (s : State) (n : Nat) : Bool := decide (s.pwr.mode = .reset) && decide (s.pwr.step = n) && !s.pwr.stuck && !s.pwr.factory

/-- LOADER_START (R43): the clocks run from step 4 on, and time passes until then; copy B is started where copy A fails. Each copy is read
through its code, and an uncorrectable word fails it (R411). Where both fail no loader runs. DEDUCED, log entry 43. -/
def execLoaderStart (dt : Nat) (aOk bOk : Bool) (s : State) : Out :=
  let s := s.elapse dt
  if s.atStep 1 then
    let s := s.until_ (s.pwr.modeAt + s.startAfter 4)
    let s := { s with pwr := { s.pwr with pllLock := true, refOk := true, coreSrc := .pll } }
    let (a, s) := s.mramRead 0 0x4000
    let a := aOk && a
    let (b, s) := if a then (false, s) else s.mramRead 0x4000 0x4000
    if a || (bOk && b) then .next { s with pwr := { s.pwr with step := 5 }, nvm := { s.nvm with ldrB := !a } }
    else .next { s with pwr := { s.pwr with step := 4 } }
  else .next s

/-- IMAGE_COPY_DONE (R43, R44): the image is in steward SRAM, or none passed and the device stays in RESET with its ports enabled. `ok` says
that steward SRAM took the blocks as they were read. A device without an image has no activation to confirm (R436). DEDUCED, log entry 120. -/
def execImageCopyDone (dt : Nat) (ok : Bool) (s : State) : Out :=
  let s := s.elapse dt
  if s.atStep 5 then
    let (good, s) := s.loadImage
    .next (if ok && good then { s with pwr := { s.pwr with step := 6 } }
      else
        ({ s with pwr := { s.pwr with step := 6, stuck := true }, nvm := { s.nvm with noImg := true, act := 0 } }).portCheck)
  else .next s

/-! ## Step 7 -/

/-- One entry of the repair map in force put in effect (Tables 16.5, 16.6). -/
def State.applyEntry (s : State) (e : MapEnt) : State :=
  match e.kind with
  | 1 =>
    let i := e.subst - 48
    (s.setSpare i (fun p => { p with used := some e.unit, visit := none, stand := none, due := none })).seatRepair i
  | 2 => ((s.parkSpare (e.unit - 48)).setSpare (e.unit - 48) (fun p => { p with used := some retiredMark })).seatRepair (e.unit - 48)
  | 3 =>
    let free := s.bsn.free.filter (fun x => decide (x ≠ e.unit))
    if e.subst = 0xFFFF then { s with bsn := { s.bsn with free := free } }
    else { s with bsn := { s.bsn with free := insertAsc e.subst free, spareOut := s.bsn.spareOut + 1 } }
  | 4 => { s with nvm := { s.nvm with rows := s.nvm.rows ++ [(e.unit, e.subst)] } }
  | _ => s

/-- The repair map of the valid copy with the higher generation is applied; with none, no repair is, and MAP_LOST is set (R407). -/
def State.loadMap (s : State) : State :=
  let a := s.bst.copyA
  let b := s.bst.copyB
  let s := { s with nvm := { s.nvm with rows := [] } }
  if a.ok || b.ok then
    let useB := b.ok && (!a.ok || decide (a.gen < b.gen))
    let l := if useB then b.ents else a.ents
    (inForce l).foldl State.applyEntry { s with bst := { s.bst with useB := useB, entries := l } }
  else ({ s with bst := { s.bst with mapLost := true, entries := [] } }).wcSet 0x1D02 (putb true 26)

/-- The valid configuration copy with the higher generation is loaded, else the built-in defaults stand (R63, R64). DEDUCED, log entry 14. -/
def State.loadConfig (s : State) : State :=
  let a := s.ovl.copyA
  let b := s.ovl.copyB_
  let okA := s.cfgValid a
  let okB := s.cfgValid b
  if okA || okB then
    let useB := okB && (!okA || decide (a.gen < b.gen))
    ({ s with ovl := { s.ovl with copyB := useB } }).loadCfg (if useB then b else a)
  else { s with ovl := { s.ovl with cfgLost := true } }

/-- The calibration copy used is the valid one with the higher generation. -/
def State.loadCal (s : State) : State :=
  let a := s.mod.copyA
  let b := s.mod.copyB
  { s with mod := { s.mod with useB := b.ok && (!a.ok || decide (a.gen < b.gen)) } }

/-- The cells that the configuration gives to external switches (R234). -/
def State.loadXfet (s : State) : State :=
  (List.range 24).foldl (fun (s : State) i => s.setBal (i + 1) (fun c => { c with xfet := s.bit 0x1002 i })) s

/-- The START entry of the ledger (Table 17.3). -/
def State.startEntry (s : State) : LedgEnt :=
  { kind := 3, source := 0xFFFF, time := s.tb
    data := leBytes 1 s.aon.resetCause ++ leBytes 1 s.aon.wakeCause ++ leBytes 1 (b2n s.nvm.ldrB) ++ leBytes 1 s.nvm.jrnFound ++
      leBytes 4 s.nvm.img.ver.toNat ++ leBytes 1 s.aon.supplySrc ++
      leBytes 1 (b2n s.ovl.cfgLost + 2 * b2n s.bst.mapLost) ++ leBytes 2 0 }

/-- The sources presented at the end of step 7 (R433, R466). DEDUCED, log entry 115. -/
def State.startSources (s : State) : List Nat :=
  (if s.aon.resetCause = 2 then [126] else []) ++ (if s.ovl.cfgLost || s.bst.mapLost then [145] else []) ++
    (if s.nvm.fbDue then [153, 154] else [])

/-- The repair map, the configuration and the calibration are put in effect: step 7 is done. -/
def State.configIn (s : State) : State :=
  let u := s.loadMap.loadConfig.loadCal.loadXfet
  (({ u with pwr := { u.pwr with step := 7 } } : State).settle s.ncells s.ringOn).examineCfg

/-- The newest entry is found, and the ledger entries of a start-up are due: START, and DIP where the last dip ended in a supply reset (R37, R415, Table 17.3). -/
def State.startLedger (s : State) : State :=
  let u := s.ledgScan.ledger s.startEntry
  if s.aon.dipReset then
    ({ u with aon := { u.aon with dipReset := false } }).ledger (u.dipEntry (min 4294967295 (10 * u.aon.dipDuration)) true)
  else u

/-- CONFIG_LOAD (R63, R64, R407, R415, R466): start-up step 7. -/
def execConfigLoad (dt : Nat) (s : State) : Out :=
  let s := s.elapse dt
  if s.atStep 6 && s.stw then
    let s := s.configIn.startLedger
    .next (({ s with nvm := { s.nvm with fbDue := false } }).present s.startSources)
  else .next s

/-! ## Steps 8 and 9 -/

/-- PORT_ENABLE (R43, R299): start-up step 8; after a wake by tone, tones follow in 200 µs. -/
def execPortEnable (dt : Nat) (s : State) : Out :=
  let s := s.elapse dt
  if s.atStep 7 then
    let tone := decide (s.aon.resetCause = 4) && decide (s.aon.wakeCause = 2)
    let s := { s with
      pwr := { s.pwr with step := 8 }
      ecp := { s.ecp with relayAt := if tone then some (s.clk + 200 * usTicks) else none } }
    .next s.portCheck
  else .next s

/-- The mode that PWR_CTRL gives for a start, or for a wake from STILL (Table 2.12). -/
def State.startMode (s : State) : Mode :=
  if s.aon.fromStill then
    match s.fld 0x104 4 4 with
    | 3 => .watch | 5 => .balance | _ => .measure
  else
    match s.fld 0x104 0 4 with
    | 2 => .still | 3 => .watch | _ => .measure

/-- START_MODE_ENTRY (R466): start-up step 9, entered by overlay commit. -/
def execStartModeEntry (dt : Nat) (s : State) : Out :=
  let s := s.elapse dt
  if s.atStep 8 && s.pwr.commit.isNone then
    let held := s.pwr.heldReact
    let target : Mode :=
      if held = some .lockout ∨ s.aon.lockout then .lockout
      else if held.isSome ∨ s.ovl.cfgLost then .safe
      else s.startMode
    let s := { s with pwr := { s.pwr with step := 9, heldReact := none, autoDue := true } }
    .next (s.beginCommit target (if held.isSome then .reaction else .auto))
  else .next s

end Sys2Proof.Machine
end

