-- ==== Sys2Proof/Machine/Wire.lean ====
section
/-! DEFINITION. Machine/Wire.lean: what waits for a port, when a transmission may start, and what goes on the pair: check values, INFO,
frames and the copies of frames that a device forwards (R280 to R283, R287, R288, R290 to R293, R313, R314). -/

namespace Sys2Proof.Machine

/-! ## Frames as bytes -/

/-- The class of a frame type (Table 10.5); type 0 and numbers that are no type have none. -/
def frameClass : Nat → Option Nat
  | 1 => some 1 | 2 => some 1 | 3 => some 1 | 4 => some 1 | 5 => some 2 | 6 => some 2 | 7 => some 2 | 8 => some 0
  | 9 => some 0 | 10 => some 1 | 11 => some 1 | 12 => some 1 | 13 => some 1 | 14 => some 3 | 15 => some 3 | _ => none

/-- The outbound types (Table 10.5). -/
def outboundTyp (t : Nat) : Bool := [1, 3, 5, 8, 10, 11, 14].contains t

/-- OP of a NET_OUT frame, 0 for another type. -/
def netOp (f : Frame) : Nat := if f.typ = 11 then beField f.payload 0 1 else 0

/-- HOPS of a NET_OUT frame. -/
def netHops (f : Frame) : Nat := beField f.payload 1 1

/-- The four header bytes of a frame (R282). -/
def headerBytes (f : Frame) : Bytes :=
  beBytes 4 (f.typ % 16 * 2 ^ 28 + f.cnt % 16 * 2 ^ 24 + f.addr % 64 * 2 ^ 18 + f.cls % 4 * 2 ^ 16 + f.tag % 128 * 2 ^ 9 +
    f.payload.length % 512)

/-- The check value of a frame, over its header and payload (R281, R283). -/
def frameCheck (f : Frame) : Nat := crcOf (crcAlg (if f.payload.length ≤ 32 then 0 else 1)) (headerBytes f ++ f.payload)

/-- BEST of an INFO byte (R280). -/
def infoBest (i : Byte) : Nat := i.toNat % 8

/-- RDY of an INFO byte (R280). -/
def infoRdy (i : Byte) : Bool := i.getLsbD 3

/-- An INFO byte that is a code error (R280). -/
def badInfo (i : Byte) : Bool := decide (16 ≤ i.toNat) || (decide (4 ≤ infoBest i) && decide (infoBest i ≠ 7))

/-- Ticks of 5 ns that a frame occupies the line (R281). DEDUCED, log entry 100. -/
def lineTicks (f : Frame) : Nat :=
  let n := f.payload.length
  80 * (9 + n + (if n ≤ 32 then 2 else 4))

/-- Ticks of a LNK token (R281). -/
def lnkTicks : Nat := 320

/-- Ticks from the first bit of SOF to the end of INFO of a SYNC frame: 25 symbols (R281). DEDUCED, log entry 95. -/
def syncTicks : Nat := 2000

/-! ## What waits for a port -/

/-- The ports by which the bridge sends a frame of its host (R289, R303, R322). A PEER frame goes to the split segment by the ring port.
DEDUCED, log entry 87. -/
def State.hostPorts (s : State) (f : Frame) : List PortId :=
  if f.typ = 13 then (if s.splitOn then [.north, .south] else [.north])
  else if s.splitOn then (if f.addr = 63 then [.north, .south] else if s.net.split ≤ f.addr then [.south] else [.north])
  else [.north]

/-- The frames that wait for a port, oldest first in each class: those in its buffers, then on the bridge those of the host; class 2 and
3 do not leave while the chain is parked (R20, R292, R308, R383). DEDUCED, log entry 89. -/
def State.waiting (s : State) (p : PortId) : List (Frame × Option TxEnt) :=
  let host := if s.bridge then s.net.txq.filter (fun (e : TxEnt) => (s.hostPorts e.frame).contains p) else []
  let all := (s.port p).buf.map (fun f => (f, none)) ++ host.map (fun (e : TxEnt) => (e.frame, some e))
  all.filter (fun x => !s.thm.parked || decide (x.1.cls < 2))

/-- The frame that goes next: the oldest of the lowest class (R20). DEDUCED, log entry 89. -/
def State.nextOut (s : State) (p : PortId) : Option (Frame × Option TxEnt) :=
  (s.waiting p).foldl (fun b x =>
    match b with
    | none => some x
    | some y => if x.1.cls < y.1.cls then some x else some y) (none : Option (Frame × Option TxEnt))

/-- BEST of an INFO byte of a port (R280). -/
def State.bestOut (s : State) (p : PortId) : Nat :=
  match s.nextOut p with
  | some (f, _) => f.cls
  | none => 7

/-! ## When a transmission may start -/

/-- The clock at which the hop of a port last carried a transmission (R296). -/
def Port.lastAny (q : Port) : Nat := max q.busyTo q.rxEnd

/-- The start phase of a port's end on an idle hop: subordinate 0, master 32, modulo 64 ticks (R275, R288). -/
def phaseOf (p : PortId) : Nat :=
  match p with
  | .north => 32
  | .south => 0

/-- The first of the `n` clock values from `t` on at which the timebase is at the port's phase (R288), else the value after them; twice
64 values hold one at any rate from one half on. -/
def State.phaseFrom (s : State) (p : PortId) : Nat → Nat → Nat
  | 0, t => t
  | n + 1, t => if s.tbWhen t % 64 = phaseOf p then t else s.phaseFrom p n (t + 1)

/-- The first clock value from `t` on at which the timebase is at the port's phase (R288). -/
def State.idleStart (s : State) (p : PortId) (t : Nat) : Nat := s.phaseFrom p 1024 (max t s.clk)

/-- The first clock value from `t` on at which an end may start on an idle hop: 320 ns after the last transmission, at its phase (R287,
R288). -/
def State.idleFrom (s : State) (p : PortId) (t : Nat) : Nat := s.idleStart p (max t ((s.port p).lastAny + 64))

/-- BEST of the far end lets a class of this end go first; where the far end's INFO was not received no class does (R287). -/
def Port.favoured (q : Port) (cls : Nat) : Bool :=
  match q.farBest with
  | some b => decide (cls ≤ b)
  | none => false

/-- The clock value at which a frame of a class may start on a port (R287, R288). DEDUCED, log entry 85. -/
def State.startAt (s : State) (p : PortId) (cls : Nat) : Nat :=
  let q := s.port p
  if q.rxEnd ≤ q.busyTo then
    if s.clk ≤ q.busyTo + 64 then q.busyTo + 64 else s.idleStart p s.clk
  else if q.favoured cls ∧ s.clk ≤ q.rxEnd + 24 then q.rxEnd + 24
  else s.idleFrom p s.clk

/-! ## Transmission of a frame -/

/-- The hop delays that a port keeps (R314). -/
def State.delays (s : State) : PortId → List Nat
  | .north => s.net.delayN
  | .south => s.net.delayS

/-- A SYNC frame with T_ORIGIN and CORR as it leaves a port, the first bit of its SOF at the timebase value `sof` (R313, R314). DEDUCED,
log entry 95. -/
def State.stampSync (s : State) (p : PortId) (sof : Nat) (f : Frame) : Frame :=
  if f.typ = 8 ∧ f.payload.length = 16 then
    let d := avgDelay (s.delays p)
    let tail := f.payload.drop 12
    if s.bridge then { f with payload := beBytes 8 sof ++ beBytes 4 d ++ tail }
    else { f with payload := f.payload.take 8 ++ beBytes 4 (beField f.payload 8 4 + 256 * sof + d) ++ tail }
  else f

/-- The band in effect at a clock value (R381, R382): at most one change lies since it. -/
def State.bandWhen (s : State) (t : Nat) : Nat :=
  match s.thm.bandAt with
  | some a => if t < a then s.thm.bandWas else s.thm.band
  | none => s.thm.band

/-- A transmission of so many ticks ends at the clock value `done`; the driver keeps the trim code of the band it begins with (R278). -/
def Port.sends (q : Port) (band ticks done : Nat) : Port := { q with busyTo := done, trim := band, sentT := q.sentT + ticks }

/-- A frame goes on the pair with the hop's counter and a check value of its own (R291, R293): its first bit leaves at the clock value
`start`, its SOF at the timebase value `sof`, and its INFO ends at the clock value `done`. -/
def State.putFrom (s : State) (p : PortId) (start sof done : Nat) (f : Frame) : State :=
  let f := { s.stampSync p sof f with cnt := (s.port p).txcnt }
  let best := s.bestOut p
  s.setPort p (fun q =>
    { (q.sends (s.bandWhen start) (done - start) done) with
      txcnt := (q.txcnt + 1) % 16, wire := some (.frame f (frameCheck f) best), asked := false })

/-- A frame starts on the pair now, its SOF 160 ticks later. -/
def State.putFrame (s : State) (p : PortId) (f : Frame) : State := s.putFrom p s.clk (s.tbn + 160) (s.clk + lineTicks f) f

/-! ## Copies (R290, R291) -/

/-- A number of 32 bits minus another. -/
def sub32 (a b : Nat) : Nat := (BitVec.ofNat 32 a - BitVec.ofNat 32 b).toNat

/-- The copy of a frame that a device forwards: HOPS + 1 in NET_OUT (R304); in SYNC, HOPS + 1 and CORR less the receive timestamp, to
which the send timestamp is added as it leaves (R313, R314). DEDUCED, log entry 85. -/
def State.copyOf (s : State) (f : Frame) : Frame :=
  if f.typ = 11 then { f with payload := beBytes 1 (beField f.payload 0 1) ++ beBytes 1 (netHops f + 1) ++ beBytes 2 0 }
  else if f.typ = 8 ∧ f.payload.length = 16 then
    { f with payload :=
        f.payload.take 8 ++ beBytes 4 (sub32 (beField f.payload 8 4) (256 * (s.tbn + 2 ^ 40 - syncTicks))) ++
          beBytes 2 (beField f.payload 12 2) ++ beBytes 1 (beField f.payload 14 1 + 1) ++ beBytes 1 0 }
  else f

/-- The frames that waited for a port of a node at the clock value `t0`, of those that still wait. -/
def State.waitedAt (s : State) (o : PortId) (t0 : Nat) : List Frame :=
  let late := ((s.port o).came.filter (fun e => decide (t0 < e.1))).map (·.2)
  ((s.port o).buf.diff late).filter (fun f => !s.thm.parked || decide (f.cls < 2))

/-- A transmission whose squelch opened at the clock value `t0` is forwarded cut-through out of a port (R290): the port is UP, neither
transmits nor receives (`busy`), no window of R287 favours its far end, and nothing of the same or a lower class number waits; class 2
and 3 do not leave while the chain is parked (R383). DEDUCED, log entry 85. -/
def State.cutThrough (s : State) (o : PortId) (t0 cls : Nat) (busy : Bool) : Bool :=
  let q := s.port o
  decide (q.st = .up) && decide (q.upAt ≤ t0) && !busy && decide (q.lastAny ≤ t0) &&
    (decide (q.lastAny + 64 ≤ t0) || (decide (q.busyTo < q.rxEnd) && q.favoured cls)) && (!s.thm.parked || decide (cls < 2)) &&
    (s.waitedAt o t0).all (fun f => decide (cls < f.cls))

/-- The clock value at which the copy of a transmission whose squelch opened at `t0` begins: the port's next start phase (R290). -/
def State.copyFrom (s : State) (o : PortId) (t0 : Nat) : Nat := s.phaseFrom o 1024 t0

/-- A frame that has just been received is forwarded: cut-through, one symbol behind the incoming frame, or stored whole (R290). DEDUCED, log
entry 85. -/
def State.forward (s : State) (o : PortId) (f : Frame) (busy : Bool) : State :=
  let g := s.copyOf f
  let t0 := s.clk - lineTicks f
  if s.cutThrough o t0 f.cls busy then s.putFrom o (s.copyFrom o t0) (s.tbn + 2 ^ 40 + 80 - syncTicks) (s.clk + 80) g
  else s.send o g

/-- A copy that has begun cut-through ends with ABT (R291): after its first header byte where the frame is outbound and for this device,
`own`, else one symbol behind the incoming transmission of `n` symbols. DEDUCED, log entry 85. -/
def State.abortCopy (s : State) (o : PortId) (f : Frame) (n : Nat) (own busy : Bool) : State :=
  let t0 := s.clk - 80 * n
  if s.cutThrough o t0 f.cls busy then
    let best := s.bestOut o
    let start := s.copyFrom o t0
    let done := if own then t0 + 560 else s.clk + 80
    s.setPort o (fun q =>
      { (q.sends (s.bandWhen start) (done - start) done) with wire := some (.abt f.typ q.txcnt best), asked := false })
  else s

end Sys2Proof.Machine
end

