-- ==== Sys2Proof/Machine/Frames.lean ====
section
/-! DEFINITION. Machine/Frames.lean: the reception of frames, what is done with each type, and forwarding (R281 to R294, R304, R305, R311,
R315, R319, R321 to R323). -/

namespace Sys2Proof.Machine

/-! ## Types, direction, route -/

/-- A header that is valid (R294). -/
def headerOk (f : Frame) : Bool := decide (frameClass f.typ = some f.cls) && decide (f.payload.length ≤ 256)

/-- What a device does with a good frame: a wrong direction, whether it takes the frame, and the port it forwards it to. -/
structure Route where
  wrong : Bool
  take  : Bool
  fwd   : Option PortId
deriving DecidableEq, Repr

/-- A node takes an outbound frame: its own address or 63, before it has one the enumeration's frames alone (R289, R304). DEDUCED, log entry 86. -/
def State.takesOut (s : State) (f : Frame) : Bool :=
  match s.aon.chainAddr with
  | some a => decide (f.addr = a) || decide (f.addr = 63)
  | none => decide (f.addr = 63) && [1, 2, 4, 5].contains (netOp f)

/-- The route of a frame through the bridge (R289, R303, Table 11.1). DEDUCED, log entry 87. -/
def State.routeBridge (s : State) (p : PortId) (f : Frame) : Route :=
  match p with
  | .north =>
    if outboundTyp f.typ then ⟨netOp f ≠ 4 && netOp f ≠ 5, false, none⟩
    else if f.typ = 13 then ⟨false, decide (f.addr ≠ 0), none⟩
    else ⟨false, true, none⟩
  | .south =>
    if outboundTyp f.typ || !s.ringOn then ⟨false, false, none⟩
    else if f.typ = 13 then ⟨false, s.splitOn && decide (f.addr ≠ 0), none⟩
    else
      let open_ := decide (s.net.ring = .split) || s.net.collect.isSome
      ⟨!open_, open_, none⟩

/-- The route of a frame through a node (R289, R304, R321). DEDUCED, log entry 88. -/
def State.routeNode (s : State) (p : PortId) (f : Frame) : Route :=
  let ward := decide (p = s.bridgeWard)
  if f.typ = 13 then
    if s.aon.chainAddr = some f.addr then ⟨false, false, none⟩ else ⟨false, s.aon.chainAddr.isSome, some p.other⟩
  else if outboundTyp f.typ then
    let take := s.takesOut f
    if !ward && netOp f ≠ 4 && netOp f ≠ 5 then ⟨true, false, none⟩
    else if s.aon.chainAddr = some f.addr then ⟨false, take, none⟩
    else if take && decide (netOp f = 2) && s.aon.chainAddr.isNone then ⟨false, true, none⟩
    else if take && decide (netOp f = 4) then ⟨false, true, some .south⟩
    else ⟨false, take, some p.other⟩
  else if ward then ⟨true, false, none⟩
  else ⟨false, false, some s.bridgeWard⟩

/-- The route of a frame. -/
def State.route (s : State) (p : PortId) (f : Frame) : Route := if s.bridge then s.routeBridge p f else s.routeNode p f

/-! ## Receive checks -/

/-- The source of a receive check of a port: CRC (false) or counter (true) (Table 10.7, Table 14.1). -/
def chainSource (p : PortId) (cnt : Bool) : Nat :=
  match p with
  | .north => if cnt then 133 else 132
  | .south => if cnt then 135 else 134

/-- The end of a transmission of the far end, with its INFO where one was received (R280, R287, R295, R296). -/
def State.heardEnd (s : State) (p : PortId) (info : Option Byte) : State :=
  s.setPort p (fun q =>
    { q with
      rxEnd := s.clk, asked := false, tokens := 0, farBest := info.map infoBest
      farRdy := match info with | some i => infoRdy i | none => q.farRdy })

/-- The INFO of a transmission that fails a check, where it is none of its errors. -/
def goodInfo (i : Byte) : Option Byte := if badInfo i then none else some i

/-- A transmission fails a receive check (Table 10.7). -/
def State.crcFail (s : State) (p : PortId) (info : Option Byte) : State :=
  ((s.heardEnd p info).setPort p (fun q => { q with crcErr := inc 255 q.crcErr })).present1 (chainSource p false)

/-- A frame is discarded and counted in FMT_ERR. -/
def State.fmtFail (s : State) (p : PortId) (info : Option Byte) : State :=
  (s.heardEnd p info).setPort p (fun q => { q with fmtErr := inc 255 q.fmtErr })

/-- A good frame is received on a port that is UP (R280, R293). DEDUCED, log entry 84. -/
def State.goodFrame (s : State) (p : PortId) (f : Frame) (info : Byte) : State :=
  let q := s.port p
  let gap := (f.cnt + 16 - q.rxexp) % 16
  let miss := q.rxSet && decide (gap ≠ 0)
  let s := (s.heardEnd p (some info)).setPort p (fun q =>
    { q with
      cntErr := if miss then inc 255 q.cntErr else q.cntErr, lost := if miss then min 255 (q.lost + gap) else q.lost
      rxexp := (f.cnt + 1) % 16, rxSet := true, rdy := true, lastRx := s.clk })
  if miss then s.present1 (chainSource p true) else s

/-! ## Copies that end with ABT (R291) -/

/-- An outbound frame on a node's bridge-ward port whose address is the node's own. -/
def State.ownOut (s : State) (p : PortId) (f : Frame) : Bool :=
  !s.bridge && outboundTyp f.typ && decide (p = s.bridgeWard) && decide (s.aon.chainAddr = some f.addr)

/-- The copy, where one has begun, of a transmission of `n` symbols that is not to be forwarded after all. A node begins one by its other
port when the squelch opens, before it knows what comes; the bridge begins none. DEDUCED, log entry 85. -/
def State.dropCopy (s : State) (p : PortId) (f : Frame) (n : Nat) (busy : Bool) : State :=
  if (s.port p).st ≠ .up ∨ s.bridge then s
  else if s.ownOut p f then s.abortCopy p.other f n true busy
  else s.abortCopy ((s.route p f).fwd.getD p.other) f n false busy

/-- The header fields of a header word (R282). -/
def headFrame (w : Word) : Frame :=
  ⟨(w.extractLsb' 28 4).toNat, (w.extractLsb' 24 4).toNat, (w.extractLsb' 18 6).toNat, (w.extractLsb' 16 2).toNat, (w.extractLsb' 9 7).toNat, []⟩

/-- What came of the header of a transmission of `n` symbols: CLASS stands in the fifth, and a copy of one that ended before it waits
behind every class. DEDUCED, log entry 85. -/
def badFrame (x : BadRx) : Frame := if x.syms < 5 then { headFrame x.head with cls := 3 } else headFrame x.head

/-- RECEIVE_CHECK_FAILURE (R291, R294): a transmission that fails a check, has an invalid header, or ends in ABT. DEDUCED, log entry 83. -/
def execReceiveCheckFailure (dt : Nat) (p : PortId) (bad : BadRx) (s : State) : Out :=
  let s := s.elapse dt
  if (s.port p).st = .off then .next s
  else
    let s := s.dropCopy p (badFrame bad) bad.syms bad.busy
    match bad.kind with
    | .code => .next (s.crcFail p none)
    | .header i => .next (s.fmtFail p (goodInfo i))
    | .abt i => .next ((s.heardEnd p (goodInfo i)).setPort p (fun q => { q with aborts := inc 255 q.aborts }))

/-! ## A frame that arrives -/

/-- What a device notes of a NET_OUT frame: HOPS, and on a node's bridge-ward port its position (R305, NET_ADDR). -/
def State.noteHops (s : State) (p : PortId) (f : Frame) : State :=
  if f.typ = 11 then
    let normal := !s.bridge && decide (p = s.bridgeWard) && s.ecp.south.bridgeward
    let off := match s.aon.chainAddr with | some a => normal && decide (netHops f + 1 ≠ a) | none => false
    let s := if off then s.wcSet 0x1602 (putb true 30) else s
    { s with net := { s.net with hopsSeen := netHops f % 64, posErr := s.net.posErr || off } }
  else s

/-- A frame returned on the bridge's ring port: a SYNC shows the ring whole, DISCOVER shows it closed (R306, R321, R322). DEDUCED, log entry 87. -/
def State.ringBack (s : State) (p : PortId) (f : Frame) : State :=
  if s.ringOn ∧ p = .south then
    if f.typ = 8 then
      ({ s with net := { s.net with ringLast := s.clk, ringLost := false, split := 0, healing := false } }).setRing .intact
    else if netOp f = 3 then
      { s with net := { s.net with enumRun := s.net.enumRun.map (fun (e : EnumRun) => { e with ring := true }) } }
    else s
  else s

/-- The receive checks of a whole frame on a port (R280, R283, R294): good, or the state that its failure leaves. -/
def State.rxCheck (s : State) (p : PortId) (f : Frame) (x : Tail) : Option State :=
  if badInfo x.info then some ((s.dropCopy p f (lineTicks f / 80) x.busy).crcFail p none)
  else if x.check ≠ frameCheck f then some ((s.dropCopy p f (lineTicks f / 80) x.busy).crcFail p (some x.info))
  else if !headerOk f || (s.route p f).wrong then some ((s.dropCopy p f (lineTicks f / 80) x.busy).fmtFail p (some x.info))
  else none

/-- A good frame is received on a port that is UP: the hop's counter, HOPS, the ring, and the copy that the device forwards (R289 to R293). -/
def State.receive (s : State) (p : PortId) (f : Frame) (x : Tail) : State :=
  let fwd := (s.route p f).fwd
  let s := if s.ownOut p f then s.dropCopy p f (lineTicks f / 80) x.busy else s
  let s := ((s.goodFrame p f x.info).noteHops p f).ringBack p f
  match fwd with
  | some o => s.forward o f x.busy
  | none => s

/-- A good frame in TRAINING: it is not accepted, and after a LNK token with RDY it brings the port to UP (R280, R295). -/
def State.trainFrame (s : State) (p : PortId) (info : Byte) : State :=
  let n := (s.port p).tokens
  let s := (s.heardEnd p (some info)).setPort p (fun q => { q with rdy := true })
  if 1 ≤ n ∧ infoRdy info then s.portUp p else s

/-- A frame arrives at a port (R289 to R295): checks, port state, forwarding, and, where the device takes the frame, what its type calls
for. DEDUCED, log entry 84. -/
def State.arrive (s : State) (p : PortId) (f : Frame) (x : Tail) (take : State → Out) : Out :=
  match (s.port p).st with
  | .off => .next s
  | .training =>
    match s.rxCheck p f x with
    | some t => .next t
    | none => .next (s.trainFrame p x.info)
  | .up =>
    match s.rxCheck p f x with
    | some t => .next t
    | none => if (s.route p f).take then take (s.receive p f x) else .next (s.receive p f x)

/-- The frame of a header and a payload. -/
def Header.frame (h : Header) (typ : Nat) (payload : Bytes) : Frame := ⟨typ, h.cnt, h.addr, h.cls, h.tag, payload⟩

/-- A frame that the row of its type spells: with the payload layout of Tables 11.2, 11.3 and 11.7 and of R319. -/
def spelled (f : Frame) : Bool :=
  let op := beField f.payload 0 1
  match f.typ with
  | 8 => decide (f.payload.length = 16) && decide (beField f.payload 15 1 = 0)
  | 10 => decide (f.payload.length = 12) && decide (1 ≤ op) && decide (op ≤ 2)
  | 11 => decide (f.payload.length = 4) && decide (1 ≤ op) && decide (op ≤ 5) && decide (beField f.payload 2 2 = 0)
  | 12 => decide (0x81 ≤ op) && decide (op ≤ 0x86)
  | _ => true

/-- FRAME_FORWARD (R289, R290): a frame that this device does not take, or that it takes and that no row of a type spells; of that one
nothing but its reception and its copy comes. A frame that another row spells is reported by that row. DEDUCED, log entry 85. -/
def execFrameForward (dt : Nat) (p : PortId) (f : Frame) (x : Tail) (s : State) : Out :=
  let s := s.elapse dt
  if (s.route p f).take && spelled f then .next s else s.arrive p f x (fun s => .next s)

/-! ## Requests: REG, CMD, BSN_RD, SVC -/

/-- Payload that disagrees with its layout is counted at the port it came by (R286); a host's frame to its own bridge came by none. DEDUCED, log entry 88. -/
def State.mismatch (s : State) (p : Option PortId) : State :=
  match p with
  | some p => s.setPort p (fun q => { q with fmtErr := inc 255 q.fmtErr })
  | none => s

/-- A REG request (R285): registers read or written in ascending order, one in each core cycle, and REG_RSP. An OP that is neither 0 nor 1
fits no LEN of Table 10.5 and is answered with FORMAT. DESIGN CHOICE, log entry 149. -/
def State.takeReg (s : State) (tag : Nat) (b : Bytes) : State :=
  let a := beField b 0 2
  let n := beField b 2 1
  let op := beField b 3 1
  let rsp := fun (s : State) (st done : Nat) (ws : List Word) => s.respond 2 1 tag (beBytes 1 st ++ beBytes 1 done ++ beBytes 2 0 ++ wordsBe ws)
  let fits := decide (1 ≤ n) && decide (n ≤ 63) && decide (a + n ≤ 65536) &&
    ((decide (op = 0) && decide (b.length = 4)) || (decide (op = 1) && decide (b.length = 4 + 4 * n)))
  if !s.serves .chain then s
  else if !fits then rsp s 2 0 []
  else if op = 0 then
    let (ws, s) := State.readRegs n s .chain false a
    rsp s 0 n ws
  else
    let k := s.resets
    let (done, st, s) := State.writeRegs (beWords n (b.drop 4)) s .chain a
    if s.resets ≠ k then s
    else match st with
      | .denied => rsp s 1 done []
      | .ok => rsp s 0 done []

/-- A command body (R219, R286). -/
def State.takeCmd (s : State) (p : Option PortId) (tag : Nat) (b : Bytes) : State :=
  if b.length < 8 ∨ 24 < b.length then s.mismatch p
  else if s.serves .chain then s.cmdArrive .chain tag b
  else s

/-- Words `i` on of a page, read in consecutive core cycles (R155). -/
def State.pageWords : Nat → State → Nat → Nat → Nat → List Word × State
  | 0, s, _, _, _ => ([], s)
  | n + 1, s, m, q, i =>
    let (w, s) := s.pageWord m q i
    let (l, s) := State.pageWords n (if n = 0 then s else s.elapse s.cycle) m q (i + 1)
    (w :: l, s)

/-- A BSN_RD request (R155, Table 10.6): BSN_HIT, BSN_MISS with words of 0, or BSN_MISS without payload for a transfer past word 255. -/
def State.takeBsn (s : State) (p : Option PortId) (tag : Nat) (b : Bytes) : State :=
  let m := beField b 0 1
  let q := beField b 2 2
  let o := beField b 4 1
  let n := beField b 5 1
  if b.length ≠ 8 ∨ 15 < m ∨ beField b 1 1 ≠ 0 ∨ n = 0 ∨ 64 < n ∨ beField b 6 2 ≠ 0 then s.mismatch p
  else if !s.serves .chain then s
  else if 256 < o + n then s.respond 7 2 tag []
  else
    let (ws, s) := State.pageWords n s m q o
    if s.pageHit m q then s.respond 6 2 tag (wordsBe ws) else s.respond 7 2 tag (List.replicate (4 * n) 0)

/-- A service packet from the chain (R423); one shorter than a packet's head is discarded. DEDUCED, log entry 93. -/
def State.takeSvc (s : State) (p : PortId) (tag : Nat) (b : Bytes) : Out :=
  if b.length < 4 then .next s
  else s.packet ⟨false, beField b 1 1, beField b 2 2, tag, p⟩ (beField b 0 1) (b.drop 4)

/-- REG (R285). -/
def execRegFrame (dt : Nat) (p : PortId) (h : Header) (payload : Bytes) (s : State) : Out :=
  (s.elapse dt).arrive p (Header.frame h 1 payload) h.tail (fun s => .next (s.takeReg h.tag payload))

/-- CMD (R219). -/
def execCmdFrame (dt : Nat) (p : PortId) (h : Header) (body : Bytes) (s : State) : Out :=
  (s.elapse dt).arrive p (Header.frame h 3 body) h.tail (fun s => .next (s.takeCmd (some p) h.tag body))

/-- BSN_RD (R155). -/
def execBsnRdFrame (dt : Nat) (p : PortId) (h : Header) (payload : Bytes) (s : State) : Out :=
  (s.elapse dt).arrive p (Header.frame h 5 payload) h.tail (fun s => .next (s.takeBsn (some p) h.tag payload))

/-- SVC (R423). -/
def execSvcFrame (dt : Nat) (p : PortId) (h : Header) (payload : Bytes) (s : State) : Out :=
  (s.elapse dt).arrive p (Header.frame h 14 payload) h.tail (fun s => s.takeSvc p h.tag payload)

/-! ## MODE -/

/-- The MODE_ACK answer (Table 11.3). -/
def State.modeAck (s : State) (tag st cause epoch : Nat) : State :=
  s.respond 12 1 tag (beBytes 1 0x86 ++ beBytes 1 s.selfAddr ++ beBytes 1 st ++ beBytes 1 cause ++ beBytes 2 epoch ++
    beBytes 1 s.pwr.mode.num ++ beBytes 1 0)

/-- A PREPARE is taken and answered (R65, R319). -/
def State.takePrepare (s : State) (tag target epoch : Nat) (tc : Tick) : State :=
  if s.prepDeaf then s
  else
    let c := s.prepJudge epoch target tc
    (s.prepare epoch target tc).modeAck tag (if c.isNone then 1 else 2) (match c with | some c => c.num | none => 0) epoch

/-- R68 makes a COMMIT late: its epoch was PREPARED and missed at T, or it comes less than 20 µs before the T it is prepared for. DEDUCED, log entry 40. -/
def State.commitLate (s : State) (epoch : Nat) (tc : Tick) : Bool :=
  if s.reached tc then decide (s.lapsedAs epoch = some true)
  else match s.pwr.prepared with
    | some p => decide (p.epoch = epoch) && decide (p.tc = tc) && decide (tc.toNat < s.tbn + 4000)
    | none => false

/-- A COMMIT is taken and answered (R66, R68, R319). DEDUCED, log entry 40. -/
def State.takeCommit (s : State) (tag target epoch : Nat) (tc : Tick) : State :=
  if s.prepDeaf then s
  else
    let cause := if s.staleEpoch epoch then 5 else if s.commitLate epoch tc then 3 else 0
    (s.commitFrame epoch target tc).modeAck tag s.pwr.prepState cause epoch

/-- The payload of a MODE frame (R319). -/
def modePayload (op target epoch : Nat) (tc : Tick) : Bytes := beBytes 1 op ++ beBytes 1 target ++ beBytes 2 epoch ++ beBytes 8 tc.toNat

/-- PREPARE (R65). -/
def execModePrepare (dt : Nat) (p : PortId) (h : Header) (target epoch : Nat) (tc : Tick) (s : State) : Out :=
  (s.elapse dt).arrive p (Header.frame h 10 (modePayload 1 target epoch tc)) h.tail
    (fun s => .next (s.takePrepare h.tag (target % 256) (epoch % 65536) tc))

/-- COMMIT (R66). -/
def execModeCommit (dt : Nat) (p : PortId) (h : Header) (target epoch : Nat) (tc : Tick) (s : State) : Out :=
  (s.elapse dt).arrive p (Header.frame h 10 (modePayload 2 target epoch tc)) h.tail
    (fun s => .next (s.takeCommit h.tag (target % 256) (epoch % 65536) tc))

/-! ## Network management, node side (Tables 11.2, 11.3) -/

/-- The payload of a NET_OUT frame. -/
def netPayload (op hops : Nat) : Bytes := beBytes 1 op ++ beBytes 1 hops ++ beBytes 2 0

/-- A NET_IN answer (Table 11.3). -/
def State.netAnswer (s : State) (tag op : Nat) (rest : Bytes) : State := s.respond 12 1 tag (beBytes 1 op ++ beBytes 1 s.selfAddr ++ rest)

/-- CLEAR: the address is dropped. -/
def State.takeClear (s : State) : State := ({ s with aon := { s.aon with chainAddr := none } }).bindCheck

/-- ASSIGN: a node without an address takes HOPS + 1 (Table 11.2). -/
def State.takeAssign (s : State) (tag hops : Nat) : State :=
  if s.aon.chainAddr.isNone ∧ hops ≤ 61 then
    let s := { s with aon := { s.aon with chainAddr := some (hops + 1) } }
    (s.netAnswer tag 0x81 (beBytes 1 hops ++ beBytes 1 0 ++ beBytes 12 s.nvm.uid.toNat)).bindCheck
  else s

/-- NET_SYNC.STATE; the bridge reads 2 (Table 11.11). -/
def State.syncCode (s : State) : Nat := if s.bridge then 2 else s.net.sync.num

/-- DISCOVER: PRESENT (Table 11.3). DEDUCED, log entry 92. -/
def State.takeDiscover (s : State) (tag hops : Nat) : State :=
  s.netAnswer tag 0x82 (beBytes 1 hops ++ beBytes 1 (s.syncCode * 64 + b2n s.net.posErr * 32) ++ beBytes 12 s.nvm.uid.toNat)

/-- The port roles, `north` making the north port bridge-ward. -/
def State.roles (s : State) (north : Bool) : State :=
  (s.setPort .north (fun q => { q with bridgeward := north })).setPort .south (fun q => { q with bridgeward := !north })

/-- REVERSE: the roles change and REVERSED leaves by the north port (R321). -/
def State.takeReverse (s : State) (tag : Nat) : State := (s.roles true).netAnswer tag 0x83 (beBytes 2 0)

/-- CLEAR (R304). -/
def execNetClear (dt : Nat) (p : PortId) (h : Header) (hops : Nat) (s : State) : Out :=
  (s.elapse dt).arrive p (Header.frame h 11 (netPayload 1 hops)) h.tail (fun s => .next s.takeClear)

/-- ASSIGN (R304). -/
def execNetAssign (dt : Nat) (p : PortId) (h : Header) (hops : Nat) (s : State) : Out :=
  (s.elapse dt).arrive p (Header.frame h 11 (netPayload 2 hops)) h.tail (fun s => .next (s.takeAssign h.tag (hops % 256)))

/-- DISCOVER (R304). -/
def execNetDiscover (dt : Nat) (p : PortId) (h : Header) (hops : Nat) (s : State) : Out :=
  (s.elapse dt).arrive p (Header.frame h 11 (netPayload 3 hops)) h.tail (fun s => .next (s.takeDiscover h.tag (hops % 256)))

/-- REVERSE (R321). -/
def execNetReverse (dt : Nat) (p : PortId) (h : Header) (hops : Nat) (s : State) : Out :=
  (s.elapse dt).arrive p (Header.frame h 11 (netPayload 4 hops)) h.tail (fun s => .next (s.takeReverse h.tag))

/-- NORMAL (R304). -/
def execNetNormal (dt : Nat) (p : PortId) (h : Header) (hops : Nat) (s : State) : Out :=
  (s.elapse dt).arrive p (Header.frame h 11 (netPayload 5 hops)) h.tail (fun s => .next (s.roles false))

/-! ## SYNC (R315) -/

/-- |e| in 1/256 tick that 20 ns, 1 µs and 10 µs come to. -/
def e20ns : Nat := 1024
/-- 1 µs. -/
def e1us : Nat := 51200
/-- 10 µs. -/
def e10us : Nat := 512000

/-- The timebase is set so that e = 0, a fraction of a tick included (R315, R317). -/
def Time.step (t : Time) (e : Int) : Time :=
  let x := 256 * (t.tb.toNat : Int) - e
  let tb := BitVec.ofInt 64 (x / 256)
  { t with tb := tb, frac := (x % 256).toNat * (tbUnit / 256), tbMax := tickMax t.tbMax tb, slew := 0, slewEnd := t.clk }

/-- The decimators after the timebase has passed every value from `m0` to `m1` in one cycle: that cycle has one modulator edge, and the
samples that follow have their full count of edges (R102). DEDUCED, log entry 127. -/
def State.slipDecims (s : State) (m0 m1 : Nat) : State :=
  let p := s.modP
  { s with mod := { s.mod with
      mods := s.mod.mods.map (fun q =>
        { q with
          decim := q.decim.map (fun d =>
            let from_ := max m0 (d.start.toNat - 1)
            { d with start := d.start + BitVec.ofNat 64 ((m1 / p - from_ / p - 1) * p) }) }) } }

/-- A held copy of a SYNC keeps its meaning when the timebase that gave its receive timestamp moves by −e (R313, R314). -/
def movedSync (e : Int) (f : Frame) : Frame :=
  if f.typ = 8 ∧ f.payload.length = 16 then
    { f with payload := f.payload.take 8 ++ beBytes 4 (((beField f.payload 8 4 : Nat) + e) % 2 ^ 32).toNat ++ f.payload.drop 12 }
  else f

/-- The counting windows move with a step of the timebase from `t` (R357). -/
def State.moveWindows (s : State) (t : Nat) : State :=
  { s with flt := { s.flt with src := s.flt.src.map (fun f => (f.1, { f.2 with winStart := f.2.winStart + ((s.tbn : Int) - t) })) } }

/-- The timebase is set so that e = 0 (R315, R317): its decimators, the counting windows, and the SYNC frames that wait for a port, follow. -/
def State.stepTb (s : State) (e : Int) : State :=
  let old := s.time.tbMax.toNat
  let t := s.tbn
  let s := s.cmdReach
  let s := { s.wcSet 0x1606 (putb true 29) with time := s.time.step e, net := { s.net with stepped := true } }
  let s := (s.slipDecims old s.time.tbMax.toNat).moveWindows t
  [PortId.north, PortId.south].foldl (fun (s : State) p => s.setPort p (fun q => { q with buf := q.buf.map (movedSync e) })) s

/-- The timebase slews (R315): e is removed over the next 1 ms, and at 1 µs per ms where that takes longer. DESIGN CHOICE, log entry 20. -/
def State.slewTb (s : State) (e : Int) : State :=
  { s with time := { s.time with
      slew := max (-51200) (min 51200 e), slewEnd := s.clk + max msTicks (e.natAbs * msTicks / 51200) } }

/-- A valid sync disciplines the timebase (Table 11.8). DESIGN CHOICE, log entry 20; DEDUCED, log entry 95. -/
def State.takeSync (s : State) (tOrigin : Tick) (corr sseq : Nat) : State :=
  if s.net.sseqSet ∧ s.net.sseq = sseq then s
  else
    let s := s.rilSettle 6
    let e : Int := 256 * ((s.tbn : Int) - syncTicks - tOrigin.toNat) - corr
    let far := decide (e10us < e.natAbs)
    let old := s.net.sync
    let good := if e.natAbs ≤ e20ns then s.net.good + 1 else 0
    let st : SyncSt :=
      match old with
      | .free => .acquire
      | .holdover => .acquire
      | .acquire => if 4 ≤ good ∧ ¬far then .locked else .acquire
      | .locked => if e1us < e.natAbs then .acquire else .locked
    let rate := match old with
      | .acquire => Config.syncRate s.time.rate e (s.clk - s.net.lastSync)
      | .locked => Config.syncRate s.time.rate e (s.clk - s.net.lastSync)
      | _ => s.time.rate
    let s := { s with net :=
      { s.net with
        sync := st, sseq := sseq, sseqSet := true, ofs := e, lastSync := s.clk
        good := if old = SyncSt.acquire then good else 0
        lockAt := if old ≠ SyncSt.locked ∧ st = SyncSt.locked then s.clk else s.net.lockAt } }
    let s := s.setRate rate
    if old = .free ∨ far then s.stepTb e else s.slewTb e

/-- SYNC (R315). -/
def execSyncFrame (dt : Nat) (p : PortId) (h : Header) (tOrigin : Tick) (corr sseq hops : Nat) (s : State) : Out :=
  (s.elapse dt).arrive p
    (Header.frame h 8 (beBytes 8 tOrigin.toNat ++ beBytes 4 corr ++ beBytes 2 sseq ++ beBytes 1 hops ++ beBytes 1 0)) h.tail
    (fun s => .next (s.takeSync tOrigin (corr % 2 ^ 32) (sseq % 65536)))

/-! ## PEER (R264, R265) -/

/-- A PEER frame is taken: its phasors, where they fit a publication; on the bridge it enters the receive queue too. -/
def State.takePeer (s : State) (f : Frame) : State :=
  let s := if s.bridge then s.rxPut ⟨0, 6, 0, some f⟩ else s
  if beField f.payload 0 1 = 1 ∧ 4 ≤ f.payload.length then s.takePhasors f.addr (f.payload.drop 4) else s

/-- PEER (R265). -/
def execPeerFrame (dt : Nat) (p : PortId) (h : Header) (payload : Bytes) (s : State) : Out :=
  (s.elapse dt).arrive p (Header.frame h 13 payload) h.tail (fun s => .next (s.takePeer (Header.frame h 13 payload)))

/-! ## Inbound frames at the bridge (R311, R362) -/

/-- REG_RSP (R311). -/
def execRegRspFrame (dt : Nat) (p : PortId) (h : Header) (payload : Bytes) (s : State) : Out :=
  (s.elapse dt).arrive p (Header.frame h 2 payload) h.tail (fun s => .next (s.tagAnswer (Header.frame h 2 payload)))

/-- CMD_RSP (R311). -/
def execCmdRspFrame (dt : Nat) (p : PortId) (h : Header) (payload : Bytes) (s : State) : Out :=
  (s.elapse dt).arrive p (Header.frame h 4 payload) h.tail (fun s => .next (s.tagAnswer (Header.frame h 4 payload)))

/-- BSN_HIT (R311). -/
def execBsnHitFrame (dt : Nat) (p : PortId) (h : Header) (payload : Bytes) (s : State) : Out :=
  (s.elapse dt).arrive p (Header.frame h 6 payload) h.tail (fun s => .next (s.tagAnswer (Header.frame h 6 payload)))

/-- BSN_MISS (R311). -/
def execBsnMissFrame (dt : Nat) (p : PortId) (h : Header) (payload : Bytes) (s : State) : Out :=
  (s.elapse dt).arrive p (Header.frame h 7 payload) h.tail (fun s => .next (s.tagAnswer (Header.frame h 7 payload)))

/-- SVC_RSP (R311). -/
def execSvcRspFrame (dt : Nat) (p : PortId) (h : Header) (payload : Bytes) (s : State) : Out :=
  (s.elapse dt).arrive p (Header.frame h 15 payload) h.tail (fun s => .next (s.tagAnswer (Header.frame h 15 payload)))

/-- NOTIFY (R362): receive queue, KIND NOTIFY. -/
def execNotifyFrame (dt : Nat) (p : PortId) (h : Header) (payload : Bytes) (s : State) : Out :=
  (s.elapse dt).arrive p (Header.frame h 9 payload) h.tail (fun s => .next (s.rxPut ⟨0, 4, 0, some (Header.frame h 9 payload)⟩))

/-- MODE_ACK (R319). -/
def execModeAckFrame (dt : Nat) (p : PortId) (h : Header) (payload : Bytes) (s : State) : Out :=
  (s.elapse dt).arrive p (Header.frame h 12 payload) h.tail (fun s => .next (s.tagAnswer (Header.frame h 12 payload)))

/-- The running enumeration waits at a step for answers with a tag (R306). -/
def State.enumWaits (s : State) (step : EnumStep) (tag : Nat) : Option EnumRun :=
  match s.net.enumRun with
  | some e => if e.step = step ∧ e.tag = tag ∧ s.net.tags.any (fun h => decide (h.tag = tag) && decide (h.handle = 0)) then some e else none
  | none => none

/-- DISCOVER leaves for the last part of an enumeration. -/
def State.enumDiscover (s : State) (e : EnumRun) : State := s.enumSend { e with step := .discover } 3

/-- An ASSIGNED answer at the bridge (R306): the next ASSIGN, or DISCOVER once 62 nodes have addresses. -/
def State.takeAssigned (s : State) (f : Frame) : State :=
  let run := s.enumWaits .assign f.tag
  let s := s.tagAnswer f
  match run with
  | some e =>
    if e.n + 1 = 62 then s.enumDiscover { e with n := 62 }
    else s.enumSend { e with n := e.n + 1 } 2
  | none => s

/-- ASSIGNED (R306). -/
def execNetAssigned (dt : Nat) (p : PortId) (h : Header) (payload : Bytes) (s : State) : Out :=
  (s.elapse dt).arrive p (Header.frame h 12 payload) h.tail (fun s => .next (s.takeAssigned (Header.frame h 12 payload)))

/-- A PRESENT answer at the bridge (R306): counted in an enumeration. -/
def State.takePresent (s : State) (f : Frame) : State :=
  let run := s.enumWaits .discover f.tag
  let s := s.tagAnswer f
  match run with
  | some e => s.setEnum (some { e with count := e.count + 1 })
  | none => s

/-- PRESENT (R306). -/
def execNetPresent (dt : Nat) (p : PortId) (h : Header) (payload : Bytes) (s : State) : Out :=
  (s.elapse dt).arrive p (Header.frame h 12 payload) h.tail (fun s => .next (s.takePresent (Header.frame h 12 payload)))

/-- A REVERSED answer at the bridge (R323): collected; after the close it is late. -/
def State.takeReversed (s : State) (f : Frame) : State :=
  match s.net.collect with
  | none => s.lateAnswer
  | some c =>
    let c : Collect := { c with last := s.clk, got := c.got ++ [f.addr] }
    let s := ({ s with net := { s.net with collect := some c } }).tagAnswer f
    match c.expect with
    | some l => if l.all (fun a => c.got.contains a) then s.closeCollect else s
    | none => s

/-- REVERSED (R323). -/
def execNetReversed (dt : Nat) (p : PortId) (h : Header) (payload : Bytes) (s : State) : Out :=
  (s.elapse dt).arrive p (Header.frame h 12 payload) h.tail (fun s => .next (s.takeReversed (Header.frame h 12 payload)))

/-- A LINK_DOWN at the bridge (R321, R323): with a ring, recovery starts and the nodes beyond are expected. DEDUCED, log entry 87. -/
def State.takeLinkDown (s : State) (f : Frame) : State :=
  let s := s.rxPut ⟨0, 5, 0, some f⟩
  if s.ringOn then s.recover (some ((List.range (s.net.enumCount - f.addr)).map (fun i => f.addr + 1 + i))) else s

/-- LINK_DOWN (R321). -/
def execNetLinkDown (dt : Nat) (p : PortId) (h : Header) (payload : Bytes) (s : State) : Out :=
  (s.elapse dt).arrive p (Header.frame h 12 payload) h.tail (fun s => .next (s.takeLinkDown (Header.frame h 12 payload)))

/-- A HEALED at the bridge (R322): NORMAL is sent under AUTO_HEAL. DEDUCED, log entry 87. -/
def State.takeHealed (s : State) (f : Frame) : State :=
  let s := s.rxPut ⟨0, 5, 0, some f⟩
  if s.ringOn && s.bit 0x1600 29 then s.sendNormal else s

/-- HEALED (R322). -/
def execNetHealed (dt : Nat) (p : PortId) (h : Header) (payload : Bytes) (s : State) : Out :=
  (s.elapse dt).arrive p (Header.frame h 12 payload) h.tail (fun s => .next (s.takeHealed (Header.frame h 12 payload)))

end Sys2Proof.Machine
end

