-- ==== Sys2Proof/Machine/Link.lean ====
section
/-! DEFINITION. Machine/Link.lean: transmissions of a port: frames, LNK tokens and wake tones, and the timed actions of a hop (R280,
R287, R288, R292 to R299, R308, R310, R313, R314, R321). -/

namespace Sys2Proof.Machine

/-! ## Transmission of a frame -/

/-- The frame leaves the queue that held it. DEDUCED, log entry 100. -/
def State.dequeue (s : State) (p : PortId) (f : Frame) (e : Option TxEnt) : State :=
  match e with
  | some e => { s with net := { s.net with txq := s.net.txq.erase e } }
  | none => s.setPort p (fun q => { q with buf := q.buf.erase f })

/-- A tag is held from the end of the frame that carries it (R310, R311). DEDUCED, log entry 89. -/
def State.tagAt (s : State) (tag handle addr start : Nat) : State :=
  { s with net := { s.net with tags := s.net.tags ++ [⟨tag, handle, addr, start, 0⟩], nextTag := (tag + 1) % 128 } }

/-- A frame of an enumeration has left (R306): after CLEAR, ASSIGN follows; for ASSIGN and DISCOVER answers are awaited. DEDUCED, log entry 92. -/
def State.enumSent (s : State) (f : Frame) (tag done : Nat) : State :=
  match s.net.enumRun with
  | some e =>
    match netOp f with
    | 1 => if e.step = .clear then s.enumSend { e with step := .assign } 2 else s
    | 2 => if e.step = .assign then s.setEnum (some { e with tag := tag, since := done }) else s
    | 3 => if e.step = .discover then s.setEnum (some { e with tag := tag, since := done }) else s
    | _ => s
  | none => s

/-- A frame of the host that its own bridge executes (R308): `tag` is the frame's tag, or the mark of a frame that was never sent. DEDUCED, log entry 91. -/
def State.execLocal (s : State) (f : Frame) (tag : Nat) : Out :=
  match f.typ with
  | 1 => .next (s.takeReg tag f.payload)
  | 3 => .next (s.takeCmd none tag f.payload)
  | 5 => .next (s.takeBsn none tag f.payload)
  | 10 =>
    if f.payload.length = 12 then
      let b := f.payload
      let tc := BitVec.ofNat 64 (beField b 4 8)
      match beField b 0 1 with
      | 1 => .next (s.takePrepare tag (beField b 1 1) (beField b 2 2) tc)
      | 2 => .next (s.takeCommit tag (beField b 1 1) (beField b 2 2) tc)
      | _ => .next s
    else .next s
  | 11 => .next (s.takeDiscover tag (netHops f))
  | 14 => s.takeSvc .north tag f.payload
  | _ => .next s

/-- A frame gets a tag as it starts (R310): those of the host but PEER, and those of the bridge's own. -/
def needsTag (f : Frame) (e : Option TxEnt) : Bool :=
  match e with
  | some _ => decide (f.typ ≠ 13)
  | none => decide (f.tag = noTag)

/-- The other ports by which a frame leaves that starts on a port (R289, R322): of the host's, and of an enumeration's. DEDUCED, log entry 87. -/
def State.twins (s : State) (p : PortId) (f : Frame) (e : Option TxEnt) : List PortId :=
  let all := match e with
    | some _ => s.hostPorts f
    | none => if f.tag = noTag ∧ netOp f ≤ 3 ∧ s.splitOn then [.north, .south] else []
  all.filter (fun o => decide (o ≠ p))

/-- TRANSMIT_START (R20, R287, R288, R308, R310): the next waiting frame starts at the first instant at which it may, unless the squelch is open
then. One that needs a tag waits while every tag is held. A host's frame to 63 is executed by the bridge too. A frame that leaves by both
ports is given to the other as it starts on one. DEDUCED, log entries 83 and 85. -/
def execTransmitStart (dt : Nat) (x : TxAt) (s : State) : Out :=
  let s := s.elapse dt
  let p := x.port
  match (s.port p).st, s.nextOut p with
  | .up, some (f, e) =>
    let s := s.until_ (s.startAt p f.cls)
    let done := s.clk + lineTicks f
    if x.sq then .next s
    else if needsTag f e then
      match s.tagNext with
      | none => .next s
      | some t =>
        let g := { f with tag := t }
        let twins := s.twins p f e
        let s := ((s.dequeue p f e).tagAt t ((e.map (·.handle)).getD 0) f.addr done).putFrame p g
        let s := twins.foldl (fun (s : State) o => s.send o g) s
        if e.isNone then .next (s.enumSent f t done)
        else if f.addr = 63 then s.execLocal g t
        else .next s
    else
      let twins := s.twins p f e
      .next (twins.foldl (fun (s : State) o => s.send o f) ((s.dequeue p f e).putFrame p f))
  | _, _ => .next s

/-! ## LNK tokens -/

/-- A LNK token starts on the pair; `ask` says that it is no answer (R280, R287). -/
def State.putLnk (s : State) (p : PortId) (ask : Bool) : State :=
  s.setPort p (fun q =>
    { (q.sends s.thm.band lnkTicks (s.clk + lnkTicks)) with wire := some (.lnk q.rdy (s.bestOut p)), asked := ask })

/-- A LNK token of this end's own starts on an idle hop from the clock value `t` on, unless the squelch is open then (R287, R288). -/
def State.askLnk (s : State) (p : PortId) (t : Nat) (sq : Bool) : State :=
  let s := s.until_ (s.idleFrom p t)
  if sq then s else s.putLnk p true

/-- The answer to a LNK token, 120 ns after it (R287): the best frame where its class may go first and it does not wait for a tag, else a
LNK token. -/
def State.answerLnk (s : State) (p : PortId) : Out :=
  match (s.port p).st, s.nextOut p with
  | .up, some (f, e) =>
    if (s.port p).favoured f.cls ∧ (needsTag f e → s.tagNext.isSome) then execTransmitStart 0 ⟨p, false⟩ s
    else .next ((s.elapse 24).putLnk p false)
  | _, _ => .next ((s.elapse 24).putLnk p false)

/-- A port takes a valid LNK token (R280, R295, R296): training, the end of UP where the far end is not ready. -/
def State.takeLnk (s : State) (p : PortId) (info : Byte) : State :=
  let n := (s.port p).tokens
  let s := (s.heardEnd p (some info)).setPort p (fun q =>
    { q with rdy := true, lastRx := s.clk, tokens := if infoRdy info then n + 1 else 0 })
  let q := s.port p
  match q.st with
  | .training => if 2 ≤ q.tokens then s.portUp p else s
  | .up => if infoRdy info then s else (s.setPort p (fun q => { q with retrains := inc 65535 q.retrains })).portTrain p
  | .off => s

/-- LNK_TOKEN (R280, R287, R295, R296): a token with a code error in its INFO is no valid token. A token that answers this end's own, begun before the
hop was idle, is not answered. -/
def execLnkToken (dt : Nat) (p : PortId) (info : Byte) (s : State) : Out :=
  let s := s.elapse dt
  if (s.port p).st = .off then .next s
  else if badInfo info then .next (s.heardEnd p none)
  else
    let asked := (s.port p).asked && decide (s.clk ≤ (s.port p).busyTo + 64 + lnkTicks)
    let s := s.takeLnk p info
    if asked then .next s else s.answerLnk p

/-- TRAINING_LNK (R288, R295): the master end's token every 20 µs in the first 10 ms of TRAINING, then every 10 ms. -/
def execTrainingLnk (dt : Nat) (x : TxAt) (s : State) : Out :=
  let s := s.elapse dt
  let p := x.port
  let q := s.port p
  if q.st = .training ∧ p = .north ∧ q.toneEnd.isNone then
    let step := if s.clk < q.trainAt + 10 * msTicks then 20 * usTicks else 10 * msTicks
    let s := s.askLnk p (max q.trainAt (q.lnkAt + step)) x.sq
    .next (if x.sq then s else s.setPort p (fun q => { q with lnkAt := s.clk }))
  else .next s

/-- TIMEOUT of ECP_CFG in ticks (Table 10.9). -/
def State.linkTimeout (s : State) : Nat := clampTo 20 255 (s.fld 0x1401 24 8) * 10 * usTicks

/-- KEEPALIVE (R288, R296): the master end's token on an idle hop that is UP. -/
def execKeepalive (dt : Nat) (x : TxAt) (s : State) : Out :=
  let s := s.elapse dt
  let p := x.port
  let q := s.port p
  if q.st = .up ∧ p = .north then
    .next (s.askLnk p (q.lastAny + min (atLeast1 (s.fld 0x1401 16 8) * 10 * usTicks) (s.linkTimeout / 4)) x.sq)
  else .next s

/-- LINK_TIMEOUT (R296): the port returns to TRAINING and CHAIN_TIMEOUT is presented; RETRAINS counts the returns for RDY 0 alone. DESIGN
CHOICE, log entry 151. -/
def execLinkTimeout (dt : Nat) (p : PortId) (s : State) : Out :=
  let s := s.elapse dt
  if (s.port p).st = .up then
    let s := s.until_ ((s.port p).lastRx + s.linkTimeout)
    .next (((s.setPort p (fun q => { q with timeouts := inc 255 q.timeouts })).portTrain p).present1 136)
  else .next s

/-- One hop delay in 1/256 tick from a round trip in the same unit (R314). DESIGN CHOICE, log entry 20; DEDUCED, log entry 96. -/
def hopDelay (rtt : Nat) : Nat := (rtt - 24 * 256 - Config.turnaround) / 2

/-- HOP_DELAY_LNK (R288, R314): a token of its own each 1 ms on a hop that is UP; `rtt` is the time to the first bit of its answer, in 1/256
tick, and the answer itself arrives as a command of its own. DEDUCED, log entry 96. -/
def execHopDelayLnk (dt : Nat) (x : TxAt) (rtt : Nat) (s : State) : Out :=
  let s := s.elapse dt
  let p := x.port
  if (s.port p).st = .up then
    let s := s.askLnk p ((s.port p).hopAt + msTicks) x.sq
    let l := (hopDelay rtt :: s.delays p).take 16
    if x.sq then .next s
    else
      let s := s.setPort p (fun q => { q with hopAt := s.clk })
      .next { s with net :=
        match p with
        | .north => { s.net with delayN := l }
        | .south => { s.net with delayS := l } }
  else .next s

/-! ## Notices and tones -/

/-- LINK_DOWN_SEND (R321, Table 11.3): LINK_DOWN or HEALED leaves by the bridge-ward port. -/
def execLinkDownSend (dt : Nat) (p : PortId) (s : State) : Out :=
  let s := s.elapse dt
  match (s.port p).notice with
  | some up =>
    let s := s.setPort p (fun q => { q with notice := none })
    let body := beBytes 1 (if up then 0x85 else 0x84) ++ beBytes 1 s.selfAddr ++ beBytes 1 (b2n (decide (p = .south))) ++ beBytes 1 0
    .next (if s.bridge then s else s.send s.bridgeWard ⟨12, 0, s.selfAddr, 1, 0, body⟩)
  | none => .next s

/-- WAKE_TONE_END (R297): the tone ends, and the port is in TRAINING where it is on. -/
def execWakeToneEnd (dt : Nat) (p : PortId) (s : State) : Out :=
  let s := s.elapse dt
  match (s.port p).toneEnd with
  | some t =>
    let s := (s.until_ t).setPort p (fun q => { q with toneEnd := none, wire := none })
    .next (if s.portOn p then s.portTrain p else s)
  | none => .next s

/-- WAKE_TONE_RELAY (R299): a tone on each port that is not UP. -/
def execWakeToneRelay (dt : Nat) (s : State) : Out :=
  let s := s.elapse dt
  match s.ecp.relayAt with
  | some t =>
    let s := s.until_ t
    let s := { s with ecp := { s.ecp with relayAt := none } }
    .next ([PortId.north, PortId.south].foldl (fun (s : State) p => if (s.port p).st = .up then s else s.toneSend p) s)
  | none => .next s

/-! ## The chain time and the ring (R313, R315, R321 to R323) -/

/-- SYNC_SEND (R313): one SYNC for each multiple of 200,000 ticks, out of the north port, and of the ring port while SPLIT. -/
def execSyncSend (dt : Nat) (s : State) : Out :=
  let s := s.elapse dt
  if s.bridge && s.bit 0x1600 28 then
    let s := if s.tbn / 200000 ≤ s.net.tickAt then s.elapseTb ((s.net.tickAt + 1) * 200000 - s.tbn) else s
    let q := (s.net.sseq + 1) % 65536
    let s := { s with net := { s.net with tickAt := s.tbn / 200000, sseq := q, sseqSet := true } }
    let f : Frame := ⟨8, 0, 63, 0, 0, beBytes 8 0 ++ beBytes 4 0 ++ beBytes 2 q ++ beBytes 2 0⟩
    let s := s.send .north f
    .next (if s.splitOn then s.send .south f else s)
  else .next s

/-- SYNC_LOSS_EXPIRY (R315): HOLDOVER, and CHAIN_SYNC_LOST. -/
def execSyncLossExpiry (dt : Nat) (s : State) : Out :=
  let s := s.elapse dt
  if !s.bridge && (decide (s.net.sync = .acquire) || decide (s.net.sync = .locked)) then
    let s := s.until_ (s.net.lastSync + max 2 (s.fld 0x1600 4 4) * msTicks)
    .next (({ s with net := { s.net with sync := .holdover, good := 0, losses := inc 255 s.net.losses } }).present1 137)
  else .next s

/-- RING_LOSS_EXPIRY (R321): no SYNC has returned; the ring is OPEN and recovery starts. While SPLIT no SYNC is due to return. DEDUCED, log entry 87. -/
def execRingLossExpiry (dt : Nat) (s : State) : Out :=
  let s := s.elapse dt
  if s.ringOn && !s.net.ringLost && decide (s.net.ring ≠ .split) && s.net.collect.isNone then
    let s := s.until_ (s.net.ringLast + max 8 (s.fld 0x1600 0 4) * msTicks)
    .next ((({ s with net := { s.net with ringLost := true } }).setRing .open_).recover none)
  else .next s

/-- REVERSE_COLLECT_CLOSE (R323): 1 ms after the last REVERSED answer, or after REVERSE. -/
def execReverseCollectClose (dt : Nat) (s : State) : Out :=
  let s := s.elapse dt
  match s.net.collect with
  | some c => .next (s.until_ (c.last + msTicks)).closeCollect
  | none => .next s

/-- ENUM_ASSIGN_TIMEOUT (R306): no ASSIGNED within 1 ms of ASSIGN; DISCOVER follows. -/
def execEnumAssignTimeout (dt : Nat) (s : State) : Out :=
  let s := s.elapse dt
  match s.net.enumRun with
  | some e => if e.step = .assign ∧ (e.tag ≠ noTag ∨ e.lone) then .next ((s.until_ (e.since + msTicks)).enumDiscover e) else .next s
  | none => .next s

/-! ## Tags that end by time (R311) -/

/-- The hold of a tag. -/
def State.hold (s : State) (tag : Nat) : Option TagHold := s.net.tags.find? (fun h => decide (h.tag = tag))

/-- TAG_TIMEOUT (R307, R311): a TIMEOUT entry is queued and the tag released. DEDUCED, log entry 90. -/
def execTagTimeout (dt tag : Nat) (s : State) : Out :=
  let s := s.elapse dt
  match s.hold tag with
  | some h =>
    if h.addr = 63 then .next s
    else
      let s := (s.until_ (h.since + atLeast1 (s.fld 0x1600 16 8) * msTicks)).freeTag tag
      let room := decide (s.net.rxq.length < 32)
      let s := s.rxPut ⟨h.handle, 2, 0, none⟩
      .next { s with net := { s.net with timeouts := inc 255 s.net.timeouts, attn := s.net.attn || room } }
  | none => .next s

/-- The enumeration that waits for PRESENT answers ends (R306). -/
def State.enumEnd (s : State) (e : EnumRun) : State :=
  { s with net := { s.net with enumRun := none, enumCount := min 63 e.count, ringSeen := e.ring, enumRes := 1 } }

/-- The end of a broadcast window from the clock value `t` on. -/
def State.windowEnd (s : State) (t : Nat) : Nat := t + atLeast1 (s.fld 0x1600 8 8) * 100 * usTicks

/-- BROADCAST_WINDOW_END (R306, R311): BCAST_DONE closes a host's frame; a frame of the bridge's own has none. The window of a DISCOVER that no
port took ends its enumeration too. DEDUCED, log entries 90 and 92. -/
def execBroadcastWindowEnd (dt tag : Nat) (s : State) : Out :=
  let s := s.elapse dt
  match s.hold tag with
  | some h =>
    if h.addr = 63 then
      let s := s.until_ (s.windowEnd h.since)
      let run := s.enumWaits .discover tag
      let s := s.freeTag tag
      if h.handle ≠ 0 then .next (s.rxPut ⟨h.handle, 3, h.count, none⟩)
      else match run with
        | some e => .next (s.enumEnd e)
        | none => .next s
    else .next s
  | none =>
    match s.net.enumRun with
    | some e => if e.step = .discover ∧ e.lone then .next ((s.until_ (s.windowEnd e.since)).enumEnd e) else .next s
    | none => .next s

end Sys2Proof.Machine
end

