-- ==== Sys2Proof/Machine/HostPort.lean ====
section
/-! DEFINITION. Machine/HostPort.lean: the transactions of the host port (R302, R307 to R309). -/

namespace Sys2Proof.Machine

/-- A receive queue entry as bytes (Table 11.6). -/
def RxEnt.bytes (e : RxEnt) : Bytes :=
  beBytes 2 e.handle ++ beBytes 1 e.kind ++ beBytes 1 e.count ++
    (match e.frame with | some f => headerBytes f ++ f.payload | none => [])

/-- HSTAT (R302, R307). TX_FULL shows a full queue, and a TXQ_PUT of the previous transaction that found it full. DEDUCED, log entry 94. -/
def State.hstatNow (s : State) : Byte :=
  let b := s.bridge
  BitVec.ofNat 8 (b2n (b && decide (s.net.rxq ≠ [])) * 128 + b2n (b && (decide (16 ≤ s.net.txq.length) || s.net.hTxFull)) * 64 +
    b2n (b && s.net.attn) * 32 + b2n s.net.hErrCrc * 16 + b2n s.net.hErrDen * 8 + b2n s.net.hErrFmt * 4 + 1)

/-- A transaction begins: HSTAT is sent and its reports of the previous transaction are cleared (R307). -/
def State.hostBegin (s : State) : State :=
  { s with net :=
    { s.net with hstat := s.hstatNow, hostOut := [], hErrCrc := false, hErrDen := false, hErrFmt := false, hTxFull := false } }

/-- FORMAT (R302, R307, R308). -/
def State.hostFormat (s : State) : State := { s with net := { s.net with hErrFmt := true, spiErr := inc 255 s.net.spiErr } }

/-- A wrong CRC (R307). -/
def State.hostCrc (s : State) : State := { s with net := { s.net with hErrCrc := true, spiErr := inc 255 s.net.spiErr } }

/-- The bytes sent after HSTAT, and their CRC-16 (R307). -/
def State.hostSend (s : State) (b : Bytes) : State := { s with net := { s.net with hostOut := b ++ beBytes 2 (crcOf (crcAlg 0) b) } }

/-- A transaction with its error, and its effect where it has none. -/
def State.hostDo (s : State) (err : HostErr) (run : State → Out) : Out :=
  if s.serves .chain then
    let s := s.hostBegin
    match err with
    | .crc => .next s.hostCrc
    | .format => .next s.hostFormat
    | .none => run s
  else .next s

/-- NOP (R307). -/
def execHostNop (dt : Nat) (s : State) : Out := (s.elapse dt).hostDo .none (fun s => .next s)

/-- The types that a host may send (R308). -/
def hostTyp (typ : Nat) (payload : Bytes) : Bool :=
  [1, 3, 5, 10, 13, 14].contains typ || (decide (typ = 11) && decide (beField payload 0 1 = 3))

/-- A frame enters the transmit queue; one addressed to 0 is executed by the bridge and never sent (R308). DEDUCED, log entries 91 and 92. -/
def State.hostFrame (s : State) (handle : Nat) (f : Frame) : Out :=
  if 16 ≤ s.net.txq.length then .next { s with net := { s.net with hTxFull := true } }
  else if f.addr = 0 ∧ f.typ ≠ 13 then s.execLocal f (noTag + handle)
  else
    let s := (s.hostPorts f).foldl (fun (s : State) p => s.setPort p (fun q => q.waits s.clk s.thm.parked f.cls)) s
    .next { s with net := { s.net with txq := s.net.txq ++ [⟨handle, f⟩] } }

/-- TXQ_PUT (R302, R308). DEDUCED, log entry 91. -/
def execTxqPut (dt handle typ addr len : Nat) (payload : Bytes) (err : HostErr) (s : State) : Out :=
  (s.elapse dt).hostDo err (fun s =>
    if !s.bridge || decide (handle = 0) || decide (len ≠ payload.length) || decide (256 < len) || !hostTyp typ payload then
      .next s.hostFormat
    else
      let body := if typ = 11 then netPayload 3 0 else payload
      s.hostFrame handle ⟨typ, 0, addr, (frameClass typ).getD 0, 0, body⟩)

/-- RXQ_GET (R302, R307): the oldest entry, removed where all of it is clocked out. -/
def execRxqGet (dt : Nat) (full : Bool) (err : HostErr) (s : State) : Out :=
  (s.elapse dt).hostDo err (fun s =>
    if !s.bridge then .next s.hostFormat
    else match s.net.rxq with
      | e :: t =>
        let s := s.hostSend (beBytes 2 e.bytes.length ++ e.bytes)
        .next (if full then { s with net := { s.net with rxq := t } } else s)
      | [] => .next (s.hostSend (beBytes 2 0)))

/-- Registers that an access names exist in the address space. DEDUCED, log entry 36. -/
def hostRange (addr count : Nat) : Bool := decide (1 ≤ count) && decide (count ≤ 63) && decide (addr + count ≤ 65536)

/-- REG_RD (R307). DEDUCED, log entry 36. -/
def execRegRd (dt addr count : Nat) (err : HostErr) (s : State) : Out :=
  (s.elapse dt).hostDo err (fun s =>
    if hostRange addr count then
      let (ws, s) := State.readRegs count s .chain true addr
      .next (s.hostSend (wordsBe ws))
    else .next s.hostFormat)

/-- REG_WR (R307). DEDUCED, log entry 36. -/
def execRegWr (dt addr : Nat) (data : List Word) (err : HostErr) (s : State) : Out :=
  (s.elapse dt).hostDo err (fun s =>
    if hostRange addr data.length then
      let k := s.resets
      let (_, st, s) := State.writeRegs data s .chain addr
      .next (if s.resets = k ∧ st = AccSt.denied then { s with net := { s.net with hErrDen := true } } else s)
    else .next s.hostFormat)

end Sys2Proof.Machine
end

