-- ==== Sys2Proof/Machine/RegRows.lean ====
section
/-! DEFINITION. Machine/RegRows.lean: the commands that are writes and reads of one register, each a register access with the word that
the row's operands spell (R10 to R14), and the jets' own accesses (R171, R177). -/

namespace Sys2Proof.Machine

/-- The stored bits of register `a` as in effect: what a writer gives back to leave them as they are. DEDUCED, log entry 25. -/
def State.keep (s : State) (a : Nat) : Word := s.eff a &&& (regRow a).cfg

/-- A register write that arrives after `dt` ticks. DEDUCED, log entry 25. -/
def State.put (s : State) (dt : Nat) (rq : Requester) (a : Nat) (v : Word) : Out := .next ((s.elapse dt).access rq a v)

/-- A write to entry `i` of a register array of `n` entries from `a` on; a number outside the array names no register of it. DEDUCED, log entry 25. -/
def State.putAt (s : State) (dt : Nat) (rq : Requester) (a n i : Nat) (v : Word) : Out :=
  if i < n then s.put dt rq (a + i) v else .next (s.elapse dt)

/-! ## Configuration, modes and lock (chapter 02) -/

/-- REGISTER_WRITE (R11 to R14). -/
def execRegisterWrite (dt : Nat) (rq : Requester) (addr : Nat) (val : Word) (s : State) : Out := s.put dt rq addr val

/-- LOCAL_MODE_REQUEST (R54): PWR_MODE_REQ. -/
def execLocalModeRequest (dt : Nat) (rq : Requester) (target : Nat) (s : State) : Out := s.put dt rq 0x101 (Sys2Proof.put target 0 4)

/-- LOCK_OPEN (R56): both keys are written to PWR_LOCK, the second in the next core cycle. DEDUCED, log entry 26. -/
def execLockOpen (dt : Nat) (rq : Requester) (s : State) : Out :=
  let s := (s.elapse dt).access rq 0x10A 0x1F2E
  .next ((s.elapse s.cycle).access rq 0x10A 0x3D4C)

/-- LOCK_CLOSE (R57). -/
def execLockClose (dt : Nat) (rq : Requester) (s : State) : Out := s.put dt rq 0x10A 0

/-- CONFIG_SAVE (R63): OVL_CTRL.SAVE. -/
def execConfigSave (dt : Nat) (rq : Requester) (s : State) : Out := s.put dt rq 0x200 (s.keep 0x200 ||| putb true 8)

/-- CONFIG_DISCARD (R467): OVL_CTRL.DISCARD. -/
def execConfigDiscard (dt : Nat) (rq : Requester) (s : State) : Out := s.put dt rq 0x200 (s.keep 0x200 ||| putb true 9)

/-- OVL_ENTRY_WRITE (R61): OVL_ENT_ADDR. -/
def execOvlEntryWrite (dt : Nat) (rq : Requester) (val : Word) (s : State) : Out := s.put dt rq 0x203 val

/-! ## Measurement (chapters 03 to 05) -/

/-- NCELLS_WRITE (R77): CFE_STACK. -/
def execNcellsWrite (dt : Nat) (rq : Requester) (n : Nat) (s : State) : Out := s.put dt rq 0x400 (Sys2Proof.put n 0 5)

/-- OW_START (R88): CFE_OW_CTRL.START. -/
def execOwStart (dt : Nat) (rq : Requester) (s : State) : Out := s.put dt rq 0x404 1

/-- CAL_RUN_START (R120): MOD_CAL with START. -/
def execCalRunStart (dt : Nat) (rq : Requester) (val : Word) (s : State) : Out := s.put dt rq 0x609 (val ||| putb true 31)

/-- SNAPSHOT (R130): RES_SNAP_CTRL.TAKE. -/
def execSnapshot (dt : Nat) (rq : Requester) (s : State) : Out := s.put dt rq 0x828 1

/-- RESULT_READ (R128). -/
def execResultRead (dt : Nat) (rq : Requester) (ch : Nat) (s : State) : Out :=
  let s := s.elapse dt
  .next (if ch < 36 then s.readAccess rq false (0x800 + ch) else s)

/-- NET_TBL_READ (R312). -/
def execNetTblRead (dt : Nat) (rq : Requester) (s : State) : Out := .next ((s.elapse dt).readAccess rq false 0x1604)

/-- NET_RING_READ (R307): over the host port. -/
def execNetRingRead (dt : Nat) (s : State) : Out := .next ((s.elapse dt).readAccess .chain true 0x160A)

/-- WINDOW_AUTOINC_ACCESS (R193, R460): a read, or a write of the word given. -/
def execWindowAutoincAccess (dt : Nat) (rq : Requester) (addr : Nat) (wr : Option Word) (s : State) : Out :=
  match wr with
  | some v => s.put dt rq addr v
  | none => .next ((s.elapse dt).readAccess rq false addr)

/-- PAGE_ACK (R148): BSN_ACK. -/
def execPageAck (dt : Nat) (rq : Requester) (stream upto : Nat) (s : State) : Out :=
  s.put dt rq 0xA03 (Sys2Proof.put stream 16 4 ||| Sys2Proof.put upto 0 16)

/-- PAGE_CLOSE_REQUEST (R147): BSN_CLOSE. -/
def execPageCloseRequest (dt : Nat) (rq : Requester) (mask : Nat) (s : State) : Out := s.put dt rq 0xA04 (Sys2Proof.put mask 0 16)

/-- STREAM_CFG_WRITE (R139): BSN_CFGm. -/
def execStreamCfgWrite (dt : Nat) (rq : Requester) (stream : Nat) (val : Word) (s : State) : Out := s.putAt dt rq 0xA10 16 stream val

/-- STREAM_RESET (R150): BSN_CFGm.RESET, the other bits as they stand. -/
def execStreamReset (dt : Nat) (rq : Requester) (stream : Nat) (s : State) : Out :=
  s.putAt dt rq 0xA10 16 stream (s.keep (0xA10 + stream) ||| putb true 29)

/-! ## The jets' own accesses (R171, R177) -/

/-- RDREG (R171): the register is read in the cycle after issue. -/
def execRdreg (dt j : Nat) (ra rb : Reg) (imm : Imm18) (s : State) : Out :=
  (s.elapse dt).issue j (.rdreg ra rb imm) (fun s =>
    let a := s.jaddr j rb imm
    if 0x10000 ≤ a then s.faultIssue j 5
    else
      let (w, s) := s.readReg (.jet j) false a
      (s.setReg j ra w).retire j s.issuedAt 3)

/-- A register write by jet `j` in the cycle after issue: DENIED is a fault (R171, R177). -/
def State.jetPut (s : State) (j a : Nat) (v : Word) : State :=
  let at_ := s.issuedAt
  let n := s.resets
  let (st, s) := s.writeReg (.jet j) a v
  if s.resets ≠ n then s
  else match st with
    | .denied => s.faultJet j 6
    | .ok =>
      match (s.jet j).st with
      | .running => s.retire j at_ 1
      | .stopping => s.retire j at_ 1
      | _ => s

/-- WRREG (R171). A jet that its own write has stopped stays stopped. -/
def execWrreg (dt j : Nat) (ra rb : Reg) (imm : Imm18) (s : State) : Out :=
  (s.elapse dt).issue j (.wrreg ra rb imm) (fun s =>
    let a := s.jaddr j rb imm
    if 0x10000 ≤ a then s.faultIssue j 5 else s.jetPut j a (s.greg j ra))

/-- LIM (R177): RES_LIMn of a channel. DEDUCED, log entry 73. -/
def execLim (dt j : Nat) (rd ra : Reg) (ch : BitVec 6) (rsel : Bool) (s : State) : Out :=
  (s.elapse dt).issue j (.lim rd ra ch rsel) (fun s =>
    let c := s.rselect j rsel ch ra
    if 36 ≤ c then s.faultIssue j 7 else s.jetPut j (0x860 + c) (s.greg j rd))

/-! ## Jets, groups and operations (chapter 07) -/

/-- FLAG_SET_WRITE (R163): SEQ_FSETk. -/
def execFlagSetWrite (dt : Nat) (rq : Requester) (k : Nat) (val : Word) (s : State) : Out := s.putAt dt rq 0xC42 2 k val

/-- FLAG_CLEAR_WRITE (R163): SEQ_FCLRk. -/
def execFlagClearWrite (dt : Nat) (rq : Requester) (k : Nat) (val : Word) (s : State) : Out := s.putAt dt rq 0xC44 2 k val

/-- PROGRAM_WINDOW_WRITE (R194): SEQ_PWIN_DATA. -/
def execProgramWindowWrite (dt : Nat) (rq : Requester) (val : Word) (s : State) : Out := s.put dt rq 0xC49 val

/-- PROGRAM_LOAD (R197): SEQ_LOAD with START and STOPMASK. -/
def execProgramLoad (dt : Nat) (rq : Requester) (stopMask : Nat) (s : State) : Out :=
  s.put dt rq 0xC61 (putb true 31 ||| Sys2Proof.put stopMask 16 8)

/-- JET_START (R200): SEQ_JCTLn with START and ADDR. -/
def execJetStart (dt : Nat) (rq : Requester) (j addr : Nat) (s : State) : Out :=
  s.putAt dt rq 0xC68 8 j (putb true 31 ||| Sys2Proof.put addr 0 14)

/-- JET_STOP (R201): SEQ_JCTLn with STOP, ADDR as it stands. -/
def execJetStop (dt : Nat) (rq : Requester) (j : Nat) (s : State) : Out := s.putAt dt rq 0xC68 8 j (s.keep (0xC68 + j) ||| putb true 30)

/-- JET_KILL (R202): SEQ_JCTLn with KILL, ADDR as it stands. -/
def execJetKill (dt : Nat) (rq : Requester) (j : Nat) (s : State) : Out := s.putAt dt rq 0xC68 8 j (s.keep (0xC68 + j) ||| putb true 29)

/-- GROUP_CFG_WRITE (R205): register `which` of group `g`: SEQ_GCFG, SEQ_GCHL, SEQ_GCHH. -/
def execGroupCfgWrite (dt : Nat) (rq : Requester) (which g : Nat) (val : Word) (s : State) : Out :=
  if g < 16 then s.putAt dt rq 0xC00 48 (16 * which + g) val else .next (s.elapse dt)

/-- HOST_TRIGGER (R207): SEQ_GTRIG. -/
def execHostTrigger (dt : Nat) (rq : Requester) (mask : Nat) (s : State) : Out := s.put dt rq 0xC62 (Sys2Proof.put mask 0 16)

/-- OP_SUSPEND (R226). -/
def execOpSuspend (dt : Nat) (rq : Requester) (tag : Nat) (s : State) : Out := s.put dt rq 0xC80 (Sys2Proof.put 1 24 2 ||| Sys2Proof.put tag 0 16)

/-- OP_RESUME (R226). -/
def execOpResume (dt : Nat) (rq : Requester) (tag : Nat) (s : State) : Out := s.put dt rq 0xC80 (Sys2Proof.put 2 24 2 ||| Sys2Proof.put tag 0 16)

/-- OP_CANCEL (R226). -/
def execOpCancel (dt : Nat) (rq : Requester) (tag : Nat) (s : State) : Out := s.put dt rq 0xC80 (Sys2Proof.put 3 24 2 ||| Sys2Proof.put tag 0 16)

/-! ## Balancing and spectrum (chapters 08 and 09) -/

/-- BAL_LEVEL_WRITE (R236): SLU_REQn.LEVEL. -/
def execBalLevelWrite (dt : Nat) (rq : Requester) (cell level : Nat) (s : State) : Out :=
  if cell = 0 then .next (s.elapse dt) else s.putAt dt rq 0x1020 24 (cell - 1) (Sys2Proof.put level 0 9)

/-- BAL_QUOTA_WRITE (R243): SLU_QSETn. -/
def execBalQuotaWrite (dt : Nat) (rq : Requester) (cell : Nat) (quota : Word) (s : State) : Out :=
  if cell = 0 then .next (s.elapse dt) else s.putAt dt rq 0x1040 24 (cell - 1) quota

/-- XFET_WRITE (R234): SLU_XFET. -/
def execXfetWrite (dt : Nat) (rq : Requester) (val : Word) (s : State) : Out := s.put dt rq 0x1002 val

/-- SPECTRUM_START (R250): SPC_CTRL with START. -/
def execSpectrumStart (dt : Nat) (rq : Requester) (val : Word) (s : State) : Out := s.put dt rq 0x1200 (val ||| putb true 31)

/-! ## Link and network (chapters 10 and 11) -/

/-- WAKE_TONE_SEND (R297): ECP_CTRL.WAKE_N and WAKE_S, the enables as they stand. -/
def execWakeToneSend (dt : Nat) (rq : Requester) (north south : Bool) (s : State) : Out :=
  s.put dt rq 0x1400 (s.keep 0x1400 ||| putb north 8 ||| putb south 9)

/-- COUNTER_CLEAR (R300): ECP_CTRL.CLR_CNT. -/
def execCounterClear (dt : Nat) (rq : Requester) (s : State) : Out := s.put dt rq 0x1400 (s.keep 0x1400 ||| putb true 16)

/-- ENUM (R306): NET_CTRL.ENUM, with CLEAR_FIRST where `clear` is set. -/
def execEnumStart (dt : Nat) (rq : Requester) (clear : Bool) (s : State) : Out := s.put dt rq 0x1601 (putb true 31 ||| putb clear 30)

/-- HEAL (R322): NET_CTRL.HEAL. -/
def execHeal (dt : Nat) (rq : Requester) (s : State) : Out := s.put dt rq 0x1601 (putb true 29)

/-! ## Check values and rill (chapters 12 and 13) -/

/-- Register `k` of check-value channel `n` is written. -/
def State.chkPut (s : State) (dt : Nat) (rq : Requester) (n k : Nat) (v : Word) : Out :=
  if n < 16 then s.put dt rq (0x1800 + 16 * n + k) v else .next (s.elapse dt)

/-- CHK_START (R329): CHK_CTLn with START. -/
def execChkStart (dt : Nat) (rq : Requester) (n : Nat) (val : Word) (s : State) : Out := s.chkPut dt rq n 4 (val ||| putb true 31)

/-- CHK_DATA (R330): CHK_DATAn. -/
def execChkData (dt : Nat) (rq : Requester) (n : Nat) (val : Word) (s : State) : Out := s.chkPut dt rq n 5 val

/-- CHK_BYTE (R330): CHK_BYTEn. -/
def execChkByte (dt : Nat) (rq : Requester) (n : Nat) (val : Word) (s : State) : Out := s.chkPut dt rq n 6 val

/-- CHK_FEED (R332): CHK_CTLn with FEED. -/
def execChkFeed (dt : Nat) (rq : Requester) (n : Nat) (val : Word) (s : State) : Out := s.chkPut dt rq n 4 (val ||| putb true 30)

/-- CHK_FINISH (R331): CHK_CTLn.FINISH. -/
def execChkFinish (dt : Nat) (rq : Requester) (n : Nat) (s : State) : Out := s.chkPut dt rq n 4 (putb true 29)

/-- CHK_ABORT (R331): CHK_CTLn.ABORT. -/
def execChkAbort (dt : Nat) (rq : Requester) (n : Nat) (s : State) : Out := s.chkPut dt rq n 4 (putb true 28)

/-- SEARCH (R346): RIL_CTRL.SEARCH. -/
def execRilSearch (dt : Nat) (rq : Requester) (s : State) : Out := s.put dt rq 0x1900 (putb true 31)

/-- DIRECT_TRANSACTION (R352): RIL_XCTL with START. -/
def execDirectTransaction (dt : Nat) (rq : Requester) (val : Word) (s : State) : Out := s.put dt rq 0x1905 (val ||| putb true 31)

/-! ## Faults, heat and self-test (chapters 14 to 16) -/

/-- STICKY_CLEAR (R360): FLT_STICKYk. -/
def execStickyClear (dt : Nat) (rq : Requester) (k : Nat) (val : Word) (s : State) : Out := s.putAt dt rq 0x1A10 5 k val

/-- SECONDARY_CLEAR (R364): FLT_SECk. -/
def execSecondaryClear (dt : Nat) (rq : Requester) (k : Nat) (val : Word) (s : State) : Out := s.putAt dt rq 0x1A20 5 k val

/-- CLEAR_ALL (R360): FLT_CLRALL. -/
def execClearAll (dt : Nat) (rq : Requester) (s : State) : Out := s.put dt rq 0x1A0B 0xC1EA

/-- SENSOR_RESTORE (R375): THM_SREP.RESTORE. -/
def execSensorRestore (dt : Nat) (rq : Requester) (mask : Nat) (s : State) : Out := s.put dt rq 0x1C04 (Sys2Proof.put mask 8 6)

/-- CAMPAIGN (R398): BST_CTRL.CAMPAIGN. -/
def execCampaign (dt : Nat) (rq : Requester) (s : State) : Out := s.put dt rq 0x1D00 (putb true 31)

/-- REPAIR (R403): BST_CTRL.REPAIR. -/
def execRepair (dt : Nat) (rq : Requester) (unit : Nat) (s : State) : Out :=
  s.put dt rq 0x1D00 (putb true 30 ||| Sys2Proof.put unit 0 9)

/-- BST_COUNTER_CLEAR (R408): BST_CTRL.CLR_CNT. -/
def execBstCounterClear (dt : Nat) (rq : Requester) (s : State) : Out := s.put dt rq 0x1D00 (putb true 29)

/-! ## Stored memory (chapter 17) -/

/-- SCRUB_START (R413): NVM_SCRUB.START by a requester; without one, the steward's own start when PERIOD has passed under AUTO. -/
def execScrubStart (dt : Nat) (rq : Option Requester) (s : State) : Out :=
  match rq with
  | some q => s.put dt q 0x1E02 (s.keep 0x1E02 ||| putb true 30)
  | none =>
    let s := s.elapse dt
    if s.stw && s.bit 0x1E02 31 then .next ((s.until_ (s.nvm.scrubAt + s.scrubTicks)).scrubBegin .steward) else .next s

/-- BIND (R418): NVM_BCTL. -/
def execBind (dt : Nat) (rq : Requester) (s : State) : Out := s.put dt rq 0x1E15 0xB1D5

/-- UNBIND (R418): NVM_BCTL. -/
def execUnbind (dt : Nat) (rq : Requester) (s : State) : Out := s.put dt rq 0x1E15 0x0B1D

/-- CUSTOMER_WRITE (R423, R438): NVM_CDATA. -/
def execCustomerWrite (dt : Nat) (rq : Requester) (val : Word) (s : State) : Out := s.put dt rq 0x1E21 val

end Sys2Proof.Machine
end

