-- ==== Sys2Proof/Machine/Dispatch.lean ====
section
/-! DEFINITION. Machine/Dispatch.lean: one arm per command, each one call of its meaning. -/

namespace Sys2Proof.Machine

/-- The effect of a command on everything but the queue. -/
def exec (i : Instr) (s : State) : Host.Outcome State Fault Refusal :=
  match i with
  | .registerWrite dt rq addr val => Sys2Proof.Machine.execRegisterWrite dt rq addr val s
  | .powerOnReset dt test => Sys2Proof.Machine.execPowerOnReset dt test s
  | .supplyReset dt src test => Sys2Proof.Machine.execSupplyReset dt src test s
  | .commandReset dt rq test => Sys2Proof.Machine.execCommandReset dt rq test s
  | .wakeReset dt cause test => Sys2Proof.Machine.execWakeReset dt cause test s
  | .loaderStart dt aOk bOk => Sys2Proof.Machine.execLoaderStart dt aOk bOk s
  | .imageCopyDone dt ok => Sys2Proof.Machine.execImageCopyDone dt ok s
  | .configLoad dt => Sys2Proof.Machine.execConfigLoad dt s
  | .portEnable dt => Sys2Proof.Machine.execPortEnable dt s
  | .startModeEntry dt => Sys2Proof.Machine.execStartModeEntry dt s
  | .autoload dt => Sys2Proof.Machine.execAutoload dt s
  | .supplyDipStart v => Sys2Proof.Machine.execSupplyDipStart v s
  | .supplyDipEnd dt vmin => Sys2Proof.Machine.execSupplyDipEnd dt vmin s
  | .railSupervisorTrip dt rail => Sys2Proof.Machine.execRailSupervisorTrip dt rail s
  | .vregFault dt => Sys2Proof.Machine.execVregFault dt s
  | .stackOv dt => Sys2Proof.Machine.execStackOv dt s
  | .vchnUndervoltage dt => Sys2Proof.Machine.execVchnUndervoltage dt s
  | .pllUnlock dt => Sys2Proof.Machine.execPllUnlock dt s
  | .pllRelockRetry dt ok => Sys2Proof.Machine.execPllRelockRetry dt ok s
  | .clockMonitor dt => Sys2Proof.Machine.execClockMonitor dt s
  | .lpoFault dt => Sys2Proof.Machine.execLpoFault dt s
  | .localModeRequest dt rq target => Sys2Proof.Machine.execLocalModeRequest dt rq target s
  | .overlayCommit dt => Sys2Proof.Machine.execOverlayCommit dt s
  | .stillScan dt cell mv => Sys2Proof.Machine.execStillScan dt cell mv s
  | .wakeTimerExpiry dt => Sys2Proof.Machine.execWakeTimerExpiry dt s
  | .watchBurstStart dt => Sys2Proof.Machine.execWatchBurstStart dt s
  | .watchBurstEnd dt => Sys2Proof.Machine.execWatchBurstEnd dt s
  | .buckBurstEnable dt => Sys2Proof.Machine.execBuckBurstEnable dt s
  | .supervisorUnmask dt => Sys2Proof.Machine.execSupervisorUnmask dt s
  | .wakePin e => Sys2Proof.Machine.execWakePin e s
  | .lpoShipStart dt => Sys2Proof.Machine.execLpoShipStart dt s
  | .lpoShipStop dt => Sys2Proof.Machine.execLpoShipStop dt s
  | .wakeToneDetected dt p => Sys2Proof.Machine.execWakeToneDetected dt p s
  | .lockOpen dt rq => Sys2Proof.Machine.execLockOpen dt rq s
  | .lockClose dt rq => Sys2Proof.Machine.execLockClose dt rq s
  | .lockTimeout dt => Sys2Proof.Machine.execLockTimeout dt s
  | .configSave dt rq => Sys2Proof.Machine.execConfigSave dt rq s
  | .configSaveDone dt ok => Sys2Proof.Machine.execConfigSaveDone dt ok s
  | .configDiscard dt rq => Sys2Proof.Machine.execConfigDiscard dt rq s
  | .ovlEntryWrite dt rq val => Sys2Proof.Machine.execOvlEntryWrite dt rq val s
  | .modePrepare dt p h target epoch tc => Sys2Proof.Machine.execModePrepare dt p h target epoch tc s
  | .modeCommit dt p h target epoch tc => Sys2Proof.Machine.execModeCommit dt p h target epoch tc s
  | .chainCommitTime dt => Sys2Proof.Machine.execChainCommitTime dt s
  | .ncellsWrite dt rq n => Sys2Proof.Machine.execNcellsWrite dt rq n s
  | .owStart dt rq => Sys2Proof.Machine.execOwStart dt rq s
  | .owPeriodExpiry dt => Sys2Proof.Machine.execOwPeriodExpiry dt s
  | .owPhaseStart dt => Sys2Proof.Machine.execOwPhaseStart dt s
  | .owBaselineStart dt => Sys2Proof.Machine.execOwBaselineStart dt s
  | .owSinksOn dt => Sys2Proof.Machine.execOwSinksOn dt s
  | .owCheckStart dt => Sys2Proof.Machine.execOwCheckStart dt s
  | .owEvaluate dt => Sys2Proof.Machine.execOwEvaluate dt s
  | .owPhaseEnd dt => Sys2Proof.Machine.execOwPhaseEnd dt s
  | .decimatedSample dt m xs overload => Sys2Proof.Machine.execDecimatedSample dt m xs overload s
  | .rotationVisitStart dt sp => Sys2Proof.Machine.execRotationVisitStart dt sp s
  | .spareCalDone dt sp off gain => Sys2Proof.Machine.execSpareCalDone dt sp off gain s
  | .matchWindowEnd dt sp diff => Sys2Proof.Machine.execMatchWindowEnd dt sp diff s
  | .handover dt sp => Sys2Proof.Machine.execHandover dt sp s
  | .modulatorCalDone dt sp off gain => Sys2Proof.Machine.execModulatorCalDone dt sp off gain s
  | .handBack dt sp => Sys2Proof.Machine.execHandBack dt sp s
  | .xmodInPlaceCal dt m off gain => Sys2Proof.Machine.execXmodInPlaceCal dt m off gain s
  | .coeffHourlyCopy dt => Sys2Proof.Machine.execCoeffHourlyCopy dt s
  | .calRunStart dt rq val => Sys2Proof.Machine.execCalRunStart dt rq val s
  | .calTrimDone dt mean => Sys2Proof.Machine.execCalTrimDone dt mean s
  | .calPointDone dt mean => Sys2Proof.Machine.execCalPointDone dt mean s
  | .calRunCommit dt ok => Sys2Proof.Machine.execCalRunCommit dt ok s
  | .snapshot dt rq => Sys2Proof.Machine.execSnapshot dt rq s
  | .resultRead dt rq ch => Sys2Proof.Machine.execResultRead dt rq ch s
  | .netTblRead dt rq => Sys2Proof.Machine.execNetTblRead dt rq s
  | .netRingRead dt => Sys2Proof.Machine.execNetRingRead dt s
  | .windowAutoincAccess dt rq addr wr => Sys2Proof.Machine.execWindowAutoincAccess dt rq addr wr s
  | .pageAck dt rq stream upto => Sys2Proof.Machine.execPageAck dt rq stream upto s
  | .pageCloseRequest dt rq mask => Sys2Proof.Machine.execPageCloseRequest dt rq mask s
  | .pageAgeClose dt stream => Sys2Proof.Machine.execPageAgeClose dt stream s
  | .streamCfgWrite dt rq stream val => Sys2Proof.Machine.execStreamCfgWrite dt rq stream val s
  | .streamReset dt rq stream => Sys2Proof.Machine.execStreamReset dt rq stream s
  | .add dt j dst a b => Sys2Proof.Machine.execAdd dt j dst a b s
  | .sub dt j dst a b => Sys2Proof.Machine.execSub dt j dst a b s
  | .andOp dt j dst a b => Sys2Proof.Machine.execAndOp dt j dst a b s
  | .orOp dt j dst a b => Sys2Proof.Machine.execOrOp dt j dst a b s
  | .xorOp dt j dst a b => Sys2Proof.Machine.execXorOp dt j dst a b s
  | .shl dt j dst a b => Sys2Proof.Machine.execShl dt j dst a b s
  | .shr dt j dst a b => Sys2Proof.Machine.execShr dt j dst a b s
  | .sar dt j dst a b => Sys2Proof.Machine.execSar dt j dst a b s
  | .mul dt j dst a b => Sys2Proof.Machine.execMul dt j dst a b s
  | .minOp dt j dst a b => Sys2Proof.Machine.execMinOp dt j dst a b s
  | .maxOp dt j dst a b => Sys2Proof.Machine.execMaxOp dt j dst a b s
  | .addi dt j ra rb imm => Sys2Proof.Machine.execAddi dt j ra rb imm s
  | .lui dt j ra imm => Sys2Proof.Machine.execLui dt j ra imm s
  | .beq dt j ra rb imm => Sys2Proof.Machine.execBeq dt j ra rb imm s
  | .bne dt j ra rb imm => Sys2Proof.Machine.execBne dt j ra rb imm s
  | .blt dt j ra rb imm => Sys2Proof.Machine.execBlt dt j ra rb imm s
  | .bge dt j ra rb imm => Sys2Proof.Machine.execBge dt j ra rb imm s
  | .loop dt j ra imm => Sys2Proof.Machine.execLoop dt j ra imm s
  | .jmp dt j imm => Sys2Proof.Machine.execJmp dt j imm s
  | .callOp dt j imm => Sys2Proof.Machine.execCallOp dt j imm s
  | .retOp dt j => Sys2Proof.Machine.execRetOp dt j s
  | .ld dt j ra rb imm => Sys2Proof.Machine.execLd dt j ra rb imm s
  | .st dt j ra rb imm => Sys2Proof.Machine.execSt dt j ra rb imm s
  | .rdreg dt j ra rb imm => Sys2Proof.Machine.execRdreg dt j ra rb imm s
  | .wrreg dt j ra rb imm => Sys2Proof.Machine.execWrreg dt j ra rb imm s
  | .conv dt j rd w group => Sys2Proof.Machine.execConv dt j rd w group s
  | .syncv dt j rd ra w group => Sys2Proof.Machine.execSyncv dt j rd ra w group s
  | .convWaitEnd dt j => Sys2Proof.Machine.execConvWaitEnd dt j s
  | .getr dt j rd ra ch rsel v n => Sys2Proof.Machine.execGetr dt j rd ra ch rsel v n s
  | .getrNWake dt j => Sys2Proof.Machine.execGetrNWake dt j s
  | .strm dt j rd ra rb len1 rsel stream => Sys2Proof.Machine.execStrm dt j rd ra rb len1 rsel stream s
  | .strmDecision dt j => Sys2Proof.Machine.execStrmDecision dt j s
  | .lim dt j rd ra ch rsel => Sys2Proof.Machine.execLim dt j rd ra ch rsel s
  | .bal dt j ra rb => Sys2Proof.Machine.execBal dt j ra rb s
  | .balq dt j rd ra rb => Sys2Proof.Machine.execBalq dt j rd ra rb s
  | .exc dt j rd kind => Sys2Proof.Machine.execExc dt j rd kind s
  | .corr dt j rd ra bin im => Sys2Proof.Machine.execCorr dt j rd ra bin im s
  | .waitOp dt j rb imm => Sys2Proof.Machine.execWaitOp dt j rb imm s
  | .waitEnd dt j => Sys2Proof.Machine.execWaitEnd dt j s
  | .waitt dt j dst a => Sys2Proof.Machine.execWaitt dt j dst a s
  | .waittDeadline dt j => Sys2Proof.Machine.execWaittDeadline dt j s
  | .waittRd dt j dst => Sys2Proof.Machine.execWaittRd dt j dst s
  | .waittRdh dt j dst => Sys2Proof.Machine.execWaittRdh dt j dst s
  | .waite dt j rd ra rb flag rsel c => Sys2Proof.Machine.execWaite dt j rd ra rb flag rsel c s
  | .waiteWake dt j => Sys2Proof.Machine.execWaiteWake dt j s
  | .waiteTimeout dt j => Sys2Proof.Machine.execWaiteTimeout dt j s
  | .sig dt j ra flag rsel c => Sys2Proof.Machine.execSig dt j ra flag rsel c s
  | .yield dt j => Sys2Proof.Machine.execYield dt j s
  | .halt dt j code => Sys2Proof.Machine.execHalt dt j code s
  | .illegalInstruction dt j => Sys2Proof.Machine.execIllegalInstruction dt j s
  | .flagSetWrite dt rq k val => Sys2Proof.Machine.execFlagSetWrite dt rq k val s
  | .flagClearWrite dt rq k val => Sys2Proof.Machine.execFlagClearWrite dt rq k val s
  | .programWindowWrite dt rq val => Sys2Proof.Machine.execProgramWindowWrite dt rq val s
  | .programLoad dt rq stopMask => Sys2Proof.Machine.execProgramLoad dt rq stopMask s
  | .loadStopTimeout dt => Sys2Proof.Machine.execLoadStopTimeout dt s
  | .programLoadDone dt => Sys2Proof.Machine.execProgramLoadDone dt s
  | .jetStart dt rq j addr => Sys2Proof.Machine.execJetStart dt rq j addr s
  | .jetStop dt rq j => Sys2Proof.Machine.execJetStop dt rq j s
  | .jetStopTake dt j => Sys2Proof.Machine.execJetStopTake dt j s
  | .jetKill dt rq j => Sys2Proof.Machine.execJetKill dt rq j s
  | .jetWatchdogExpiry dt j => Sys2Proof.Machine.execJetWatchdogExpiry dt j s
  | .groupCfgWrite dt rq which g val => Sys2Proof.Machine.execGroupCfgWrite dt rq which g val s
  | .hostTrigger dt rq mask => Sys2Proof.Machine.execHostTrigger dt rq mask s
  | .syncTickTrigger dt => Sys2Proof.Machine.execSyncTickTrigger dt s
  | .syncPinEdge dt rising => Sys2Proof.Machine.execSyncPinEdge dt rising s
  | .intervalTimerFire dt ix => Sys2Proof.Machine.execIntervalTimerFire dt ix s
  | .arbiterGrant dt => Sys2Proof.Machine.execArbiterGrant dt s
  | .cmdFrame dt p h body => Sys2Proof.Machine.execCmdFrame dt p h body s
  | .trigCmd dt => Sys2Proof.Machine.execTrigCmd dt s
  | .jstartCmd dt => Sys2Proof.Machine.execJstartCmd dt s
  | .jstopCmd dt => Sys2Proof.Machine.execJstopCmd dt s
  | .jkillCmd dt => Sys2Proof.Machine.execJkillCmd dt s
  | .flagsCmd dt => Sys2Proof.Machine.execFlagsCmd dt s
  | .opCmd dt => Sys2Proof.Machine.execOpCmd dt s
  | .loadCmd dt => Sys2Proof.Machine.execLoadCmd dt s
  | .opSuspend dt rq tag => Sys2Proof.Machine.execOpSuspend dt rq tag s
  | .opResume dt rq tag => Sys2Proof.Machine.execOpResume dt rq tag s
  | .opCancel dt rq tag => Sys2Proof.Machine.execOpCancel dt rq tag s
  | .opSuspended dt kind => Sys2Proof.Machine.execOpSuspended dt kind s
  | .opCancelled dt kind => Sys2Proof.Machine.execOpCancelled dt kind s
  | .sluiceFrameStart dt => Sys2Proof.Machine.execSluiceFrameStart dt s
  | .slotStart dt meas => Sys2Proof.Machine.execSlotStart dt meas s
  | .balLevelWrite dt rq cell level => Sys2Proof.Machine.execBalLevelWrite dt rq cell level s
  | .balQuotaWrite dt rq cell quota => Sys2Proof.Machine.execBalQuotaWrite dt rq cell quota s
  | .xfetWrite dt rq val => Sys2Proof.Machine.execXfetWrite dt rq val s
  | .balOvercurrent dt cell => Sys2Proof.Machine.execBalOvercurrent dt cell s
  | .balCurrentCheck dt cell cur => Sys2Proof.Machine.execBalCurrentCheck dt cell cur s
  | .balStuckOn dt cell cur => Sys2Proof.Machine.execBalStuckOn dt cell cur s
  | .balGateCheck dt cell vgs vcell => Sys2Proof.Machine.execBalGateCheck dt cell vgs vcell s
  | .spectrumStart dt rq val => Sys2Proof.Machine.execSpectrumStart dt rq val s
  | .spectrumRunBegin dt => Sys2Proof.Machine.execSpectrumRunBegin dt s
  | .currentTrimDone dt sense => Sys2Proof.Machine.execCurrentTrimDone dt sense s
  | .passExcite dt => Sys2Proof.Machine.execPassExcite dt s
  | .excitationEdge dt => Sys2Proof.Machine.execExcitationEdge dt s
  | .windowOpen dt => Sys2Proof.Machine.execWindowOpen dt s
  | .windowClose dt => Sys2Proof.Machine.execWindowClose dt s
  | .passEnd dt => Sys2Proof.Machine.execPassEnd dt s
  | .publish dt cur => Sys2Proof.Machine.execPublish dt cur s
  | .currentPhasorSend dt n => Sys2Proof.Machine.execCurrentPhasorSend dt n s
  | .peerFrame dt p h payload => Sys2Proof.Machine.execPeerFrame dt p h payload s
  | .currentTimeout dt n => Sys2Proof.Machine.execCurrentTimeout dt n s
  | .spectrumHeldTimeout dt => Sys2Proof.Machine.execSpectrumHeldTimeout dt s
  | .f1TrackDone dt lay => Sys2Proof.Machine.execF1TrackDone dt lay s
  | .f1TrackTimeout dt => Sys2Proof.Machine.execF1TrackTimeout dt s
  | .regFrame dt p h payload => Sys2Proof.Machine.execRegFrame dt p h payload s
  | .regRspFrame dt p h payload => Sys2Proof.Machine.execRegRspFrame dt p h payload s
  | .cmdRspFrame dt p h payload => Sys2Proof.Machine.execCmdRspFrame dt p h payload s
  | .bsnRdFrame dt p h payload => Sys2Proof.Machine.execBsnRdFrame dt p h payload s
  | .bsnHitFrame dt p h payload => Sys2Proof.Machine.execBsnHitFrame dt p h payload s
  | .bsnMissFrame dt p h payload => Sys2Proof.Machine.execBsnMissFrame dt p h payload s
  | .syncFrame dt p h tOrigin corr sseq hops => Sys2Proof.Machine.execSyncFrame dt p h tOrigin corr sseq hops s
  | .notifyFrame dt p h payload => Sys2Proof.Machine.execNotifyFrame dt p h payload s
  | .svcFrame dt p h payload => Sys2Proof.Machine.execSvcFrame dt p h payload s
  | .svcRspFrame dt p h payload => Sys2Proof.Machine.execSvcRspFrame dt p h payload s
  | .frameForward dt p f x => Sys2Proof.Machine.execFrameForward dt p f x s
  | .lnkToken dt p info => Sys2Proof.Machine.execLnkToken dt p info s
  | .transmitStart dt x => Sys2Proof.Machine.execTransmitStart dt x s
  | .trainingLnk dt x => Sys2Proof.Machine.execTrainingLnk dt x s
  | .keepalive dt x => Sys2Proof.Machine.execKeepalive dt x s
  | .linkTimeout dt p => Sys2Proof.Machine.execLinkTimeout dt p s
  | .wakeToneSend dt rq north south => Sys2Proof.Machine.execWakeToneSend dt rq north south s
  | .wakeToneEnd dt p => Sys2Proof.Machine.execWakeToneEnd dt p s
  | .wakeToneRelay dt => Sys2Proof.Machine.execWakeToneRelay dt s
  | .counterClear dt rq => Sys2Proof.Machine.execCounterClear dt rq s
  | .enumStart dt rq clear => Sys2Proof.Machine.execEnumStart dt rq clear s
  | .enumAssignTimeout dt => Sys2Proof.Machine.execEnumAssignTimeout dt s
  | .netClear dt p h hops => Sys2Proof.Machine.execNetClear dt p h hops s
  | .netAssign dt p h hops => Sys2Proof.Machine.execNetAssign dt p h hops s
  | .netDiscover dt p h hops => Sys2Proof.Machine.execNetDiscover dt p h hops s
  | .netReverse dt p h hops => Sys2Proof.Machine.execNetReverse dt p h hops s
  | .netNormal dt p h hops => Sys2Proof.Machine.execNetNormal dt p h hops s
  | .netAssigned dt p h payload => Sys2Proof.Machine.execNetAssigned dt p h payload s
  | .netPresent dt p h payload => Sys2Proof.Machine.execNetPresent dt p h payload s
  | .netReversed dt p h payload => Sys2Proof.Machine.execNetReversed dt p h payload s
  | .netLinkDown dt p h payload => Sys2Proof.Machine.execNetLinkDown dt p h payload s
  | .netHealed dt p h payload => Sys2Proof.Machine.execNetHealed dt p h payload s
  | .modeAckFrame dt p h payload => Sys2Proof.Machine.execModeAckFrame dt p h payload s
  | .linkDownSend dt p => Sys2Proof.Machine.execLinkDownSend dt p s
  | .hostNop dt => Sys2Proof.Machine.execHostNop dt s
  | .txqPut dt handle typ addr len payload err => Sys2Proof.Machine.execTxqPut dt handle typ addr len payload err s
  | .rxqGet dt full err => Sys2Proof.Machine.execRxqGet dt full err s
  | .regRd dt addr count err => Sys2Proof.Machine.execRegRd dt addr count err s
  | .regWr dt addr data err => Sys2Proof.Machine.execRegWr dt addr data err s
  | .tagTimeout dt tag => Sys2Proof.Machine.execTagTimeout dt tag s
  | .broadcastWindowEnd dt tag => Sys2Proof.Machine.execBroadcastWindowEnd dt tag s
  | .syncSend dt => Sys2Proof.Machine.execSyncSend dt s
  | .hopDelayLnk dt x rtt => Sys2Proof.Machine.execHopDelayLnk dt x rtt s
  | .syncLossExpiry dt => Sys2Proof.Machine.execSyncLossExpiry dt s
  | .ringLossExpiry dt => Sys2Proof.Machine.execRingLossExpiry dt s
  | .reverseCollectClose dt => Sys2Proof.Machine.execReverseCollectClose dt s
  | .heal dt rq => Sys2Proof.Machine.execHeal dt rq s
  | .chkStart dt rq n val => Sys2Proof.Machine.execChkStart dt rq n val s
  | .chkData dt rq n val => Sys2Proof.Machine.execChkData dt rq n val s
  | .chkByte dt rq n val => Sys2Proof.Machine.execChkByte dt rq n val s
  | .chkFeed dt rq n val => Sys2Proof.Machine.execChkFeed dt rq n val s
  | .chkFeedDone dt n => Sys2Proof.Machine.execChkFeedDone dt n s
  | .chkFinish dt rq n => Sys2Proof.Machine.execChkFinish dt rq n s
  | .chkAbort dt rq n => Sys2Proof.Machine.execChkAbort dt rq n s
  | .chkIdleRelease dt n => Sys2Proof.Machine.execChkIdleRelease dt n s
  | .rilSearch dt rq => Sys2Proof.Machine.execRilSearch dt rq s
  | .autoSearch dt => Sys2Proof.Machine.execAutoSearch dt s
  | .rlvOn dt => Sys2Proof.Machine.execRlvOn dt s
  | .queryDone dt slots => Sys2Proof.Machine.execQueryDone dt slots s
  | .rilEcho dt ok => Sys2Proof.Machine.execRilEcho dt ok s
  | .pollRound dt => Sys2Proof.Machine.execPollRound dt s
  | .pollRead dt => Sys2Proof.Machine.execPollRead dt s
  | .directTransaction dt rq val => Sys2Proof.Machine.execDirectTransaction dt rq val s
  | .replyTimeout dt => Sys2Proof.Machine.execReplyTimeout dt s
  | .rlvCurrentLimit dt => Sys2Proof.Machine.execRlvCurrentLimit dt s
  | .rlvRetry dt => Sys2Proof.Machine.execRlvRetry dt s
  | .busStuck dt => Sys2Proof.Machine.execBusStuck dt s
  | .stickyClear dt rq k val => Sys2Proof.Machine.execStickyClear dt rq k val s
  | .secondaryClear dt rq k val => Sys2Proof.Machine.execSecondaryClear dt rq k val s
  | .clearAll dt rq => Sys2Proof.Machine.execClearAll dt rq s
  | .shadowEnd dt mode => Sys2Proof.Machine.execShadowEnd dt mode s
  | .aliveKey dt => Sys2Proof.Machine.execAliveKey dt s
  | .stewardWatchdog dt => Sys2Proof.Machine.execStewardWatchdog dt s
  | .stewardStart dt => Sys2Proof.Machine.execStewardStart dt s
  | .flowToggle dt => Sys2Proof.Machine.execFlowToggle dt s
  | .flowDrop dt => Sys2Proof.Machine.execFlowDrop dt s
  | .ledgerWrite dt => Sys2Proof.Machine.execLedgerWrite dt s
  | .sensorStep dt readings => Sys2Proof.Machine.execSensorStep dt readings s
  | .graceExpiry dt => Sys2Proof.Machine.execGraceExpiry dt s
  | .thermalShutdown dt => Sys2Proof.Machine.execThermalShutdown dt s
  | .sensorRestore dt rq mask => Sys2Proof.Machine.execSensorRestore dt rq mask s
  | .backgroundSlice dt => Sys2Proof.Machine.execBackgroundSlice dt s
  | .sliceEnd dt unit resp meas => Sys2Proof.Machine.execSliceEnd dt unit resp meas s
  | .sliceBudgetExpiry dt unit => Sys2Proof.Machine.execSliceBudgetExpiry dt unit s
  | .sliceCut dt unit cut reinit => Sys2Proof.Machine.execSliceCut dt unit cut reinit s
  | .confirmSlice dt => Sys2Proof.Machine.execConfirmSlice dt s
  | .campaign dt rq => Sys2Proof.Machine.execCampaign dt rq s
  | .repair dt rq unit => Sys2Proof.Machine.execRepair dt rq unit s
  | .bstCounterClear dt rq => Sys2Proof.Machine.execBstCounterClear dt rq s
  | .repairMapStore dt ok => Sys2Proof.Machine.execRepairMapStore dt ok s
  | .mramRowRepair dt row => Sys2Proof.Machine.execMramRowRepair dt row s
  | .mramPageWrite dt => Sys2Proof.Machine.execMramPageWrite dt s
  | .scrubStart dt rq => Sys2Proof.Machine.execScrubStart dt rq s
  | .scrubPage dt => Sys2Proof.Machine.execScrubPage dt s
  | .bind dt rq => Sys2Proof.Machine.execBind dt rq s
  | .unbind dt rq => Sys2Proof.Machine.execUnbind dt rq s
  | .bindingWriteDone dt ok => Sys2Proof.Machine.execBindingWriteDone dt ok s
  | .customerWrite dt rq val => Sys2Proof.Machine.execCustomerWrite dt rq val s
  | .svcOpen dt q target => Sys2Proof.Machine.execSvcOpen dt q target s
  | .svcWrite dt q block chunk data => Sys2Proof.Machine.execSvcWrite dt q block chunk data s
  | .svcStatus dt q => Sys2Proof.Machine.execSvcStatus dt q s
  | .svcVerify dt q => Sys2Proof.Machine.execSvcVerify dt q s
  | .svcActivate dt q tact chainMin chainMax => Sys2Proof.Machine.execSvcActivate dt q tact chainMin chainMax s
  | .svcClose dt q => Sys2Proof.Machine.execSvcClose dt q s
  | .svcConfirm dt q => Sys2Proof.Machine.execSvcConfirm dt q s
  | .svcRestart dt q => Sys2Proof.Machine.execSvcRestart dt q s
  | .svcRead dt q addr count => Sys2Proof.Machine.execSvcRead dt q addr count s
  | .svcKeyslot dt q require x y => Sys2Proof.Machine.execSvcKeyslot dt q require x y s
  | .activation dt => Sys2Proof.Machine.execActivation dt s
  | .sessionTimeout dt => Sys2Proof.Machine.execSessionTimeout dt s
  | .imageConfirm dt => Sys2Proof.Machine.execImageConfirm dt s
  | .confirmWindowExpiry dt => Sys2Proof.Machine.execConfirmWindowExpiry dt s
  | .vstkResetRising e => Sys2Proof.Machine.execVstkResetRising e s
  | .supplyDipRecovery v => Sys2Proof.Machine.execSupplyDipRecovery v s
  | .stackLimitReturn dt => Sys2Proof.Machine.execStackLimitReturn dt s
  | .vregRecovery dt => Sys2Proof.Machine.execVregRecovery dt s
  | .vchnRestored dt => Sys2Proof.Machine.execVchnRestored dt s
  | .referenceOscillatorRecovery dt => Sys2Proof.Machine.execReferenceOscillatorRecovery dt s
  | .lpoRecovery dt => Sys2Proof.Machine.execLpoRecovery dt s
  | .receiveCheckFailure dt p bad => Sys2Proof.Machine.execReceiveCheckFailure dt p bad s
  | .serviceFrameGap e => Sys2Proof.Machine.execServiceFrameGap e s
  | .rillReply dt bytes crc => Sys2Proof.Machine.execRillReply dt bytes crc s
  | .faultWindowExpiry dt ix => Sys2Proof.Machine.execFaultWindowExpiry dt ix s

end Sys2Proof.Machine
end

