-- ==== Sys2Proof/Machine/Pins.lean ====
section
/-! DEFINITION. Machine/Pins.lean: the state of each pin, read off the state (R443, R444, R454, Table 18.2). -/

namespace Sys2Proof.Machine

/-- The rows of Table 18.2; the host port's output and its inputs, and SRX and SYNC, stand apart. -/
inductive Pin where
  | tap (k : Nat)        -- C0 to C24
  | balance (n : Nat)    -- S1 to S24
  | sw
  | rails                -- VPRE, VREG, VDDA, VDDC
  | aux                  -- G1 to G10
  | rill                 -- RLV, RLD
  | pair (p : PortId)    -- NP, NN and SP, SN
  | hostIn               -- HSCK, HSDI, HCSN
  | hostOut              -- HSDO
  | stx
  | srxSync              -- SRX, SYNC
  | flow
  | wake
deriving DecidableEq, Repr, Inhabited

/-- What a pin does (Table 18.2). -/
inductive PinState where
  | hiZ
  | ignored
  | input
  | sinking              -- an input whose open-wire sink is on
  | switchOpen
  | switchClosed
  | gateOff              -- driven to C(n−1)
  | gateOn
  | switching
  | rising
  | regulated
  | retained             -- R444
  | discharging
  | off
  | on
  | detector             -- OFF, with the wake detector where VCHN is present
  | port (st : PortSt)
  | selected             -- driven while HCSN is low, else Hi-Z
  | high
  | low
deriving DecidableEq, Repr, Inhabited

/-- The columns of Table 18.2. -/
inductive PinCol where
  | start                -- RESET, steps 1 to 7
  | ready                -- RESET, step 8 on, or with no image started and the ports enabled (R44)
  | sleep                -- SHIP, STILL
  | watch
  | run                  -- modes 4 to 11
deriving DecidableEq, Repr, Inhabited

/-- The column of Table 18.2 for the mode in effect. -/
def State.pinCol (s : State) : PinCol :=
  match s.pwr.mode with
  | .reset => if 8 ≤ s.startStep ∨ s.pwr.stuck then .ready else .start
  | .ship => .sleep
  | .still => .sleep
  | .watch => .watch
  | _ => .run

/-- The open-wire sink of a tap is on (R84). -/
def State.sinkOn (s : State) (k : Nat) : Bool :=
  match s.cfe.run with
  | some r => (decide (r.step = .settle) || decide (r.step = .check)) && (s.owTaps r.phase).contains k
  | none => false

/-- FLOW as the pin shows it: high is released (R368, R454). Without VSTK it is released too. -/
def State.flowPin (s : State) : PinState := if s.flt.flow ∧ s.pwr.mode ≠ .lockout then .high else .low

/-- The state of pin Sn: an internal switch, or the gate driver of an external one (R233, R443). -/
def State.balPin (s : State) (n : Nat) : PinState :=
  let c := s.bal n
  if c.xfet then
    match s.pinCol with
    | .start => if 7 ≤ s.pwr.step then .gateOff else .hiZ
    | .sleep => .hiZ
    | .run => if c.on then .gateOn else .gateOff
    | _ => .gateOff
  else if s.pinCol = .run ∧ c.on ∧ c.pulse.all (fun t => decide (s.clk < t)) then .switchClosed
  else .switchOpen

/-- The state of a pin (Table 18.2). DEDUCED, log entry 132. -/
def State.pin (s : State) (p : Pin) : PinState :=
  match p, s.pinCol with
  | .balance n, _ => s.balPin n
  | .tap k, .watch => if s.sinkOn k then .sinking else .input
  | .tap k, .run => if s.sinkOn k then .sinking else .input
  | .tap _, _ => .hiZ
  | .sw, .start => if 2 ≤ s.startStep then .switching else .off
  | .sw, .sleep => .hiZ
  | .sw, .watch => if s.pwr.buckBurst ∨ s.pwr.burst then .switching else .off
  | .sw, _ => .switching
  | .rails, .start => .rising
  | .rails, .sleep => .discharging
  | .rails, .watch => if s.pwr.buckBurst ∨ s.pwr.burst then .regulated else .retained
  | .rails, _ => .regulated
  | .aux, .watch => .input
  | .aux, .run => .input
  | .aux, _ => .hiZ
  | .rill, .run => if s.ril.rlv then .on else .off
  | .rill, _ => .off
  | .pair _, .start => .port .off
  | .pair _, .sleep => .detector
  | .pair _, .watch => .detector
  | .pair q, _ => .port (s.port q).st
  | .hostIn, .ready => .input
  | .hostIn, .run => .input
  | .hostIn, _ => .ignored
  | .hostOut, .ready => .selected
  | .hostOut, .run => .selected
  | .hostOut, _ => .hiZ
  | .stx, .start => if 5 ≤ s.pwr.step then .high else .hiZ
  | .stx, .ready => .high
  | .stx, .run => .high
  | .stx, _ => .hiZ
  | .srxSync, .start => if 5 ≤ s.pwr.step then .input else .ignored
  | .srxSync, .sleep => .ignored
  | .srxSync, .watch => if s.pwr.burst then .input else .ignored
  | .srxSync, _ => .input
  | .flow, .watch => s.flowPin
  | .flow, .run => s.flowPin
  | .flow, .start => if s.startStep = 0 then .high else .low
  | .flow, _ => .low
  | .wake, .sleep => .input
  | .wake, .watch => .input
  | .wake, _ => .ignored

end Sys2Proof.Machine
end

