-- ==== Sys2Proof/Safety.lean ====
section
/-! DEFINITION. Safety.lean: the terms in which claims are stated: the next state of a command, the parts of the state that a command
leaves alone, the conditions under which a register write and a jet's instruction take effect. -/

namespace Sys2Proof.Machine

/-- The next state of an outcome, where there is one. -/
def nextOf : Out → Option State
  | .next s => some s
  | .fault _ => none
  | .refused _ => none

/-- An outcome that goes on: neither a fault nor a refusal. -/
def goesOn (o : Out) : Bool := (nextOf o).isSome

/-- Command `c` answers a next state at `s`, and that state satisfies `P`. -/
def Completes (c : Instr) (s : State) (P : State → Prop) : Prop := ∃ t, exec c s = .next t ∧ P t

/-! ## Frames -/

/-- The parts of the state. -/
inductive Part where
  | time | cyc | regs | rwo | banks | aon | pwr | ovl | cfe | mod | convs | nextId | res | bsn | seq | slu | spc | ecp | net | chk
  | ril | flt | thm | bst | nvm | ecc | answer | resets | freeN | pending
deriving DecidableEq, Repr

/-- A part is the same in two states. -/
def Part.same (s t : State) : Part → Prop
  | .time => t.time = s.time
  | .cyc => t.cyc = s.cyc
  | .regs => t.regs = s.regs
  | .rwo => t.rwo = s.rwo
  | .banks => t.banks = s.banks
  | .aon => t.aon = s.aon
  | .pwr => t.pwr = s.pwr
  | .ovl => t.ovl = s.ovl
  | .cfe => t.cfe = s.cfe
  | .mod => t.mod = s.mod
  | .convs => t.convs = s.convs
  | .nextId => t.nextId = s.nextId
  | .res => t.res = s.res
  | .bsn => t.bsn = s.bsn
  | .seq => t.seq = s.seq
  | .slu => t.slu = s.slu
  | .spc => t.spc = s.spc
  | .ecp => t.ecp = s.ecp
  | .net => t.net = s.net
  | .chk => t.chk = s.chk
  | .ril => t.ril = s.ril
  | .flt => t.flt = s.flt
  | .thm => t.thm = s.thm
  | .bst => t.bst = s.bst
  | .nvm => t.nvm = s.nvm
  | .ecc => t.ecc = s.ecc
  | .answer => t.answer = s.answer
  | .resets => t.resets = s.resets
  | .freeN => t.freeN = s.freeN
  | .pending => t.pending = s.pending

/-- From `s` to `t` nothing but the listed parts may differ. -/
def OnlyIn (ps : List Part) (s t : State) : Prop := ∀ p, p ∉ ps → p.same s t

/-! ## Register writes -/

/-- The state that a write of register `a` finds: the requester's first key is undone (R56), and the transactions of the Rill bus that have
ended by now are accounted for where the register is one of its own. -/
def State.upTo (s : State) (rq : Requester) (a : Nat) : State := (s.disarm rq).busNow a

/-- A write of `v` to register `a` by `rq` takes effect at `s`: the device serves the requester, the write is not refused, no overlay
commit is in progress, no requester that comes after `rq` in the order of R26 has written the register in this core cycle, and the device
has set none of its bits in this cycle that `v` would clear (R12, R13, R26, R60). -/
abbrev State.accepts (s : State) (rq : Requester) (a : Nat) (v : Word) : Prop :=
  s.serves rq = true ∧ s.refuses rq a v = false ∧ s.pwr.commit = none ∧
    (s.upTo rq a).outranked rq ((s.upTo rq a).partOf rq a).1 ((s.upTo rq a).partOf rq a).2 = false ∧ v &&& (s.upTo rq a).wcFresh a = 0

/-- The state in which an accepted write of `v` to register `a` has stored its bits, and its own effect is still to come: the write is
noted in its cycle, the owner of the lock is noted (R26, R27, R56, R57, R59). -/
def State.wrote (s : State) (rq : Requester) (a : Nat) (v : Word) : State := ((s.upTo rq a).noteWrite rq a).stored rq a v

/-! ## Check-value feeds -/

/-- No check-value channel takes a feed: nothing reads MRAM or result SRAM in the background (R333). -/
abbrev State.noFeed (s : State) : Prop := ∀ n < 16, (s.chkOf n).feed = none

/-! ## Frames that arrive -/

/-- Frame `f` with check value and INFO `x` passes the checks of port `p`, and this device takes it (R280, R283, R289, R294, R295). -/
abbrev State.hears (s : State) (p : PortId) (f : Frame) (x : Tail) : Prop :=
  (s.port p).st = .up ∧ badInfo x.info = false ∧ x.check = frameCheck f ∧ headerOk f = true ∧ (s.route p f).wrong = false ∧
    (s.route p f).take = true

/-- The state in which a good frame has been received at port `p` and forwarded where its route says so (R289 to R293, R305, R321). -/
abbrev State.heard (s : State) (p : PortId) (f : Frame) (x : Tail) : State := s.receive p f x

/-! ## The command queue -/

/-- The state in whose core cycle the next entry of the command queue is executed (R173, R220). -/
def State.cmdAt (s : State) : State := (s.elapseTb s.cmdWait).until_ s.seq.cqNext

/-- Entry `x` is the next that the command queue executes (R220). DEDUCED, log entry 69. -/
abbrev State.cmdTurn (s : State) (x : CqEnt) : Prop := s.coreOn = true ∧ s.cmdAt.seq.queue.find? s.cmdAt.cmdDue = some x

/-- The state in which the next entry has left the command queue and its command is to take effect. -/
def State.cmdTaken (s : State) : State :=
  { s.cmdAt with seq :=
      { s.cmdAt.seq with queue := dropDue s.cmdAt.cmdDue s.cmdAt.seq.queue, cqNext := s.cmdAt.clk + s.cmdAt.cycle } }

/-! ## Resets -/

/-- What every reset leaves of `s` (R15, R41): mode RESET with the cause recorded, start-up at the given step, every register, jet, group,
stream and frame at its reset value, MRAM, the spares of its rows and the commands that wait as they were. -/
def State.freshFrom (s t : State) (cause step : Nat) : Prop :=
  t.pwr.mode = .reset ∧ t.pwr.step = step ∧ t.pwr.commit = none ∧ t.pwr.lockOwner = none ∧ t.aon.resetCause = cause ∧
    t.regs = [] ∧ t.rwo = [] ∧ t.ovl.snap = [] ∧ t.ovl.entries = [] ∧ t.convs = [] ∧ t.res.latest = .replicate 36 0 ∧ t.bsn = Bsn.init ∧
    t.seq = Seq.init ∧ t.slu = Slu.init ∧ t.spc = Spc.init ∧ t.ecp = Ecp.init ∧ t.ril = Ril.init ∧ t.thm = Thm.init ∧
    t.tb = 0 ∧ t.clk = s.clk ∧ t.nvm.mram = s.nvm.mram ∧ t.nvm.rows = s.nvm.rows ∧ t.pending = s.pending

/-! ## What every step keeps -/

/-- What holds after every step that begins with it: the stored memory is in canonical form, and no queue is longer than the manual
says (R217, R308, R309, R366). -/
abbrev State.Inv (s : State) : Prop :=
  Memory.wf s.nvm.mram = true ∧ s.seq.queue.length ≤ 64 ∧ s.net.txq.length ≤ 16 ∧ s.net.rxq.length ≤ 32 ∧ s.flt.queue.length ≤ 32

/-! ## Instructions of the jets -/

/-- The state in whose cycle the work of the instruction falls that jet `j` issues next: its issue, or the cycle after (R160). -/
def State.issueAt (s : State) (j : Nat) : State := s.until_ ((s.jet j).busyTo + s.lagOf j * s.cycle)

/-- Jet `j` is next to issue `i` at `s`: it can issue, its program counter lies in the program, the word that it fetches there has no
error and is the word of `i`, and its watchdog does not stop it while the instruction is in progress (R157, R164, R165, R194, R204). -/
abbrev State.issues (s : State) (j : Nat) (i : Balrax) : Prop :=
  s.canIssue j = true ∧ (s.jet j).pc < 16384 ∧ s.eccOf .prog (s.jet j).pc = none ∧
    Balrax.decode (s.fetchWord j) = some i ∧ (s.issueAt j).wdCuts j i = false

/-- Jet `j` has done an instruction that writes `w` to `d`: the next word follows after `cost` core cycles from clock `at_` (R158,
R160). -/
def State.done (s : State) (j : Nat) (d : Reg) (w : Word) (at_ cost : Nat) : State :=
  s.setJet j (fun q =>
    { q.write d w with pc := q.pc + 1, busyTo := max s.clk (at_ + cost * s.cycle), lastPc := q.pc, lastDep := q.stack.length })

/-- A control transfer of jet `j` to word `t`, after which it issues again two core cycles later (R160, R169). -/
def State.goto (s : State) (j t : Nat) : State :=
  s.setJet j (fun q => { q with pc := t, busyTo := s.clk + 2 * s.cycle, lastPc := q.pc, lastDep := q.stack.length })

/-- Jet `j` has done an instruction of one core cycle that writes none of its registers. -/
def State.pass (s : State) (j : Nat) : State :=
  s.setJet j (fun q => { q with pc := q.pc + 1, busyTo := s.clk + s.cycle, lastPc := q.pc, lastDep := q.stack.length })

/-- A wait of jet `j` that can end: it waits, and its core cycles come (R162, R201). -/
abbrev State.waits (s : State) (j : Nat) (w : JWait) : Prop := s.canWake j = true ∧ (s.jet j).wait = w

/-- Jet `j` after its wait with `w` written to `d`: it runs on from clock `next`, and its watchdog counter starts from 0 (R162, R204). -/
def State.woken (s : State) (j : Nat) (d : Reg) (w : Word) (next : Nat) : State :=
  s.setJet j (fun q =>
    { (q.write d w) with
      st := .running, wait := .none, pc := q.pc + 1, busyTo := next, lastPc := q.pc, lastDep := q.stack.length, wdFrom := s.clk, wdCyc := 0 })

/-- Jet `j` waiting for `w` at a safe point since `s` (R161, R204); one that is STOPPING stays so. -/
def State.inWait (s : State) (j : Nat) (w : JWait) (cost : Nat) : State :=
  s.setJet j (fun q =>
    { q with st := if q.st = .running then .waiting else q.st, wait := w, busyTo := s.clk + cost * s.cycle, wdFrom := s.clk
             wdCyc := 0 })

end Sys2Proof.Machine
end

