-- ==== Sys2Proof/Certificates/Slice0/Obligations.lean ====
section
/-! DEFINITION. Certificates/Slice0/Obligations.lean: the statements for the provers, in the order of the manual's chapters. `e` is the
state after the time that a command carries, `u` and `v` the states in which its effect takes place. -/

open Sys2Proof Sys2Proof.Machine

/-- A step runs the command at the front of the queue on the state with the rest of the queue; with an empty queue the block
idles (the model's own choice, log entry 2). Every command completes: whatever the command and the state, it answers a next
state, for no row of the table stops the machine. -/
def Obligations.StepRunsFrontCommand : Prop :=
  (∀ (s : State) (c : Instr) (rest : List Instr), s.pending = c :: rest → step s = exec c { s with pending := rest }) ∧
    (∀ s : State, s.pending = [] → step s = .next s) ∧
    (∀ (c : Instr) (s : State), ∃ t, exec c s = .next t)

/-- The device right after a power-on reset (R3, R15, R41, R42, R70, R152, R158, R300, R311, R335): the mode, the always-on
registers, the sequencer, the pages, the ports, the timebase, and what reads of registers give, as the Reset columns have it. -/
def Obligations.ResetValues : Prop :=
  let s := State.reset
  s.pwr.mode = .reset ∧ s.pwr.step = 1 ∧ s.pwr.coreSrc = .lpo ∧ s.pwr.lockOwner = none ∧ s.pwr.commit = none ∧ s.aon.resetCause = 1 ∧
    s.aon.lockout = false ∧ s.tb = 0 ∧ s.ovl.snap = [] ∧ s.bsn.free = List.range 256 ∧ (∀ m < 16, s.strm m = Strm.init) ∧
    (∀ j < 8, s.jet j = Jet.init) ∧ s.seq.flags = 0 ∧ s.seq.queue = [] ∧ (∀ n < 16, (s.chkOf n).active = false ∧ (s.chkOf n).cnt = 0) ∧
    s.ecp.north.st = .off ∧ s.ecp.south.st = .off ∧ s.ecp.south.bridgeward = true ∧ s.ecp.north.bridgeward = false ∧
    s.net.sync = .free ∧ s.net.tags = [] ∧ s.nvm.mram = [] ∧ s.nvm.sess = none ∧ s.binding = some ⟨true, 0, 0, 0⟩ ∧ s.pending = [] ∧
    (∀ x ∈ [(0x100, 0x0), (0x105, 0x240), (0x108, 0x1), (0xA00, 0x100), (0xC40, 0x0), (0xC41, 0x0), (0x1402, 0x0), (0x1403, 0x8000000),
        (0x1404, 0x0), (0x1602, 0x0), (0x1606, 0x0), (0x160B, 0x0), (0x1847, 0x0)],
      (s.readReg .chain false x.1).1 = BitVec.ofNat 32 x.2)

/-- What every step keeps holds right after reset. -/
def Obligations.ResetInv : Prop := State.reset.Inv

/-- Whatever the command and the state, a step that begins with the stored memory in canonical form and every queue within its
length ends so. -/
def Obligations.StepKeepsInv : Prop := ∀ s t : State, s.Inv → step s = .next t → t.Inv

/-- Words written out from Tables 6.1 to 6.6 (R165 to R169, R172, R182, R185), format by format, decode to the instructions
they stand for, and reserved words decode to none. -/
def Obligations.BalraxWords : Prop :=
  Balrax.decode 0b000000_0011_0001_0010_00000000001000#32 = some (.alu .mul 3 1 2) ∧
    Balrax.decode 0b000001_0101_0110_111111111111111111#32 = some (.addi 5 6 (-1)) ∧
    Balrax.decode 0b000010_0111_0000_000000000000000101#32 = some (.lui 7 5) ∧
    Balrax.decode 0b000110_0001_0010_111111111111111110#32 = some (.br .lt 1 2 (-2)) ∧
    Balrax.decode 0b001010_00000000000000000100000000#32 = some (.call 256) ∧
    Balrax.decode 0b001100_0001_0010_000000000000000100#32 = some (.ld 1 2 4) ∧
    Balrax.decode 0b010000_0100_0000_0000_000000000_1_0011#32 = some (.conv 4 true 3) ∧
    Balrax.decode 0b010010_0100_0000_0000_000101_0_0_1_0_0000#32 = some (.getr 4 0 5 false true false) ∧
    Balrax.decode 0b011000_0000_0011_0100_00000000000000#32 = some (.bal 3 4) ∧
    Balrax.decode 0b011100_0010_0000_0000_000000000000_01#32 = some (.exc 2 1) ∧
    Balrax.decode 0b100001_0011_0000_0000_00000000000001#32 = some (.waittRd 3) ∧
    Balrax.decode 0b100101_0000000000_0000000000000111#32 = some (.halt 7) ∧
    Balrax.decode 0b000000_0011_0001_0010_00000000001011#32 = none ∧
    Balrax.decode 0b011100_0010_0000_0000_000000000000_11#32 = none ∧
    Balrax.decode 0b100110_00000000000000000000000000#32 = none ∧
    Balrax.decode 0b000011_00000000000000000000000000#32 = none

/-- Encoding and decoding of the jets' instructions agree, in both directions: every instruction that an encoding admits is
what its word decodes to, and every word that decodes is the word of what it decodes to. -/
def Obligations.DecodeEncodeAgree : Prop :=
  (∀ i : Balrax, i.wf = true → Balrax.decode i.encode = some i) ∧
    (∀ (w : Word) (i : Balrax), Balrax.decode w = some i → i.encode = w ∧ i.wf = true)

/-- The register results of the ALU group (R167) and of ADDI and LUI (R168): where the jet issues the instruction, the next
state is the one in which its destination holds the result, the next word follows after the cycles of Table 6.3, and nothing
else has changed. A write to g0 is discarded, and g0 reads as 0. Function codes outside the table and a LUI with rb other than
0 are no instructions, and LUI and ADDI together load any constant. -/
def Obligations.RegisterResults : Prop :=
  (∀ (s : State) (dt j : Nat) (d a b : Reg),
     let e := s.elapse dt
     let u := e.issueAt j
     let x := u.greg j a
     let y := u.greg j b
     (e.issues j (.alu .add d a b) → exec (.add dt j d a b) s = .next (u.done j d (x + y) u.clk 1)) ∧
     (e.issues j (.alu .sub d a b) → exec (.sub dt j d a b) s = .next (u.done j d (x - y) u.clk 1)) ∧
     (e.issues j (.alu .and d a b) → exec (.andOp dt j d a b) s = .next (u.done j d (x &&& y) u.clk 1)) ∧
     (e.issues j (.alu .or d a b) → exec (.orOp dt j d a b) s = .next (u.done j d (x ||| y) u.clk 1)) ∧
     (e.issues j (.alu .xor d a b) → exec (.xorOp dt j d a b) s = .next (u.done j d (x ^^^ y) u.clk 1)) ∧
     (e.issues j (.alu .shl d a b) → exec (.shl dt j d a b) s = .next (u.done j d (x <<< (y.toNat % 32)) u.clk 1)) ∧
     (e.issues j (.alu .shr d a b) → exec (.shr dt j d a b) s = .next (u.done j d (x >>> (y.toNat % 32)) u.clk 1)) ∧
     (e.issues j (.alu .sar d a b) → exec (.sar dt j d a b) s = .next (u.done j d (x.sshiftRight (y.toNat % 32)) u.clk 1)) ∧
     (e.issues j (.alu .mul d a b) → exec (.mul dt j d a b) s = .next (u.done j d (BitVec.ofInt 32 (x.toInt * y.toInt)) u.clk 2)) ∧
     (e.issues j (.alu .min d a b) →
       exec (.minOp dt j d a b) s = .next (u.done j d (BitVec.ofInt 32 (min x.toInt y.toInt)) u.clk 1)) ∧
     (e.issues j (.alu .max d a b) →
       exec (.maxOp dt j d a b) s = .next (u.done j d (BitVec.ofInt 32 (max x.toInt y.toInt)) u.clk 1))) ∧
  (∀ (s : State) (dt j : Nat) (a b : Reg) (imm : Imm18),
     let e := s.elapse dt
     let u := e.issueAt j
     (e.issues j (.addi a b imm) → exec (.addi dt j a b imm) s = .next (u.done j a (u.greg j b + imm.signExtend 32) u.clk 1)) ∧
     (e.issues j (.lui a imm) → exec (.lui dt j a imm) s = .next (u.done j a (BitVec.ofNat 32 (imm.toNat * 2 ^ 14)) u.clk 1))) ∧
  (∀ (u : State) (j : Nat) (d r : Reg) (w : Word) (at_ c : Nat), j < 8 →
     let t := u.done j d w at_ c
     t.greg j r = (if r = d ∧ d ≠ 0 then w else u.greg j r) ∧ t.greg j 0 = 0 ∧ (t.jet j).pc = (u.jet j).pc + 1 ∧
       (t.jet j).busyTo = max u.clk (at_ + c * u.cycle) ∧ (t.jet j).stack = (u.jet j).stack ∧ (∀ m, m ≠ j → t.jet m = u.jet m) ∧
       OnlyIn [.seq] u t) ∧
  (∀ w : Word,
     (w.extractLsb' 26 6 = 0 → 11 ≤ (w.extractLsb' 0 14).toNat → Balrax.decode w = none) ∧
       (w.extractLsb' 26 6 = 2 → w.extractLsb' 18 4 ≠ 0 → Balrax.decode w = none)) ∧
  (∀ c : Word, ∃ hi lo : Imm18, lo.toNat ≤ 16383 ∧ BitVec.ofNat 32 (hi.toNat * 2 ^ 14) + lo.signExtend 32 = c)

/-- The control instructions (R169) where their target lies in the program: taken and not taken. -/
def Obligations.ControlTransfers : Prop :=
  ∀ (s : State) (dt j : Nat) (a b : Reg) (imm : Imm18) (far : Imm26) (t : Nat),
    let e := s.elapse dt
    let u := e.issueAt j
    let x := u.greg j a
    let y := u.greg j b
    t < 16384 →
    ((t : Int) = (u.jet j).pc + imm.toInt →
      (e.issues j (.br .eq a b imm) → exec (.beq dt j a b imm) s = .next (if x = y then u.goto j t else u.pass j)) ∧
      (e.issues j (.br .ne a b imm) → exec (.bne dt j a b imm) s = .next (if x = y then u.pass j else u.goto j t)) ∧
      (e.issues j (.br .lt a b imm) → exec (.blt dt j a b imm) s = .next (if x.toInt < y.toInt then u.goto j t else u.pass j)) ∧
      (e.issues j (.br .ge a b imm) → exec (.bge dt j a b imm) s = .next (if y.toInt ≤ x.toInt then u.goto j t else u.pass j)) ∧
      (e.issues j (.loop a imm) →
        exec (.loop dt j a imm) s =
          .next (if x = 1 then (u.setReg j a 0).pass j else (u.setReg j a (x - 1)).goto j t))) ∧
    (t = far.toNat →
      (e.issues j (.jmp far) → exec (.jmp dt j far) s = .next (u.goto j t)) ∧
      (e.issues j (.call far) → (u.jet j).stack.length < 8 →
        exec (.callOp dt j far) s = .next ((u.goto j t).setJet j (fun q => { q with stack := ((u.jet j).pc + 1) :: q.stack })))) ∧
    (∀ r k, e.issues j .ret → (u.jet j).stack = r :: k →
      exec (.retOp dt j) s = .next ((u.goto j r).setJet j (fun q => { q with stack := k })))

/-- LD and ST (R170) at an address of the scratch: LD reads the word, in the cycle of a write of it the one from before (R194),
ST writes it and no other word. RDREG, WRREG and LIM (R171, R177) at an address of the register space: the value read one core
cycle after issue, the write that is accepted, and the fault with cause DENIED of a WRREG that is refused. -/
def Obligations.LoadsAndStores : Prop :=
  (∀ (s : State) (dt j : Nat) (a b : Reg) (imm : Imm18),
     let e := s.elapse dt
     let u := e.issueAt j
     let n := (u.greg j b + imm.signExtend 32).toNat
     let i := j * 1024 + n / 4
     n ≤ 4092 → n % 4 = 0 →
     (e.issues j (.ld a b imm) → u.eccOf .scratch i = none →
       exec (.ld dt j a b imm) s =
         .next (u.done j a ((u.oldWord 0xC4B (j * 65536 + n / 4)).getD (u.scratchWord i)) u.clk 2)) ∧
     (e.issues j (.st a b imm) → exec (.st dt j a b imm) s = .next ((u.putScratch i (u.greg j a)).retire j u.clk 1)) ∧
     (∀ w k, (∀ m < 8, (u.jet m).wait.safe = true ∨ (u.jet m).wait = .none) →
       (u.putScratch i w).scratchWord k = if k = i then w else u.scratchWord k)) ∧
  (∀ (s : State) (dt j : Nat) (d a b : Reg) (imm : Imm18) (ch : BitVec 6) (rsel : Bool),
     let e := s.elapse dt
     let u := e.issueAt j
     let n := (u.greg j b + imm.signExtend 32).toNat
     let c := if rsel then (u.greg j a).toNat else ch.toNat
     let q := Requester.jet j
     (e.issues j (.rdreg a b imm) → n ≤ 0xFFFF →
       exec (.rdreg dt j a b imm) s =
         .next (((u.readReg q false n).2.setReg j a (u.readReg q false n).1).retire j u.issuedAt 3)) ∧
     (e.issues j (.wrreg a b imm) → n ≤ 0xFFFF → u.refuses q n (u.greg j a) = true →
       exec (.wrreg dt j a b imm) s = .next ((u.writeReg q n (u.greg j a)).2.faultJet j 6)) ∧
     (∀ t, e.issues j (.wrreg a b imm) → n ≤ 0xFFFF → u.writeReg q n (u.greg j a) = (.ok, t) → t.resets = u.resets →
       (t.jet j).st = .running → exec (.wrreg dt j a b imm) s = .next (t.retire j u.issuedAt 1)) ∧
     (∀ t, e.issues j (.lim d a ch rsel) → c ≤ 35 → u.writeReg q (0x860 + c) (u.greg j d) = (.ok, t) → t.resets = u.resets →
       (t.jet j).st = .running → exec (.lim dt j d a ch rsel) s = .next (t.retire j u.issuedAt 1)))

/-- WAIT, WAITT and WAITE (R184 to R186): what ends at issue, what begins to wait, and what the jet's destination receives when
its wait ends (R174, R175); of two WAITE with C that take one flag in one cycle the lower-numbered jet keeps it (log entry 65);
WAITT.RD and WAITT.RDH read the timebase and its upper half as it was latched. -/
def Obligations.WaitsOfTheJets : Prop :=
  (∀ (s : State) (dt j : Nat) (d a b : Reg) (imm : Imm18) (flag : BitVec 6) (rsel c : Bool),
     let e := s.elapse dt
     let u := e.issueAt j
     let k := if rsel then (u.greg j b).toNat % 64 else flag.toNat
     (e.issues j (.wait b imm) → u.greg j b + imm.setWidth 32 = 0 → exec (.waitOp dt j b imm) s = .next (u.pass j)) ∧
     (e.issues j (.wait b imm) → u.greg j b + imm.setWidth 32 ≠ 0 →
       exec (.waitOp dt j b imm) s =
         .next (u.inWait j (.time (u.tb + (u.greg j b + imm.setWidth 32).setWidth 64)) 1)) ∧
     (e.issues j (.waitt d a) → 0 ≤ (u.tb.setWidth 32 - u.greg j a).toInt →
       exec (.waitt dt j d a) s = .next (u.done j d (u.tb.setWidth 32 - u.greg j a) u.clk 1)) ∧
     (e.issues j (.waitt d a) → (u.tb.setWidth 32 - u.greg j a).toInt < 0 →
       exec (.waitt dt j d a) s = .next (u.inWait j (.deadline d.toNat (u.greg j a)) 1)) ∧
     (e.issues j (.waite d a b flag rsel false) → u.flagSet k = true →
       exec (.waite dt j d a b flag rsel false) s = .next (u.done j d 1 u.clk 1)) ∧
     (e.issues j (.waite d a b flag rsel c) → u.flagSet k = false → u.taker k = none →
       exec (.waite dt j d a b flag rsel c) s =
         .next (u.inWait j
           (.flag d.toNat k c (if a = 0 then none else some (u.tb + (u.greg j a).setWidth 64)) false) 1)) ∧
     (e.issues j (.waite d a b flag rsel true) → u.flagSet k = true → u.taker k = none →
       (u.flagFresh k = false ∨ u.seq.flagTook.getLsbD k = false →
         Completes (.waite dt j d a b flag rsel true) s (fun t =>
           (t.jet j).regs = ((u.jet j).write d 1).regs ∧ (t.jet j).pc = (u.jet j).pc + 1 ∧ t.flagSet k = u.flagFresh k ∧
             (∀ m, m ≠ j → t.jet m = u.jet m) ∧ OnlyIn [.cyc, .seq] u t)) ∧
       (u.flagFresh k = true → u.seq.flagTook.getLsbD k = true →
         exec (.waite dt j d a b flag rsel true) s = .next ((u.putFlag k false).done j d 1 (u.clk + u.cycle) 1))) ∧
     (∀ i q, e.issues j (.waite d a b flag rsel true) → u.taker k = some (i, q) → j < i → i < 8 → u.flagFresh k = false →
       Completes (.waite dt j d a b flag rsel true) s (fun t =>
         (t.jet j).regs = ((u.jet j).write d 1).regs ∧ (t.jet j).pc = (u.jet j).pc + 1 ∧ t.jet i = q ∧ t.seq.flags = u.seq.flags ∧
           OnlyIn [.cyc, .seq] u t))) ∧
  (∀ (s : State) (dt j : Nat),
     let e := s.elapse dt
     (∀ t, e.waits j (.time t) →
       let f := e.untilTb t
       exec (.waitEnd dt j) s = .next (f.woken j 0 0 (f.clk + f.cycle))) ∧
     (∀ d r, e.waits j (.deadline d r) → e.reached32 r = true →
       exec (.waittDeadline dt j) s = .next (e.woken j (BitVec.ofNat 4 d) (e.tb.setWidth 32 - r) (e.clk + e.cycle))) ∧
     (∀ d r, e.waits j (.deadline d r) → e.reached32 r = false →
       let f := e.elapseTb (r - e.tb.setWidth 32).toNat
       exec (.waittDeadline dt j) s = .next (f.woken j (BitVec.ofNat 4 d) (f.tb.setWidth 32 - r) (f.clk + f.cycle))) ∧
     (∀ d k c l, e.waits j (.flag d k c l true) →
       exec (.waiteWake dt j) s = .next (e.woken j (BitVec.ofNat 4 d) 1 (e.clk + e.cycle))) ∧
     (∀ d k c t, e.waits j (.flag d k c (some t) false) →
       let f := e.untilTb t
       exec (.waiteTimeout dt j) s = .next (f.woken j (BitVec.ofNat 4 d) 0 (f.clk + f.cycle))) ∧
     (∀ d g o i r, e.waits j (.conv d g o i (some r)) →
       exec (.convWaitEnd dt j) s = .next (e.woken j (BitVec.ofNat 4 d) (BitVec.ofNat 32 r) (e.clk + 2 * e.cycle))) ∧
     (∀ d ch v w, e.waits j (.getr d ch v (some w)) → e.latest ch = w →
       exec (.getrNWake dt j) s =
         .next ((e.markRead ch).woken j (BitVec.ofNat 4 d) (if v then BitVec.ofInt 32 (valueOf w) else w) (e.clk + 3 * e.cycle)))) ∧
  (∀ (s : State) (dt j : Nat) (a : Reg),
     let e := s.elapse dt
     let u := e.issueAt j
     (e.issues j (.waittRd a) →
       exec (.waittRd dt j a) s =
         .next ((u.setJet j (fun q => { q with tbh := u.tb.extractLsb' 32 32 })).done j a (u.tb.setWidth 32) u.clk 1)) ∧
     (e.issues j (.waittRdh a) → exec (.waittRdh dt j a) s = .next (u.done j a (u.jet j).tbh u.clk 1)))

/-- SIG, YIELD and HALT (R187, R188): the flag, the safe point that restarts the watchdog count, the stop with the HALT word. -/
def Obligations.FlagsYieldHalt : Prop :=
  ∀ (s : State) (dt j : Nat) (a : Reg) (flag : BitVec 6) (rsel c : Bool) (code : BitVec 16),
    let e := s.elapse dt
    let u := e.issueAt j
    let k := if rsel then (u.greg j a).toNat % 64 else flag.toNat
    (e.issues j (.sig a flag rsel c) → c = false → u.flagFresh k = false →
      Completes (.sig dt j a flag rsel c) s (fun t =>
        ((∀ m < 8, ¬ waitsOn u k true m) → t.flagSet k = true) ∧ (∀ i < 64, i ≠ k → t.flagSet i = u.flagSet i) ∧
          (t.jet j).pc = (u.jet j).pc + 1 ∧ OnlyIn [.seq] u t)) ∧
    (e.issues j (.sig a flag rsel c) → c = true → u.flagFresh k = false →
      exec (.sig dt j a flag rsel c) s = .next ((u.putFlag k false).pass j)) ∧
    (e.issues j .yield → (u.jet j).st = .running →
      exec (.yield dt j) s = .next ((u.setJet j (fun q => { q with wdFrom := u.clk, wdCyc := 0 })).pass j)) ∧
    (e.issues j (.halt code) →
      let t := u.stopJet j 15 (Balrax.encode (.halt code)) false
      exec (.halt dt j code) s = .next t ∧
        (u.noFeed →
          (t.jet j).st = .stopped ∧ (t.jet j).cause = 15 ∧ (t.jet j).exitPc = (u.jet j).pc ∧
            (t.jet j).depth = (u.jet j).stack.length ∧ (t.jet j).word = Balrax.encode (.halt code) ∧
            (t.jet j).regs = (u.jet j).regs ∧ (∀ m, m ≠ j → t.jet m = u.jet m) ∧ OnlyIn [.seq, .chk] u t))

/-- CONV and SYNCV on a group that is defined for the jets and idle (R173, R174): the conversion starts, and rd receives 0 or
the jet waits for it. -/
def Obligations.ConversionsStart : Prop :=
  ∀ (s : State) (dt j : Nat) (d a : Reg) (w : Bool) (g : BitVec 4) (grid : Bool),
    let e := s.elapse dt
    let u := e.issueAt j
    let n := g.toNat
    (u.grp n).defined = true → u.grpTrig n = 0 → u.grpBusy n = false →
    e.issues j (if grid then .syncv d a w g else .conv d w g) →
      Completes (if grid then .syncv dt j d a w g else .conv dt j d w g) s (fun t =>
        (∃ c : Conv, t.convs = u.convs ++ [c] ∧ c.id = u.nextId ∧ c.why = .group n ∧ c.stand = 3 ∧ c.jet = j ∧ c.grid = grid ∧
          c.after = (if grid && decide (a ≠ 0) then some (u.greg j a).toNat else none) ∧ c.granted = false ∧
          c.chans.map (fun x => x.ch) = u.grpChans n) ∧
        t.nextId = u.nextId + 1 ∧ (t.grp n).last = 0 ∧ OnlyIn [.seq, .convs, .nextId] u t ∧
        (∀ m, m ≠ j → t.jet m = u.jet m) ∧
        (t.jet j).regs = (if w then (u.jet j).regs else ((u.jet j).write d 0).regs) ∧
        (t.jet j).pc = (u.jet j).pc + (if w then 0 else 1) ∧
        (t.jet j).wait = (if w then .conv d.toNat n 0 (some u.nextId) none else .none))

/-- GETR of a channel (R175, R128), which reads the word from before a write of its own cycle (R27), and GETR.N; STRM at issue,
and at its decision, where no lower-numbered jet has one to decide and the watchdog does not stop the jet first (R145, R176,
R204). -/
def Obligations.ResultsAndStreams : Prop :=
  ∀ (s : State) (dt j : Nat) (d a b : Reg) (ch len1 : BitVec 6) (rsel v : Bool) (m : BitVec 4),
    let e := s.elapse dt
    let u := e.issueAt j
    let c := if rsel then (u.greg j a).toNat else ch.toNat
    let w := u.latestRead c
    let n := if rsel then (u.greg j b).toNat else len1.toNat + 1
    let p := (u.greg j a).toNat
    (e.issues j (.getr d a ch rsel v false) → c < 36 →
      Completes (.getr dt j d a ch rsel v false) s (fun t =>
        (t.jet j).regs = ((u.jet j).write d (if v then BitVec.ofInt 32 (valueOf w) else w)).regs ∧ (t.jet j).pc = (u.jet j).pc + 1 ∧
          vget t.res.unread true c = (if u.nowCyc.words.contains c = true then vget u.res.unread true c else false) ∧
          t.res.latest = u.res.latest ∧ (∀ m, m ≠ j → t.jet m = u.jet m) ∧ OnlyIn [.cyc, .seq, .res] u t)) ∧
    (e.issues j (.getr d a ch rsel v true) → c < 36 → (24 ≤ c ∨ u.used (c + 1) = true) →
      exec (.getr dt j d a ch rsel v true) s = .next (u.inWait j (.getr d.toNat c v none) 3)) ∧
    (e.issues j (.strm d a b len1 rsel m) → 1 ≤ n → n ≤ 64 → p % 4 = 0 → p + 4 * n ≤ 4096 →
      exec (.strm dt j d a b len1 rsel m) s =
        .next (u.setJet j (fun q =>
          { q with wait := .strm d.toNat m.toNat p n u.clk u.tb [] false, busyTo := u.clk + (4 + n) * u.cycle }))) ∧
    (∀ rd st x l k t0, (e.jet j).wait = .strm rd st x l k t0 [] false → j < 8 → l ≤ 64 → e.coreOn = true → e.modeIn 3 10 = true →
      (∀ i < j, e.strmDue i = none) →
      let at_ := fun i => j * 1024 + x / 4 + i
      ((∀ i < l, e.eccOf .scratch (at_ i) = none) →
        let g := (e.until_ (k + l * e.cycle)).strmRead 64 j
        let o := g.offer st true j t0.toNat ((List.range l).map (fun i => e.scratchWord (at_ i)))
        OnlyIn [.seq] (e.until_ (k + l * e.cycle)) g ∧
          (g.wdBefore j (g.clk + 4 * g.cycle) = false →
            exec (.strmDecision dt j) s =
              .next (o.2.endWait j (BitVec.ofNat 4 rd) (if o.1 = 0 then 0 else 1) (o.2.clk + 4 * o.2.cycle)))) ∧
      (∀ i < l, (∀ y < i, e.eccOf .scratch (at_ y) = none) → e.eccOf .scratch (at_ i) = some true →
        exec (.strmDecision dt j) s = .next (((e.until_ (k + (i + 2) * e.cycle)).strmRead 64 j).faultJet j 11)))

/-- BAL, BALQ and CORR (R179, R180, R183): the requests of the cells named, with this jet as owner, and what rd receives. EXC
(R182, R250): rd receives the tag of the run that starts, or the code of the refusal. -/
def Obligations.CellInstructions : Prop :=
  (∀ (s : State) (dt j : Nat) (d a b : Reg) (bin : BitVec 3) (im : Bool),
     let e := s.elapse dt
     let u := e.issueAt j
     let x := (u.greg j a).toNat
     let y := (u.greg j b).toNat
     (e.issues j (.bal a b) → x < 2 ^ 24 →
       Completes (.bal dt j a b) s (fun t =>
         (∀ n, 1 ≤ n → n ≤ 24 → x.testBit (n - 1) = true →
           (t.bal n).req = (if y = 0 then .none else .level (min y 256)) ∧ (t.bal n).owner = (if y = 0 then none else some (.jet j))) ∧
         (∀ n, 1 ≤ n → n ≤ 24 → x.testBit (n - 1) = false → t.bal n = u.bal n) ∧
         (t.jet j).pc = (u.jet j).pc + 1 ∧ (t.jet j).regs = (u.jet j).regs ∧ OnlyIn [.seq, .slu] u t)) ∧
     (e.issues j (.balq d a b) → 1 ≤ x → x ≤ 24 →
       Completes (.balq dt j d a b) s (fun t =>
         (t.bal x).req = (if y = 0 then .none else .quota (y * mC)) ∧
         (t.bal x).owner = (if y = 0 then none else some (.jet j)) ∧
         (t.jet j).regs = ((u.jet j).write d (BitVec.ofNat 32 (u.bal x).req.remain)).regs ∧
         (∀ n, 1 ≤ n → n ≤ 24 → n ≠ x → t.bal n = u.bal n) ∧ OnlyIn [.seq, .slu] u t)) ∧
     (e.issues j (.corr d a bin im) → 1 ≤ x → x ≤ 24 →
       exec (.corr dt j d a bin im) s =
         .next (u.done j d (Sparse.get 0x80000000 u.spc.z (16 * (x - 1) + 2 * bin.toNat + (if im then 1 else 0))) u.clk 3))) ∧
  (∀ (s : State) (dt j : Nat) (d : Reg) (kind : BitVec 2),
     let e := s.elapse dt
     let u := e.issueAt j
     let v := u.specStart (.jet j) kind.toNat
     e.issues j (.exc d kind) →
       exec (.exc dt j d kind) s =
         .next ((v.setReg j d
           (BitVec.ofInt 32 (match v.spc.startRes with | 1 => (v.spc.tag : Int) | 2 => -1 | 3 => -2 | _ => -3))).retire j u.clk 3))

/-- What a fault of a jet records (R189, Table 6.9): the jet stops with the cause, the PC and the depth of its call stack, its
balancing requests are withdrawn, the other jets and every memory word stand. ILLEGAL_INSTRUCTION is such a fault with cause 1
and the word that was fetched. -/
def Obligations.JetFaults : Prop :=
  (∀ (s : State) (j cause : Nat) (w : Word), j < 8 → s.noFeed →
    let t := s.stopJet j cause w true
    (t.jet j).st = .stopped ∧ (t.jet j).cause = cause ∧ (t.jet j).exitPc = (s.jet j).nowPc s.clk ∧
      (t.jet j).depth = (if (s.jet j).inCost s.clk then (s.jet j).lastDep else (s.jet j).stack.length) ∧ (t.jet j).word = w ∧ (t.jet j).regs = (s.jet j).regs ∧
      (∀ m, m ≠ j → t.jet m = s.jet m) ∧
      (∀ n, 1 ≤ n → n ≤ 24 → (s.bal n).owner = some (.jet j) →
        (t.bal n).req = .none ∧ (t.bal n).duty = 0 ∧ (t.bal n).on = false) ∧
      OnlyIn [.seq, .slu, .chk] s t) ∧
  (∀ (s : State) (dt j : Nat),
    let e := s.elapse dt
    let u := e.issueAt j
    let w := e.fetchWord j
    e.canIssue j = true → (e.jet j).pc < 16384 → e.eccOf .prog (e.jet j).pc = none → Balrax.decode w = none →
      exec (.illegalInstruction dt j) s = .next ((u.stopJet j 1 w true).present1 143)) ∧
  (∀ (s : State) (dt j : Nat),
    let e := s.elapse dt
    let u := e.issueAt j
    let v := u.setJet j (fun q => { q with pc := 16383 })
    e.canIssue j = true → 16384 ≤ (e.jet j).pc →
      exec (.illegalInstruction dt j) s = .next ((v.stopJet j 2 0 true).present1 143))

/-- The resets of Table 2.4 with TEST low (R41, R42): the cause each records, what each keeps of the always-on registers, and
the LOCKOUT latch, which only power cycling clears. TEST sampled high (R442) leads to the factory test state, in which no start-up
step is done and no requester of the chain or the service port is served. -/
def Obligations.Resets : Prop :=
  (∀ (s : State) (dt : Nat) (test : Bool),
     let e := s.elapse dt
     Completes (.powerOnReset dt test) s (fun t => e.freshFrom t 1 1 ∧ t.pwr.factory = test ∧ t.aon = Aon.init) ∧
     Completes (.supplyReset dt 1 test) s (fun t =>
       e.freshFrom t 2 0 ∧ t.pwr.factory = false ∧ t.aon.supplySrc = 1 ∧ t.aon.lockout = false ∧ t.aon.chainAddr = e.aon.chainAddr ∧
         t.aon.appliedEpoch = e.aon.appliedEpoch ∧ t.aon.dipReset = (e.aon.dipOpen || e.aon.dipReset)) ∧
     (∀ src at_, 2 ≤ src → src ≤ 4 → e.pwr.railTrip = some (src, at_) →
       Completes (.supplyReset dt src test) s (fun t =>
         (e.until_ (at_ + railDelay src)).freshFrom t 2 1 ∧ t.pwr.factory = test ∧
           t.aon = { e.aon with resetCause := 2, supplySrc := src, dipOpen := false, fromStill := false })) ∧
     (8 ≤ e.pwr.retries → e.pwr.pllLock = false →
       Completes (.supplyReset dt 5 test) s (fun t =>
         e.freshFrom t 2 1 ∧ t.pwr.factory = test ∧ t.aon = { e.aon with resetCause := 2, supplySrc := 5, dipOpen := false, fromStill := false })) ∧
     (∀ rq, e.pwr.lockOwner.isSome = true → e.pwr.commit = none → (e.pwr.mode ≠ .lockout ∨ rq = .steward) →
       Completes (.commandReset dt rq test) s (fun t =>
         e.freshFrom t 3 1 ∧ t.pwr.factory = test ∧ t.aon = { e.aon with resetCause := 3, dipOpen := false, fromStill := false })) ∧
     (∀ cause, e.pwr.wakeDue = some cause → e.pwr.mode = .ship →
       Completes (.wakeReset dt cause test) s (fun t =>
         e.freshFrom t 4 1 ∧ t.pwr.factory = test ∧
           t.aon = { e.aon with resetCause := 4, wakeCause := cause, chainAddr := none, dipOpen := false, fromStill := false })) ∧
     (∀ cause, e.pwr.wakeDue = some cause → e.pwr.mode = .still →
       Completes (.wakeReset dt cause test) s (fun t =>
         e.freshFrom t 4 1 ∧ t.pwr.factory = test ∧
           t.aon = { e.aon with resetCause := 4, wakeCause := cause, dipOpen := false, fromStill := true }))) ∧
  (∀ (s : State) (dt : Nat),
     let e := s.elapse dt
     e.pwr.mode = .reset → e.pwr.factory = true → e.pwr.step ≤ 1 →
       (∀ a b, exec (.loaderStart dt a b) s = .next e) ∧ (∀ ok, exec (.imageCopyDone dt ok) s = .next e) ∧
         exec (.configLoad dt) s = .next e ∧ exec (.portEnable dt) s = .next e ∧ exec (.startModeEntry dt) s = .next e ∧
         (e.pwr.stuck = false → e.serves .chain = false ∧ e.serves .service = false))

/-- Start-up (Table 2.5, R43, R44, R63, R198, R466): each step from the one before it, the configuration copy that step 7
loads, what step 9 enters, and the autoload after it. -/
def Obligations.StartUp : Prop :=
  ∀ (s : State) (dt : Nat),
    let e := s.elapse dt
    (e.pwr.mode = .reset → e.pwr.step = 0 →
      ∀ test, exec (.vstkResetRising ⟨dt, test⟩) s = .next { e with pwr := { e.pwr with step := 1, factory := test, modeAt := e.clk } }) ∧
    (e.atStep 1 = true →
      let u := e.until_ (e.pwr.modeAt + e.startAfter 4)
      let v := { u with pwr := { u.pwr with pllLock := true, refOk := true, coreSrc := .pll } }
      let a := v.mramRead 0 0x4000
      let w := fun (t : State) (b : Bool) => { t with pwr := { t.pwr with step := 5 }, nvm := { t.nvm with ldrB := b } }
      (∀ b, a.1 = true → exec (.loaderStart dt true b) s = .next (w a.2 false)) ∧
        (∀ x, x = false ∨ a.1 = false →
          let b := a.2.mramRead 0x4000 0x4000
          (b.1 = true → exec (.loaderStart dt x true) s = .next (w b.2 true)) ∧
            (∀ y, y = false ∨ b.1 = false →
              exec (.loaderStart dt x y) s = .next { b.2 with pwr := { b.2.pwr with step := 4 } }))) ∧
    (e.atStep 5 = true →
      let r := e.loadImage
      (r.1 = true → exec (.imageCopyDone dt true) s = .next { r.2 with pwr := { r.2.pwr with step := 6 } }) ∧
      (∀ ok, ok = false ∨ r.1 = false →
        Completes (.imageCopyDone dt ok) s (fun t =>
          t.pwr = { r.2.pwr with step := 6, stuck := true } ∧ t.nvm = { r.2.nvm with noImg := true, act := 0 } ∧
            OnlyIn [.pwr, .nvm, .ecp, .net] r.2 t))) ∧
    (e.atStep 6 = true → e.stw = true →
      exec (.configLoad dt) s =
        (let u := e.configIn.startLedger
        .next (({ u with nvm := { u.nvm with fbDue := false } }).present u.startSources))) ∧
    ((∀ w, e.eccOf .mram w = none) → e.startLedger.nvm.ledgDue =
        e.nvm.ledgDue ++ [e.startEntry] ++
          (if e.aon.dipReset = true then [e.dipEntry (min 4294967295 (10 * e.aon.dipDuration)) true] else []) ∧
      e.startLedger.aon.dipReset = false ∧ OnlyIn [.nvm, .aon] e e.startLedger) ∧
    (let a := e.ovl.copyA
      let b := e.ovl.copyB_
      e.loadConfig =
        if e.cfgValid a = true ∧ (e.cfgValid b = true → b.gen ≤ a.gen) then
          ({ e with ovl := { e.ovl with copyB := false } }).loadCfg a
        else if e.cfgValid b = true then ({ e with ovl := { e.ovl with copyB := true } }).loadCfg b
        else { e with ovl := { e.ovl with cfgLost := true } }) ∧
    (e.atStep 7 = true →
      Completes (.portEnable dt) s (fun t =>
        t.pwr = { e.pwr with step := 8 } ∧
          t.ecp.relayAt = (if e.aon.resetCause = 4 ∧ e.aon.wakeCause = 2 then some (e.clk + 40000) else none) ∧
          OnlyIn [.pwr, .ecp, .net] e t)) ∧
    (e.atStep 8 = true → e.pwr.commit = none →
      Completes (.startModeEntry dt) s (fun t =>
        t.pwr.step = 9 ∧ t.pwr.heldReact = none ∧
          t.pwr.commit.map (·.target) = some
            (if e.pwr.heldReact = some .lockout ∨ e.aon.lockout = true then .lockout
            else if e.pwr.heldReact.isSome = true ∨ e.ovl.cfgLost = true then .safe else e.startMode) ∧
          OnlyIn [.pwr, .seq] e t)) ∧
    (e.pwr.autoDue = true → e.pwr.commit = none → e.modeIn 3 11 = true →
      exec (.autoload dt) s =
        (let u := { e with pwr := { e.pwr with autoDue := false } }
        .next (if e.bit 0xC60 31 = true then u.loadStart 0 else u)))

/-- The supplies (Table 2.2, R34, R36): the supply bits, the hold of MRAM writes, the dip record, and the sources presented:
SUPPLY_WARN 125, VREG_FAULT 127, STACK_OV 123. The clocks (R40): what a lost PLL lock, a failed reference oscillator and a
failed LPO bring about, and the returns. -/
def Obligations.SuppliesAndClocks : Prop :=
  (∀ (s : State) (dt : Nat),
     let e := s.elapse dt
     e.warnMv = 8000 + 500 * min 64 (e.fld 0x106 0 7) ∧
     (∀ mv, e.supplied = true → e.pwr.supplyOk.testBit 0 = true → mv < e.warnMv →
       exec (.supplyDipStart ⟨dt, mv⟩) s =
         .next (({ e.setSupply 0 false with
           pwr := { (e.setSupply 0 false).pwr with mramHold := true, dipRec := none }
           aon :=
             { e.aon with
               dipOpen := true, dipReset := false, dipStart := if e.aon.dipOpen then e.aon.dipStart else e.tb
               dipClk := if e.aon.dipOpen then e.aon.dipClk else e.clk }
           res := { e.res with dipSpans := ⟨e.clk, none⟩ :: e.res.dipSpans } }).present1 125)) ∧
     (∀ mv, e.supplied = true → e.pwr.supplyOk.testBit 0 = false → e.warnMv + 500 < mv →
       Completes (.supplyDipRecovery ⟨dt, mv⟩) s (fun t =>
         t.pwr.dipRec = some e.clk ∧ t.pwr.mramHold = e.pwr.mramHold ∧ t.res.dipSpans.all (fun p => p.to_.isSome) = true ∧
           OnlyIn [.pwr, .res] e t)) ∧
     (∀ vmin t0, e.pwr.dipRec = some t0 → e.aon.dipOpen = true →
       Completes (.supplyDipEnd dt vmin) s (fun t =>
         t.clk = max e.clk (t0 + 200000) ∧ t.pwr = { e.pwr with mramHold := false, dipRec := none } ∧ t.aon.dipOpen = false ∧
           t.aon.dipVmin = min 65535 vmin ∧
           (∃ x, t.nvm.ledgDue = e.nvm.ledgDue ++ [x] ∧ x.kind = 2 ∧ x.time = e.aon.dipStart) ∧
           OnlyIn [.time, .pwr, .aon, .nvm] e t)) ∧
     (∀ rail, 2 ≤ rail → rail ≤ 4 → e.supplied = true → ¬(e.pwr.mode = .watch ∧ e.pwr.supMask = true) → e.pwr.railTrip = none →
       exec (.railSupervisorTrip dt rail) s =
         .next (({ e.setSupply (railBit rail) false with
           pwr := { (e.setSupply (railBit rail) false).pwr with railTrip := some (rail, e.clk) } }).present1 125)) ∧
     (e.supplied = true → e.pwr.supplyOk.testBit 2 = true →
       exec (.vregFault dt) s =
         .next (({ e.setSupply 2 false with
           pwr := { (e.setSupply 2 false).pwr with vregLimit := true }
           res := { e.res with vrgSpans := ⟨e.clk, none⟩ :: e.res.vrgSpans } }).present1 127)) ∧
     (e.supplied = true → e.pwr.supplyOk.testBit 2 = false →
       Completes (.vregRecovery dt) s (fun t =>
         t.pwr.vregLimit = false ∧ t.res.vrgSpans.all (fun p => p.to_.isSome) = true ∧ OnlyIn [.pwr, .res] e t)) ∧
     (e.res.stackHi = false →
       exec (.stackOv dt) s = .next (({ e with res := { e.res with stackHi := true } }).present1 123)) ∧
     exec (.stackLimitReturn dt) s = .next { e with res := { e.res with stackHi := false } } ∧
     (exec (.vchnUndervoltage dt) s = .next ((e.setSupply 5 false).holdPorts true).portCheck ∧
       Completes (.vchnUndervoltage dt) s (fun t =>
         t.pwr.portsOff = true ∧ t.ecp.north.st = .off ∧ t.ecp.south.st = .off ∧ OnlyIn [.pwr, .ecp, .net] e t)) ∧
     Completes (.vchnRestored dt) s (fun t =>
       t.pwr.portsOff = false ∧ (t.portOn .north = true → e.ecp.north.st = .off → t.ecp.north.st = .training) ∧
         (t.portOn .south = true → e.ecp.south.st = .off → t.ecp.south.st = .training) ∧ OnlyIn [.pwr, .ecp, .net] e t)) ∧
  (∀ (s : State) (dt : Nat),
     let e := s.elapse dt
     (e.pwr.pllLock = true →
       exec (.pllUnlock dt) s = .next ((e.losePll (if e.pwr.refOk = true then .ref else .lpo)).present1 130)) ∧
     (∀ src, (e.losePll src).pwr.pllLock = false ∧ (e.losePll src).pwr.coreSrc = src ∧ (e.losePll src).ecp.north.st = .off ∧
       (e.losePll src).ecp.south.st = .off ∧ (∀ m < 64, (vget (e.losePll src).mod.mods default m).decim = none) ∧
       OnlyIn [.pwr, .mod, .ecp, .net, .seq] e.readsNow (e.losePll src)) ∧
     (∀ (old j : Nat), j < 8 → e.cycle ≠ old →
       let q := (e.reclockJets old).jet j
       q.wdFrom = e.clk ∧ q.wdCyc = (e.jet j).wdCyc + (e.clk - (e.jet j).wdFrom) / old ∧ q.pc = (e.jet j).pc ∧
         q.busyTo = e.clk + ((e.jet j).busyTo - e.clk + old - 1) / old * e.cycle ∧ OnlyIn [.seq] e (e.reclockJets old)) ∧
     (e.pwr.pllLock = false → e.pllMode = true → e.pwr.retries < 8 →
       exec (.pllRelockRetry dt true) s =
         (let u := (e.until_ (e.pwr.pllAt + (e.pwr.retries + 1) * 200000)).readsNow
         .next (({ u with
           pwr := { u.pwr with pllLock := true, coreSrc := .pll, relocks := inc 255 u.pwr.relocks, retries := 0 }
           res := { u.res with relock := 2 ^ 36 - 1 } }).reclockJets u.cycle).restartConvs.portCheck) ∧
       exec (.pllRelockRetry dt false) s =
         (let u := e.until_ (e.pwr.pllAt + (e.pwr.retries + 1) * 200000)
         .next { u with pwr := { u.pwr with retries := e.pwr.retries + 1 } })) ∧
     (e.supplied = true → e.pwr.refOk = true →
       exec (.clockMonitor dt) s =
         .next (let r := e.readsNow
           let u := ({ r with pwr := { r.pwr with refOk := false, coreSrc := .lpo } }).reclockJets r.cycle
           if e.pwr.pllLock = true then (u.losePll .lpo).present [130, 131] else u.present1 131)) ∧
     (e.supplied = true → e.pwr.refOk = false →
       exec (.referenceOscillatorRecovery dt) s =
         .next (let r := e.readsNow
           ({ r with
             pwr := { r.pwr with refOk := true, coreSrc := if r.pwr.pllLock = true then r.pwr.coreSrc else .ref } }).reclockJets r.cycle)) ∧
     (e.supplied = true → e.pwr.lpoOk = true →
       exec (.lpoFault dt) s =
         .next (({ e with
           pwr := { e.pwr with lpoOk := false }, flt := { e.flt with flow := false, flowRun := false } }).present1 129)) ∧
     (e.supplied = true → exec (.lpoRecovery dt) s = .next { e with pwr := { e.pwr with lpoOk := true } }))

/-- STILL and the wakes (R41, R47, R49, R298, R453): the scan of one cell after another, the wakes that become due, and the LPO
in SHIP. The bursts of WATCH (R48, R204, R444): the buck 200 µs before a burst, the supervisors 150 µs after it, the burst that
clocks the core and shifts the watchdog counts by the gated time, and its end. The pins in SHIP, STILL and WATCH, and FLOW in
LOCKOUT (R443, R444, R454, Table 18.2). -/
def Obligations.StillAndWatch : Prop :=
  (∀ (s : State) (dt : Nat),
     let e := s.elapse dt
     (∀ cell mv, e.pwr.mode = .still → cell = e.pwr.scanCell →
       let u := e.until_ (e.pwr.scanAt + 800000)
       let v := { u with pwr := { u.pwr with scanAt := u.clk, scanCell := if cell = 24 then 1 else cell + 1 } }
       exec (.stillScan dt cell mv) s =
         .next (if (mv < ((e.eff 0x10C).extractLsb' 16 16).toInt ∨ ((e.eff 0x10C).extractLsb' 0 16).toInt < mv) ∧
             e.used cell = true ∧ e.busbar cell = false ∧ e.bit 0x10B 2 = true then
           { v with pwr := { v.pwr with wakeDue := some 3 } }
         else v)) ∧
     (e.pwr.mode = .still → e.fld 0x10B 16 16 ≠ 0 →
       let u := e.until_ (e.pwr.modeAt + e.fld 0x10B 16 16 * 200000000)
       exec (.wakeTimerExpiry dt) s = .next { u with pwr := { u.pwr with wakeDue := some 4 } }) ∧
     (∀ len, (e.pwr.mode ≠ .ship → e.lpoTicks len = len) ∧
       (e.pwr.mode = .ship → e.lpoTicks len = if e.pwr.lpoRun = true then min len (e.clk - e.pwr.lpoAt) else 0) ∧
       (e.lpoTicks len < 9400 → exec (.wakePin ⟨dt, len⟩) s = .next e) ∧
       (10400 < e.lpoTicks len → e.bit 0x10B 0 = true → (e.pwr.mode = .still ∨ e.pwr.mode = .ship) →
         exec (.wakePin ⟨dt, len⟩) s = .next { e with pwr := { e.pwr with wakeDue := some 1 } })) ∧
     (∀ p, e.bit 0x10B 1 = true → e.pwr.portsOff = false →
       (e.pwr.mode = .still ∨ (e.pwr.mode = .ship ∧ e.pwr.lpoRun = true ∧ e.pwr.lpoAt + 38000 ≤ e.clk)) →
       exec (.wakeToneDetected dt p) s = .next { e with pwr := { e.pwr with wakeDue := some 2 } }) ∧
     (∀ len, 10400 < len → e.pwr.mode = .watch → e.pwr.commit = none → e.bit 0x10B 0 = true →
       Completes (.wakePin ⟨dt, len⟩) s (fun t =>
         t.aon.wakeCause = 1 ∧ t.pwr.commit.map (·.target) = some .measure ∧ OnlyIn [.aon, .pwr, .seq, .ecp] e t)) ∧
     (e.pwr.mode = .ship →
       exec (.lpoShipStart dt) s =
         .next { e with pwr := { e.pwr with lpoRun := true, lpoAt := e.clk }, flt := { e.flt with divAt := e.clk, divHigh := true } } ∧
       (e.pwr.wakeDue = none → exec (.lpoShipStop dt) s = .next { e with pwr := { e.pwr with lpoRun := false } }))) ∧
  (∀ (s : State) (dt : Nat),
     let e := s.elapse dt
     e.pwr.mode = .watch →
     (e.pwr.burst = false → e.pwr.buckBurst = false →
       let u := e.until_ (e.pwr.burstAt + e.watchTicks - 40000)
       exec (.buckBurstEnable dt) s = .next { u with pwr := { u.pwr with buckBurst := true, buckAt := u.clk } }) ∧
     (e.pwr.buckBurst = true → e.pwr.supMask = true →
       let u := e.until_ (e.pwr.buckAt + 30000)
       exec (.supervisorUnmask dt) s = .next { u with pwr := { u.pwr with supMask := false } }) ∧
     (e.pwr.burst = false →
       Completes (.watchBurstStart dt) s (fun t =>
         t.clk = max e.clk (e.pwr.burstAt + e.watchTicks) ∧ t.pwr.burst = true ∧ t.pwr.burstAt = t.clk ∧ t.pwr.supMask = false ∧
           (∀ j < 8, (t.jet j).wdFrom = (e.jet j).wdFrom + (t.clk - e.pwr.gateAt) ∧
             (t.jet j).busyTo = (e.jet j).busyTo + (t.clk - e.pwr.gateAt)) ∧
           t.flt.stwKey = e.flt.stwKey + (t.clk - e.pwr.gateAt))) ∧
     (e.pwr.burst = true → e.convs = [] → e.cfe.run = none →
       exec (.watchBurstEnd dt) s =
         .next (let r := e.readsNow
           State.notePower { r with pwr := { r.pwr with burst := false, buckBurst := false, supMask := true, gateAt := r.clk } }))) ∧
  (∀ u : State,
     (u.pwr.mode = .ship ∨ u.pwr.mode = .still →
       (∀ k, u.pin (.tap k) = .hiZ) ∧ (∀ n, u.pin (.balance n) = if (u.bal n).xfet = true then .hiZ else .switchOpen) ∧
         u.pin .sw = .hiZ ∧ u.pin .rails = .discharging ∧ u.pin .aux = .hiZ ∧ u.pin .rill = .off ∧ (∀ p, u.pin (.pair p) = .detector) ∧
         u.pin .hostIn = .ignored ∧ u.pin .hostOut = .hiZ ∧ u.pin .stx = .hiZ ∧ u.pin .srxSync = .ignored ∧ u.pin .flow = .low ∧
         u.pin .wake = .input) ∧
     (u.pwr.mode = .watch →
       (∀ k, u.pin (.tap k) = if u.sinkOn k = true then .sinking else .input) ∧
         (∀ n, u.pin (.balance n) = if (u.bal n).xfet = true then .gateOff else .switchOpen) ∧
         (u.pwr.buckBurst = true ∨ u.pwr.burst = true → u.pin .sw = .switching ∧ u.pin .rails = .regulated) ∧
         (u.pwr.buckBurst = false → u.pwr.burst = false → u.pin .sw = .off ∧ u.pin .rails = .retained) ∧
         u.pin .srxSync = (if u.pwr.burst = true then .input else .ignored) ∧ (∀ p, u.pin (.pair p) = .detector)) ∧
     (u.pwr.mode = .lockout → u.pin .flow = .low))

/-- A register write (R10 to R14, R57, R59, R60): refused with access-denied status and without effect, held while an overlay
commit is in progress, or accepted; what an accepted write stores, and that a register without an effect of its own changes
nothing more. -/
def Obligations.RegisterWrites : Prop :=
  ∀ (s : State) (dt : Nat) (rq : Requester) (a : Nat) (v : Word),
    let e := s.elapse dt
    let f := e.upTo rq a
    (e.serves rq = true → e.refuses rq a v = true → e.pwr.commit = none →
      exec (.registerWrite dt rq a v) s = .next ((e.disarm rq).answers .denied [])) ∧
    (∀ c, e.serves rq = true → e.pwr.commit = some c →
      exec (.registerWrite dt rq a v) s =
        .next ({ e with pwr := { e.pwr with commit := some (c.hold ⟨rq, a, v, !e.refuses rq a v, e.clk⟩) } }.answers
          (if e.refuses rq a v then .denied else .ok) [])) ∧
    (∀ (c : Commit) (w : HeldWrite), (∀ x ∈ c.waits, x.at_ = w.at_ → writeRank x.rq ≤ writeRank w.rq) →
      c.hold w = { c with waits := c.waits ++ [w] }) ∧
    (e.accepts rq a v → (0x860 ≤ a ∧ a ≤ 0x883) ∨ (0x1B00 ≤ a ∧ a ≤ 0x1B9F) →
      exec (.registerWrite dt rq a v) s = .next ((e.wrote rq a v).answers .ok [])) ∧
    (f.ovl.snap = [] → storesReg a = true →
      let m := BitVec.ofNat 32 ((regRow a).rw + (regRow a).rwl)
      (e.wrote rq a v).under a = (f.under a &&& ~~~m) ||| (v &&& m)) ∧
    (∀ b, b ≠ a → (e.wrote rq a v).under b = f.under b) ∧
    (e.wrote rq a v).pwr.lockLast = (if f.pwr.lockOwner = some rq ∧ protectedReg a = true then f.clk else f.pwr.lockLast) ∧
    OnlyIn [.cyc, .pwr, .regs, .rwo] f (e.wrote rq a v) ∧
    (0x860 ≤ a ∧ a ≤ 0x883 → ((e.wrote rq a v).readReg rq false a).1 = (e.readReg rq false a).1) ∧
    (e.serves rq = true → e.refuses rq a v = false → e.pwr.commit = none → e.outranked rq a 0 = true →
      (0x860 ≤ a ∧ a ≤ 0x883) → Completes (.registerWrite dt rq a v) s (fun t => (∀ b, t.under b = e.under b) ∧ t.answer.st = .ok)) ∧
    (∀ (u : State) armed, u.effect rq armed a v = u.effect rq armed a (v &&& ~~~(u.wcFresh a)))

/-- The configuration lock (R56, R57) and the stored configuration (R58, R61, R63, R64, R467). -/
def Obligations.LockAndConfiguration : Prop :=
  ∀ (s : State) (dt : Nat) (rq : Requester),
    let e := s.elapse dt
    (e.accepts rq 0x10A 0x1F2E → isJet rq = false → (e.pwr.lockOwner = none ∨ e.pwr.lockOwner = some rq) →
      Completes (.lockOpen dt rq) s (fun t =>
        t.pwr.lockOwner = some rq ∧ t.pwr.lockLast = e.clk + e.cycle ∧ t.clk = e.clk + e.cycle ∧ t.answer.st = .ok ∧
          OnlyIn [.time, .cyc, .pwr, .answer] e t)) ∧
    (e.accepts rq 0x10A 0 → isJet rq = false → e.pwr.lockOwner = some rq →
      Completes (.lockClose dt rq) s (fun t => t.pwr.lockOwner = none ∧ OnlyIn [.cyc, .pwr, .answer] e t)) ∧
    (e.pwr.lockOwner.isSome = true →
      let u := e.until_ (e.pwr.lockLast + 50000000)
      exec (.lockTimeout dt) s = .next { u with pwr := { u.pwr with lockOwner := none } }) ∧
    (e.accepts rq 0x200 (e.keep 0x200 ||| 256) → e.ovl.saveBusy = false →
      let u := e.wrote rq 0x200 (e.keep 0x200 ||| 256)
      exec (.configSave dt rq) s = .next ((u.cfgSave.settle e.ncells e.ringOn).answers .ok [])) ∧
    (e.ovl.saveBusy = false →
      e.cfgSave.ovl.saveBusy = true ∧
        e.cfgSave.ovl.saveImg =
          some ⟨true, e.nvm.img.schema, if e.ovl.cfgLost = true then 1 else e.cfgCopy.gen + 1, e.nvImage, e.ovl.entries⟩ ∧
        OnlyIn [.ovl] e e.cfgSave) ∧
    (∀ c ok, e.ovl.saveImg = some c → e.mramHeld = false → e.nvm.act ≠ 1 → e.noFeed →
      Completes (.configSaveDone dt ok) s (fun t =>
        t.ovl.saveBusy = false ∧ t.ovl.saveImg = none ∧ t.ovl.saveErr = !ok ∧
          (ok = true → t.cfgCopy =
            { c with ok := true, schema := e.nvm.img.schema, gen := if e.ovl.cfgLost = true then 1 else e.cfgCopy.gen + 1 }) ∧
          (ok = false → t.cfgCopy = e.cfgCopy) ∧ t.nvm = { e.nvm with pulse := pulseOf e.thm.band } ∧ OnlyIn [.ovl, .nvm, .ecc] e t)) ∧
    (∀ c ok, e.ovl.saveImg = some c → e.mramHeld = true ∨ e.nvm.act = 1 → exec (.configSaveDone dt ok) s = .next e) ∧
    (e.accepts rq 0x200 (e.keep 0x200 ||| 512) →
      let u := e.wrote rq 0x200 (e.keep 0x200 ||| 512)
      exec (.configDiscard dt rq) s = .next ((u.cfgDiscard.settle e.ncells e.ringOn).answers .ok [])) ∧
    (e.ovl.saveBusy = false →
      e.cfgDiscard.ovl.entries = e.cfgCopy.loadEntries.1 ∧
        (∀ a, let m := BitVec.ofNat 32 ((regRow a).nv - ((regRow a).nv &&& (regRow a).rwo))
          e.cfgDiscard.under a &&& m = e.cfgCopy.value a &&& m) ∧
        OnlyIn [.regs, .rwo, .ovl] e e.cfgDiscard) ∧
    (∀ v k, e.accepts rq 0x203 v → e.ovlSel = some k → Sparse.wf ⟨false, 0, 0, 0⟩ e.ovl.entries = true →
      Completes (.ovlEntryWrite dt rq v) s (fun t =>
        (Sparse.get ⟨false, 0, 0, 0⟩ t.ovl.entries k).valid = v.getLsbD 16 ∧
          (Sparse.get ⟨false, 0, 0, 0⟩ t.ovl.entries k).addr = v.toNat % 65536 ∧
          t.ovl.snap = e.ovl.snap ∧ OnlyIn [.cyc, .pwr, .ovl, .answer] e t)) ∧
    (∀ v k, e.serves rq = true → e.pwr.commit = none → e.ovlSel = some k → v.getLsbD 16 = true → ovlAddrBad (v.toNat % 65536) = true →
      exec (.ovlEntryWrite dt rq v) s = .next ((e.disarm rq).answers .denied []))

/-- Local mode requests (R51, R52, R54): refused for a change that is PREPARED, for a route that Table 2.7 does not have, and
for SAFE to MEASURE under a latched fault of class 2 or more; else accepted, and the overlay commit begins in the next core
cycle. The overlay commit (R14, R25, R55, R60): it completes 3 core cycles and one for each entry withdrawn and applied after
its first, the mode reaction that waited follows, and then the writes that waited, in the order in which they came. What
changes in its last cycle: the mode, the previous mode, the return mode, the overlay in effect, and the RWO values that were
pending. -/
def Obligations.LocalModeChanges : Prop :=
  (∀ (s : State) (dt : Nat) (rq : Requester) (target : Mode),
     let e := s.elapse dt
     let u := e.wrote rq 0x101 (put target.num 0 4)
     e.accepts rq 0x101 (put target.num 0 4) →
     (e.pwr.prepared.isSome = true →
       exec (.localModeRequest dt rq target.num) s = .next ((u.reqStatus 4).answers .ok [])) ∧
     (e.pwr.prepared = none → routeOk e.pwr.mode.num target.num = false →
       exec (.localModeRequest dt rq target.num) s = .next ((u.reqStatus 2).answers .ok [])) ∧
     (e.pwr.prepared = none → routeOk e.pwr.mode.num target.num = true → e.safeHeld target.num = true →
       exec (.localModeRequest dt rq target.num) s = .next ((u.reqStatus 3).answers .ok [])) ∧
     (e.pwr.prepared = none → routeOk e.pwr.mode.num target.num = true → e.safeHeld target.num = false → e.pwr.nextReact = none →
       Completes (.localModeRequest dt rq target.num) s (fun t =>
         t.pwr.reqStatus = 1 ∧ t.pwr.commit = some ⟨target, .request, e.snapOf target, e.clk + e.cycle, []⟩ ∧
           t.pwr.lockOwner = none ∧ t.pwr.mode = e.pwr.mode ∧ OnlyIn [.cyc, .pwr, .seq, .answer] e t))) ∧
  ((∀ (s : State) (dt : Nat) (c : Commit),
     let e := s.elapse dt
     e.pwr.commit = some c →
       let u := e.until_ (c.start + (3 + e.ovl.snap.length + c.snap.length) * e.cycle)
       exec (.overlayCommit dt) s = .next ((u.completeCommit c).replay c.waits).nextReaction) ∧
   (∀ (s : State) (c : Commit),
     let t := s.commitMode c
     t.pwr.mode = c.target ∧ t.pwr.prevMode = s.pwr.mode ∧ t.pwr.commit = none ∧ t.ovl.snap = c.snap ∧
       t.pwr.returnMode = (if 6 ≤ c.target.num ∧ c.target.num ≤ 9 ∧ c.target ≠ s.pwr.mode then s.pwr.mode else s.pwr.returnMode) ∧
       (∀ n, c.why = .chain n → t.aon.appliedEpoch = n ∧ t.pwr.localSet = false) ∧
       ((∀ n, c.why ≠ .chain n) → t.aon.appliedEpoch = s.aon.appliedEpoch ∧
         t.pwr.localSet = (s.pwr.localSet || decide (c.target ≠ s.pwr.mode))) ∧
       OnlyIn [.pwr, .aon, .ovl] s t) ∧
   (∀ (s : State) (a : Nat) (m v : Word), s.rwo = [(a, m, v)] →
     s.moveRwo.rwo = [] ∧ s.moveRwo.under a = (s.under a &&& ~~~m) ||| (v &&& m) ∧ ∀ b, b ≠ a → s.moveRwo.under b = s.under b) ∧
   (∀ (s : State) (w : HeldWrite), w.ok = true → s.ovl.snap = [] → 0x860 ≤ w.addr ∧ w.addr ≤ 0x883 →
     let m := BitVec.ofNat 32 ((regRow w.addr).rw + (regRow w.addr).rwl)
     (s.replay [w]).under w.addr = (s.under w.addr &&& ~~~m) ||| (w.val &&& m)) ∧
   (∀ (s : State) (w : HeldWrite), w.ok = false → s.replay [w] = s.disarm w.rq))

/-- The chain-wide mode change (R65, R66, R68): a PREPARE in a frame that this device takes is judged and answered; a COMMIT is
kept for its T; at T the prepared change begins where a COMMIT came at least 20 µs before, and is missed where none did. -/
def Obligations.ChainModeChanges : Prop :=
  ∀ (s : State) (dt : Nat),
    let e := s.elapse dt
    (∀ p h target epoch tc,
      let f := Header.frame h 10 (modePayload 1 target epoch tc)
      let u := e.heard p f h.tail
      e.hears p f h.tail → target < 256 → epoch < 65536 → u.prepDeaf = false → u.prepJudge epoch target tc = none →
        Completes (.modePrepare dt p h target epoch tc) s (fun t =>
          t.pwr.prepared = some ⟨epoch, target, tc⟩ ∧ t.pwr.prepState = 1 ∧ t.pwr.prepEpoch = epoch ∧ t.pwr.prepTarget = target ∧
            OnlyIn [.pwr, .ecp, .net] u t)) ∧
    (∀ p h target epoch tc,
      let f := Header.frame h 10 (modePayload 2 target epoch tc)
      let u := e.heard p f h.tail
      e.hears p f h.tail → target < 256 → epoch < 65536 → u.prepDeaf = false → u.staleEpoch epoch = false →
        u.lapsedAs epoch ≠ some false → u.tb < tc →
        Completes (.modeCommit dt p h target epoch tc) s (fun t =>
          t.pwr.commits = u.pwr.commits ++ [⟨epoch, target, tc, decide (u.tbn + 4000 ≤ tc.toNat)⟩] ∧
            OnlyIn [.pwr, .ecp, .net] u t)) ∧
    (∀ pr target early, e.pwr.commit = none → e.pwr.prepared = some pr → e.tb < pr.tc →
      e.pwr.commits = [⟨pr.epoch, target, pr.tc, early⟩] →
      let u := e.untilTb pr.tc
      let v := { u with pwr := { u.pwr with commits := [] } }
      u.reached pr.tc = true →
      exec (.chainCommitTime dt) s = .next (v.prepDue pr [⟨pr.epoch, target, pr.tc, early⟩]) ∧
      (∀ m, early = true → Mode.ofNum pr.target = some m → m ≠ .reset → m ≠ e.pwr.mode →
        (v.prepDue pr [⟨pr.epoch, target, pr.tc, early⟩]).pwr.commit = some ⟨m, .chain pr.epoch, u.snapOf m, u.clk, []⟩)) ∧
    (∀ pr, e.pwr.commit = none → e.pwr.prepared = some pr → e.tb < pr.tc → e.pwr.commits = [] →
      let u := e.untilTb pr.tc
      u.reached pr.tc = true → exec (.chainCommitTime dt) s = .next ((u.dropPrepared pr true).raiseMissed pr.epoch pr.target .noCommit))

/-- The cells used (R75, R77, R93, R96): an accepted write of NCELLS, and the number of cells that it selects. Where the number
falls, the latest result and the unread mark of every cell that becomes unused, and the open-tap bits beyond the highest used
tap, are cleared; where no calibration run is in progress the decimators of unused cells stop, and a spare that the repair map
has not assigned parks where it stands in for an unused cell, visits one or waits for one. -/
def Obligations.CellsUsed : Prop :=
  (∀ (s : State) (dt : Nat) (rq : Requester) (n : Nat),
    let e := s.elapse dt
    let v := put n 0 5
    e.accepts rq 0x400 v →
      exec (.ncellsWrite dt rq n) s = .next (((e.wrote rq 0x400 v).settle e.ncells e.ringOn).answers .ok []) ∧
      (e.ovl.snap = [] → (e.wrote rq 0x400 v).ncells = max 8 (min 24 (n % 32)))) ∧
  (∀ (u : State) (old c : Nat),
    (old ≤ u.ncells → u.cellsChanged old = u) ∧
    (u.ncells < old → u.convs = [] → c < 24 →
      let t := u.cellsChanged old
      vget t.res.latest 0 c = (if c < u.ncells then vget u.res.latest 0 c else 0) ∧
        vget t.res.unread false c = (if c < u.ncells then vget u.res.unread false c else false) ∧
        t.cfe.openTaps = u.cfe.openTaps % 2 ^ (u.ncells + 1) ∧ OnlyIn [.res, .cfe] u t) ∧
    (u.mod.run = none →
      let t := u.cellsOff
      let gone := fun m => m < 48 ∧ u.used (m / 2 + 1) = false
      (∀ m, gone m → (t.modul m).decim = none) ∧
      (∀ i m, i < 4 → gone m → (u.spare i).used = none →
        ((u.spare i).stand = some m ∨ (u.spare i).due = some (.take m) ∨ ∃ v, (u.spare i).visit = some v ∧ v.m = m) →
          (t.spare i).visit = none ∧ (t.spare i).stand = none ∧ (t.spare i).due = none ∧
            (vget t.cfe.xbar default i).source = 0)))

/-- The open-wire check (Table 3.2, R84, R85, R88): how a check begins, and each step of a phase with its wait in ticks of 5
ns. The criterion for an open tap (Table 3.3): tap 0 and the top tap by the fall of one cell, a tap between two cells by the
fall of the lower and the rise of the upper beyond the threshold. -/
def Obligations.OpenWire : Prop :=
  (∀ (s : State) (dt : Nat),
     let e := s.elapse dt
     (∀ rq, e.accepts rq 0x404 1 → e.cfe.run = none → e.owMode = true →
       Completes (.owStart dt rq) s (fun t =>
         t.cfe.run = some ⟨0, .due, e.clk, e.eff 0x403, [], [], false, none⟩ ∧ t.cfe.lastRun = some e.clk ∧
           OnlyIn [.cyc, .pwr, .cfe, .answer] e t)) ∧
     (∀ rq, e.accepts rq 0x404 1 → e.cfe.run = none → e.owMode = false →
       Completes (.owStart dt rq) s (fun t => t.cfe = { e.cfe with deferred := true } ∧ OnlyIn [.cyc, .pwr, .cfe, .answer] e t)) ∧
     (∀ t0, e.cfe.lastRun = some t0 → e.owPeriod ≠ 0 →
       exec (.owPeriodExpiry dt) s = .next (e.until_ (t0 + e.owPeriod * 20000000)).owDue) ∧
     (∀ r, e.cfe.run = some r →
       (r.step = .due →
         Completes (.owPhaseStart dt) s (fun t =>
           t.cfe.run = some { r with step := .hold, since := e.clk } ∧ (∀ n ∈ e.owCells r.phase, n ≤ 24 → (t.bal n).on = false) ∧
             (∀ n, n ∉ e.owCells r.phase → 1 ≤ n → t.bal n = e.bal n) ∧ OnlyIn [.cfe, .slu] e t)) ∧
       (r.step = .hold →
         Completes (.owBaselineStart dt) s (fun t =>
           t.clk = max e.clk (r.since + 10000) ∧ t.cfe.run = some { r with step := .baseline, base := [], chk := [] } ∧
             (∃ c : Conv, t.convs = e.convs ++ [c] ∧ c.why = .owBase ∧ c.stand = 0 ∧
               c.chans.map (fun x => x.ch) = (e.owCells r.phase).map (fun n => n - 1)) ∧
             OnlyIn [.time, .cfe, .convs, .nextId] e t)) ∧
       (r.step = .baseline → e.owBusy .owBase = false →
         Completes (.owSinksOn dt) s (fun t =>
           t.cfe.run = some { r with step := .settle, since := e.clk, sinks := some e.clk } ∧
             t.res.owSpans = (e.owCells r.phase).map (fun n => (n, ⟨e.clk, none⟩)) ++ e.res.owSpans ∧ OnlyIn [.cfe, .res] e t)) ∧
       (r.step = .settle →
         Completes (.owCheckStart dt) s (fun t =>
           t.clk = max e.clk (r.since + 50000 * (fld r.cfg 4 4 + 1)) ∧ t.cfe.run = some { r with step := .check } ∧
             (∃ c : Conv, t.convs = e.convs ++ [c] ∧ c.why = .owCheck ∧
               c.chans.map (fun x => x.ch) = (e.owCells r.phase).map (fun n => n - 1)) ∧
             OnlyIn [.time, .cfe, .convs, .nextId] e t)) ∧
       (r.step = .check → e.owBusy .owCheck = false →
         let opens := (e.owTaps r.phase).filter (r.tapOpen e.ncells)
         let u := e.sinksOff.setOw { r with step := .off, since := e.clk, sinks := none, any := r.any || !opens.isEmpty }
         let m := (e.owTaps r.phase).foldl (fun m k => maskSet m k (opens.contains k)) e.cfe.openTaps
         exec (.owEvaluate dt) s = .next (({ u with cfe := { u.cfe with openTaps := m } }).present (opens.map (48 + ·)))) ∧
       (r.step = .off →
         (r.phase < 2 →
           Completes (.owPhaseEnd dt) s (fun t =>
             t.clk = max e.clk (r.since + 20000) ∧ t.cfe.run = some { r with phase := r.phase + 1, step := .due, since := t.clk } ∧
               OnlyIn [.time, .cfe, .slu] e t)) ∧
         (2 ≤ r.phase →
           Completes (.owPhaseEnd dt) s (fun t =>
             t.clk = max e.clk (r.since + 20000) ∧ t.cfe.run = none ∧ t.cfe.checks = (e.cfe.checks + 1) % 65536 ∧
               t.cfe.anyOpen = r.any ∧ OnlyIn [.time, .cfe, .slu] e t))))) ∧
  (∀ (r : OwRun) (n k : Nat),
     let t : Int := (max 50 (min 1000 (fld r.cfg 8 10)) : Nat) * 1000
     2 ≤ n →
     (r.tapOpen n 0 = true ↔ r.change 1 < -t) ∧
     (1 ≤ k → k < n → (r.tapOpen n k = true ↔ r.change k < -t ∧ t < r.change (k + 1))) ∧
     (r.tapOpen n n = true ↔ r.change n < -t ∧ ¬ t < r.change (n - 1)))

/-- The rotation of the modulators (Table 4.6, R91, R92, R110 to R119): a visit's steps from its start to the hand-back, the
judgements of calibration and match, the in-place calibration and the copy after each hour of rotation. A pause is checked
first. The crossbar breaks before it makes: a spare is at SOURCE 0 for 1 µs or more between two sources. -/
def Obligations.Rotation : Prop :=
  ∀ (s : State) (dt sp : Nat),
    let e := s.elapse dt
    let u := e.pauseCheck
    (∀ m wrap, sp < 4 → u.pauseCause = 0 → u.coreOn = true → (u.spare sp).used = none → (u.spare sp).stand = none →
      (u.spare sp).visit = none → (u.spare sp).due = none → (u.spare sp).bad = false → u.nextVisit = some (m, wrap) → u.rotSlices = false →
      Completes (.rotationVisitStart dt sp) s (fun t =>
        t.clk = max u.clk (u.visitDue sp) ∧ t.mod.next = m + 1 ∧
          t.mod.rounds = (if wrap then (u.mod.rounds + 1) % 65536 else u.mod.rounds) ∧
          t.spare sp = { u.spare sp with visit := some ⟨m, .calSpare, 0, t.clk⟩, startAt := some t.clk } ∧
          (vget t.cfe.xbar default sp).source = 25 ∧ (vget t.cfe.xbar default sp).sweep = pointTicks ∧
          OnlyIn [.time, .mod, .cfe] u t)) ∧
    (∀ v, (u.spare sp).visit = some v →
      (v.step = .calSpare → ∀ off gain,
        let w := (u.setLive (48 + sp) off gain).setSpare sp (fun p => { p with failed := false })
        (coefOk (48 + sp) off gain = true →
          exec (.spareCalDone dt sp off gain) s =
            .next (if u.used (v.m / 2 + 1) = true then
                (w.setVisit sp { v with step := .match1, tries := 0, since := u.clk }).setXbar sp .parallel false (v.m / 2 + 1)
              else w.parkSpare sp)) ∧
        (coefOk (48 + sp) off gain = false →
          exec (.spareCalDone dt sp off gain) s =
            .next (((u.setSpare sp (fun p => { p with bad := true, failed := true })).parkSpare sp).firstFail (48 + sp) 4))) ∧
      (v.step = .match1 ∨ v.step = .match2 → ∀ diff : Int,
        let w := u.until_ (v.since + u.matchTicks v.m)
        (-u.matchTol ≤ diff → diff ≤ u.matchTol →
          exec (.matchWindowEnd dt sp diff) s =
            .next (w.setVisit sp { v with step := if v.step = .match1 then .handDue else .backDue })) ∧
        (diff < -u.matchTol ∨ u.matchTol < diff →
          exec (.matchWindowEnd dt sp diff) s =
            .next (if v.tries < 2 then w.setVisit sp { v with tries := v.tries + 1, since := w.clk }
              else if v.step = .match1 then (w.parkSpare sp).rotFail (w.visited v.m) sp
              else (w.setSpare sp (fun p => { p with visit := none, stand := some v.m })).rotFail (w.visited v.m) sp))) ∧
      (v.step = .handDue → u.atBoundary v.m = true → u.used (v.m / 2 + 1) = true →
        u.res.owSpans.any (fun x => decide (x.1 = v.m / 2 + 1) && u.inSpan x.2) = false →
        exec (.handover dt sp) s = .next (((u.setVisit sp { v with step := .calMod, since := u.clk }).standSpare sp v.m).detach v.m)) ∧
      (v.step = .calMod → u.pauseCause = 0 → ∀ off gain,
        let m := u.visited v.m
        (coefOk m off gain = true →
          exec (.modulatorCalDone dt sp off gain) s =
            .next (if (u.setLive m off gain).rotSlices = true then
                ((u.setLive m off gain).setVisit sp { v with step := .sliceMod, tries := 0, since := u.clk }).startSlice m (.visit sp)
              else ((u.setLive m off gain).setVisit sp { v with step := .match2, tries := 0, since := u.clk }).rejoinCell v.m)) ∧
        (coefOk m off gain = false →
          exec (.modulatorCalDone dt sp off gain) s =
            .next ((u.setSpare sp (fun p => { p with visit := none, stand := some v.m })).rotFail m sp))) ∧
      (v.step = .backDue → u.atBoundary v.m = true → exec (.handBack dt sp) s = .next ((u.parkSpare sp).reseat v.m))) ∧
    (∀ m, u.visited m = (match u.assigned m with | some i => 48 + i | none => m)) ∧
    (∀ m off gain, 52 ≤ m → m < 64 → e.stw = true → e.coreOn = true → e.modHeld m = false → e.calOther ≠ some m →
      Completes (.xmodInPlaceCal dt m off gain) s (fun t =>
        t.clk = max (max e.clk ((e.modul m).busyAt + 6000000))
            (match (e.modul m).calAt with | some c => c + 2000000000 | none => 0) ∧
          t.modul m =
            { e.modul m with
              decim := none, calAt := some t.clk
              live := if coefOk m off gain = true then some ⟨off, gain, t.clk⟩ else (e.modul m).live } ∧
          (∀ k, k ≠ m → t.modul k = e.modul k) ∧ OnlyIn [.time, .mod] e t)) ∧
    (let h := e.rotClock
     e.stw = true → h.pauseCause = 0 → h.mramHeld = false → h.noFeed → Sparse.wf (0, 0x400000) h.calCopy.coefs = true →
      Completes (.coeffHourlyCopy dt) s (fun t =>
        t.clk = max h.clk (h.mod.rotFrom.getD h.clk + (720000000000 - h.mod.rotRun)) ∧ t.mod.hourAt = t.clk ∧
          t.mod.rotRun = 0 ∧ t.mod.rotFrom = some t.clk ∧
          (∀ m < 64, t.storedCoef m = match (h.modul m).live with | some l => (l.off, l.gain) | none => h.storedCoef m) ∧
          t.nvm.pulse = pulseOf h.thm.band ∧ OnlyIn [.time, .mod, .nvm, .ecc] h t)) ∧
    (∀ (m : Nat) (off : Int) (gain : Nat),
      let lim : Int := if m = 63 then 1280 else 128000
      coefOk m off gain = true ↔ (-lim ≤ off ∧ off ≤ lim) ∧ 4194304 * 995 ≤ gain * 1000 ∧ gain * 1000 ≤ 4194304 * 1005) ∧
    (∀ (x : Xbar) (clk a : Nat), a ≠ x.source → a ≠ 0 →
      (x.go clk a).source = a ∧ (if x.source = 0 then x.parkAt else clk) + 200 ≤ (x.go clk a).leftAt) ∧
    (∀ x, x = vget s.cfe.xbar default sp → x.source ≠ 0 →
      (s.clk < x.leftAt → (s.xbarNow sp).source = 0 ∧ (s.xbarNow sp).st = .parked) ∧
      (x.source ≤ 24 → x.leftAt + 1000 ≤ s.clk → s.xbarNow sp = x))

/-- The calibration run (R120 to R123): the start and its refusals, the trim of the reference, the points and the coefficients
that three of them give, and the copy that the run commits. -/
def Obligations.CalibrationRuns : Prop :=
  ∀ (s : State) (dt : Nat),
    let e := s.elapse dt
    (∀ rq v, e.accepts rq 0x609 (v ||| putb true 31) →
      exec (.calRunStart dt rq v) s = .next (((e.wrote rq 0x609 (v ||| putb true 31)).calStart rq).answers .ok [])) ∧
    (∀ rq,
      (e.pwr.mode ≠ .calibrate → e.calStart rq = { e with mod := { e.mod with startRes := 2 } }) ∧
      (e.pwr.mode = .calibrate → (e.oper 3).isSome = true → e.calStart rq = { e with mod := { e.mod with startRes := 3 } }) ∧
      (e.pwr.mode = .calibrate → e.oper 3 = none →
        (e.calScope = [] ∨ e.bit 0x609 8 = true ∧ (e.used (e.fld 0x609 16 5) = false ∨ e.busbar (e.fld 0x609 16 5) = true)) →
          e.calStart rq = { e with mod := { e.mod with startRes := 4 } })) ∧
    (∀ r, e.mod.run = some r →
      (∀ (cell : Nat) (mean : Int), r.trim = some cell → e.opIs 3 .running = true →
        let q : Rat := ((e.eff 0x60A).toInt : Rat) * 64 / mean
        exec (.calTrimDone dt mean) s =
          .next (if mean ≠ 0 ∧ 995 / 1000 ≤ q ∧ q ≤ 1005 / 1000 then
            (e.setCal { r with trim := none, scale := (freeRound 1 (q * 2 ^ 30)).toNat }).handsDue
          else e.calEnd .failed 4 2))) ∧
    (let h := e.handsDue
     ∀ r, h.mod.run = some r → r.trim = none → h.opIs 3 .running = true →
      (∀ m rest mean, r.todo = m :: rest → r.taken = true → h.calReady m = true →
        let k := if 52 ≤ m then h.stopDecim m else h
        (r.means.length < 2 →
          exec (.calPointDone dt mean) s =
            .next ((if 48 ≤ m ∧ m < 52 then k.setXbar (m - 48) .parked false (26 + r.point) else k).setCal
              { r with means := r.means ++ [mean], point := r.point + 1, cuts := 0 })) ∧
        (∀ z p, r.means = [z, p] →
          let (off, gain) := Config.calCoef r.scale z p mean
          let u := k.noteCal m (coefOk m off gain)
          exec (.calPointDone dt mean) s =
            .next (if coefOk m off gain = true then u.calNext { r with fresh := r.fresh ++ [(m, off, gain)] }
              else (({ u with mod := { u.mod with calFail := m } }).calNext { r with failed := true }).present1 145))) ∧
      (∀ ok, r.todo = [] → h.mramHeld = false →
        let read := h.mramRead (calArea h.mod.useB) 0x4000
        (read.1 = false → exec (.calRunCommit dt ok) s = .next (read.2.calEnd .failed 4 4)) ∧
        (read = (true, h) →
          let d := h.pageDone (calArea (!h.mod.useB)) 0x4000
          let new : CalCopy :=
            ⟨ok, d.calCopy.gen + 1, r.scale,
              r.fresh.foldl (fun t x => Sparse.set (0, 0x400000) t (d.thm.band * 64 + x.1) (x.2.1, x.2.2)) d.calCopy.coefs⟩
          let u := if d.mod.useB = true then { d with mod := { d.mod with copyA := new, useB := if ok = true then false else true } }
            else { d with mod := { d.mod with copyB := new, useB := ok } }
          exec (.calRunCommit dt ok) s =
            .next (if ok = true then (u.ledger (u.calibEntry (!d.mod.useB) new.gen)).calEnd .done 1 (b2n r.failed)
              else u.calEnd .failed 4 3))))

/-- From samples to words (R100, R102, R105, R109, R126, R128): the sample comes at the next output of the decimator that is
not discarded, a constant input comes out of the decimation chain as it went in (at OSR 128), the correction and clamping of a
sample, the average of a window, and the word that is written with its sequence number and overrun bit. -/
def Obligations.SamplesAndWords : Prop :=
  (∀ (s : State) (dt m : Nat) (xs : List Int) (ov : Bool),
    let e := (s.elapse dt).handsDue
    e.modsOn = true →
      exec (.decimatedSample dt m xs ov) s = .next (e.deliver m xs ov).handsDue ∧
      (∀ r dec, e.sliceOf m = none → e.calAway m = false → e.roleOf m = some r → r < 64 → (e.modul r).decim = some dec → e.convs = [] →
        let per := e.modP * 2 ^ dec.osrK
        let k := max (max 6 (dec.last + 1)) ((e.tbNext - dec.start.toNat + per - 1) / per)
        e.deliver m xs ov =
          (e.untilTb (BitVec.ofNat 64 (dec.start.toNat + k * per))).setModul r (fun q => { q with decim := some { dec with last := k } }))) ∧
  (∀ c : Int, rawSample 7 (.replicate (chainSpan 7) c) = c) ∧
  (∀ (clip : Int × Int) (o : Int) (g : Nat) (d : Int),
    let c := ((d - o) * g) / 4194304
    (clip.1 * 64 ≤ c → c ≤ clip.2 * 64 → correct clip o g d false = (c, false)) ∧
    (clip.1 ≤ clip.2 → clip.2 * 64 < c → correct clip o g d false = (clip.2 * 64, true)) ∧
    (clip.1 ≤ clip.2 → c < clip.1 * 64 → correct clip o g d false = (clip.1 * 64, true))) ∧
  (∀ (u : State) (lim : Int × Int) (c : ConvCh) (m : Nat) (d : Int) (ov : Bool), c.n ≠ 0 →
    let co := (if m < 48 ∧ m % 2 = 1 then c.coB else c.coA).getD (false, 0, 0x400000)
    let t := u.takeSample false lim c m d ov
    t.n = c.n + 1 ∧ t.acc = c.acc + (correct lim co.2.1 co.2.2 d ov).1 ∧ t.tSum = c.tSum + u.tbn ∧ t.tFrom = c.tFrom) ∧
  (∀ (acc : Int) (k : Nat), average acc k = (acc + 2 ^ (k + 5)) / 2 ^ (k + 6)) ∧
  (∀ (u : State) (ch : Nat) (v : Int) (fl a : Nat), ch < 24 →
    (u.effHeld (0x860 + ch)).extractLsb' 16 16 = 0x7FFF → (u.effHeld (0x860 + ch)).extractLsb' 0 16 = 0x8000 →
    -32768000 ≤ v → v ≤ 32767000 → u.bit 0x826 ch = false →
      let r := u.writeResult ch v fl a
      r.1 = resultWord v (u.suspect ch a) fl ((vget u.res.seq 0 ch + 1) % 16) ∧ vget r.2.res.latest 0 ch = r.1 ∧
        vget r.2.res.unread false ch = true ∧
        (r.2.res.ovr0.testBit ch = (u.res.ovr0.testBit ch || vget u.res.unread false ch)) ∧
        (∀ k, k ≠ ch → vget r.2.res.latest 0 k = vget u.res.latest 0 k) ∧ OnlyIn [.cyc, .res, .seq] u r.2)

/-- The result registers and some other registers whose reads do something (R27, R128, R130, R307, R312, R460): the word that a
read answers, which is the one from before the writes of the same core cycle, the unread mark that a read takes away, the
snapshot, the latch of NET_TBH, and the scratch window that steps on. -/
def Obligations.ResultRegisters : Prop :=
  ∀ (s : State) (dt : Nat) (rq : Requester),
    let e := s.elapse dt
    (e.accepts rq 0x828 1 →
      Completes (.snapshot dt rq) s (fun t =>
        (∀ ch < 36, vget t.res.snap 0 ch = e.latestRead ch ∧
          vget t.res.unread true ch = (e.nowCyc.words.contains ch && vget e.res.unread true ch)) ∧
          t.res.snaps = (e.res.snaps + 1) % 65536 ∧ t.res.latest = e.res.latest ∧ OnlyIn [.cyc, .pwr, .res, .answer] e t)) ∧
    (∀ ch < 36, e.serves rq = true →
      exec (.resultRead dt rq ch) s = .next ((e.takeRead ch).answers .ok [e.latestRead ch])) ∧
    (e.serves rq = true →
      Completes (.netTblRead dt rq) s (fun t =>
        t.answer = ⟨.ok, [(e.oldWord 0x1604 0).getD (e.tb.setWidth 32)], none⟩ ∧ (rq.bank < 11 → (t.bank rq).tbh = e.tb.extractLsb' 32 32) ∧
          OnlyIn [.banks, .answer] e t)) ∧
    (e.serves .chain = true → e.bridge = true →
      Completes (.netRingRead dt) s (fun t =>
        t.net = { e.net with attn := false } ∧ t.answer = ⟨.ok, [(e.oldWord 0x160A 0).getD (e.peek .chain 0x160A)], none⟩ ∧ OnlyIn [.net, .answer] e t)) ∧
    (∀ v, e.accepts rq 0xC4B v →
      let x := e.sel rq 0xC4A
      let i := fld x 16 3 * 1024 + fld x 0 10
      exec (.windowAutoincAccess dt rq 0xC4B (some v)) s =
        .next ((((e.wrote rq 0xC4B v).putScratch i v).advance rq 0xC4A 10 1023).answers .ok [])) ∧
    (e.serves rq = true →
      let x := e.sel rq 0xC4A
      let i := fld x 16 3 * 1024 + fld x 0 10
      e.eccOf .scratch i = none →
        exec (.windowAutoincAccess dt rq 0xC4B none) s =
          .next ((e.advance rq 0xC4A 10 1023).answers .ok [(e.oldWord 0xC4B (fld x 0 19)).getD (e.scratchWord i)]))

/-- The streams and their pages (R139, R144, R145, R147, R148, R150, R152): the writes that acknowledge pages, close pages,
configure and reset a stream, and the closing by age. What an acknowledgement frees, what a reset leaves, and how a page is
closed, where no check-value channel takes a feed; in LOCKOUT no page is freed or closed, and a page that the repair map has taken
out does not return to the pool. A record offered to a stream whose open page has room for it is written there whole; one offered
to a stream that is not accepted is dropped whole: where no acknowledgement of the stream stands in the same core cycle. -/
def Obligations.StreamsAndPages : Prop :=
  (∀ (s : State) (dt : Nat) (rq : Requester),
    let e := s.elapse dt
    (∀ m upto, let v := put m 16 4 ||| put upto 0 16
      e.accepts rq 0xA03 v →
        exec (.pageAck dt rq m upto) s = .next (((e.wrote rq 0xA03 v).ackPages (m % 16) (upto % 65536)).answers .ok [])) ∧
    (∀ mask, mask < 65536 → e.accepts rq 0xA04 (put mask 0 16) →
      exec (.pageCloseRequest dt rq mask) s =
        .next (((bitsOf 16 mask).foldl State.closePage (e.wrote rq 0xA04 (put mask 0 16))).answers .ok [])) ∧
    (∀ m v, m < 16 → e.accepts rq (0xA10 + m) v → v.getLsbD 29 = false →
      exec (.streamCfgWrite dt rq m v) s = .next (((e.wrote rq (0xA10 + m) v).examine m).answers .ok [])) ∧
    (∀ m, m < 16 → let v := e.keep (0xA10 + m) ||| putb true 29
      e.accepts rq (0xA10 + m) v →
        exec (.streamReset dt rq m) s = .next ((((e.wrote rq (0xA10 + m) v).resetStrm m).examine m).answers .ok [])) ∧
    (∀ m p, m < 16 → (e.strm m).openPage = some p → e.fld (0xA10 + m) 0 8 ≠ 0 → e.pwr.mode ≠ .lockout →
      exec (.pageAgeClose dt m) s = .next ((e.until_ (p.opened + e.fld (0xA10 + m) 0 8 * 2000000)).closePage m))) ∧
  (∀ (u : State) (m upto : Nat), m < 16 → u.noFeed → (∀ p ∈ (u.strm m).closed, p.bad = false) →
    let t := u.ackPages m upto
    (u.pwr.mode = .lockout → (t.strm m).pages = (u.strm m).pages ∧ t.bsn.free = u.bsn.free) ∧
    (u.pwr.mode ≠ .lockout →
      (t.strm m).pages = (u.strm m).pages.filter (fun p =>
          !((u.strm m).closed.any (fun q => decide ((upto + 65536 - q.seq) % 65536 ≤ 63) && decide (q.seq = p.seq)))) ∧
        (∀ p ∈ (u.strm m).closed, (upto + 65536 - p.seq) % 65536 ≤ 63 → u.pageOut p.phys = false → p.phys ∈ t.bsn.free)) ∧
    OnlyIn [.cyc, .bsn] u t) ∧
  (∀ (u : State) (m : Nat), m < 16 → u.noFeed → (∀ p ∈ (u.strm m).pages, p.bad = false) →
    let t := u.resetStrm m
    (t.strm m).pages = (if u.pwr.mode = .lockout then (u.strm m).pages else []) ∧ (t.strm m).dropped = 0 ∧
      (t.strm m).lostPages = 0 ∧ (t.strm m).gap = true ∧ OnlyIn [.bsn] u t) ∧
  (∀ (u : State) (m : Nat) (p : BPage), m < 16 → u.noFeed → (u.strm m).openPage = some p → Sparse.wf none u.bsn.sram = true →
    let t := u.closePage m
    (u.pwr.mode = .lockout → t = u) ∧
    (u.pwr.mode ≠ .lockout → (t.strm m).openPage = none ∧
      (p.recs = 0 → p.bad = false → (u.pageOut p.phys = false → p.phys ∈ t.bsn.free) ∧ OnlyIn [.bsn] u t) ∧
      (p.recs ≠ 0 →
        t.sramWord (p.phys * 256 + 2) = (putb true 31 ||| put p.fill 0 10) ∧
          t.sramWord (p.phys * 256 + 3) = BitVec.ofNat 32 (t.pageCheck p.phys p.fill) ∧
          (t.strm m).pages.length = (u.strm m).pages.length ∧ OnlyIn [.bsn, .ecc] u t))) ∧
  (∀ (u : State) (m id ts : Nat) (src : Bool) (ws : List Word) (p : BPage), m < 16 → u.noFeed →
    (∀ e ∈ u.nowCyc.acked, e.1 ≠ m) → (u.strm m).active = true →
    (u.strm m).openPage = some p → 4 * (3 + ws.length) + p.fill ≤ 1008 → Sparse.wf none u.bsn.sram = true →
    let r := u.offer m src id ts ws
    let rec_ := recordWords src id (u.strm m).nextRseq ts ws
    r.1 = 0 ∧ (r.2.strm m).nextRseq = ((u.strm m).nextRseq + 1) % 65536 ∧
      (∀ i, i < 3 + ws.length → r.2.sramWord (p.phys * 256 + 4 + p.fill / 4 + i) = rec_.getD i 0) ∧
      (∃ q, (r.2.strm m).openPage = some q ∧ q.phys = p.phys ∧ q.fill = p.fill + 4 * (3 + ws.length) ∧ q.recs = p.recs + 1) ∧
      r.2.bsn.free = u.bsn.free ∧ OnlyIn [.bsn, .ecc] u r.2) ∧
  (∀ (u : State) (m id ts : Nat) (src : Bool) (ws : List Word), m < 16 → u.noFeed →
    (∀ e ∈ u.nowCyc.acked, e.1 ≠ m) → (u.strm m).active = false →
    let r := u.offer m src id ts ws
    r.1 = 1 ∧ (r.2.strm m).dropped = inc 65535 (u.strm m).dropped ∧ (r.2.strm m).lastDrop = 1 ∧ (r.2.strm m).gap = true ∧
      (r.2.strm m).pages = (u.strm m).pages ∧ r.2.bsn.sram = u.bsn.sram ∧ OnlyIn [.bsn] u r.2)

/-- Flags and programs (R163, R186, R193, R194, R197): the writes that set and clear flags, a flag set for a jet that waits to
take it, a word written through the program window, and a load from the program store: ignored, failed, begun, timed out and
done. -/
def Obligations.FlagsAndPrograms : Prop :=
  (∀ (s : State) (dt : Nat) (rq : Requester) (v : Word),
    let e := s.elapse dt
    (∀ k < 2,
      (e.accepts rq (0xC42 + k) v →
        exec (.flagSetWrite dt rq k v) s = .next (((e.wrote rq (0xC42 + k) v).setFlags (v.toNat * 2 ^ (32 * k))).answers .ok [])) ∧
      (e.accepts rq (0xC44 + k) v →
        exec (.flagClearWrite dt rq k v) s = .next (((e.wrote rq (0xC44 + k) v).clearFlags (v.toNat * 2 ^ (32 * k))).answers .ok []))) ∧
    (e.accepts rq 0xC49 v →
      exec (.programWindowWrite dt rq v) s =
        .next ((((e.wrote rq 0xC49 v).putProg (fld (e.sel rq 0xC48) 0 14) v).advance rq 0xC48 14 16383).answers .ok [])) ∧
    (∀ m, let w := putb true 31 ||| put m 16 8
      let u := e.wrote rq 0xC61 w
      e.accepts rq 0xC61 w → exec (.programLoad dt rq m) s = .next ((u.loadStart (u.fld 0xC61 16 8)).answers .ok [])) ∧
    (∀ r, e.seq.load = some r →
      (r.stop < 256 → (bitsOf 8 r.stop).any (fun j => (e.jet j).busy) = true →
        exec (.loadStopTimeout dt) s = .next ((bitsOf 8 r.stop).foldl State.killJet (e.until_ (r.since + 2000000)))) ∧
      ((bitsOf 8 r.stop).all (fun j => (e.jet j).free && !e.dying j) = true → r.auto = [] → (r.words.map (·.1)).Nodup →
        Completes (.programLoadDone dt) s (fun t =>
          t.seq.load = none ∧ t.seq.loadSt = 1 ∧ t.seq.loadGen = r.gen ∧ (∀ x ∈ r.words, t.progWord x.1 = x.2) ∧
            (∀ i, (∀ x ∈ r.words, x.1 ≠ i) → t.progWord i = e.progWord i) ∧ t.seq.jets = e.seq.jets ∧ OnlyIn [.cyc, .seq, .ecc] e t)))) ∧
  (∀ (u : State) (k : Nat), k < 64 →
    (u.flagFresh k = true → u.setFlag k = u ∧ u.clearFlag k = u) ∧
    (u.flagFresh k = false →
      (u.clearFlag k).flagSet k = false ∧ (∀ i, i ≠ k → (u.clearFlag k).flagSet i = u.flagSet i) ∧
        ((∀ j < 8, waitsOn u k true j = false) → (u.setFlag k).flagSet k = true) ∧
        (∀ j < 8, waitsOn u k true j = true → (∀ i < j, waitsOn u k true i = false) →
          (u.setFlag k).flagSet k = false ∧ ((u.setFlag k).jet j).wait = (u.jet j).wait.found))) ∧
  (∀ (u : State) (m : Nat),
    (u.seq.load.isSome = true → u.loadStart m = { u with seq := { u.seq with loadSt := 2 } }) ∧
    (∀ c v, u.seq.load = none → u.checkContainer = (.inl c, v) → u.loadStart m = { v with seq := { v.seq with loadSt := c } }) ∧
    (∀ ws v, u.seq.load = none → u.checkContainer = (.inr ws, v) →
      u.loadStart m =
        (bitsOf 8 m).foldl State.stopReq { v with seq := { v.seq with load := some ⟨ws, v.autostart, v.cont 4 2, v.clk, m⟩ } }))

/-- The control of the jets (R159, R200 to R202, R204): START of a jet that is IDLE or STOPPED, and of one that is not or that a
KILL of the same core cycle stops; STOP, the stop at a safe point, KILL, which stops the jet one core cycle after the write, and
the watchdog, which counts core cycles. -/
def Obligations.JetControl : Prop :=
  (∀ (s : State) (dt : Nat) (rq : Requester) (j : Nat),
    let e := s.elapse dt
    j < 8 →
    (∀ a, let v := putb true 31 ||| put a 0 14
      let u := e.wrote rq (0xC68 + j) v
      e.accepts rq (0xC68 + j) v → exec (.jetStart dt rq j a) s = .next ((u.startJet j (u.fld (0xC68 + j) 0 14)).answers .ok [])) ∧
    (let v := e.keep (0xC68 + j) ||| putb true 30
     e.accepts rq (0xC68 + j) v → exec (.jetStop dt rq j) s = .next (((e.wrote rq (0xC68 + j) v).stopReq j).answers .ok [])) ∧
    (let v := e.keep (0xC68 + j) ||| putb true 29
     e.accepts rq (0xC68 + j) v → exec (.jetKill dt rq j) s = .next (((e.wrote rq (0xC68 + j) v).killJet j).answers .ok [])) ∧
    ((e.jet j).st = .stopping → (e.jet j).wait.safe = true →
      exec (.jetStopTake dt j) s = .next ((e.until_ (e.jet j).busyTo).stopJet j 13 0 false)) ∧
    ((e.jet j).st = .running → e.fld 0xC60 16 8 ≠ 0 → e.coreOn = true →
      let u := e.until_ ((e.jet j).wdFrom + (e.fld 0xC60 16 8 * 1024 - (e.jet j).wdCyc) * e.cycle)
      let pc := (u.jet j).nowPc u.clk
      exec (.jetWatchdogExpiry dt j) s = .next ((u.stopJet j 12 (if 16384 ≤ pc then 0 else u.progWord pc) true).present1 144))) ∧
  (∀ (u : State) (j a : Nat), j < 8 →
    ((u.jet j).free = true → u.dying j = false →
      (u.startJet j a).jet j =
          { u.jet j with
            st := .running, pc := a % 16384, regs := .replicate 16 0, stack := [], wait := .none, busyTo := u.clk + 2 * u.cycle
            lastPc := a % 16384, lastDep := 0, wdFrom := u.clk, wdCyc := 0, cause := 0, word := 0 } ∧
        (∀ m, m ≠ j → (u.startJet j a).jet m = u.jet m) ∧ OnlyIn [.seq] u (u.startJet j a)) ∧
    ((u.jet j).free = false ∨ u.dying j = true → u.startJet j a = ({ u with seq := { u.seq with startIgn := true } }).wcSet 0xC63 (putb true 24)) ∧
    ((u.jet j).free = true → u.stopReq j = u ∧ u.killJet j = u) ∧
    ((u.jet j).free = false →
      ((u.stopReq j).jet j).st = .stopping ∧ OnlyIn [.seq] u (u.stopReq j) ∧
        (u.noFeed → ((u.killJet j).jet j).st = .stopped ∧ ((u.killJet j).jet j).cause = 13 ∧
          ((u.killJet j).jet j).exitPc = (u.jet j).nowPc (u.clk + u.cycle) ∧ (u.killJet j).time = u.time)))

/-- Groups, triggers and the arbiter (R205, R207 to R209, R211, R212, R215): a group's definition, the five sources of
triggers, what a trigger does to an idle and to a busy group under each overlap policy, and a conversion that is granted. -/
def Obligations.GroupsAndTriggers : Prop :=
  (∀ (s : State) (dt : Nat),
    let e := s.elapse dt
    (∀ rq k g v, k < 3 → g < 16 → e.accepts rq (0xC00 + (16 * k + g)) v →
      exec (.groupCfgWrite dt rq k g v) s = .next (((e.wrote rq (0xC00 + (16 * k + g)) v).examineGrp g).answers .ok [])) ∧
    (∀ rq m, let w := put m 0 16
      e.accepts rq 0xC62 w →
        exec (.hostTrigger dt rq m) s =
          .next (((e.wrote rq 0xC62 w).nextCycle (fun u => u.triggerAll 1 1 false (fun g => w.getLsbD g))).answers .ok [])) ∧
    (e.coreOn = true →
      let u := e.untilMod 200000 0
      exec (.syncTickTrigger dt) s =
        .next (u.triggerAll 2 2 true (fun g => u.reachedMod (200000 * (u.fld (0xC20 + g) 16 16 + 1)) 0))) ∧
    (∀ up, e.coreOn = true → e.bit 0xC60 (if up then 8 else 9) = true → e.spc.run = none →
      exec (.syncPinEdge dt up) s =
        .next (({ e with seq := { e.seq with syncTs := e.tb.setWidth 32 - 3 } }).triggerAll 3 2 true (fun _ => true))) ∧
    (∀ i, i < 4 → e.coreOn = true → e.bit (0xC70 + i) 31 = true →
      let p := max 10 (e.fld (0xC70 + i) 0 24)
      let u := e.untilMod (200 * p) (200 * (e.fld (0xC74 + i) 0 24 % p))
      exec (.intervalTimerFire dt i) s = .next (u.triggerAll 4 2 true (fun g => decide (u.fld (0xC00 + g) 0 2 = i)))) ∧
    (let h := e.handsDue
     h.coreOn = true → h.calOther = none → exec (.arbiterGrant dt) s = .next h.arbitrate.serveSlices.handsDue)) ∧
  (∀ (u : State) (g : Nat), g < 16 → (u.grp g).defined = false →
    let t := u.examineGrp g
    let def_ := u.bit (0xC00 + g) 31
    let k := u.fld (0xC00 + g) 24 5
    ((t.grp g).defined = true ↔ def_ = true ∧ u.grpSet g ≠ 0 ∧ 7 ≤ k ∧ k ≤ 16 ∧ u.fld (0xC00 + g) 20 4 ≤ 8 ∧ u.grpTrig g ≤ 4 ∧
      u.fld (0xC00 + g) 12 2 ≤ 2) ∧
    (t.grp g).cfgErr = (def_ && !(t.grp g).defined) ∧ OnlyIn [.seq] u t) ∧
  (∀ (u : State) (g : Nat) (t : Trig), g < 16 →
    (u.pwr.mode = .lockout → u.trigger g t = (3, none, u)) ∧
    (u.pwr.mode ≠ .lockout → u.grpBusy g = false →
      (u.trigger g t).1 = 0 ∧ (u.trigger g t).2.1 = some u.nextId ∧
        (∃ c : Conv, (u.trigger g t).2.2.convs = u.convs ++ [c] ∧ c.id = u.nextId ∧ c.why = .group g ∧ c.stand = t.stand ∧ c.start = none ∧
          c.chans.map (fun x => x.ch) = u.grpChans g) ∧
        OnlyIn [.convs, .nextId, .seq] u (u.trigger g t).2.2) ∧
    (u.pwr.mode ≠ .lockout → u.grpBusy g = true →
      (u.fld (0xC00 + g) 12 2 = 0 ∨ (u.fld (0xC00 + g) 12 2 = 1 ∧ (u.grp g).held.isSome = true) →
        u.trigger g t = (3, none, (u.setGrp g (fun r => { r with last := 3, overruns := inc 65535 r.overruns })).present1 140)) ∧
      (u.fld (0xC00 + g) 12 2 = 1 → (u.grp g).held = none →
        u.trigger g t = (1, none, u.setGrp g (fun r => { r with held := some t, last := 1 }))) ∧
      (u.fld (0xC00 + g) 12 2 = 2 →
        (u.trigger g t).1 = 2 ∧ (u.trigger g t).2.1 = some u.nextId ∧
          (∀ c ∈ (u.trigger g t).2.2.convs, c.why = .group g → c.id = u.nextId)))) ∧
  (∀ (u : State) (c : Conv), u.convs = [c] → c.start = none → c.chans ≠ [] → u.canGrant c = true →
    u.arbitrate = u.grant c ∧
      (∃ c', (u.grant c).convs = [c'] ∧ c'.granted = true ∧ c'.id = c.id ∧ c'.chans = c.chans ∧ c'.osrK = u.convOsr c) ∧
      OnlyIn [.convs, .mod] u (u.grant c))

/-- The command queue (R50, R173, R219 to R221): what becomes of a command body that arrives, and each command when its turn
comes, with the status that answers it. -/
def Obligations.CommandQueue : Prop :=
  (∀ (s : State) (dt : Nat),
    let e := s.elapse dt
    (∀ p h body,
      let f := Header.frame h 3 body
      let u := e.heard p f h.tail
      e.hears p f h.tail → 8 ≤ body.length → body.length ≤ 24 → u.serves .chain = true →
        exec (.cmdFrame dt p h body) s = .next (u.cmdArrive .chain h.tag body)) ∧
    (∀ x, e.cmdTurn x →
      let u := e.cmdTaken
      (x.code = 1 → exec (.trigCmd dt) s =
        .next ((u.triggerAll 1 1 false (fun g => (beField x.args 0 2).testBit g)).cmdAnswer x.rq x.tag x.cmdId
          (if (List.range 16).any (fun g => (beField x.args 0 2).testBit g && decide (u.grpTrig g = 1)) = true then 0 else 5) x.late 0)) ∧
      (x.code = 2 → exec (.jstartCmd dt) s =
        .next ((u.startJet (beField x.args 0 1) (beField x.args 2 2)).cmdAnswer x.rq x.tag x.cmdId
          (if ((u.jet (beField x.args 0 1)).busy || u.dying (beField x.args 0 1)) = true then 5 else 0) x.late 0)) ∧
      (x.code = 3 → exec (.jstopCmd dt) s =
        .next (((bitsOf 8 (beField x.args 0 1)).foldl State.stopReq u).cmdAnswer x.rq x.tag x.cmdId
          (if (bitsOf 8 (beField x.args 0 1)).any (fun j => (u.jet j).busy && decide ((u.jet j).st ≠ .stopping)) = true then 0 else 5)
          x.late 0)) ∧
      (x.code = 4 → exec (.jkillCmd dt) s =
        .next (((bitsOf 8 (beField x.args 0 1)).foldl State.killJet u).cmdAnswer x.rq x.tag x.cmdId
          (if (bitsOf 8 (beField x.args 0 1)).any (fun j => (u.jet j).busy) = true then 0 else 5) x.late 0)) ∧
      (x.code = 5 → exec (.flagsCmd dt) s =
        .next (((u.clearFlags (beField x.args 8 8)).setFlags (beField x.args 0 8)).cmdAnswer x.rq x.tag x.cmdId 0 x.late 0)) ∧
      (x.code = 6 → exec (.opCmd dt) s =
        (let r := u.opCtl (beField x.args 0 1) (beField x.args 2 2)
        .next (r.2.cmdAnswer x.rq x.tag x.cmdId (if r.1 = 1 then 0 else 5) x.late r.1))) ∧
      (x.code = 7 → exec (.loadCmd dt) s =
        .next (if e.pwr.lockOwner = some x.rq then (u.loadStart (beField x.args 0 1)).cmdAnswer x.rq x.tag x.cmdId 0 x.late 0
          else u.cmdAnswer x.rq x.tag x.cmdId 4 x.late 0)))) ∧
  (∀ (u : State) (rq : Requester) (tag : Nat) (b : Bytes),
    let id := beField b 2 2
    let due := decide (beField b 1 1 % 2 = 1)
    let late := due && u.reached32 (BitVec.ofNat 32 (beField b 4 4))
    let ahead := (BitVec.ofNat 32 (beField b 4 4) - u.tb.setWidth 32).toNat
    let far := due = true ∧ late = false ∧ 2000000000 < ahead
    (u.pwr.mode = .lockout → u.cmdArrive rq tag b = u.cmdAnswer rq tag id 6 false 0) ∧
    (u.pwr.mode ≠ .lockout →
      (cmdOk b = false → u.cmdArrive rq tag b = u.cmdAnswer rq tag id 3 false 0) ∧
      (cmdOk b = true → far → u.cmdArrive rq tag b = u.cmdAnswer rq tag id 2 false 0) ∧
      (cmdOk b = true → ¬far → 64 ≤ u.seq.queue.length →
        u.cmdArrive rq tag b =
          ({ u with seq := { u.seq with fullRef := inc 65535 u.seq.fullRef } }).cmdAnswer rq tag id 1 false 0) ∧
      (cmdOk b = true → ¬far → u.seq.queue.length < 64 →
        u.cmdArrive rq tag b =
          { u with seq := { u.seq with
            queue := u.seq.queue ++
              [⟨beField b 0 1, if (due && !late) = true then some (u.tb + BitVec.ofNat 64 ahead) else none, late, id, b.drop 8, rq,
                tag⟩] } }))) ∧
  (∀ (due : CqEnt → Bool) (l : List CqEnt) (x : CqEnt), l.find? due = some x →
    ∃ a b, l = a ++ x :: b ∧ dropDue due l = a ++ b ∧ ∀ y ∈ a, due y = false)

/-- The control of long operations (R224, R226, R228): the three actions, what each answers in every state of the operation,
the safe point at which it is suspended, and the end of one that is cancelled. -/
def Obligations.LongOperations : Prop :=
  (∀ (s : State) (dt : Nat) (rq : Requester) (tag : Nat), tag < 65536 →
    let e := s.elapse dt
    let r := fun k => (e.wrote rq 0xC80 (put k 24 2 ||| put tag 0 16)).opCtl k tag
    let done := fun k => ((r k).2.setBank rq (fun b => { b with opRes := (r k).1 })).answers .ok []
    (e.accepts rq 0xC80 (put 1 24 2 ||| put tag 0 16) → exec (.opSuspend dt rq tag) s = .next (done 1)) ∧
    (e.accepts rq 0xC80 (put 2 24 2 ||| put tag 0 16) → exec (.opResume dt rq tag) s = .next (done 2)) ∧
    (e.accepts rq 0xC80 (put 3 24 2 ||| put tag 0 16) → exec (.opCancel dt rq tag) s = .next (done 3))) ∧
  (∀ (s : State) (dt kind : Nat) (o : Oper),
    let e := s.elapse dt
    e.oper kind = some o →
    (o.st = .running → o.pend = true →
      let w := e.setOp kind (fun o => { o with st := .suspended, pend := false })
      exec (.opSuspended dt kind) s = .next ((if kind = 2 then w.cutCamp 2 else w).onSuspend kind)) ∧
    (o.st = .cancelling → kind = 1 → exec (.opCancelled dt kind) s = .next (e.endSpec .cancelled o.cancelCause 0)) ∧
    (o.st = .cancelling → e.stw = true →
      (kind = 2 → exec (.opCancelled dt kind) s = .next ((e.cutCamp 3).campEnd .cancelled o.cancelCause)) ∧
      (kind = 3 → exec (.opCancelled dt kind) s = .next (e.calEnd .cancelled o.cancelCause 0)) ∧
      (kind = 4 → exec (.opCancelled dt kind) s = .next (e.endSess .cancelled o.cancelCause 0 true)) ∧
      (kind = 5 → exec (.opCancelled dt kind) s = .next (e.scrubEnd .cancelled o.cancelCause)) ∧
      (kind = 6 → exec (.opCancelled dt kind) s = .next ((e.rilSettle 6).searchEnd .cancelled o.cancelCause 0)))) ∧
  (∀ (u : State) (k tag : Nat),
    let x := u.seq.ops.toList.find? (fun o => decide (o.tag = tag) && decide (tag ≠ 0))
    (x = none → u.opCtl k tag = (3, u)) ∧
    (∀ o, x = some o →
      (o.live = false ∨ o.st = .cancelling → u.opCtl k tag = (4, u)) ∧
      (o.live = true → o.st ≠ .cancelling →
        (k = 1 → o.scReq = true → u.opCtl k tag = (2, u)) ∧
        (k = 1 → o.scReq = false →
          u.opCtl k tag = (1, u.setOp o.kind (fun q => { q with scReq := true, pend := decide (q.st = .running) }))) ∧
        (k = 2 → o.scReq = false → u.opCtl k tag = (2, u)) ∧
        (k = 2 → o.scReq = true →
          u.opCtl k tag = (1, (u.setOp o.kind (fun q => { q with scReq := false })).tryResume o.kind)) ∧
        (k = 3 → u.opCtl k tag = (1, u.setOp o.kind (fun q => { q with st := .cancelling, pend := false }))))))

/-- Tags of long operations (R223): the first tag from the next one on that no entry of the operation table holds, counting 1
to 65,535 round; the one after it is next. Every reset starts again at 1. -/
def Obligations.TagsInOrder : Prop :=
  (∀ (u : State) (kind : Nat) (rq : Requester), 1 ≤ u.seq.nextTag → u.seq.nextTag ≤ 65535 →
    let held := fun t => u.seq.ops.toList.any (fun o => decide (o.tag = t))
    let tag := fun k => (u.seq.nextTag - 1 + k) % 65535 + 1
    ∃ k ≤ 8, (u.startOp kind rq).1 = tag k ∧ held (tag k) = false ∧ (∀ i < k, held (tag i) = true) ∧
      (u.startOp kind rq).2.seq.nextTag = tag (k + 1)) ∧
  (∀ (s : State) (a : Aon) (step : Nat), (s.resetTo a step).seq.nextTag = 1) ∧ State.reset.seq.nextTag = 1

/-- Requests for balancing duty (R26, R179, R180, R234, R236, R238, R243): a level or a quota written for a cell, where none of
a higher rank stands in the same core cycle, the withdrawal by 0, which ends the cell's duty at once, and the refusal of an
SLU_XFET that breaks the order of return nodes. -/
def Obligations.BalanceRequests : Prop :=
  (∀ (s : State) (dt : Nat) (rq : Requester) (cell : Nat), 1 ≤ cell → cell ≤ 24 →
    let e := s.elapse dt
    (∀ level, let a := 0x1020 + (cell - 1)
      e.accepts rq a (put level 0 9) →
        exec (.balLevelWrite dt rq cell level) s =
          .next (((e.wrote rq a (put level 0 9)).writeLevel rq cell (put level 0 9)).answers .ok [])) ∧
    (∀ q, let a := 0x1040 + (cell - 1)
      e.accepts rq a q →
        exec (.balQuotaWrite dt rq cell q) s = .next (((e.wrote rq a q).reqQuota rq cell q.toNat).answers .ok []))) ∧
  (∀ (s : State) (dt : Nat) (rq : Requester) (v : Word),
    let e := s.elapse dt
    (e.accepts rq 0x1002 v → exec (.xfetWrite dt rq v) s = .next ((e.wrote rq 0x1002 v).answers .ok [])) ∧
    (e.serves rq = true → e.pwr.commit = none → xfetBad v = true → exec (.xfetWrite dt rq v) s = .next ((e.disarm rq).answers .denied []))) ∧
  (∀ (u : State) (rq : Requester) (n x : Nat), 1 ≤ n → n ≤ 24 → 1 ≤ x →
    ((u.setLevel rq n x).bal n).req = .level (min x 256) ∧ ((u.setLevel rq n x).bal n).owner = some rq ∧
      ((u.setQuota rq n x).bal n).req = .quota ((x * 2000000000 : Nat) : Rat) ∧ ((u.setQuota rq n x).bal n).owner = some rq ∧
      (∀ t, t = u.setLevel rq n 0 ∨ t = u.setQuota rq n 0 →
        (t.bal n).req = .none ∧ (t.bal n).owner = none ∧ (t.bal n).duty = 0 ∧ (t.bal n).on = false) ∧
      (∀ t, t = u.setLevel rq n x ∨ t = u.setQuota rq n x ∨ t = u.setLevel rq n 0 →
        OnlyIn [.slu] u t ∧ ∀ m, 1 ≤ m → m ≤ 24 → m ≠ n → t.bal m = u.bal m) ∧
      (u.ovl.snap = [] → ∀ v, u.writeLevel rq n v = u.reqLevel rq n (fld v 0 9)) ∧
      (u.reqTaken rq n = true → u.reqLevel rq n x = u ∧ u.reqQuota rq n x = u) ∧
      (u.reqTaken rq n = false →
        u.reqLevel rq n x = (u.noteReq rq n).setLevel rq n x ∧ u.reqQuota rq n x = (u.noteReq rq n).setQuota rq n x))

/-- The frames and slots of the sluice (R235, R237, R239, R240, R242, R243, R246): the frame start, in every mode; the next
boundary of a slot, or of the slots in which a spectrum run delivers its column powers, and both where they fall together; the
outputs that a slot drives, each with the edge of the slew and the band in effect, the gap's flag, and what a cell with a quota
is charged for the ticks that it was on in a slot. -/
def Obligations.SluiceFramesAndSlots : Prop :=
  (∀ (s : State) (dt : Nat),
    let e := s.elapse dt
    e.coreOn = true →
    (let len := atLeast1 (e.fld 0x1000 16 8)
     let u := cellNos.foldl State.frameMode (e.untilMod (len * 2000000) 0)
     let v := cellNos.foldl State.frameSums u.computeFrame
     exec (.sluiceFrameStart dt) s =
       .next { v with slu := { v.slu with frameLen := len, gapSent := false, next := 0, slot := 0 } }) ∧
    (∀ meas,
      let i := e.slu.next
      let per := e.slu.frameLen * 2000000
      let u := e.untilMod per (i * per / 256 % per)
      (e.spc.run = none → exec (.slotStart dt meas) s = .next (if i ≤ 256 then u.slotEdge i meas else e)) ∧
      (∀ r, e.spc.run = some r →
        let w := e.untilMod 78125 (r.tx % 78125)
        exec (.slotStart dt meas) s =
          .next (if r.exc = true ∧ (256 < i ∨ w.clk ≤ u.clk) then
              (if i ≤ 256 ∧ w.clk = u.clk then (w.columns meas).slotEdge i meas else w.columns meas)
            else if i ≤ 256 then u.slotEdge i meas else e)))) ∧
  (∀ (u : State) (i : Nat),
    let t := u.slotBegin i
    t.slu.next = i + 1 ∧ t.slu.slot = min i 255 ∧ t.slu.slotClk = u.clk ∧ OnlyIn [.slu] u t ∧
      (u.pwr.mode = .balance → u.slu.running = true → ∀ n, 1 ≤ n → n ≤ 24 →
        (t.bal n).on = (decide (i < 256) && u.inSlot n i && u.eligible n && !(u.owHeld n))) ∧
      (u.pwr.mode ≠ .balance → t.slu.cells = u.slu.cells)) ∧
  (∀ (u : State) (i n : Nat), 1 ≤ n → n ≤ 24 →
    let on := decide (i < 256) && u.inSlot n i && u.eligible n && !(u.owHeld n)
    let t := u.driveCell i n
    (t.bal n).on = on ∧ (∀ m, 1 ≤ m → m ≤ 24 → m ≠ n → t.bal m = u.bal m) ∧
      ((t.bal n).on ≠ (u.bal n).on → (t.bal n).since = u.clk ∧ (t.bal n).edge = u.edgeNow) ∧ OnlyIn [.slu] u t) ∧
  (∀ (u : State) (i : Nat),
    (i = u.slu.frameU → i < 256 → u.slu.gapSent = false →
      let t := { u with slu := { u.slu with gapSent := true } }
      u.gapEdge i = if u.sluGap.getLsbD 7 = true then t.setFlag (fld u.sluGap 0 6) else t) ∧
    ((i ≠ u.slu.frameU ∨ 256 ≤ i ∨ u.slu.gapSent = true) → u.gapEdge i = u)) ∧
  (∀ (u : State) (meas : List SlotMeas) (n : Nat) (r : Rat), 1 ≤ n → n ≤ 24 →
    let on := u.onTicks n
    let used := (if (u.bal n).xfet = true then u.extCur n else ((slotMeas meas n).cur : Rat)) * on
    let t := u.account meas n
    (on = 0 → t = u) ∧
    (0 < on → u.effReq n = .quota r → u.ovl.snap = [] →
      (used < r → (t.bal n).req = .quota (r - used) ∧ (t.bal n).owner = (u.bal n).owner) ∧
        (r ≤ used → (t.bal n).req = .none ∧ (t.bal n).duty = 0 ∧ t.slu.qdone.testBit (n - 1) = true)))

/-- The slots of a frame (R242): a cell that takes part and is not held by the open-wire check is on in the first d slots where
its number is odd, in the last d of the u usable slots where it is even, and in none where d is 0. -/
def Obligations.SlotsOfACell : Prop :=
  ∀ (u : State) (n i : Nat), 1 ≤ n → n ≤ 24 → i < 256 → u.eligible n = true → u.owHeld n = false →
    (u.bal n).duty ≤ u.slu.frameU →
    let c := (u.driveCell i n).bal n
    let d := (u.bal n).duty
    (n % 2 = 1 → (c.on = true ↔ i < d)) ∧ (n % 2 = 0 → (c.on = true ↔ u.slu.frameU - d ≤ i ∧ i < u.slu.frameU)) ∧
      (d = 0 → c.on = false)

/-- The budgets hold (R239, R240, R244): the duties of a frame never ask for more than the die budget or the board budget in
effect, whatever the requests and the measured powers at full duty are, as long as no power is negative. -/
def Obligations.BudgetsHold : Prop :=
  ∀ (u : State), (∀ n, 1 ≤ n → n ≤ 24 → 0 ≤ (u.bal n).pd ∧ 0 ≤ (u.bal n).pb) →
    let t := u.allocate
    (cellNos.map (fun n => ((t.bal n).duty : Rat) / 256 * (t.bal n).pd)).sum ≤ (u.slu.frameDie : Rat) * u.thrFactor ∧
      (cellNos.map (fun n => ((t.bal n).duty : Rat) / 256 * (t.bal n).pb)).sum ≤ (u.slu.frameBoard : Rat) * u.thrFactor

/-- Two neighbouring internal cells are never on in one slot (R240, R242), whatever their levels and the scaling are. -/
def Obligations.NeighboursApart : Prop :=
  ∀ (u : State) (n i : Nat), 1 ≤ n → n ≤ 23 → u.slu.frameU % 2 = 0 → (u.bal n).xfet = false → (u.bal (n + 1)).xfet = false →
    ¬(u.allocate.inSlot n i = true ∧ u.allocate.inSlot (n + 1) i = true)

/-- The checks of the balance paths of used cells (Table 8.3, R247, R248): the trip, the measured current of a closed and of an
open switch, none of them while a SWITCH slice tests the path, the gate of an external path, and what a fault does: the cell is
held off and its duty ends. -/
def Obligations.BalanceChecks : Prop :=
  (∀ (s : State) (dt n : Nat),
    let e := s.elapse dt
    (e.internalCell n = true → e.pathFree n = true → exec (.balOvercurrent dt n) s = .next (e.balFault n 1)) ∧
    (∀ cur, e.internalCell n = true → e.pathFree n = true → (e.bal n).on = true → (e.bal n).checked = false →
      let u := (e.until_ ((e.bal n).since + 10000)).setBal n (fun c => { c with checked := true, cur := cur })
      let iexp : Rat := (e.sluV n : Rat) / (2 * (e.rh : Rat) / 10 + 3 / 2) / 100
      let low := decide ((cur : Rat) < 3 / 4 * iexp - 50)
      let high := decide (5 / 4 * iexp + 50 < (cur : Rat))
      let v := u.setBal n (fun c =>
        { c with lowN := if low then c.lowN + 1 else 0, highN := if high then c.highN + 1 else 0 })
      (u.checkable n = false ∨ suspectOf (e.latest (n - 1)) = true → exec (.balCurrentCheck dt n cur) s = .next u) ∧
      (u.checkable n = true → suspectOf (e.latest (n - 1)) = false →
        exec (.balCurrentCheck dt n cur) s =
          .next (if 3 ≤ (v.bal n).lowN then v.balFault n 2 else if 3 ≤ (v.bal n).highN then v.balFault n 3 else v))) ∧
    (∀ cur, e.internalCell n = true → e.pathFree n = true → (e.bal n).on = false →
      let u := (e.until_ ((e.bal n).since + 10000)).setBal n (fun c => { c with cur := cur })
      exec (.balStuckOn dt n cur) s = .next (if 20 < cur then u.balFault n 4 else u)) ∧
    (∀ vgs vc : Int, e.used n = true → (e.bal n).xfet = true →
      let u := e.until_ ((e.bal n).since + 4000 + (e.bal n).edge.ticks)
      exec (.balGateCheck dt n vgs vc) s =
        .next (if (e.bal n).on = true then (if vgs * 5 < vc * 4 then u.balFault n 5 else u)
          else if vc < vgs * 5 then u.balFault n 6 else u))) ∧
  (∀ (u : State) (n k : Nat), 1 ≤ n → n ≤ 24 →
    (u.stopped = true ∨ (u.bal n).faulted = true → u.balFault n k = u) ∧
    (u.stopped = false → (u.bal n).faulted = false → u.balFault n k = ((u.balHold n k).present1 (72 + n)).allHeld) ∧
    (let t := u.balHold n k
     (t.bal n).hold = true ∧ (t.bal n).faulted = true ∧ (t.bal n).duty = 0 ∧ (t.bal n).on = false ∧ t.slu.flastCell = n ∧
       t.slu.flastCheck = k ∧ (∀ m, 1 ≤ m → m ≤ 24 → m ≠ n → t.bal m = u.bal m) ∧ OnlyIn [.cyc, .slu, .spc] u t))

/-- The start of a spectrum run (R250 to R252): the refusals in their order, the run in the operation table that an accepted
request makes, its copy of the configuration, and the start at TSTART or at an edge. -/
def Obligations.SpectrumStart : Prop :=
  (∀ (s : State) (dt : Nat) (rq : Requester) (v : Word),
    let e := s.elapse dt
    let w := v ||| putb true 31
    e.accepts rq 0x1200 w → isJet rq = false →
      exec (.spectrumStart dt rq v) s = .next (((e.wrote rq 0x1200 w).specStart rq (fld w 0 2)).answers .ok [])) ∧
  (∀ (s : State) (dt : Nat) (r : SpcRun),
    let e := s.elapse dt
    e.spc.run = some r → r.phase = .notStarted → e.opIs 1 .running = true →
    (r.fld 0x1202 20 2 = 1 →
      let u := if e.reached32 (vget r.cfg 0 4) = true then e else e.elapseTb (vget r.cfg 0 4 - e.tb.setWidth 32).toNat
      exec (.spectrumRunBegin dt) s = .next (u.startRun r u.tbn)) ∧
    (∀ t, r.fld 0x1202 20 2 = 2 → r.edge = some t → exec (.spectrumRunBegin dt) s = .next (e.startRun r t))) ∧
  (∀ (u : State) (rq : Requester) (kind : Nat),
    (u.pwr.mode ≠ .spectrum → u.specStart rq kind = { u with spc := { u.spc with startRes := 2, refuse := 0 } }) ∧
    (u.pwr.mode = .spectrum → u.spc.run.isSome = true →
      u.specStart rq kind = { u with spc := { u.spc with startRes := 3, refuse := 0 } }) ∧
    (u.pwr.mode = .spectrum → u.spc.run = none → u.spcRefuse kind ≠ 0 →
      u.specStart rq kind = { u with spc := { u.spc with startRes := 4, refuse := u.spcRefuse kind } }) ∧
    (u.pwr.mode = .spectrum → u.spc.run = none → u.spcRefuse kind = 0 → u.fld 0x1202 20 2 = 1 →
      let t := u.specStart rq kind
      t.spc.startRes = 1 ∧ t.spc.tag = (u.startOp 1 rq).1 ∧
        (∃ r, t.spc.run = some r ∧ r.kind = kind ∧ r.phase = .notStarted ∧ (∀ i < 80, vget r.cfg 0 i = u.eff (0x1200 + i))) ∧
        OnlyIn [.spc, .seq] u t) ∧
    (u.spcRefuse 3 = 10 ∧ (kind ≠ 3 → u.spcCells = [] → u.spcRefuse kind = 1)))

/-- The passes and windows of a running spectrum run (Table 9.2, R255, R256, R258, R268, R269): each event at its instant of
the run's timeline, and the timeline itself. -/
def Obligations.SpectrumPasses : Prop :=
  (∀ (s : State) (dt : Nat) (r : SpcRun),
    let e := s.elapse dt
    e.spc.run = some r → e.opIs 1 .running = true →
    (∀ sense, r.phase = .trim → (e.runCells r).all (fun c => (e.bal c).hold) = false →
      let l := sense.filter (fun m => (e.runCells r).contains m.cell)
      let f := (l.filter (fun m => trimFails m.sense)).foldl (fun k m => maskSet k (m.cell - 1) true) r.faults
      exec (.currentTrimDone dt sense) s =
        .next ((e.untilTb (BitVec.ofNat 64 r.tb)).startPass
          { r with trims := l.map (fun m => (m.cell, m.sense)), faults := f } r.tb)) ∧
    (∀ ua, trimFails ua = false ↔ 95239 ≤ ua ∧ ua ≤ 105263) ∧
    (r.phase = .settle → r.exc = false → r.kind ≠ 0 →
      exec (.passExcite dt) s = .next ((e.untilTb (BitVec.ofNat 64 r.tx)).setRun { r with exc := true })) ∧
    (r.phase = .settle → r.exc = false → r.kind = 0 →
      let q := { r with
        exc := true
        faults := ((e.passCells r r.pass).filter (fun n => (e.bal n).hold)).foldl (fun m n => maskSet m (n - 1) true) r.faults }
      exec (.passExcite dt) s =
        .next ((e.untilTb (BitVec.ofNat 64 r.tx)).driveSpec q (decide (0 < (q.period / 2).floor)))) ∧
    (r.kind = 0 → r.exc = true → (r.phase = .settle ∨ r.phase = .window) →
      let t := r.nextEdge r.closed e.tbn
      t < r.te → exec (.excitationEdge dt) s = .next ((e.untilTb (BitVec.ofNat 64 t)).driveSpec r (!r.closed))) ∧
    (r.phase = .settle → r.exc = true →
      exec (.windowOpen dt) s = .next ((e.untilTb (BitVec.ofNat 64 r.ts)).setRun { r with phase := .window })) ∧
    (r.phase = .window → ¬(r.kind = 2 ∧ r.fld 0x1208 30 1 = 1) →
      let u := e.untilTb (BitVec.ofNat 64 r.te)
      exec (.windowClose dt) s =
        .next ((if r.kind = 0 then u.openAll else u).setRun { r with phase := .tail, exc := false, closed := false })) ∧
    (r.phase = .window → r.kind = 2 → r.fld 0x1208 30 1 = 1 →
      Completes (.windowClose dt) s (fun t =>
        ∃ q, t.spc.run = some q ∧ q.phase = .window ∧ q.win = r.win + 1 ∧ q.ts = r.te ∧ q.pubs.length = r.pubs.length + 1 ∧
          OnlyIn [.time, .spc] e t)) ∧
    (r.phase = .tail →
      Completes (.passEnd dt) s (fun t =>
        ∃ q, t.spc.run = some q ∧ q.pubs.length = r.pubs.length + 1 ∧
          (∀ k p, r.kind ≠ 2 → e.nextPass r = some (k, p) → q.step = k ∧ q.pass = p) ∧
          (r.kind = 2 ∨ e.nextPass r = none → q.phase = .ending ∧ OnlyIn [.time, .spc] e t))) ∧
    (r.phase = .held → exec (.spectrumHeldTimeout dt) s = .next ((e.until_ (r.since + 2000000000)).endSpec .failed 4 2)) ∧
    (∀ lay f1, r.phase = .track → e.f1Found r lay = some f1 → e.clk ≤ r.since + 4000000000 →
      500 ≤ f1 ∧ f1 ≤ 5000000 ∧
        exec (.f1TrackDone dt lay) s = .next (({ e with spc := { e.spc with f1m := f1 } }).startPass { r with f1 := f1 } e.tbn)) ∧
    (r.phase = .track → exec (.f1TrackTimeout dt) s = .next ((e.until_ (r.since + 4000000000)).endSpec .failed 4 3))) ∧
  (∀ (r : SpcRun) (tb : Nat),
    let g := 5 * 2 ^ r.osrK
    let q := r.timeline tb
    q.tb = tb ∧ tb + 6 * g ≤ q.tx ∧ q.tx < tb + 7 * g ∧ q.tx % g = 0 ∧ q.tx ≤ q.ts ∧ q.ts ≤ q.te ∧ q.te ≤ q.tf)

/-- Publications (R262, R263, R266, R270, R272): the oldest publication that waits for no current, at t_f, or, without a
current, any one 10 ms after it; the words of an impedance and of a bin without a usable current; the flag, the count and the
end of the run. The chain's current (R264, R265, R289, R303): a pass's phasors leave in one frame of at most 20 or in two; a
PEER frame that this device takes enters the bridge's receive queue, and gives its phasors to a publication of kind 1 that waits
for them. -/
def Obligations.PublicationsAndCurrent : Prop :=
  ((∀ (s : State) (dt : Nat) (r : SpcRun) (p : PubDue) (cur : List CurSense),
     let e := s.elapse dt
     e.spc.run = some r → e.specLive = true →
     (r.pubs.find? (fun x => !x.wait) = some p →
       exec (.publish dt cur) s =
         .next ((e.untilTb (BitVec.ofNat 64 p.tf)).publish { r with pubs := p :: r.pubs.erase p } p cur)) ∧
     (∀ n q, r.pubs[n]? = some q → q.wait = true →
       exec (.currentTimeout dt n) s =
         .next ((e.untilTb (BitVec.ofNat 64 (q.tf + 2000000))).publish { r with pubs := q :: r.pubs.eraseIdx n }
           { q with wait := false, cur := [] } []))) ∧
   (∀ (u : State) (imin : Nat) (v i : Cplx),
     u.binWords imin v none = ((microV v.re, microV v.im, 2), u) ∧
     (belowImin imin i = true → u.binWords imin v (some i) = ((microV v.re, microV v.im, 3), u)) ∧
     (belowImin imin i = false → i.re * i.re + i.im * i.im ≠ 0 →
       let re := satZ (roundInt (1000000 * (v.re * i.re + v.im * i.im) / (i.re * i.re + i.im * i.im)))
       let im := satZ (roundInt (1000000 * (v.im * i.re - v.re * i.im) / (i.re * i.re + i.im * i.im)))
       u.binWords imin v (some i) = ((re.1, im.1, if re.2 = true ∨ im.2 = true then 5 else 1), u))) ∧
   (∀ z : Int,
     (-0x7FFFFFFF ≤ z → z ≤ 0x7FFFFFFF → satZ z = (BitVec.ofInt 32 z, false)) ∧ (0x7FFFFFFF < z → satZ z = (0x7FFFFFFF, true)) ∧
       (z < -0x7FFFFFFF → satZ z = (0x80000001, true)))) ∧
  ((∀ (s : State) (dt n : Nat) (d : SendDue),
     let e := s.elapse dt
     e.spc.sends[n]? = some d →
       let u := e.untilTb (BitVec.ofNat 64 d.tf)
       let x := u.samples 32 d.ts d.te
       let v := State.pruneSmp { u with spc := { u.spc with sends := e.spc.sends.eraseIdx n } }
       let l := d.freqs.map (fun (e : Option Nat) =>
         if x = [] then none else e.map (fun f => auxPhasor d.cur d.dly d.osrK (d.ts - d.tx) f x))
       exec (.currentPhasorSend dt n) s =
         .next (if d.freqs.length ≤ 20 then v.sendPeer (v.phasorFrame d 0 l)
           else (v.sendPeer (v.phasorFrame d 0 (l.take 20))).sendPeer (v.phasorFrame d 1 (l.drop 20)))) ∧
   (∀ (s : State) (dt : Nat) (p : PortId) (h : Header) (b : Bytes),
     let e := s.elapse dt
     let f := Header.frame h 13 b
     let u := e.heard p f h.tail
     let v := if u.bridge = true then u.rxPut ⟨0, 6, 0, some f⟩ else u
     e.hears p f h.tail →
       exec (.peerFrame dt p h b) s =
         .next (if beField b 0 1 = 1 ∧ 4 ≤ b.length then v.takePhasors h.addr (b.drop 4) else v)) ∧
   (∀ (u : State) (r : SpcRun) (p : PubDue) (b : Bytes), u.spc.run = some r → r.pubs = [p] → p.wait = true → r.chainCur = true →
     r.kind = 1 → beField b 0 2 = r.fld 0x1205 0 16 → beField b 2 1 = p.step → beField b 3 1 = p.pass → p.pass < 2 →
     beField b 4 4 = p.ts % 2 ^ 32 → u.tbn ≤ p.tf + 2000000 → p.parts = 0 →
       u.takePhasors (r.fld 0x1202 24 6) b =
         u.setRun { r with pubs := [{ p with cur := p.cur ++ phasorsOf (beField b 8 1) 0 (b.drop 12), parts := 1, wait := false }] }))

/-- Frames that this device takes (R155, R285, R286, R289, R311, R319, R362, R423): each type reaches its own operation; a REG
request that does not fit Table 10.5 is answered with FORMAT, a refused write with DENIED, a basin transfer with HIT or MISS;
an answer that comes under a held tag enters the receive queue, and releases the tag where the frame went to one node. -/
def Obligations.FramesTaken : Prop :=
  (∀ (s : State) (dt : Nat) (p : PortId) (h : Header) (b : Bytes),
    let e := s.elapse dt
    let f := fun typ => Header.frame h typ b
    let u := fun typ => e.heard p (f typ) h.tail
    (e.hears p (f 1) h.tail → exec (.regFrame dt p h b) s = .next ((u 1).takeReg h.tag b)) ∧
    (e.hears p (f 5) h.tail → exec (.bsnRdFrame dt p h b) s = .next ((u 5).takeBsn (some p) h.tag b)) ∧
    (e.hears p (f 14) h.tail →
      Completes (.svcFrame dt p h b) s (fun t =>
        (b.length < 4 → t = u 14) ∧
          (4 ≤ b.length → (u 14).packet ⟨false, beField b 1 1, beField b 2 2, h.tag, p⟩ (beField b 0 1) (b.drop 4) = .next t))) ∧
    (e.hears p (f 2) h.tail → exec (.regRspFrame dt p h b) s = .next ((u 2).tagAnswer (f 2))) ∧
    (e.hears p (f 4) h.tail → exec (.cmdRspFrame dt p h b) s = .next ((u 4).tagAnswer (f 4))) ∧
    (e.hears p (f 6) h.tail → exec (.bsnHitFrame dt p h b) s = .next ((u 6).tagAnswer (f 6))) ∧
    (e.hears p (f 7) h.tail → exec (.bsnMissFrame dt p h b) s = .next ((u 7).tagAnswer (f 7))) ∧
    (e.hears p (f 15) h.tail → exec (.svcRspFrame dt p h b) s = .next ((u 15).tagAnswer (f 15))) ∧
    (e.hears p (f 12) h.tail → exec (.modeAckFrame dt p h b) s = .next ((u 12).tagAnswer (f 12))) ∧
    (e.hears p (f 9) h.tail → exec (.notifyFrame dt p h b) s = .next ((u 9).rxPut ⟨0, 4, 0, some (f 9)⟩))) ∧
  (∀ (u : State) (tag : Nat) (b : Bytes), u.serves .chain = true →
    (beField b 2 1 = 0 ∨ 63 < beField b 2 1 ∨ 65536 < beField b 0 2 + beField b 2 1 ∨ 1 < beField b 3 1 ∨
        (beField b 3 1 = 0 ∧ b.length ≠ 4) ∨ (beField b 3 1 = 1 ∧ b.length ≠ 4 + 4 * beField b 2 1) →
      u.takeReg tag b = u.respond 2 1 tag [2, 0, 0, 0]) ∧
    (beField b 2 1 = 1 → beField b 3 1 = 0 → b.length = 4 →
      let r := u.readReg .chain false (beField b 0 2)
      u.takeReg tag b = r.2.respond 2 1 tag ([0, 1, 0, 0] ++ wordsBe [r.1])) ∧
    (beField b 2 1 = 1 → beField b 3 1 = 1 → b.length = 8 → u.pwr.commit = none → u.refuses .chain (beField b 0 2) (BitVec.ofNat 32 (beField b 4 4)) = true →
      u.takeReg tag b = (u.disarm .chain).respond 2 1 tag [1, 0, 0, 0]) ∧
    (∀ p, b.length = 8 → beField b 0 1 < 16 → beField b 1 1 = 0 → 1 ≤ beField b 5 1 → beField b 5 1 ≤ 64 → beField b 6 2 = 0 →
      256 < beField b 4 1 + beField b 5 1 → u.takeBsn p tag b = u.respond 7 2 tag []) ∧
    (∀ p, b.length ≠ 8 → u.takeBsn (some p) tag b = u.setPort p (fun q => { q with fmtErr := inc 255 q.fmtErr }))) ∧
  (∀ (u : State) (f : Frame),
    (u.net.tags.all (fun x => decide (x.tag ≠ f.tag)) = true →
      u.tagAnswer f = { u with net := { u.net with lateRsp := inc 255 u.net.lateRsp } }) ∧
    (∀ x, u.net.tags.find? (fun x => decide (x.tag = f.tag)) = some x → x.addr = f.addr → x.addr ≠ 63 →
      let t := u.tagAnswer f
      t.net.tags = u.net.tags.filter (fun y => decide (y.tag ≠ f.tag)) ∧
        t.net.rxq = (if u.net.rxq.length < 32 then u.net.rxq ++ [⟨x.handle, if x.handle = 0 then 5 else 1, 0, some f⟩] else u.net.rxq) ∧
        OnlyIn [.net] u t) ∧
    (∀ x, u.net.tags.find? (fun x => decide (x.tag = f.tag)) = some x → x.addr = 63 →
      let t := u.tagAnswer f
      (∀ y ∈ u.net.tags, (if y.tag = f.tag then { y with count := y.count + 1 } else y) ∈ t.net.tags) ∧
        t.net.rxq = (if u.net.rxq.length < 32 then u.net.rxq ++ [⟨x.handle, if x.handle = 0 then 5 else 1, 0, some f⟩] else u.net.rxq) ∧
        OnlyIn [.net] u t) ∧
    (∀ x, u.net.tags.find? (fun x => decide (x.tag = f.tag)) = some x → x.addr ≠ 63 → x.addr ≠ f.addr →
      u.tagAnswer f = { u with net := { u.net with lateRsp := inc 255 u.net.lateRsp } }))

/-- What a port receives and sends (Table 10.7, R20, R280, R283, R287 to R289, R291 to R295): transmissions and frames that
fail a check, which no type's operation takes, frames that this device passes on, LNK tokens and their answers, and the frame
that starts where the squelch is closed: one of the lowest class that waits, with the hop's counter and a check value of its
own, under a tag where it needs one. -/
def Obligations.PortTraffic : Prop :=
  (∀ (s : State) (dt : Nat) (p : PortId),
    let e := s.elapse dt
    (∀ syms head busy kind, (e.port p).st ≠ .off →
      let u := e.dropCopy p (if syms < 5 then { headFrame head with cls := 3 } else headFrame head) syms busy
      exec (.receiveCheckFailure dt p ⟨syms, head, busy, kind⟩) s =
        .next (match kind with
          | .code => ((u.heardEnd p none).setPort p (fun q => { q with crcErr := inc 255 q.crcErr })).present1 (chainSource p false)
          | .header i => (u.heardEnd p (goodInfo i)).setPort p (fun q => { q with fmtErr := inc 255 q.fmtErr })
          | .abt i => (u.heardEnd p (goodInfo i)).setPort p (fun q => { q with aborts := inc 255 q.aborts }))) ∧
    (∀ (f : Frame) (x : Tail), (e.port p).st = .up → ((e.route p f).take = false ∨ spelled f = false) →
      let u := e.dropCopy p f (lineTicks f / 80) x.busy
      (badInfo x.info = true → exec (.frameForward dt p f x) s = .next (u.crcFail p none)) ∧
      (badInfo x.info = false → x.check ≠ frameCheck f → exec (.frameForward dt p f x) s = .next (u.crcFail p (some x.info))) ∧
      (badInfo x.info = false → x.check = frameCheck f → (headerOk f = false ∨ (e.route p f).wrong = true) →
        exec (.frameForward dt p f x) s = .next (u.fmtFail p (some x.info))) ∧
      (badInfo x.info = false → x.check = frameCheck f → headerOk f = true → (e.route p f).wrong = false →
        exec (.frameForward dt p f x) s = .next (e.heard p f x))) ∧
    (∀ info : Byte, (e.port p).st ≠ .off →
      let u := e.takeLnk p info
      let token := (u.elapse 24).putLnk p false
      let asked := (e.port p).asked && decide (e.clk ≤ (e.port p).busyTo + 384)
      (badInfo info = true → exec (.lnkToken dt p info) s = .next (e.heardEnd p none)) ∧
      (badInfo info = false → asked = true → exec (.lnkToken dt p info) s = .next u) ∧
      (badInfo info = false → asked = false →
        ((u.port p).st ≠ .up ∨ u.nextOut p = none → exec (.lnkToken dt p info) s = .next token) ∧
        (∀ f x, (u.port p).st = .up → u.nextOut p = some (f, x) →
          ((u.port p).favoured f.cls = false ∨ (needsTag f x = true ∧ u.tagNext = none) →
            exec (.lnkToken dt p info) s = .next token) ∧
          ((u.port p).favoured f.cls = true → (needsTag f x = true → u.tagNext ≠ none) →
            exec (.lnkToken dt p info) s = exec (.transmitStart 0 ⟨p, false⟩) u)))) ∧
    (∀ f x, (e.port p).st = .up → e.nextOut p = some (f, x) →
      let u := e.until_ (e.startAt p f.cls)
      (∀ y ∈ e.waiting p, f.cls ≤ y.1.cls) ∧
      exec (.transmitStart dt ⟨p, true⟩) s = .next u ∧
      (needsTag f x = false →
        exec (.transmitStart dt ⟨p, false⟩) s =
          .next ((u.twins p f x).foldl (fun v o => v.send o f) ((u.dequeue p f x).putFrame p f))) ∧
      (needsTag f x = true → u.tagNext = none → exec (.transmitStart dt ⟨p, false⟩) s = .next u) ∧
      (∀ t, needsTag f x = true → u.tagNext = some t →
        let g := { f with tag := t }
        let done := u.clk + lineTicks f
        let v := (u.twins p f x).foldl (fun v o => v.send o g)
          (((u.dequeue p f x).tagAt t ((x.map (·.handle)).getD 0) f.addr done).putFrame p g)
        (x = none → exec (.transmitStart dt ⟨p, false⟩) s = .next (v.enumSent f t done)) ∧
        (∀ y, x = some y → f.addr ≠ 63 → exec (.transmitStart dt ⟨p, false⟩) s = .next v) ∧
        (∀ y, x = some y → f.addr = 63 → exec (.transmitStart dt ⟨p, false⟩) s = v.execLocal g t)))) ∧
  (∀ (u : State) (p : PortId) (f : Frame) (x : Tail) (take : State → Out),
    (badInfo x.info = true ∨ x.check ≠ frameCheck f ∨ headerOk f = false ∨ (u.route p f).wrong = true ∨ (u.port p).st ≠ .up) →
      ∃ t, u.arrive p f x take = .next t ∧ (t.port p).rxexp = (u.port p).rxexp) ∧
  (∀ (u : State) (p : PortId) (f : Frame),
    let t := u.putFrame p f
    (t.port p).txcnt = ((u.port p).txcnt + 1) % 16 ∧ (t.port p).busyTo = u.clk + lineTicks f ∧
      (∃ g, (t.port p).wire = some (.frame g (frameCheck g) (u.bestOut p)) ∧ g.cnt = (u.port p).txcnt ∧ g.typ = f.typ ∧ g.addr = f.addr ∧
        g.tag = f.tag ∧ (f.typ ≠ 8 → g.payload = f.payload)) ∧
      t.port p.other = u.port p.other ∧ OnlyIn [.ecp] u t) ∧
  (∀ (u : State) (p : PortId) (info : Byte),
    let t := u.takeLnk p info
    ((u.port p).st = .training → infoRdy info = true → 1 ≤ (u.port p).tokens → (t.port p).st = .up) ∧
    ((u.port p).st = .training → infoRdy info = false → (t.port p).st = .training ∧ (t.port p).tokens = 0) ∧
    ((u.port p).st = .up → infoRdy info = true → (t.port p).st = .up ∧ OnlyIn [.ecp] u t) ∧
    ((u.port p).st = .up → infoRdy info = false → (t.port p).st = .training ∧ (t.port p).retrains = inc 65535 (u.port p).retrains)) ∧
  (∀ (u : State) (p : PortId) (f : Frame),
    let t := u.send p f
    ((u.port p).st ≠ .up → t = u) ∧
    ((u.port p).st = .up → bufferFree (u.port p).buf f.cls = true → (t.port p).buf = (u.port p).buf ++ [f]) ∧
    ((u.port p).st = .up → bufferFree (u.port p).buf f.cls = false →
      (t.port p).buf = (u.port p).buf ∧ (t.port p).drops = inc 255 (u.port p).drops) ∧
    OnlyIn [.ecp] u t ∧ t.port p.other = u.port p.other)

/-- The timed actions of a port (R288, R295 to R300, R314, R321): tokens in training and in UP, each at the end's own phase of
an idle hop and not while the squelch is open, the loss of an UP port by time, the measurement of the hop delay, wake tones and
their end, notices, and the clearing of the counters. -/
def Obligations.PortTimers : Prop :=
  (∀ (s : State) (dt : Nat) (p : PortId),
    let e := s.elapse dt
    let q := e.port p
    (∀ sq, p = .north → q.st = .training → q.toneEnd = none →
      let u := e.until_ (e.idleFrom p (max q.trainAt (q.lnkAt + (if e.clk < q.trainAt + 2000000 then 4000 else 2000000))))
      exec (.trainingLnk dt ⟨p, sq⟩) s =
        .next (if sq = true then u else (u.putLnk p true).setPort p (fun q => { q with lnkAt := u.clk }))) ∧
    (∀ sq, p = .north → q.st = .up →
      let u := e.until_ (e.idleFrom p (q.lastAny + min (atLeast1 (e.fld 0x1401 16 8) * 2000) (e.linkTimeout / 4)))
      exec (.keepalive dt ⟨p, sq⟩) s = .next (if sq = true then u else u.putLnk p true)) ∧
    (q.st = .up →
      let u := (e.until_ (q.lastRx + e.linkTimeout)).setPort p (fun q => { q with timeouts := inc 255 q.timeouts })
      exec (.linkTimeout dt p) s = .next ((u.portTrain p).present1 136) ∧ ((u.portTrain p).port p).st = .training ∧
        ((u.portTrain p).port p).buf = q.buf) ∧
    (∀ rtt, q.st = .up →
      let u := e.until_ (e.idleFrom p (q.hopAt + 200000))
      exec (.hopDelayLnk dt ⟨p, true⟩ rtt) s = .next u ∧
      Completes (.hopDelayLnk dt ⟨p, false⟩ rtt) s (fun t =>
        t.clk = u.clk ∧ t.delays p = ((rtt - 6144 - Config.turnaround) / 2 :: e.delays p).take 16 ∧ t.delays p.other = e.delays p.other ∧
          (t.port p).wire = some (.lnk q.rdy (e.bestOut p)) ∧ (t.port p).hopAt = t.clk ∧ OnlyIn [.time, .ecp, .net] e t)) ∧
    (∀ up, q.notice = some up → e.bridge = false →
      let u := e.setPort p (fun q => { q with notice := none })
      exec (.linkDownSend dt p) s =
        .next (u.send u.bridgeWard
          ⟨12, 0, u.selfAddr, 1, 0,
            beBytes 1 (if up = true then 0x85 else 0x84) ++ beBytes 1 u.selfAddr ++ beBytes 1 (if p = .south then 1 else 0) ++ [0]⟩)) ∧
    (∀ t, q.toneEnd = some t →
      let u := (e.until_ t).setPort p (fun q => { q with toneEnd := none, wire := none })
      exec (.wakeToneEnd dt p) s = .next (if u.portOn p = true then u.portTrain p else u)) ∧
    (∀ t, e.ecp.relayAt = some t →
      let u := e.until_ t
      let v := { u with ecp := { u.ecp with relayAt := none } }
      let w := if v.ecp.north.st = .up then v else v.toneSend .north
      exec (.wakeToneRelay dt) s = .next (if w.ecp.south.st = .up then w else w.toneSend .south))) ∧
  (∀ (s : State) (dt : Nat) (rq : Requester) (n so : Bool),
    let e := s.elapse dt
    (let v := e.keep 0x1400 ||| putb n 8 ||| putb so 9
     e.accepts rq 0x1400 v →
       exec (.wakeToneSend dt rq n so) s =
         .next ((((e.wrote rq 0x1400 v).ecpWrite v).settle e.ncells e.ringOn).answers .ok [])) ∧
    (let v := e.keep 0x1400 ||| putb true 16
     e.accepts rq 0x1400 v →
       exec (.counterClear dt rq) s =
         .next ((((e.wrote rq 0x1400 v).ecpWrite v).settle e.ncells e.ringOn).answers .ok []))) ∧
  (∀ (u : State) (p : PortId) (v : Word),
    ((u.port p).st = .up → u.toneSend p = ({ u with ecp := { u.ecp with wakeIgn := true } }).wcSet 0x1408 (putb true 8)) ∧
    ((u.port p).st ≠ .up →
      ((u.toneSend p).port p).toneEnd = some (u.clk + clampTo 1 15 (u.fld 0x1401 8 4) * 200000) ∧
        ((u.toneSend p).port p).wire = some .tone ∧ OnlyIn [.ecp] u (u.toneSend p)) ∧
    (v.getLsbD 16 = true →
      let q := (u.ecpWrite v).port p
      q.crcErr = 0 ∧ q.cntErr = 0 ∧ q.lost = 0 ∧ q.fmtErr = 0 ∧ q.drops = 0 ∧ q.aborts = 0 ∧ q.timeouts = 0 ∧
        q.buf = (u.port p).buf ∧ q.st = (u.port p).st) ∧
    (v.getLsbD 8 = false → v.getLsbD 9 = false → v.getLsbD 16 = false → u.ecpWrite v = u) ∧
    (v.getLsbD 8 = true → v.getLsbD 9 = false → v.getLsbD 16 = false → u.ecpWrite v = u.toneSend .north) ∧
    (v.getLsbD 8 = false → v.getLsbD 9 = true → v.getLsbD 16 = false → u.ecpWrite v = u.toneSend .south))

/-- Network management (Tables 11.2, 11.3, R304 to R306, R321 to R323): addresses, discovery and the port roles on a node;
enumeration, the ring's recovery, split and healing on the bridge. -/
def Obligations.NetworkManagement : Prop :=
  (∀ (s : State) (dt : Nat) (p : PortId) (h : Header) (hops : Nat) (b : Bytes),
    let e := s.elapse dt
    let f := fun op => Header.frame h 11 (netPayload op hops)
    let u := fun op => e.heard p (f op) h.tail
    let g := Header.frame h 12 b
    let v := e.heard p g h.tail
    (e.hears p (f 1) h.tail →
      exec (.netClear dt p h hops) s = .next (({ u 1 with aon := { (u 1).aon with chainAddr := none } }).bindCheck)) ∧
    (e.hears p (f 2) h.tail → exec (.netAssign dt p h hops) s = .next ((u 2).takeAssign h.tag (hops % 256))) ∧
    (e.hears p (f 3) h.tail →
      exec (.netDiscover dt p h hops) s =
        .next ((u 3).netAnswer h.tag 0x82
          (beBytes 1 (hops % 256) ++ beBytes 1 ((u 3).syncCode * 64 + b2n (u 3).net.posErr * 32) ++ beBytes 12 (u 3).nvm.uid.toNat))) ∧
    (e.hears p (f 4) h.tail → exec (.netReverse dt p h hops) s = .next (((u 4).roles true).netAnswer h.tag 0x83 [0, 0])) ∧
    (e.hears p (f 5) h.tail → exec (.netNormal dt p h hops) s = .next ((u 5).roles false)) ∧
    (e.hears p g h.tail →
      exec (.netAssigned dt p h b) s = .next (v.takeAssigned g) ∧
      exec (.netPresent dt p h b) s = .next (v.takePresent g) ∧
      exec (.netReversed dt p h b) s = .next (v.takeReversed g) ∧
      exec (.netLinkDown dt p h b) s =
        .next (if v.ringOn = true then
          (v.rxPut ⟨0, 5, 0, some g⟩).recover (some ((List.range (v.net.enumCount - h.addr)).map (fun i => h.addr + 1 + i)))
          else v.rxPut ⟨0, 5, 0, some g⟩) ∧
      exec (.netHealed dt p h b) s =
        .next (if v.ringOn = true ∧ v.bit 0x1600 29 = true then (v.rxPut ⟨0, 5, 0, some g⟩).sendNormal else v.rxPut ⟨0, 5, 0, some g⟩))) ∧
  (∀ (s : State) (dt : Nat),
    let e := s.elapse dt
    (∀ r, e.net.enumRun = some r → r.step = .assign → (r.tag ≠ noTag ∨ r.lone = true) →
      exec (.enumAssignTimeout dt) s = .next ((e.until_ (r.since + 200000)).enumDiscover r)) ∧
    (e.ringOn = true → e.net.ringLost = false → e.net.ring ≠ .split → e.net.collect = none →
      let u := e.until_ (e.net.ringLast + max 8 (e.fld 0x1600 0 4) * 200000)
      let v := { u with net := { u.net with ringLost := true } }
      exec (.ringLossExpiry dt) s = .next ((v.setRing .open_).recover none)) ∧
    (∀ c, e.net.collect = some c → exec (.reverseCollectClose dt) s = .next (e.until_ (c.last + 200000)).closeCollect)) ∧
  (∀ (s : State) (dt : Nat) (rq : Requester) (clear : Bool),
    let e := s.elapse dt
    (let v := putb true 31 ||| putb clear 30
     e.accepts rq 0x1601 v → exec (.enumStart dt rq clear) s = .next (((e.wrote rq 0x1601 v).enumBegin clear).answers .ok [])) ∧
    (let v := putb true 29
     e.accepts rq 0x1601 v →
       exec (.heal dt rq) s =
         .next ((if e.bridge = true then (e.wrote rq 0x1601 v).sendNormal else e.wrote rq 0x1601 v).answers .ok []))) ∧
  (∀ (u : State) (tag hops : Nat),
    (u.aon.chainAddr = none → hops ≤ 61 →
      u.takeAssign tag hops =
        (({ u with aon := { u.aon with chainAddr := some (hops + 1) } }).netAnswer tag 0x81
          (beBytes 1 hops ++ [0] ++ beBytes 12 u.nvm.uid.toNat)).bindCheck) ∧
    ((u.aon.chainAddr ≠ none ∨ 61 < hops) → u.takeAssign tag hops = u) ∧
    (∀ north p, ((u.roles north).port p).bridgeward = (if p = .north then north else !north) ∧ OnlyIn [.ecp] u (u.roles north)) ∧
    (∀ clear, (u.bridge = false ∨ u.net.enumRun.isSome = true → u.enumBegin clear = u) ∧
      (u.bridge = true → u.net.enumRun = none → u.ecp.north.st ≠ .up →
        u.enumBegin clear = { u with net := { u.net with enumRes := 2 } }) ∧
      (u.bridge = true → u.net.enumRun = none → u.ecp.north.st = .up → bufferFree u.ecp.north.buf 1 = true →
        let t := u.enumBegin clear
        t.net = { u.net with enumRun := some ⟨if clear = true then .clear else .assign, 0, u.clk, noTag, false, 0, false⟩ } ∧
          t.ecp.north.buf = u.ecp.north.buf ++ [⟨11, 0, 63, 1, noTag, [if clear = true then 1 else 2, 0, 0, 0]⟩] ∧
          OnlyIn [.ecp, .net] u t))) ∧
  (∀ (u : State) (c : Collect), u.net.collect = some c →
    u.closeCollect.net.collect = none ∧ OnlyIn [.net] u u.closeCollect ∧
    (c.got = [] → u.closeCollect.net.ring = .open_ ∧ u.closeCollect.net.split = 0) ∧
    (c.got ≠ [] → u.closeCollect.net.ring = .split ∧ u.closeCollect.net.split ∈ c.got ∧ ∀ a ∈ c.got, u.closeCollect.net.split ≤ a)) ∧
  (∀ (u : State) (f : Frame), u.net.collect = none →
    u.takeReversed f = { u with net := { u.net with lateRsp := inc 255 u.net.lateRsp } })

/-- The host port, the tags and the receive queue (R302, R307 to R309, R311): each transaction sends HSTAT first; one with an
error has no effect; a frame of the host is queued, executed by the bridge, or refused; tags end by time. -/
def Obligations.HostPortTransactions : Prop :=
  (∀ (s : State) (dt : Nat),
    let e := s.elapse dt
    let b := e.hostBegin
    e.serves .chain = true →
    exec (.hostNop dt) s = .next b ∧
    (∀ handle typ addr payload full a n ws,
      exec (.txqPut dt handle typ addr payload.length payload .crc) s = .next b.hostCrc ∧
      exec (.rxqGet dt full .crc) s = .next b.hostCrc ∧ exec (.regRd dt a n .crc) s = .next b.hostCrc ∧
      exec (.regWr dt a ws .crc) s = .next b.hostCrc ∧
      exec (.txqPut dt handle typ addr payload.length payload .format) s = .next b.hostFormat ∧
      exec (.rxqGet dt full .format) s = .next b.hostFormat ∧ exec (.regRd dt a n .format) s = .next b.hostFormat ∧
      exec (.regWr dt a ws .format) s = .next b.hostFormat) ∧
    (∀ handle typ addr len payload, (b.bridge = false ∨ handle = 0 ∨ len ≠ payload.length ∨ 256 < len ∨ hostTyp typ payload = false) →
      exec (.txqPut dt handle typ addr len payload .none) s = .next b.hostFormat) ∧
    (∀ handle typ addr payload, b.bridge = true → handle ≠ 0 → payload.length ≤ 256 → hostTyp typ payload = true →
      let f : Frame := ⟨typ, 0, addr, (frameClass typ).getD 0, 0, if typ = 11 then netPayload 3 0 else payload⟩
      (16 ≤ b.net.txq.length →
        exec (.txqPut dt handle typ addr payload.length payload .none) s = .next { b with net := { b.net with hTxFull := true } }) ∧
      (b.net.txq.length < 16 → (addr ≠ 0 ∨ typ = 13) →
        exec (.txqPut dt handle typ addr payload.length payload .none) s =
          (let v := (b.hostPorts f).foldl (fun v p => v.setPort p (fun q => q.waits b.clk b.thm.parked f.cls)) b
           .next { v with net := { v.net with txq := v.net.txq ++ [⟨handle, f⟩] } })) ∧
      (b.net.txq.length < 16 → addr = 0 → typ ≠ 13 →
        exec (.txqPut dt handle typ addr payload.length payload .none) s = b.execLocal f (noTag + handle))) ∧
    (∀ x rest full, b.bridge = true → b.net.rxq = x :: rest →
      let u := b.hostSend (beBytes 2 x.bytes.length ++ x.bytes)
      exec (.rxqGet dt full .none) s = .next (if full = true then { u with net := { u.net with rxq := rest } } else u)) ∧
    (∀ full, b.bridge = true → b.net.rxq = [] → exec (.rxqGet dt full .none) s = .next (b.hostSend [0, 0])) ∧
    (∀ full, b.bridge = false → exec (.rxqGet dt full .none) s = .next b.hostFormat) ∧
    (∀ a n, 1 ≤ n → n ≤ 63 → a + n ≤ 65536 →
      let r := State.readRegs n b .chain true a
      exec (.regRd dt a n .none) s = .next (r.2.hostSend (wordsBe r.1))) ∧
    (∀ a v, a < 65536 → b.accepts .chain a v →
      exec (.regWr dt a [v] .none) s = .next (b.writeReg .chain a v).2) ∧
    (∀ a v, a < 65536 → b.pwr.commit = none → b.refuses .chain a v = true →
      let u := b.disarm .chain
      exec (.regWr dt a [v] .none) s = .next { u with net := { u.net with hErrDen := true } })) ∧
  (∀ (u : State),
    u.hostBegin.net.hstat = u.hstatNow ∧ u.hstatNow.getLsbD 0 = true ∧ u.hstatNow.getLsbD 1 = false ∧
      u.hstatNow.getLsbD 2 = u.net.hErrFmt ∧ u.hstatNow.getLsbD 3 = u.net.hErrDen ∧ u.hstatNow.getLsbD 4 = u.net.hErrCrc ∧
      u.hstatNow.getLsbD 5 = (u.bridge && u.net.attn) ∧ u.hstatNow.getLsbD 7 = (u.bridge && !u.net.rxq.isEmpty) ∧
      u.hostBegin.net.hErrCrc = false ∧ u.hostBegin.net.hErrDen = false ∧ u.hostBegin.net.hErrFmt = false ∧
      OnlyIn [.net] u u.hostBegin) ∧
  (∀ (s : State) (dt tag : Nat) (x : TagHold),
    let e := s.elapse dt
    e.hold tag = some x →
    (x.addr ≠ 63 →
      let u := e.until_ (x.since + atLeast1 (e.fld 0x1600 16 8) * 200000)
      Completes (.tagTimeout dt tag) s (fun t =>
        t.net.tags = u.net.tags.filter (fun y => decide (y.tag ≠ tag)) ∧
          t.net.rxq = (if u.net.rxq.length < 32 then u.net.rxq ++ [⟨x.handle, 2, 0, none⟩] else u.net.rxq) ∧
          t.net.timeouts = inc 255 u.net.timeouts ∧ OnlyIn [.net] u t)) ∧
    (x.addr = 63 → x.handle ≠ 0 →
      let u := e.until_ (x.since + atLeast1 (e.fld 0x1600 8 8) * 20000)
      exec (.broadcastWindowEnd dt tag) s = .next ((u.freeTag tag).rxPut ⟨x.handle, 3, x.count, none⟩)) ∧
    (∀ r, x.addr = 63 → x.handle = 0 → e.net.enumRun = some r → r.step = .discover → r.tag = tag →
      Completes (.broadcastWindowEnd dt tag) s (fun t =>
        t.net.enumRun = none ∧ t.net.enumCount = min 63 r.count ∧ t.net.ringSeen = r.ring ∧ t.net.enumRes = 1 ∧
          OnlyIn [.time, .net] e t))) ∧
  (∀ (s : State) (dt tag : Nat) (r : EnumRun),
    let e := s.elapse dt
    e.hold tag = none → e.net.enumRun = some r → r.step = .discover → r.lone = true →
      Completes (.broadcastWindowEnd dt tag) s (fun t =>
        t.clk = max e.clk (r.since + atLeast1 (e.fld 0x1600 8 8) * 20000) ∧ t.net.enumRun = none ∧ t.net.enumRes = 1 ∧
          OnlyIn [.time, .net] e t))

/-- The chain time (R312 to R315, R317): the bridge's SYNC, the node's discipline of its timebase through the states of Table
11.8, by a step or by a slew, the loss of sync, and the timebase between syncs, at the rate that it keeps. -/
def Obligations.ChainTime : Prop :=
  (∀ (s : State) (dt : Nat),
    let e := s.elapse dt
    (∀ p h tOrigin corr sseq hops,
      let f := Header.frame h 8 (beBytes 8 tOrigin.toNat ++ beBytes 4 corr ++ beBytes 2 sseq ++ beBytes 1 hops ++ [0])
      e.hears p f h.tail → corr < 2 ^ 32 → sseq < 65536 →
        exec (.syncFrame dt p h tOrigin corr sseq hops) s = .next ((e.heard p f h.tail).takeSync tOrigin corr sseq)) ∧
    (e.bridge = true → e.bit 0x1600 28 = true →
      let u := if e.tbn / 200000 ≤ e.net.tickAt then e.elapseTb ((e.net.tickAt + 1) * 200000 - e.tbn) else e
      let q := (u.net.sseq + 1) % 65536
      let v := { u with net := { u.net with tickAt := u.tbn / 200000, sseq := q, sseqSet := true } }
      let f : Frame := ⟨8, 0, 63, 0, 0, beBytes 8 0 ++ beBytes 4 0 ++ beBytes 2 q ++ [0, 0]⟩
      let w := v.send .north f
      exec (.syncSend dt) s = .next (if w.splitOn = true then w.send .south f else w)) ∧
    (e.bridge = false → (e.net.sync = .acquire ∨ e.net.sync = .locked) →
      let u := e.until_ (e.net.lastSync + max 2 (e.fld 0x1600 4 4) * 200000)
      exec (.syncLossExpiry dt) s =
        .next (({ u with net := { u.net with sync := .holdover, good := 0, losses := inc 255 u.net.losses } }).present1 137))) ∧
  (∀ (x : State) (tOrigin : Tick) (corr q : Nat),
    let t := x.takeSync tOrigin corr q
    let u := x.rilSettle 6
    let err : Int := 256 * ((u.tbn : Int) - 2000 - tOrigin.toNat) - corr
    (x.net.sseqSet = true → x.net.sseq = q → t = x) ∧
    ((x.net.sseqSet = false ∨ x.net.sseq ≠ q) →
      t.net.ofs = err ∧ t.net.sseq = q ∧ t.net.lastSync = u.clk ∧
      (u.net.sync = .free ∨ u.net.sync = .holdover → t.net.sync = .acquire) ∧
      (u.net.sync = .acquire → t.net.sync = (if err.natAbs ≤ 1024 ∧ 3 ≤ u.net.good then .locked else .acquire)) ∧
      (u.net.sync = .locked → t.net.sync = (if err.natAbs ≤ 51200 then .locked else .acquire)) ∧
      (u.net.sync = .free ∨ 512000 < err.natAbs →
        t.tb = BitVec.ofInt 64 ((256 * (u.tbn : Int) - err) / 256) ∧ t.net.stepped = true ∧ t.time.clk = u.clk ∧
          OnlyIn [.time, .cyc, .mod, .seq, .ecp, .net, .flt] u t) ∧
      (u.net.sync ≠ .free → err.natAbs ≤ 512000 →
        t.tb = u.tb ∧ OnlyIn [.time, .net] u t ∧
          (err.natAbs ≤ 51200 → t.time.slew = err ∧ t.time.slewEnd = u.clk + 200000)))) ∧
  (∀ (u : State) (n : Nat),
    (u.elapse n).clk = u.clk + n ∧ OnlyIn [.time] u (u.elapse n) ∧
      (u.time.slewEnd ≤ u.clk →
        (u.elapse n).tb = u.tb + BitVec.ofNat 64 ((u.time.frac + n * (32000000000 + 32 * u.time.rate).toNat) / 32000000000)))

/-- The check-value channels (R327 to R337): a claim, data, a feed, the end of a computation with its counter byte, result and
comparison, an abort, and the release of an idle channel. A channel is ACTIVE from the cycle after its START, so a further write
of the START's own cycle does nothing. -/
def Obligations.CheckValues : Prop :=
  (∀ (s : State) (dt : Nat) (rq : Requester) (n : Nat) (v : Word), n < 16 →
    let e := s.elapse dt
    let a := fun k => 0x1800 + 16 * n + k
    let u := fun k w => e.wrote rq (a k) w
    let c := e.chkOf n
    (let w := v ||| putb true 31
     e.accepts rq (a 4) w →
       exec (.chkStart dt rq n v) s = .next ((((u 4 w).chkWrite rq n 4 w).getD (u 4 w)).answers .ok []) ∧
       (c.feed = none → v.getLsbD 28 = false → v.getLsbD 29 = false → v.getLsbD 30 = false →
         exec (.chkStart dt rq n v) s = .next (((u 4 w).chkStart rq n).answers .ok []))) ∧
    let own := fun (t : State) => t.setChk n (fun q => { q with last := e.clk })
    (e.accepts rq (a 5) v →
      (c.active = false → exec (.chkData dt rq n v) s = .next ((u 5 v).answers .ok [])) ∧
      (c.active = true → c.startAt = some e.clk → exec (.chkData dt rq n v) s = .next ((own (u 5 v)).answers .ok [])) ∧
      (c.active = true → c.startAt ≠ some e.clk →
        exec (.chkData dt rq n v) s =
          .next (((own (u 5 v)).chkBytes n (dataBytes (c.cfg.getLsbD 4) v)).answers .ok []))) ∧
    (e.accepts rq (a 6) v →
      (c.active = false → exec (.chkByte dt rq n v) s = .next ((u 6 v).answers .ok [])) ∧
      (c.active = true → c.startAt = some e.clk → exec (.chkByte dt rq n v) s = .next ((own (u 6 v)).answers .ok [])) ∧
      (c.active = true → c.startAt ≠ some e.clk →
        exec (.chkByte dt rq n v) s = .next (((own (u 6 v)).chkBytes n [v.setWidth 8]).answers .ok []))) ∧
    (let w := v ||| putb true 30
     e.accepts rq (a 4) w → v.getLsbD 31 = false → v.getLsbD 28 = false →
       (c.active = false → exec (.chkFeed dt rq n v) s = .next ((u 4 w).answers .ok [])) ∧
       (c.active = true → c.startAt = some e.clk → exec (.chkFeed dt rq n v) s = .next ((own (u 4 w)).answers .ok [])) ∧
       (c.active = true → c.startAt ≠ some e.clk →
         exec (.chkFeed dt rq n v) s = .next (((own (u 4 w)).chkFeed n (v.getLsbD 29)).answers .ok []))) ∧
    (let w := putb true 29
     e.accepts rq (a 4) w →
       (c.active = false → exec (.chkFinish dt rq n) s = .next ((u 4 w).answers .ok [])) ∧
       (c.active = true → c.startAt = some e.clk → exec (.chkFinish dt rq n) s = .next ((own (u 4 w)).answers .ok [])) ∧
       (c.active = true → c.startAt ≠ some e.clk →
         exec (.chkFinish dt rq n) s = .next (((own (u 4 w)).chkFinish n).answers .ok []))) ∧
    (let w := putb true 28
     e.accepts rq (a 4) w →
       (c.active = false → exec (.chkAbort dt rq n) s = .next ((u 4 w).answers .ok [])) ∧
       (c.active = true → c.startAt = some e.clk → c.feed = none →
         exec (.chkAbort dt rq n) s = .next ((own (u 4 w)).answers .ok [])) ∧
       (c.active = true → c.startAt ≠ some e.clk →
       Completes (.chkAbort dt rq n) s (fun t =>
         (t.chkOf n).active = false ∧ (t.chkOf n).owner = none ∧ (t.chkOf n).feed = none ∧ (t.chkOf n).lastEnd = 2 ∧
           (t.chkOf n).res = c.res ∧ (t.chkOf n).cnt = c.cnt ∧ (e.noFeed → OnlyIn [.cyc, .pwr, .chk, .answer] e t)))) ∧
    (∀ f, c.feed = some f → exec (.chkFeedDone dt n) s = .next ((e.until_ (e.feedEnd f)).feedDone n)) ∧
    (c.active = true →
      Completes (.chkIdleRelease dt n) s (fun t =>
        (t.chkOf n).active = false ∧ (t.chkOf n).owner = none ∧ (t.chkOf n).lastEnd = 3 ∧ (t.chkOf n).res = c.res ∧
          (∀ m, m ≠ n → t.chkOf m = e.chkOf m) ∧ OnlyIn [.time, .chk] e t))) ∧
  (∀ (u : State) (rq : Requester) (n : Nat) (b : Bytes), n < 16 →
    let c := u.chkOf n
    let alg := crcAlg (fld c.cfg 0 2)
    ((u.chkBytes n b).chkOf n = { c with crc := crcFeed alg c.crc b }) ∧
    (let t := u.chkStart rq n
     let cfg := u.eff (0x1800 + 16 * n)
     (t.chkOf n).active = true ∧ (t.chkOf n).owner = some rq ∧ (t.chkOf n).cfg = cfg ∧ (t.chkOf n).feed = none ∧
       (4 ≤ n → (t.chkOf n).crc = (crcAlg (fld cfg 0 2)).init) ∧
       (n < 4 → (t.chkOf n).crc =
         crcFeed (crcAlg (fld cfg 0 2)) (crcAlg (fld cfg 0 2)).init
           (beBytes 1 u.foldAddr ++ beBytes 2 (u.fld (0x1800 + 16 * n + 1) 0 16))) ∧
       OnlyIn [.cyc, .chk] u t) ∧
    (4 ≤ n → c.cfg.getLsbD 16 = false →
      let t := u.chkFinish n
      (t.chkOf n).active = false ∧ (t.chkOf n).owner = none ∧ (t.chkOf n).lastEnd = 1 ∧ OnlyIn [.cyc, .chk] u t ∧
        (fld c.cfg 8 2 = 0 → (t.chkOf n).res = BitVec.ofNat 32 (crcEnd alg c.crc) ∧ (t.chkOf n).cnt = c.cnt) ∧
        (fld c.cfg 8 2 = 1 → (t.chkOf n).res = BitVec.ofNat 32 (crcEnd alg (crcFeed alg c.crc (beBytes 1 (c.cnt % 16)))) ∧
          (t.chkOf n).cntUsed = c.cnt % 16 ∧ (t.chkOf n).cnt = (c.cnt % 16 + 1) % 16) ∧
        (2 ≤ fld c.cfg 8 2 → (t.chkOf n).res = BitVec.ofNat 32 (crcEnd alg (crcFeed alg c.crc (beBytes 1 (c.cnt % 256)))) ∧
          (t.chkOf n).cntUsed = c.cnt % 256 ∧ (t.chkOf n).cnt = (c.cnt % 256 + 1) % 256)) ∧
    (let src := u.eff (0x1800 + 16 * n + 2)
     let count := u.fld (0x1800 + 16 * n + 3) 0 13
     (feedRefused src count = true → ∀ fin, u.chkFeed n fin = u.setChk n (fun q => { q with feedSt := 2 })) ∧
     (feedRefused src count = false → ∀ fin, u.chkFeed n fin = u.setChk n (fun q => { q with feed := some ⟨src, count, fin, 0, u.clk⟩ })))) ∧
  (∀ (u : State) (j n : Nat) (k : Nat) (v : Word), n < 4 → k < 16 → regExists (0x1800 + 16 * n + k) = true →
    u.refuses (.jet j) (0x1800 + 16 * n + k) v = true) ∧
  (∀ (u : State) (rq : Requester) (n : Nat) (v : Word), n < 16 → (u.chkOf n).active = true → (u.chkOf n).owner ≠ some rq →
    (u.chkYields rq n = false → u.refuses rq (0x1800 + 16 * n + 4) v = true) ∧ u.refuses rq (0x1800 + 16 * n + 5) v = true)

/-- The rill bus (R340, R342, R345 to R352): its supply, its faults, a search with its queries and echoes, a poll round, and a
direct transaction. -/
def Obligations.RillBus : Prop :=
  (∀ (s : State) (dt : Nat),
    let e := s.rilElapse dt
    (e.rilEnabled = true → e.ril.rlv = false → e.ril.rlvRetry = none →
      Completes (.rlvOn dt) s (fun t => t.ril.rlv = true ∧ t.ril.freeAt = max e.ril.freeAt (e.clk + 1000000) ∧ OnlyIn [.ril] e t)) ∧
    (e.ril.rlv = true →
      let u := e.rlvOff
      exec (.rlvCurrentLimit dt) s =
        .next ((({ u with ril := { u.ril with rlvFault := true, rlvRetry := some u.clk } }).wcSet 0x1903 (putb true 28)).present1 139)) ∧
    (∀ t0, e.ril.rlvRetry = some t0 →
      let u := e.until_ (t0 + 200000000)
      exec (.rlvRetry dt) s = .next (if u.rilEnabled = true then u.rlvTurnOn else { u with ril := { u.ril with rlvRetry := none } })) ∧
    (e.ril.rlv = true →
      let u := { e with ril := { e.ril with stuck := true, freeAt := max e.ril.freeAt (e.clk + 2000000) } }
      exec (.busStuck dt) s = .next ((u.rilBusFault.wcSet 0x1903 (putb true 27)).present1 139)) ∧
    (e.ril.autoFrom = true →
      let u := { e with ril := { e.ril with autoFrom := false } }
      exec (.autoSearch dt) s = .next (if u.bit 0x1901 30 = true ∧ u.stw = true then u.searchStart .steward else u)) ∧
    (∀ t0, e.ril.autoFrom = false → e.ril.autoRlv = some t0 →
      let w := (e.until_ (t0 + 1000000)).rilSettle 6
      let u := { w with ril := { w.ril with autoRlv := none } }
      exec (.autoSearch dt) s =
        .next (if u.bit 0x1901 30 = true ∧ u.stw = true then
          (if u.ril.rlv = true ∧ u.ril.rlvSince = t0 then u.searchStart .steward
          else { u with ril := { u.ril with srchRes := 3 } }) else u)) ∧
    (∀ slots q, e.ril.search = some q → e.ril.bus = some .query → e.opIs 6 .running = true →
      let u := e.until_ (e.requestEnd + 3220000)
      let v := { u with ril := { u.ril with bus := none, queries := inc 63 u.ril.queries } }
      let l := (slots.take 16).zipIdx
      let clean := l.filterMap (fun (x : SlotReply × Nat) =>
        match x.1 with | .clean id => if idOk id = true then some (x.2, id) else none | _ => none)
      let garbled := l.filterMap (fun (x : SlotReply × Nat) =>
        match x.1 with | .garbled => some x.2 | .clean id => if idOk id = true then none else some x.2 | .empty => none)
      let q1 := { q with clean := clean, garbled := garbled, n := clean.length + garbled.length }
      let w := if q.cur ≠ [] ∧ q1.n = 0 then v.discrepancy q1 else v.searchStep q1
      exec (.queryDone dt slots) s = .next (w.rilStart w.clk)) ∧
    (∀ ok, e.ril.bus = some .echo → e.opIs 6 .running = true →
      let u := e.until_ e.requestEnd
      let v := ({ u with ril := { u.ril with bus := none } }).echoDone ok
      exec (.rilEcho dt ok) s = .next (v.rilStart v.clk)) ∧
    (∀ q j id rest bytes crc, e.ril.search = some q → q.clean = (j, id) :: rest → e.ril.bus = some .echo → e.opIs 6 .running = true →
      let u := e.until_ e.requestEnd
      let ok := decide (bytes.take 1 = beBytes 1 (id.toNat / 2 ^ 56)) && decide (crcOf (crcAlg 3) (bytes.take 1) = crc.toNat)
      let v := ({ u with ril := { u.ril with bus := none } }).echoDone ok
      let u' := e.until_ (e.requestEnd + 60000)
      let v' := ({ u' with ril := { u'.ril with bus := none } }).echoDone false
      exec (.rillReply dt bytes crc) s = .next (v.rilStart v.clk) ∧ exec (.replyTimeout dt) s = .next (v'.rilStart v'.clk)) ∧
    (e.bit 0x1902 31 = true → e.ril.rlv = true → e.coreOn = true →
      let u := (e.untilMod (atLeast1 (e.fld 0x1902 0 16) * 2000000) 0).rilSettle 6
      (u.ril.round.isSome = true → exec (.pollRound dt) s = .next { u with ril := { u.ril with skipped := inc 65535 u.ril.skipped } }) ∧
      (u.ril.round = none →
        exec (.pollRound dt) s = .next (({ u with ril := { u.ril with round := some ⟨none, 0, false⟩ } }).rilStart u.clk))) ∧
    (∀ r x, e.ril.round = some r → r.convEnd = some x →
      let u := e.until_ (x + e.fld 0x1902 16 8 * 200000)
      let v := u.rilStart u.clk
      exec (.pollRead dt) s = .next (if v.ril.bus = none then v.roundEnd v.clk else v)) ∧
    (∀ i, e.ril.bus = some (.read i) → i < 32 →
      let u := e.until_ (e.requestEnd + 60000)
      exec (.replyTimeout dt) s = .next ((u.noAnswer i).readOver i) ∧
        (∀ r, e.ril.round = some r → r.shown = true →
          ((u.noAnswer i).rent i).present = false ∧ ((u.noAnswer i).rent i).st = 3 ∧ (u.noAnswer i).ril.stale = true) ∧
        (∀ bytes crc,
          let w := e.until_ e.requestEnd
          let b := bytes.take w.rlen
          exec (.rillReply dt bytes crc) s =
            .next ((w.setRent i (fun q =>
              if crcOf (crcAlg 3) b = crc.toNat then { q with val := readWord b, st := 1 } else { q with st := 2 })).readOver i))) ∧
    (∀ x, e.ril.bus = some .direct → e.ril.direct = some x → directReply x = true →
      let u := e.until_ (e.requestEnd + 60000)
      exec (.replyTimeout dt) s = .next ((u.directEnd 2).rilFree (u.directEnd 2).clk) ∧
        (∀ bytes crc,
          let w := e.until_ e.requestEnd
          let b := bytes.take (directLen x)
          let bad := x.getLsbD 20 && decide (crcOf (crcAlg 3) b ≠ crc.toNat)
          let v := { w with ril := { w.ril with xr0 := readWord b, xr1 := readWord (b.drop 4) } }
          exec (.rillReply dt bytes crc) s = .next ((v.directEnd (if bad = true then 3 else 1)).rilFree w.clk)))) ∧
  (∀ (s : State) (dt : Nat) (rq : Requester) (v : Word),
    let e := s.elapse dt
    (let w := putb true 31
     e.accepts rq 0x1900 w → exec (.rilSearch dt rq) s = .next ((((e.wrote rq 0x1900 w).rilSettle 6).searchStart rq).answers .ok [])) ∧
    (let w := v ||| putb true 31
     e.accepts rq 0x1905 w →
       let u := e.wrote rq 0x1905 w
       let x := (u.eff 0x1905 &&& (regRow 0x1905).cfg) ||| putb true 31
       exec (.directTransaction dt rq v) s = .next (((((u.rilSettle 6).clearWc 0x1905 w).directStart x)).answers .ok []))) ∧
  (∀ (u : State) (rq : Requester) (x : Word),
    ((u.modeIn 4 10 && u.ril.rlv) = false → u.searchStart rq = { u with ril := { u.ril with srchRes := 3 } }) ∧
    ((u.modeIn 4 10 && u.ril.rlv) = true → u.ril.search.isSome = true →
      u.searchStart rq = { u with ril := { u.ril with srchRes := 2 } }) ∧
    ((u.modeIn 4 10 && u.ril.rlv) = true → u.ril.search = none →
      let t := u.searchStart rq
      t.ril.srchRes = 1 ∧ t.ril.tag = (u.startOp 6 rq).1 ∧ t.ril.search.isSome = true ∧ OnlyIn [.ril, .seq] u t) ∧
    (x.getLsbD 31 = true →
      (u.ril.direct.isSome = true → u.directStart x = ({ u with ril := { u.ril with ign := true } }).wcSet 0x1905 (putb true 29)) ∧
      (u.ril.direct = none → (u.rilEnabled && u.ril.rlv) = false → u.directStart x = { u with ril := { u.ril with xst := 6 } }) ∧
      (u.ril.direct = none → (u.rilEnabled && u.ril.rlv) = true → x.getLsbD 19 = true → (u.rent (fld x 8 5)).present = false →
        u.directStart x = { u with ril := { u.ril with xst := 5 } })) ∧
    (u.ril.rlv = true → u.rlvOff.ril.rlv = false ∧ u.rlvOff.ril.direct = none ∧ u.rlvOff.ril.bus = none ∧ u.rlvOff.ril.round = none ∧
      (u.ril.direct.isSome = true → u.rlvOff.ril.xst = 4)))

/-- The fault collector (R354 to R368): clearing, the effective class and reaction of a source, its first presentation, the end
of shadows and counting windows, the steward's key and its watchdog, and FLOW. -/
def Obligations.FaultCollector : Prop :=
  (∀ (s : State) (dt : Nat) (rq : Requester) (k : Nat) (v : Word),
    let e := s.elapse dt
    (k < 5 → e.accepts rq (0x1A10 + k) v →
      exec (.stickyClear dt rq k v) s = .next (((e.wrote rq (0x1A10 + k) v).stickyClear k v).answers .ok [])) ∧
    (k < 5 → e.accepts rq (0x1A20 + k) v →
      exec (.secondaryClear dt rq k v) s = .next (((e.wrote rq (0x1A20 + k) v).secClear k v).answers .ok [])) ∧
    (e.accepts rq 0x1A0B 0xC1EA →
      exec (.clearAll dt rq) s = .next (((e.wrote rq 0x1A0B 0xC1EA).clearAll).answers .ok []))) ∧
  (∀ (s : State) (dt : Nat),
    let e := s.elapse dt
    (∀ h, e.flt.shadowB = some h →
      let u := e.until_ h.ends
      exec (.shadowEnd dt false) s = .next { u with flt := { u.flt with shadowB := none } }) ∧
    (∀ h, e.flt.shadowM = some h →
      let u := e.until_ h.ends
      exec (.shadowEnd dt true) s = .next { u with flt := { u.flt with shadowM := none } }) ∧
    (∀ i, i < 160 → (e.fsrc i).winOpen = true →
      let u := e.elapseTb ((e.fsrc i).winStart + atLeast1 (e.fld (0x1B00 + i) 0 16) * 200000 - e.tbn).toNat
      exec (.faultWindowExpiry dt i) s = .next (u.setFsrc i { u.fsrc i with winOpen := false })) ∧
    (e.stw = true →
      exec (.aliveKey dt) s = .next { e with flt := { e.flt with stwAlive := true, stwKey := e.clk } }) ∧
    (e.stw = true → e.coreOn = true →
      let u := e.until_ (e.flt.stwKey + atLeast1 (e.fld 0x1A00 8 8) * 2000000)
      exec (.stewardWatchdog dt) s =
        .next ((({ u with nvm := { u.nvm with launchOk := false } }).present1 159).stewardStop)) ∧
    (e.stw = false → e.nvm.noImg = false → e.startWaits = false → e.pwr.mode ≠ .ship → e.pwr.mode ≠ .still →
      (e.pwr.mode = .reset → 6 ≤ e.pwr.step → exec (.stewardStart dt) s = .next e.journalStart.stewardRun) ∧
      (e.pwr.mode ≠ .reset →
        let r := e.loadImage
        (r.1 = true → exec (.stewardStart dt) s = .next r.2.journalStart.stewardRun) ∧
        (r.1 = false → exec (.stewardStart dt) s = .next { r.2 with nvm := { r.2.nvm with noImg := true, act := 0 } }))) ∧
    (e.pwr.lpoRun = true →
      let u := e.until_ (e.flt.divAt + 98000)
      exec (.flowToggle dt) s =
        .next { u with flt :=
          { u.flt with
            divAt := u.clk, divHigh := !e.flt.divHigh, flow := !e.flt.divHigh && e.flowOk
            flowRun := e.flowOk && (!e.flt.divHigh || e.flt.flowRun) } }) ∧
    (e.flowOk = true → exec (.flowDrop dt) s = .next e) ∧
    (e.flowOk = false → exec (.flowDrop dt) s = .next { e with flt := { e.flt with flow := false, flowRun := false } }) ∧
    (2 ≤ e.maxClass ∨ e.flt.stwAlive = false ∨ e.pwr.lpoOk = false ∨ e.modeIn 3 10 = false → e.flowOk = false)) ∧
  (∀ (u : State) (i : Nat),
    u.baseClass i ≤ u.eclass i ∧ u.eclass i ≤ 3 ∧ u.baseReact i ≤ u.ereact i ∧ u.ereact i ≤ 5 ∧
      ((u.fsrc i).esc = 0 → (u.fsrc i).lockDone = false → u.eclass i = u.baseClass i ∧ u.ereact i = u.baseReact i)) ∧
  (∀ (u : State) (i : Nat),
    (u.live i = true ∨ (u.fsrc i).sticky = false ∨ u.srcFresh 0x1A10 i = true → u.clearSticky i = u) ∧
    (u.live i = false → (u.fsrc i).sticky = true → u.srcFresh 0x1A10 i = false → Sparse.wf FltSrc.clear u.flt.src = true →
      let t := u.clearSticky i
      (t.fsrc i).sticky = false ∧ (t.fsrc i).esc = 0 ∧ (t.fsrc i).cnt = 0 ∧ (t.fsrc i).first = none ∧ (t.fsrc i).holdT = false ∧
        (t.fsrc i).holdS = false ∧ (∀ j, j ≠ i → t.fsrc j = u.fsrc j) ∧ OnlyIn [.cyc, .flt] u t) ∧
    (u.srcFresh 0x1A20 i = true → u.clearSec i = u) ∧
    (u.srcFresh 0x1A20 i = false → Sparse.wf FltSrc.clear u.flt.src = true →
     let t := u.clearSec i
     (t.fsrc i).sec = false ∧ (t.fsrc i).secCnt = 0 ∧ (t.fsrc i).sticky = (u.fsrc i).sticky ∧ ∀ j, j ≠ i → t.fsrc j = u.fsrc j) ∧
    (u.collectorOn = false → ∀ l, u.collect l = u) ∧
    (u.collectorOn = true → ∀ l, (∀ j ∈ l, 160 ≤ j ∨ j ∈ u.nowCyc.shown) → u.collect l = u.cycMod id) ∧
    ((u.fsrc i).sticky = false → (u.fsrc i).winOpen = false → 2 ≤ u.fld (0x1B00 + i) 16 8 → u.bit 0x1A00 31 = false →
     u.bit 0x1A00 7 = false → (∀ x ∈ u.nowCyc.cleared, x.1 ≠ i) →
      let t := u.primary i
      (t.fsrc i).sticky = true ∧ (t.fsrc i).cnt = 1 ∧ (t.fsrc i).first = some u.tb ∧ (t.fsrc i).winOpen = true ∧
        (t.fsrc i).winStart = u.tbn ∧ (t.fsrc i).esc = (u.fsrc i).esc ∧ (∀ j, j ≠ i → t.fsrc j = u.fsrc j) ∧ OnlyIn [.cyc, .flt] u t))

/-- The ledger (R414, Table 17.2): the steward writes what is due into the slot after the newest entry, with the next sequence,
and every other byte of the memory stays as it was. -/
def Obligations.LedgerEntries : Prop :=
  (∀ (s : State) (dt : Nat),
    let e := (s.elapse dt).feedsMram
    e.stw = true → e.mramHeld = false →
    (∀ x rest, e.nvm.ledgDue = x :: rest →
      exec (.ledgerWrite dt) s = .next (({ e with nvm := { e.nvm with ledgDue := rest } }).flushWrites.ledgPut x)) ∧
    (e.nvm.ledgDue = [] → e.nvm.lostSeen < e.flt.lost →
      exec (.ledgerWrite dt) s =
        .next (({ e with nvm := { e.nvm with lostSeen := e.flt.lost } }).flushWrites.ledgPut
          ⟨8, 0xFFFF, e.tb, leBytes 1 e.flt.lost ++ leBytes 11 0⟩)) ∧
    (∀ r rest, e.nvm.ledgDue = [] → e.flt.lost ≤ e.nvm.lostSeen → e.flt.queue = r :: rest →
      exec (.ledgerWrite dt) s = .next (({ e with flt := { e.flt with queue := rest } }).flushWrites.ledgPut r.entry))) ∧
  (∀ (u : State) (x : LedgEnt), Memory.wf u.nvm.mram = true → x.data.length = 12 →
    let i := (u.nvm.head + 1) % 2048
    let q := (u.nvm.lastSeq + 1) % 2 ^ 32
    let t := u.ledgPut x
    t.nvm.head = i ∧ t.nvm.lastSeq = q ∧ Memory.wf t.nvm.mram = true ∧
      (∀ k, k < 32 → memGet t.nvm.mram (0xA4000 + 32 * i + k) = byteAt (x.bytes q) k) ∧
      (∀ a, (a < 0xA4000 + 32 * i ∨ 0xA4000 + 32 * i + 32 ≤ a) → memGet t.nvm.mram a = memGet u.nvm.mram a) ∧
      (x.bytes q).take 4 = leBytes 4 q ∧ (x.bytes q).length = 32 ∧
      OnlyIn [.nvm, .ecc] u t)

/-- Heat (R370 to R385): a sensor step, the throttle controller of Table 15.3 and its grace timer, the shutdown, and the
restoration of sensors. -/
def Obligations.ThermalControl : Prop :=
  (∀ (s : State) (dt : Nat),
    let e := s.elapse dt
    (∀ readings, (e.pwr.mode = .reset ∨ e.coreOn = false) → exec (.sensorStep dt readings) s = .next e) ∧
    (∀ readings, ∃ t, exec (.sensorStep dt readings) s = .next t) ∧
    (e.thm.thr = .requested → e.coreOn = true →
      let u := e.untilTb (BitVec.ofNat 64 e.thm.graceEnd)
      (u.thm.tmax < u.thrLow → exec (.graceExpiry dt) s = .next { u with thm := { u.thm with thr := .idle } }) ∧
        (u.thrLow ≤ u.thm.tmax → exec (.graceExpiry dt) s = .next (u.enforce.present1 121))) ∧
    (e.thm.shutDue = true →
      exec (.thermalShutdown dt) s =
        .next (({ e with thm := { e.thm with shutDue := false, parked := true, cntShut := inc 65535 e.thm.cntShut } }).present1 122))) ∧
  (∀ (s : State) (dt : Nat) (rq : Requester) (mask : Nat),
    let e := s.elapse dt
    let v := put mask 8 6
    e.accepts rq 0x1C04 v → mask < 64 →
      exec (.sensorRestore dt rq mask) s = .next (((e.wrote rq 0x1C04 v).restoreSens mask).answers .ok [])) ∧
  (∀ (u : State) (mask k : Nat), k < 6 →
    let t := u.restoreSens mask
    (mask.testBit k = true → (t.sens k).replaced = false ∧ ((u.sens k).replaced = true → (t.sens k).disSince = none)) ∧
    (mask.testBit k = false ∨ (u.sens k).replaced = false → t.sens k = u.sens k) ∧
    t.thm.degraded = (u.thm.degraded && t.manyReplaced) ∧ OnlyIn [.thm] u t) ∧
  (∀ (u : State),
    let r := u.throttleStep
    (u.thm.thr = .idle → u.thm.tmax < u.thrT → r = ([], u)) ∧
    (u.thm.thr = .idle → u.thrT ≤ u.thm.tmax → u.fld 0x1C00 16 16 ≠ 0 →
      r.1 = [120] ∧ r.2.thm.thr = .requested ∧ r.2.thm.graceEnd = u.tbn + u.fld 0x1C00 16 16 * 200000) ∧
    (u.thm.thr = .idle → u.thrT ≤ u.thm.tmax → u.fld 0x1C00 16 16 = 0 → r.1 = [120, 121] ∧ r.2.thm.thr = .enforced) ∧
    (u.thm.thr = .requested → u.thm.tmax < u.thrLow → r.1 = [] ∧ r.2.thm.thr = .idle) ∧
    (u.thm.thr = .requested → u.thrLow ≤ u.thm.tmax → u.thm.graceEnd ≤ u.tbn → r.1 = [121] ∧ r.2.thm.thr = .enforced) ∧
    (u.thm.thr = .requested → u.thrLow ≤ u.thm.tmax → u.tbn < u.thm.graceEnd → r = ([], u)) ∧
    (u.thm.thr = .enforced → u.thm.tmax < u.thrLow → r.1 = [] ∧ r.2.thm.thr = .idle) ∧
    OnlyIn [.thm] u r.2) ∧
  (∀ (u : State), 60 * 64 ≤ u.thrT ∧ u.thrT ≤ 140 * 64 ∧ u.thrLow < u.thrT ∧ u.shutLow < u.shutT ∧ 135 * 64 ≤ u.shutT) ∧
  (∀ (u : State),
    let t := u.shutStep
    (u.shutT ≤ u.thm.tmax → t.thm.shutOver = true ∧ t.thm.parked = u.thm.parked ∧
      (u.thm.shutOver = false → t.thm.nvmHold = true ∧ t.thm.shutDue = true) ∧
      (u.thm.shutOver = true → t.thm.nvmHold = u.thm.nvmHold ∧ t.thm.shutDue = u.thm.shutDue)) ∧
    (u.thm.tmax < u.shutLow →
      t.thm.shutOver = false ∧ t.thm.nvmHold = false ∧ t.thm.parked = false ∧ t.thm.shutDue = u.thm.shutDue) ∧
    OnlyIn [.thm] u t) ∧
  (∀ (u : State) (t0 : Int),
    let t := u.bandStep t0
    (u.thm.started = false → t.thm.band = bandOf t0) ∧
    (u.thm.started = true → t.thm.band ≤ u.thm.band + 1 ∧ u.thm.band ≤ t.thm.band + 1) ∧
    (∀ c, u.thm.started = true → u.thm.bandAt = some c → u.clk - c < 20000000 → c ≤ u.clk → t = u) ∧ OnlyIn [.thm] u t)

/-- The self-test (R387 to R408): slices that start, end, run out of budget and are cut, the confirming slice, a campaign's
start, repairs, and the counters. -/
def Obligations.SelfTest : Prop :=
  (∀ (s : State) (dt : Nat),
    let e := s.elapse dt
    let c := State.campNext 420 e
    (∀ unit x resp meas, c.sliceOf unit = some x → c.mustCut x = none → c.sliceClash unit = false → c.clk ≤ x.since + sliceBudget unit →
      let sig := misr resp
      exec (.sliceEnd dt unit resp meas) s =
        .next (c.endSlice x (if c.measOk unit meas = true ∧ sig = Config.goldenSig (kindOf unit) then 1 else 2) 0 (some sig))) ∧
    (∀ unit x, c.sliceOf unit = some x →
      exec (.sliceBudgetExpiry dt unit) s = .next ((c.until_ (x.since + sliceBudget unit)).endSlice x 3 5 none)) ∧
    (∀ unit x cut reinit, c.sliceOf unit = some x → 2 ≤ cut → c.mustCut x = some cut →
      exec (.sliceCut dt unit cut reinit) s = .next (c.endSlice x 3 cut none)) ∧
    (∀ unit x reinit, c.sliceOf unit = some x → c.sliceClash unit = true →
      let u := c.endSlice x 3 1 none
      let r := c.lateReqs unit x.since
      let v := (u.elapse (min reinit 2000)).serveLate unit
      exec (.sliceCut dt unit 1 reinit) s =
        .next (if kindOf unit = 4 ∨ kindOf unit = 6 ∨ kindOf unit = 8 then u.serveLate unit
          else { v with bst :=
            { v.bst with lateN := min 65535 (v.bst.lateN + r.1), lateMax := max v.bst.lateMax (min 65535 (v.clk - r.2)) } })) ∧
    (e.bgOn = false ∨ e.bgBusy = true → exec (.backgroundSlice dt) s = .next e) ∧
    (∀ n, e.bgOn = true → e.bgBusy = false → e.bst.bgUnit = none →
      let u := e.until_ (e.bst.bgAt + atLeast1 (e.fld 0x1D01 16 8) * 2000000)
      let v := { u with bst := { u.bst with bgAt := u.clk } }
      (v.bgNext = none → exec (.backgroundSlice dt) s = .next v) ∧
      (v.bgNext = some n →
        exec (.backgroundSlice dt) s =
          .next (({ v with bst := { v.bst with bgUnit := some n, tries := 0, next := if n = 367 then 52 else n + 1 } }).startTest n .back))) ∧
    (let h := e.handsDue
     h.stw = true → h.sliceMode = true → h.bst.camp = none →
      let u := ((List.range 52).filter (fun n => h.confDue n && !h.confReady n)).foldl State.confAsk h
      (∀ n, (List.range 368).find? (fun n => u.confDue n && u.confReady n) = some n → exec (.confirmSlice dt) s = .next (u.startTest n .back)) ∧
      ((List.range 368).find? (fun n => u.confDue n && u.confReady n) = none → exec (.confirmSlice dt) s = .next u)) ∧
    (e.bst.mapPend = true → e.stw = true → e.mramHeld = false → e.noFeed →
      let old := if e.bst.useB = true then e.bst.copyB else e.bst.copyA
      (Completes (.repairMapStore dt true) s (fun t =>
        t.bst.mapPend = false ∧ t.bst.useB = (!e.bst.useB) ∧ OnlyIn [.bst, .nvm, .ecc] e t ∧
          (if t.bst.useB = true then t.bst.copyB else t.bst.copyA) = ⟨true, (old.gen + 1) % 2 ^ 32, e.bst.entries⟩ ∧
          (if e.bst.useB = true then t.bst.copyB else t.bst.copyA) = old)) ∧
      (Completes (.repairMapStore dt false) s (fun t =>
        t.bst.mapPend = true ∧ t.bst.useB = e.bst.useB ∧ (if t.bst.useB = true then t.bst.copyB else t.bst.copyA) = old ∧
          OnlyIn [.bst, .nvm, .ecc] e t)))) ∧
  (∀ (s : State) (dt : Nat) (rq : Requester) (unit : Nat),
    let e := s.elapse dt
    (let v := putb true 31
     e.accepts rq 0x1D00 v → exec (.campaign dt rq) s = .next (((e.wrote rq 0x1D00 v).campStart rq).answers .ok [])) ∧
    (let v := putb true 30 ||| put unit 0 9
     unit < 512 → e.accepts rq 0x1D00 v →
       let u := e.wrote rq 0x1D00 v
       exec (.repair dt rq unit) s = .next ((if (u.unitOf unit).conf = true then u.repairUnit unit 5 else u).answers .ok [])) ∧
    (let v := putb true 29
     e.accepts rq 0x1D00 v →
       let u := e.wrote rq 0x1D00 v
       exec (.bstCounterClear dt rq) s =
         .next ({ u with bst := { u.bst with count := 0, fails := 0, incs := 0, lateN := 0, lateMax := 0 } }.answers .ok []))) ∧
  (∀ (u : State) (rq : Requester),
    (u.pwr.mode ≠ .selftest → u.campStart rq = { u with bst := { u.bst with startRes := 2 } }) ∧
    (u.pwr.mode = .selftest → (u.oper 2).isSome = true → u.campStart rq = { u with bst := { u.bst with startRes := 3 } })) ∧
  (∀ (u : State) (n res cut : Nat) (sig : Option Word), res = 1 →
    let t := u.sliceOver n res cut sig
    (t.unitOf n).last = 1 ∧ t.sliceOf n = none ∧ t.bst.count = (u.bst.count + 1) % 65536 ∧ t.bst.fails = u.bst.fails ∧
      t.bst.lastUnit = n ∧ (∀ m, m ≠ n → t.unitOf m = u.unitOf m) ∧ OnlyIn [.bst, .bsn] u t) ∧
  (∀ (u : State) (n : Nat) (o : SliceOf),
    (u.startSlice n o).bst.slices = u.bst.slices ++ [⟨n, u.clk, o⟩] ∧ (kindOf n ≠ 4 → OnlyIn [.bst] u (u.startSlice n o)) ∧
      (kindOf n = 4 → (u.startSlice n o).bsn.testPage = some (n - 64) ∧
        ∀ i, i < (n - 64) * 256 ∨ (n - 63) * 256 ≤ i → (u.startSlice n o).sramWord i = u.sramWord i) ∧
      (kindOf n = 3 → ((u.startTest n o).modul n).decim = none) ∧
      (kindOf n = 7 → ((u.startTest n o).bal (n - 367)).on = true ∧ ((u.startTest n o).bal (n - 367)).pulse = some (u.clk + 10000)))

/-- The stored memory (R405, R410 to R413, R417, R418, R423, R438): a page write stores its bytes and no others, in the order
requested and not under a hold; a row repair, the scrub, the pack binding and the customer area. -/
def Obligations.StoredMemory : Prop :=
  (∀ (s : State) (dt : Nat),
    let e := s.elapse dt
    (∀ w rest, e.noFeed → e.nvm.wq = w :: rest →
      (e.mramHeld = true → exec (.mramPageWrite dt) s = .next e) ∧
      (e.mramHeld = false → exec (.mramPageWrite dt) s = .next (({ e with nvm := { e.nvm with wq := rest } }).pageWrite w))) ∧
    (∀ row k, e.nvm.rowDue.contains row = true → e.mramHeld = false → k < 64 → (∀ x ∈ e.nvm.rows, x.2 ≠ k) →
      (∀ i < k, ∃ x ∈ e.nvm.rows, x.2 = i) →
      let v := (e.mramRead (1024 * row) 1024).2
      let u := { v with
        nvm := { v.nvm with
          rowDue := v.nvm.rowDue.filter (fun r => decide (r ≠ row)), pulse := pulseOf v.thm.band, rows := (row, k) :: v.nvm.rows
          rowErrs := Sparse.set 0 v.nvm.rowErrs row 0, hotWords := v.nvm.hotWords.filter (fun w => decide (rowOf w ≠ row)) }
        ecc := v.ecc.filter (fun x => !(decide (x.1 = EccArea.mram) && decide (rowOf x.2.1 = row) && !x.2.2)) }
      exec (.mramRowRepair dt row) s = .next (u.repaired ⟨4, 4, row, k⟩)) ∧
    (e.stw = true → e.bit 0x1E02 31 = true →
      exec (.scrubStart dt none) s = .next ((e.until_ (e.nvm.scrubAt + e.scrubTicks)).scrubBegin .steward)) ∧
    (∀ tag p bad o, e.nvm.scrub = some (tag, p, bad) → e.stw = true → e.oper 5 = some o → o.st = .running → o.pend = false →
      let u := e.until_ (e.nvm.pageAt + 200000)
      let r := u.mramRead (256 * p) 256
      let v := { r.2 with nvm := { r.2.nvm with scrub := some (tag, p + 1, bad || !r.1), pageAt := r.2.clk } }
      exec (.scrubPage dt) s = .next (if p = 4095 then v.scrubEnd .done 1 else v)) ∧
    (∀ c, e.nvm.bindBusy = some c → e.mramHeld = false →
      let b := { c with ok := false }
      let toB := decide (e.binding = some e.nvm.bindA)
      let p := e.pageDone (if toB = true then 0xB4440 else 0xB4400) 0x40
      exec (.bindingWriteDone dt false) s =
        .next (({ p with nvm :=
          if toB = true then { p.nvm with bindB := b, bindBusy := none } else { p.nvm with bindA := b, bindBusy := none } }).bindCheck)) ∧
    (∀ c, e.nvm.bindBusy = some c → e.mramHeld = false →
      let b := { c with ok := true }
      let toB := decide (e.binding = some e.nvm.bindA)
      let p := e.pageDone (if toB = true then 0xB4440 else 0xB4400) 0x40
      let u := { p with nvm :=
        if toB = true then { p.nvm with bindB := b, bindBusy := none } else { p.nvm with bindA := b, bindBusy := none } }
      exec (.bindingWriteDone dt true) s =
        .next ((u.ledger ⟨5, 0xFFFF, u.tb,
          leBytes 1 c.pos ++ leBytes 3 0 ++ leBytes 4 c.cnt ++ leBytes 4 c.pack.toNat⟩).bindCheck))) ∧
  (∀ (s : State) (dt : Nat) (rq : Requester),
    let e := s.elapse dt
    (let v := e.keep 0x1E02 ||| putb true 30
     e.accepts rq 0x1E02 v → exec (.scrubStart dt (some rq)) s = .next (((e.wrote rq 0x1E02 v).scrubBegin rq).answers .ok [])) ∧
    (e.accepts rq 0x1E15 0xB1D5 → e.nvm.bindBusy = none → e.bound.cnt ≠ 0xFFFFFFFF →
      Completes (.bind dt rq) s (fun t =>
        t.nvm.bindBusy =
          some ⟨true, e.eff 0x1E33 ++ e.eff 0x1E32 ++ e.eff 0x1E31 ++ e.eff 0x1E30, e.fld 0x1E14 0 8, e.bound.cnt + 1⟩ ∧
          OnlyIn [.cyc, .pwr, .regs, .rwo, .nvm, .answer] e t)) ∧
    (e.accepts rq 0x1E15 0x0B1D → e.nvm.bindBusy = none → e.bound.cnt ≠ 0xFFFFFFFF →
      Completes (.unbind dt rq) s (fun t =>
        t.nvm.bindBusy = some ⟨true, 0, e.fld 0x1E14 0 8, e.bound.cnt + 1⟩ ∧ OnlyIn [.cyc, .pwr, .regs, .rwo, .nvm, .answer] e t)) ∧
    (∀ v, e.accepts rq 0x1E21 v →
      exec (.customerWrite dt rq v) s =
        .next ((((e.wrote rq 0x1E21 v).custWrite rq v).advance rq 0x1E20 17 131071).answers .ok []))) ∧
  (∀ (u : State) (a : Nat) (b : Bytes), Memory.wf u.nvm.mram = true → u.stageOff a = none →
    (∀ w ∈ partWords a b.length, u.eccOf .mram w = none) →
    let t := u.pageWrite (.bytes a b)
    Memory.wf t.nvm.mram = true ∧ (∀ k, k < b.length → memGet t.nvm.mram (a + k) = byteAt b k) ∧
      (∀ x, (x < a ∨ a + b.length ≤ x) → memGet t.nvm.mram x = memGet u.nvm.mram x) ∧ OnlyIn [.nvm, .ecc] u t) ∧
  (∀ (u : State) (a : Nat) (b : Bytes) (x : Nat), u.noFeed → (x < a ∨ a + b.length ≤ x) → (u.mramPut a b).mramByte x = u.mramByte x) ∧
  (∀ (u : State) (j : Jrn),
    let t := u.pageWrite (.jrn j)
    (t.nvm.jrnA = some j ∨ t.nvm.jrnB = some j) ∧ (t.nvm.jrnA = u.nvm.jrnA ∨ t.nvm.jrnB = u.nvm.jrnB) ∧
      (∀ k, Jrn.use u.nvm.jrnA u.nvm.jrnB = some k → k.gen < j.gen →
        Jrn.use t.nvm.jrnA t.nvm.jrnB = some j ∧ (t.nvm.jrnA = some k ∨ t.nvm.jrnB = some k)) ∧ OnlyIn [.nvm] u t) ∧
  (∀ (u : State) (rq : Requester),
    (u.nvm.scrub.isSome = true ∨ u.modeIn 4 10 = false → u.scrubBegin rq = u) ∧
    (u.nvm.scrub = none → u.modeIn 4 10 = true →
      let t := u.scrubBegin rq
      t.nvm.scrub = some ((u.startOp 5 rq).1, 0, false) ∧ OnlyIn [.nvm, .seq] u t)) ∧
  (∀ (u : State) (w : Nat),
    (u.eccOf .mram w = none → OnlyIn [.nvm] u (u.mramTouch w) ∧ (u.mramTouch w).nvm.mram = u.nvm.mram))

/-- The service requests of an update session (R423 to R437): when a request is served, how each is answered, the session that
an accepted OPEN makes, the chunk that a WRITE stores, the result of VERIFY, the time of an ACTIVATE, and the ends of a
session. -/
def Obligations.UpdateSessions : Prop :=
  (∀ (s : State) (dt : Nat) (q : SvcReq),
    let e := (s.elapse dt).sessPkt q.sid
    (s.elapse dt).svcOn q.srv = true → e.pwr.mode ≠ .lockout → (e.pwr.mode = .service ∨ e.nvm.noImg = true) →
    (∀ target, e.svcBusy 1 = none → (e.nvm.sess.isSome = true → exec (.svcOpen dt q target) s = .next (e.reply q 1 1 1 [])) ∧
      (e.nvm.sess = none → e.nvm.act = 1 → exec (.svcOpen dt q target) s = .next (e.reply q 1 3 0 [])) ∧
      (e.nvm.sess = none → e.nvm.act ≠ 1 → (target = 0 ∨ 6 < target) → exec (.svcOpen dt q target) s = .next (e.reply q 1 4 0 [])) ∧
      (e.nvm.sess = none → e.nvm.act ≠ 1 → 1 ≤ target → target ≤ 6 → (e.nvm.noImg = true → target = 1) →
        let r := e.startOp 4 (svcRq q)
        let v := r.2.setOp 4 (fun o => { o with st := .running, scStw := false })
        ∃ sid : Nat, sid ≠ 0 ∧ sid < 65536 ∧
          let w := { v with nvm :=
            { v.nvm with
              nextSid := v.nvm.nextSid + 1, ifc := if q.srv = true then 2 else 1, tgt := target, sid := sid, rcvN := 0, rcvC := 0 } }
          let x : Sess :=
            { st := .open_, srv := q.srv, target := target, sid := sid, tag := r.1, chunks := [], good := [], hdr := [], stage := []
              tact := 0, now := false, goAt := 0, begun := false, lastPkt := e.clk }
          exec (.svcOpen dt q target) s =
            .next (((w.setSess x).logSess x 1 0).reply q 1 0 0 (beBytes 2 sid ++ beBytes 2 r.1)))) ∧
    (∀ block chunk data tact lo hi, e.nvm.sess = none →
      (e.svcBusy 2 = none → exec (.svcWrite dt q block chunk data) s = .next (e.reply q 2 2 0 [])) ∧
      (e.svcBusy 4 = none → exec (.svcVerify dt q) s = .next (e.reply q 4 2 0 [])) ∧
      (e.svcBusy 5 = none → exec (.svcActivate dt q tact lo hi) s = .next (e.reply q 5 2 0 [])) ∧
      (e.svcBusy 6 = none → exec (.svcClose dt q) s = .next (e.reply q 6 2 0 [])) ∧
      (e.svcBusy 8 = none → exec (.svcRestart dt q) s = .next (e.reply q 8 2 0 []))) ∧
    (e.stw = false →
      exec (.svcClose dt q) s = .next (e.reply q 6 1 2 []) ∧ exec (.svcRestart dt q) s = .next (e.reply q 8 1 2 []) ∧
      exec (.svcConfirm dt q) s = .next (e.reply q 7 1 2 []) ∧
      (e.nvm.noImg = false → exec (.svcStatus dt q) s = .next (e.reply q 3 1 2 []))) ∧
    (e.svcBusy 3 = none → exec (.svcStatus dt q) s = .next (e.reply q 3 0 0 (wordsBe [e.updStat, e.updRcv, e.updAct]))) ∧
    (e.svcBusy 7 = none → e.nvm.act = 1 → exec (.svcConfirm dt q) s = .next (({ e with nvm := { e.nvm with confirm := true } }).reply q 7 0 0 [])) ∧
    (e.svcBusy 7 = none → e.nvm.act ≠ 1 → exec (.svcConfirm dt q) s = .next (e.reply q 7 3 0 [])) ∧
    (∀ a n, e.svcBusy 0x10 = none → 1 ≤ n → n ≤ 248 → a + n ≤ 0x100000 →
      exec (.svcRead dt q a n) s = .next ((e.mramRead a n).2.reply q 0x10 0 0 (e.mramBytes a n))) ∧
    (∀ a n, e.svcBusy 0x10 = none → (n = 0 ∨ 248 < n ∨ 0x100000 < a + n) → exec (.svcRead dt q a n) s = .next (e.reply q 0x10 4 0 [])) ∧
    (∀ req x y, e.svcBusy 0x11 = none → (e.keyGiven = true ∨ e.pwr.lockOwner ≠ some (svcRq q)) →
      exec (.svcKeyslot dt q req x y) s = .next (e.reply q 0x11 10 0 [])) ∧
    (∀ req x y, e.svcBusy 0x11 = none → e.keyGiven = false → e.pwr.lockOwner = some (svcRq q) → pointOk x y = true →
      exec (.svcKeyslot dt q req x y) s =
        .next (({ e.feedsMram with nvm := { e.feedsMram.nvm with wq := e.feedsMram.nvm.wq ++ [PageWr.key req x y] } }).reply q 0x11 0 0 []))) ∧
  (∀ (s : State) (dt : Nat) (q : SvcReq) (x : Sess),
    let e := s.elapse dt
    let y := { x with lastPkt := e.clk }
    let u := { e with nvm := { e.nvm with sess := some y } }
    e.svcOn q.srv = true → e.pwr.mode ≠ .lockout → (e.pwr.mode = .service ∨ e.nvm.noImg = true) → e.nvm.sess = some x → x.sid = q.sid → x.srv = q.srv →
    (∀ block chunk data, e.svcBusy 2 = none → e.opIs 4 .running = true → (x.st = .open_ ∨ x.st = .verified) → data.length = 128 → chunk ≤ 7 →
      block ≤ blockMax x.target →
      let z := { y with st := .open_, chunks := Sparse.set [] x.chunks (8 * block + chunk) data }
      z.block block = none → exec (.svcWrite dt q block chunk data) s = .next ((u.setSess z).reply q 2 0 0 [])) ∧
    (∀ block chunk data b, e.svcBusy 2 = none → e.opIs 4 .running = true → (x.st = .open_ ∨ x.st = .verified) → data.length = 128 → chunk ≤ 7 →
      block ≤ blockMax x.target →
      let z := { y with st := .open_, chunks := Sparse.set [] x.chunks (8 * block + chunk) data }
      let kept := z.chunks.filter (fun k => decide (k.1 / 8 ≠ block))
      z.block block = some b →
      (leField b 1020 4 ≠ crc32c (b.take 1020) →
        exec (.svcWrite dt q block chunk data) s = .next (((u.setSess z).setSess { z with chunks := kept }).reply q 2 5 0 [])) ∧
      (leField b 1020 4 = crc32c (b.take 1020) →
        let z1 := { z with chunks := kept, good := insertAsc block z.good, hdr := if block = 0 then b.take 512 else z.hdr }
        let v := (u.setSess z).setSess z1
        let w := { v with nvm :=
          { v.nvm with rcvC := z1.good.length, rcvN := if block = 0 then hdrField z1.hdr 0x24 2 else v.nvm.rcvN } }
        let r := w.putBlock z1 block b
        exec (.svcWrite dt q block chunk data) s =
          .next (if r.1 = true then r.2.reply q 2 0 0 [] else (r.2.endSess .failed 4 4 true).reply q 2 2 0 []))) ∧
    (∀ block chunk data, e.svcBusy 2 = none → data.length ≠ 128 → exec (.svcWrite dt q block chunk data) s = .next (u.reply q 2 8 0 [])) ∧
    (e.svcBusy 4 = none → e.opIs 4 .running = true → (x.st = .open_ ∨ x.st = .verified) →
      let r := u.verify y
      let v := { r.2 with nvm := { r.2.nvm with check := r.1 } }
      exec (.svcVerify dt q) s =
        .next (if r.1 = 0 then (r.2.setSess { y with st := .verified }).reply q 4 0 0 []
          else (v.setSess { y with st := .open_ }).reply q 4 6 r.1 [])) ∧
    (∀ tact lo hi, e.svcBusy 5 = none → (e.opIs 4 .running = false ∨ x.st ≠ .verified) →
      exec (.svcActivate dt q tact lo hi) s = .next (u.reply q 5 3 0 [])) ∧
    (∀ tact lo hi, e.svcBusy 5 = none → e.opIs 4 .running = true → x.st = .verified →
      let i := hdrImg x.hdr
      let z := { y with st := .scheduled, tact := tact, now := decide (tact = 0), goAt := e.clk + e.cycle }
      tact = 0 ∨ (e.nvm.noImg = false ∧ e.tbn + 2000000 ≤ tact.toNat ∧ tact.toNat ≤ e.tbn + 120000000000) →
      ((lo < i.pmin ∨ i.pmax < lo ∨ hi < i.pmin ∨ i.pmax < hi) →
        exec (.svcActivate dt q tact lo hi) s =
          .next (({ u with nvm := { u.nvm with check := 9 } }).reply q 5 6 9 [])) ∧
      (i.pmin ≤ lo → lo ≤ i.pmax → i.pmin ≤ hi → hi ≤ i.pmax →
        exec (.svcActivate dt q tact lo hi) s =
          .next ((({ u with nvm := { u.nvm with tactReg := tact.setWidth 32 } }).setSess z).reply q 5 0 0 []))) ∧
    (e.svcBusy 6 = none → x.st ≠ .activating → exec (.svcClose dt q) s = .next ((u.endSess .cancelled 2 0 true).reply q 6 0 0 [])) ∧
    (e.svcBusy 8 = none → exec (.svcRestart dt q) s = .next ((u.reply q 8 0 0 []).stewardStop))) ∧
  (∀ (u : State) (q : SvcReq) (op st d : Nat) (b : Bytes), q.srv = true →
    u.reply q op st d b =
      { u with nvm :=
        { u.nvm with srvOut := srvFrame (beBytes 1 (op % 128 + 128) ++ beBytes 1 q.seq ++ beBytes 1 st ++ beBytes 1 d ++ b) } }) ∧
  (∀ p : Bytes, srvFrame p =
    let b := beBytes 2 p.length ++ p
    beBytes 1 0x7E ++ b ++ beBytes 2 (crcOf (crcAlg 0) b))

/-- Activation, confirmation and the ends of an update (R426, R431 to R433): the activation waits for its T and for a hold,
then has the effect of its target; an image is confirmed after its conditions have held, or falls back at the end of its
window; a silent session ends. -/
def Obligations.UpdateActivation : Prop :=
  (∀ (s : State) (dt : Nat) (x : Sess),
    let e := s.elapse dt
    e.nvm.sess = some x →
    ((x.st = .open_ ∨ x.st = .verified) → (e.stw = true ∨ e.nvm.noImg = true) →
      exec (.sessionTimeout dt) s = .next ((e.until_ (x.lastPkt + 6000000000)).endSess .failed 4 3 true)) ∧
    ((x.st = .scheduled ∨ x.st = .activating) → (e.stw = true ∨ e.nvm.noImg = true) → e.opIs 4 .running = true →
      let y := { x with st := .activating }
      let u := (if x.now = true then e.until_ x.goAt else e.untilTb x.tact).setSess y
      (u.mramHeld = true → exec (.activation dt) s = .next u) ∧
      (u.mramHeld = false → x.target = 3 → exec (.activation dt) s = .next (u.flushWrites.activateProgram y)) ∧
      (u.mramHeld = false → x.target = 1 → exec (.activation dt) s = .next (u.flushWrites.launch y)) ∧
      (u.mramHeld = false → x.target ≠ 1 → x.target ≠ 3 →
        let r := u.flushWrites.imageRead y
        let v := r.2
        (r.1 = false ∨ v.activated y = none → exec (.activation dt) s = .next (v.endSess .failed 4 2 true)) ∧
        (∀ w, r.1 = true → v.activated y = some w → x.target ≠ 4 → exec (.activation dt) s = .next (w.doneSess true)) ∧
        (∀ w, r.1 = true → v.activated y = some w → x.target = 4 →
          let d := w.doneSess true
          exec (.activation dt) s = .next (if d.pwr.commit = none then d.beginCommit d.pwr.mode .auto else d))))) ∧
  (∀ (s : State) (dt : Nat),
    let e := s.elapse dt
    (∀ t0, e.linkSince = some t0 → e.nvm.act = 1 → e.stw = true → e.nvm.launchOk = true → e.stwSramBad = false → (e.bit 0x1F03 31 = true → e.nvm.confirm = true) →
      e.mramHeld = false →
      let u := e.until_ (t0 + 1000000000)
      u.clk ≤ u.nvm.actAt + u.confirmTicks →
      let v := (u.jrnStep (fun j => { j with st := .idle, slots := [] })).flushWrites
      exec (.imageConfirm dt) s = .next ((v.logUpdate 5 1 0 v.nvm.img.ver v.nvm.prev).setAct 2 0)) ∧
    (e.nvm.act = 1 → e.stw = true →
      exec (.confirmWindowExpiry dt) s = .next (((e.until_ (e.nvm.actAt + e.confirmTicks)).fallBack 1).stewardStop)) ∧
    (∀ got, exec (.serviceFrameGap ⟨dt, got⟩) s = .next ((srvPackets (got.length + 1) got).foldl State.srvTake e))) ∧
  (∀ (p : Bytes) (rest : Bytes) (n : Nat), 4 ≤ p.length → p.length ≤ 256 →
    srvPackets (n + 1) (srvFrame p ++ rest) = p :: srvPackets n rest) ∧
  (∀ (k n : Nat) (rest : Bytes), 256 < k → k < 65536 → srvPackets (n + 1) (0x7E :: (beBytes 2 k ++ rest)) = srvPackets n rest) ∧
  (∀ (u : State) (cause : Nat),
    u.pwr.mode = .reset → (u.fallBack cause).nvm.act = 3 ∧ (u.fallBack cause).nvm.fbCause = cause ∧ (u.fallBack cause).nvm.fbDue = true ∧
      OnlyIn [.nvm] u (u.fallBack cause)) ∧
  (∀ (u : State),
    u.dropSess.nvm.sess = none ∧ u.dropSess.nvm.ifc = 0 ∧ OnlyIn [.nvm] u u.dropSess)
end

