-- ==== Sys2Proof/Laws/Exec.lean ====
section
/-! SUPPORT. Laws/Exec.lean: the meaning that exec calls for each command, one lemma per arm, so that no proof unfolds exec. -/

namespace Sys2Proof.Machine

variable (s : State) (dt : Nat)

@[simp] theorem exec_registerWrite (rq : Requester) (addr : Nat) (val : Word) :
    exec (.registerWrite dt rq addr val) s = execRegisterWrite dt rq addr val s := rfl
@[simp] theorem exec_powerOnReset (test : Bool) : exec (.powerOnReset dt test) s = execPowerOnReset dt test s := rfl
@[simp] theorem exec_supplyReset (src : Nat) (test : Bool) :
    exec (.supplyReset dt src test) s = execSupplyReset dt src test s := rfl
@[simp] theorem exec_commandReset (rq : Requester) (test : Bool) :
    exec (.commandReset dt rq test) s = execCommandReset dt rq test s := rfl
@[simp] theorem exec_wakeReset (cause : Nat) (test : Bool) :
    exec (.wakeReset dt cause test) s = execWakeReset dt cause test s := rfl
@[simp] theorem exec_loaderStart (aOk : Bool) (bOk : Bool) :
    exec (.loaderStart dt aOk bOk) s = execLoaderStart dt aOk bOk s := rfl
@[simp] theorem exec_imageCopyDone (ok : Bool) : exec (.imageCopyDone dt ok) s = execImageCopyDone dt ok s := rfl
@[simp] theorem exec_configLoad : exec (.configLoad dt) s = execConfigLoad dt s := rfl
@[simp] theorem exec_portEnable : exec (.portEnable dt) s = execPortEnable dt s := rfl
@[simp] theorem exec_startModeEntry : exec (.startModeEntry dt) s = execStartModeEntry dt s := rfl
@[simp] theorem exec_autoload : exec (.autoload dt) s = execAutoload dt s := rfl
@[simp] theorem exec_supplyDipStart (v : VstkAt) : exec (.supplyDipStart v) s = execSupplyDipStart v s := rfl
@[simp] theorem exec_supplyDipEnd (vmin : Nat) : exec (.supplyDipEnd dt vmin) s = execSupplyDipEnd dt vmin s := rfl
@[simp] theorem exec_railSupervisorTrip (rail : Nat) :
    exec (.railSupervisorTrip dt rail) s = execRailSupervisorTrip dt rail s := rfl
@[simp] theorem exec_vregFault : exec (.vregFault dt) s = execVregFault dt s := rfl
@[simp] theorem exec_stackOv : exec (.stackOv dt) s = execStackOv dt s := rfl
@[simp] theorem exec_vchnUndervoltage : exec (.vchnUndervoltage dt) s = execVchnUndervoltage dt s := rfl
@[simp] theorem exec_pllUnlock : exec (.pllUnlock dt) s = execPllUnlock dt s := rfl
@[simp] theorem exec_pllRelockRetry (ok : Bool) : exec (.pllRelockRetry dt ok) s = execPllRelockRetry dt ok s := rfl
@[simp] theorem exec_clockMonitor : exec (.clockMonitor dt) s = execClockMonitor dt s := rfl
@[simp] theorem exec_lpoFault : exec (.lpoFault dt) s = execLpoFault dt s := rfl
@[simp] theorem exec_localModeRequest (rq : Requester) (target : Nat) :
    exec (.localModeRequest dt rq target) s = execLocalModeRequest dt rq target s := rfl
@[simp] theorem exec_overlayCommit : exec (.overlayCommit dt) s = execOverlayCommit dt s := rfl
@[simp] theorem exec_stillScan (cell : Nat) (mv : Int) : exec (.stillScan dt cell mv) s = execStillScan dt cell mv s := rfl
@[simp] theorem exec_wakeTimerExpiry : exec (.wakeTimerExpiry dt) s = execWakeTimerExpiry dt s := rfl
@[simp] theorem exec_watchBurstStart : exec (.watchBurstStart dt) s = execWatchBurstStart dt s := rfl
@[simp] theorem exec_watchBurstEnd : exec (.watchBurstEnd dt) s = execWatchBurstEnd dt s := rfl
@[simp] theorem exec_buckBurstEnable : exec (.buckBurstEnable dt) s = execBuckBurstEnable dt s := rfl
@[simp] theorem exec_supervisorUnmask : exec (.supervisorUnmask dt) s = execSupervisorUnmask dt s := rfl
@[simp] theorem exec_wakePin (e : PulseAt) : exec (.wakePin e) s = execWakePin e s := rfl
@[simp] theorem exec_lpoShipStart : exec (.lpoShipStart dt) s = execLpoShipStart dt s := rfl
@[simp] theorem exec_lpoShipStop : exec (.lpoShipStop dt) s = execLpoShipStop dt s := rfl
@[simp] theorem exec_wakeToneDetected (p : PortId) : exec (.wakeToneDetected dt p) s = execWakeToneDetected dt p s := rfl
@[simp] theorem exec_lockOpen (rq : Requester) : exec (.lockOpen dt rq) s = execLockOpen dt rq s := rfl
@[simp] theorem exec_lockClose (rq : Requester) : exec (.lockClose dt rq) s = execLockClose dt rq s := rfl
@[simp] theorem exec_lockTimeout : exec (.lockTimeout dt) s = execLockTimeout dt s := rfl
@[simp] theorem exec_configSave (rq : Requester) : exec (.configSave dt rq) s = execConfigSave dt rq s := rfl
@[simp] theorem exec_configSaveDone (ok : Bool) : exec (.configSaveDone dt ok) s = execConfigSaveDone dt ok s := rfl
@[simp] theorem exec_configDiscard (rq : Requester) : exec (.configDiscard dt rq) s = execConfigDiscard dt rq s := rfl
@[simp] theorem exec_ovlEntryWrite (rq : Requester) (val : Word) :
    exec (.ovlEntryWrite dt rq val) s = execOvlEntryWrite dt rq val s := rfl
@[simp] theorem exec_modePrepare (p : PortId) (h : Header) (target : Nat) (epoch : Nat) (tc : Tick) :
    exec (.modePrepare dt p h target epoch tc) s = execModePrepare dt p h target epoch tc s := rfl
@[simp] theorem exec_modeCommit (p : PortId) (h : Header) (target : Nat) (epoch : Nat) (tc : Tick) :
    exec (.modeCommit dt p h target epoch tc) s = execModeCommit dt p h target epoch tc s := rfl
@[simp] theorem exec_chainCommitTime : exec (.chainCommitTime dt) s = execChainCommitTime dt s := rfl
@[simp] theorem exec_ncellsWrite (rq : Requester) (n : Nat) : exec (.ncellsWrite dt rq n) s = execNcellsWrite dt rq n s := rfl
@[simp] theorem exec_owStart (rq : Requester) : exec (.owStart dt rq) s = execOwStart dt rq s := rfl
@[simp] theorem exec_owPeriodExpiry : exec (.owPeriodExpiry dt) s = execOwPeriodExpiry dt s := rfl
@[simp] theorem exec_owPhaseStart : exec (.owPhaseStart dt) s = execOwPhaseStart dt s := rfl
@[simp] theorem exec_owBaselineStart : exec (.owBaselineStart dt) s = execOwBaselineStart dt s := rfl
@[simp] theorem exec_owSinksOn : exec (.owSinksOn dt) s = execOwSinksOn dt s := rfl
@[simp] theorem exec_owCheckStart : exec (.owCheckStart dt) s = execOwCheckStart dt s := rfl
@[simp] theorem exec_owEvaluate : exec (.owEvaluate dt) s = execOwEvaluate dt s := rfl
@[simp] theorem exec_owPhaseEnd : exec (.owPhaseEnd dt) s = execOwPhaseEnd dt s := rfl
@[simp] theorem exec_decimatedSample (m : Nat) (xs : List Int) (overload : Bool) :
    exec (.decimatedSample dt m xs overload) s = execDecimatedSample dt m xs overload s := rfl
@[simp] theorem exec_rotationVisitStart (sp : Nat) : exec (.rotationVisitStart dt sp) s = execRotationVisitStart dt sp s := rfl
@[simp] theorem exec_spareCalDone (sp : Nat) (off : Int) (gain : Nat) :
    exec (.spareCalDone dt sp off gain) s = execSpareCalDone dt sp off gain s := rfl
@[simp] theorem exec_matchWindowEnd (sp : Nat) (diff : Int) :
    exec (.matchWindowEnd dt sp diff) s = execMatchWindowEnd dt sp diff s := rfl
@[simp] theorem exec_handover (sp : Nat) : exec (.handover dt sp) s = execHandover dt sp s := rfl
@[simp] theorem exec_modulatorCalDone (sp : Nat) (off : Int) (gain : Nat) :
    exec (.modulatorCalDone dt sp off gain) s = execModulatorCalDone dt sp off gain s := rfl
@[simp] theorem exec_handBack (sp : Nat) : exec (.handBack dt sp) s = execHandBack dt sp s := rfl
@[simp] theorem exec_xmodInPlaceCal (m : Nat) (off : Int) (gain : Nat) :
    exec (.xmodInPlaceCal dt m off gain) s = execXmodInPlaceCal dt m off gain s := rfl
@[simp] theorem exec_coeffHourlyCopy : exec (.coeffHourlyCopy dt) s = execCoeffHourlyCopy dt s := rfl
@[simp] theorem exec_calRunStart (rq : Requester) (val : Word) :
    exec (.calRunStart dt rq val) s = execCalRunStart dt rq val s := rfl
@[simp] theorem exec_calTrimDone (mean : Int) : exec (.calTrimDone dt mean) s = execCalTrimDone dt mean s := rfl
@[simp] theorem exec_calPointDone (mean : Int) : exec (.calPointDone dt mean) s = execCalPointDone dt mean s := rfl
@[simp] theorem exec_calRunCommit (ok : Bool) : exec (.calRunCommit dt ok) s = execCalRunCommit dt ok s := rfl
@[simp] theorem exec_snapshot (rq : Requester) : exec (.snapshot dt rq) s = execSnapshot dt rq s := rfl
@[simp] theorem exec_resultRead (rq : Requester) (ch : Nat) : exec (.resultRead dt rq ch) s = execResultRead dt rq ch s := rfl
@[simp] theorem exec_netTblRead (rq : Requester) : exec (.netTblRead dt rq) s = execNetTblRead dt rq s := rfl
@[simp] theorem exec_netRingRead : exec (.netRingRead dt) s = execNetRingRead dt s := rfl
@[simp] theorem exec_windowAutoincAccess (rq : Requester) (addr : Nat) (wr : (Option Word)) :
    exec (.windowAutoincAccess dt rq addr wr) s = execWindowAutoincAccess dt rq addr wr s := rfl
@[simp] theorem exec_pageAck (rq : Requester) (stream : Nat) (upto : Nat) :
    exec (.pageAck dt rq stream upto) s = execPageAck dt rq stream upto s := rfl
@[simp] theorem exec_pageCloseRequest (rq : Requester) (mask : Nat) :
    exec (.pageCloseRequest dt rq mask) s = execPageCloseRequest dt rq mask s := rfl
@[simp] theorem exec_pageAgeClose (stream : Nat) : exec (.pageAgeClose dt stream) s = execPageAgeClose dt stream s := rfl
@[simp] theorem exec_streamCfgWrite (rq : Requester) (stream : Nat) (val : Word) :
    exec (.streamCfgWrite dt rq stream val) s = execStreamCfgWrite dt rq stream val s := rfl
@[simp] theorem exec_streamReset (rq : Requester) (stream : Nat) :
    exec (.streamReset dt rq stream) s = execStreamReset dt rq stream s := rfl
@[simp] theorem exec_add (j : Nat) (dst : Reg) (a : Reg) (b : Reg) : exec (.add dt j dst a b) s = execAdd dt j dst a b s := rfl
@[simp] theorem exec_sub (j : Nat) (dst : Reg) (a : Reg) (b : Reg) : exec (.sub dt j dst a b) s = execSub dt j dst a b s := rfl
@[simp] theorem exec_andOp (j : Nat) (dst : Reg) (a : Reg) (b : Reg) :
    exec (.andOp dt j dst a b) s = execAndOp dt j dst a b s := rfl
@[simp] theorem exec_orOp (j : Nat) (dst : Reg) (a : Reg) (b : Reg) : exec (.orOp dt j dst a b) s = execOrOp dt j dst a b s := rfl
@[simp] theorem exec_xorOp (j : Nat) (dst : Reg) (a : Reg) (b : Reg) :
    exec (.xorOp dt j dst a b) s = execXorOp dt j dst a b s := rfl
@[simp] theorem exec_shl (j : Nat) (dst : Reg) (a : Reg) (b : Reg) : exec (.shl dt j dst a b) s = execShl dt j dst a b s := rfl
@[simp] theorem exec_shr (j : Nat) (dst : Reg) (a : Reg) (b : Reg) : exec (.shr dt j dst a b) s = execShr dt j dst a b s := rfl
@[simp] theorem exec_sar (j : Nat) (dst : Reg) (a : Reg) (b : Reg) : exec (.sar dt j dst a b) s = execSar dt j dst a b s := rfl
@[simp] theorem exec_mul (j : Nat) (dst : Reg) (a : Reg) (b : Reg) : exec (.mul dt j dst a b) s = execMul dt j dst a b s := rfl
@[simp] theorem exec_minOp (j : Nat) (dst : Reg) (a : Reg) (b : Reg) :
    exec (.minOp dt j dst a b) s = execMinOp dt j dst a b s := rfl
@[simp] theorem exec_maxOp (j : Nat) (dst : Reg) (a : Reg) (b : Reg) :
    exec (.maxOp dt j dst a b) s = execMaxOp dt j dst a b s := rfl
@[simp] theorem exec_addi (j : Nat) (ra : Reg) (rb : Reg) (imm : Imm18) :
    exec (.addi dt j ra rb imm) s = execAddi dt j ra rb imm s := rfl
@[simp] theorem exec_lui (j : Nat) (ra : Reg) (imm : Imm18) : exec (.lui dt j ra imm) s = execLui dt j ra imm s := rfl
@[simp] theorem exec_beq (j : Nat) (ra : Reg) (rb : Reg) (imm : Imm18) :
    exec (.beq dt j ra rb imm) s = execBeq dt j ra rb imm s := rfl
@[simp] theorem exec_bne (j : Nat) (ra : Reg) (rb : Reg) (imm : Imm18) :
    exec (.bne dt j ra rb imm) s = execBne dt j ra rb imm s := rfl
@[simp] theorem exec_blt (j : Nat) (ra : Reg) (rb : Reg) (imm : Imm18) :
    exec (.blt dt j ra rb imm) s = execBlt dt j ra rb imm s := rfl
@[simp] theorem exec_bge (j : Nat) (ra : Reg) (rb : Reg) (imm : Imm18) :
    exec (.bge dt j ra rb imm) s = execBge dt j ra rb imm s := rfl
@[simp] theorem exec_loop (j : Nat) (ra : Reg) (imm : Imm18) : exec (.loop dt j ra imm) s = execLoop dt j ra imm s := rfl
@[simp] theorem exec_jmp (j : Nat) (imm : Imm26) : exec (.jmp dt j imm) s = execJmp dt j imm s := rfl
@[simp] theorem exec_callOp (j : Nat) (imm : Imm26) : exec (.callOp dt j imm) s = execCallOp dt j imm s := rfl
@[simp] theorem exec_retOp (j : Nat) : exec (.retOp dt j) s = execRetOp dt j s := rfl
@[simp] theorem exec_ld (j : Nat) (ra : Reg) (rb : Reg) (imm : Imm18) :
    exec (.ld dt j ra rb imm) s = execLd dt j ra rb imm s := rfl
@[simp] theorem exec_st (j : Nat) (ra : Reg) (rb : Reg) (imm : Imm18) :
    exec (.st dt j ra rb imm) s = execSt dt j ra rb imm s := rfl
@[simp] theorem exec_rdreg (j : Nat) (ra : Reg) (rb : Reg) (imm : Imm18) :
    exec (.rdreg dt j ra rb imm) s = execRdreg dt j ra rb imm s := rfl
@[simp] theorem exec_wrreg (j : Nat) (ra : Reg) (rb : Reg) (imm : Imm18) :
    exec (.wrreg dt j ra rb imm) s = execWrreg dt j ra rb imm s := rfl
@[simp] theorem exec_conv (j : Nat) (rd : Reg) (w : Bool) (group : BitVec 4) :
    exec (.conv dt j rd w group) s = execConv dt j rd w group s := rfl
@[simp] theorem exec_syncv (j : Nat) (rd : Reg) (ra : Reg) (w : Bool) (group : BitVec 4) :
    exec (.syncv dt j rd ra w group) s = execSyncv dt j rd ra w group s := rfl
@[simp] theorem exec_convWaitEnd (j : Nat) : exec (.convWaitEnd dt j) s = execConvWaitEnd dt j s := rfl
@[simp] theorem exec_getr (j : Nat) (rd : Reg) (ra : Reg) (ch : BitVec 6) (rsel : Bool) (v : Bool) (n : Bool) :
    exec (.getr dt j rd ra ch rsel v n) s = execGetr dt j rd ra ch rsel v n s := rfl
@[simp] theorem exec_getrNWake (j : Nat) : exec (.getrNWake dt j) s = execGetrNWake dt j s := rfl
@[simp] theorem exec_strm (j : Nat) (rd : Reg) (ra : Reg) (rb : Reg) (len1 : BitVec 6) (rsel : Bool) (stream : BitVec 4) :
    exec (.strm dt j rd ra rb len1 rsel stream) s = execStrm dt j rd ra rb len1 rsel stream s := rfl
@[simp] theorem exec_strmDecision (j : Nat) : exec (.strmDecision dt j) s = execStrmDecision dt j s := rfl
@[simp] theorem exec_lim (j : Nat) (rd : Reg) (ra : Reg) (ch : BitVec 6) (rsel : Bool) :
    exec (.lim dt j rd ra ch rsel) s = execLim dt j rd ra ch rsel s := rfl
@[simp] theorem exec_bal (j : Nat) (ra : Reg) (rb : Reg) : exec (.bal dt j ra rb) s = execBal dt j ra rb s := rfl
@[simp] theorem exec_balq (j : Nat) (rd : Reg) (ra : Reg) (rb : Reg) :
    exec (.balq dt j rd ra rb) s = execBalq dt j rd ra rb s := rfl
@[simp] theorem exec_exc (j : Nat) (rd : Reg) (kind : BitVec 2) : exec (.exc dt j rd kind) s = execExc dt j rd kind s := rfl
@[simp] theorem exec_corr (j : Nat) (rd : Reg) (ra : Reg) (bin : BitVec 3) (im : Bool) :
    exec (.corr dt j rd ra bin im) s = execCorr dt j rd ra bin im s := rfl
@[simp] theorem exec_waitOp (j : Nat) (rb : Reg) (imm : Imm18) : exec (.waitOp dt j rb imm) s = execWaitOp dt j rb imm s := rfl
@[simp] theorem exec_waitEnd (j : Nat) : exec (.waitEnd dt j) s = execWaitEnd dt j s := rfl
@[simp] theorem exec_waitt (j : Nat) (dst : Reg) (a : Reg) : exec (.waitt dt j dst a) s = execWaitt dt j dst a s := rfl
@[simp] theorem exec_waittDeadline (j : Nat) : exec (.waittDeadline dt j) s = execWaittDeadline dt j s := rfl
@[simp] theorem exec_waittRd (j : Nat) (dst : Reg) : exec (.waittRd dt j dst) s = execWaittRd dt j dst s := rfl
@[simp] theorem exec_waittRdh (j : Nat) (dst : Reg) : exec (.waittRdh dt j dst) s = execWaittRdh dt j dst s := rfl
@[simp] theorem exec_waite (j : Nat) (rd : Reg) (ra : Reg) (rb : Reg) (flag : BitVec 6) (rsel : Bool) (c : Bool) :
    exec (.waite dt j rd ra rb flag rsel c) s = execWaite dt j rd ra rb flag rsel c s := rfl
@[simp] theorem exec_waiteWake (j : Nat) : exec (.waiteWake dt j) s = execWaiteWake dt j s := rfl
@[simp] theorem exec_waiteTimeout (j : Nat) : exec (.waiteTimeout dt j) s = execWaiteTimeout dt j s := rfl
@[simp] theorem exec_sig (j : Nat) (ra : Reg) (flag : BitVec 6) (rsel : Bool) (c : Bool) :
    exec (.sig dt j ra flag rsel c) s = execSig dt j ra flag rsel c s := rfl
@[simp] theorem exec_yield (j : Nat) : exec (.yield dt j) s = execYield dt j s := rfl
@[simp] theorem exec_halt (j : Nat) (code : BitVec 16) : exec (.halt dt j code) s = execHalt dt j code s := rfl
@[simp] theorem exec_illegalInstruction (j : Nat) : exec (.illegalInstruction dt j) s = execIllegalInstruction dt j s := rfl
@[simp] theorem exec_flagSetWrite (rq : Requester) (k : Nat) (val : Word) :
    exec (.flagSetWrite dt rq k val) s = execFlagSetWrite dt rq k val s := rfl
@[simp] theorem exec_flagClearWrite (rq : Requester) (k : Nat) (val : Word) :
    exec (.flagClearWrite dt rq k val) s = execFlagClearWrite dt rq k val s := rfl
@[simp] theorem exec_programWindowWrite (rq : Requester) (val : Word) :
    exec (.programWindowWrite dt rq val) s = execProgramWindowWrite dt rq val s := rfl
@[simp] theorem exec_programLoad (rq : Requester) (stopMask : Nat) :
    exec (.programLoad dt rq stopMask) s = execProgramLoad dt rq stopMask s := rfl
@[simp] theorem exec_loadStopTimeout : exec (.loadStopTimeout dt) s = execLoadStopTimeout dt s := rfl
@[simp] theorem exec_programLoadDone : exec (.programLoadDone dt) s = execProgramLoadDone dt s := rfl
@[simp] theorem exec_jetStart (rq : Requester) (j : Nat) (addr : Nat) :
    exec (.jetStart dt rq j addr) s = execJetStart dt rq j addr s := rfl
@[simp] theorem exec_jetStop (rq : Requester) (j : Nat) : exec (.jetStop dt rq j) s = execJetStop dt rq j s := rfl
@[simp] theorem exec_jetStopTake (j : Nat) : exec (.jetStopTake dt j) s = execJetStopTake dt j s := rfl
@[simp] theorem exec_jetKill (rq : Requester) (j : Nat) : exec (.jetKill dt rq j) s = execJetKill dt rq j s := rfl
@[simp] theorem exec_jetWatchdogExpiry (j : Nat) : exec (.jetWatchdogExpiry dt j) s = execJetWatchdogExpiry dt j s := rfl
@[simp] theorem exec_groupCfgWrite (rq : Requester) (which : Nat) (g : Nat) (val : Word) :
    exec (.groupCfgWrite dt rq which g val) s = execGroupCfgWrite dt rq which g val s := rfl
@[simp] theorem exec_hostTrigger (rq : Requester) (mask : Nat) :
    exec (.hostTrigger dt rq mask) s = execHostTrigger dt rq mask s := rfl
@[simp] theorem exec_syncTickTrigger : exec (.syncTickTrigger dt) s = execSyncTickTrigger dt s := rfl
@[simp] theorem exec_syncPinEdge (rising : Bool) : exec (.syncPinEdge dt rising) s = execSyncPinEdge dt rising s := rfl
@[simp] theorem exec_intervalTimerFire (ix : Nat) : exec (.intervalTimerFire dt ix) s = execIntervalTimerFire dt ix s := rfl
@[simp] theorem exec_arbiterGrant : exec (.arbiterGrant dt) s = execArbiterGrant dt s := rfl
@[simp] theorem exec_cmdFrame (p : PortId) (h : Header) (body : Bytes) :
    exec (.cmdFrame dt p h body) s = execCmdFrame dt p h body s := rfl
@[simp] theorem exec_trigCmd : exec (.trigCmd dt) s = execTrigCmd dt s := rfl
@[simp] theorem exec_jstartCmd : exec (.jstartCmd dt) s = execJstartCmd dt s := rfl
@[simp] theorem exec_jstopCmd : exec (.jstopCmd dt) s = execJstopCmd dt s := rfl
@[simp] theorem exec_jkillCmd : exec (.jkillCmd dt) s = execJkillCmd dt s := rfl
@[simp] theorem exec_flagsCmd : exec (.flagsCmd dt) s = execFlagsCmd dt s := rfl
@[simp] theorem exec_opCmd : exec (.opCmd dt) s = execOpCmd dt s := rfl
@[simp] theorem exec_loadCmd : exec (.loadCmd dt) s = execLoadCmd dt s := rfl
@[simp] theorem exec_opSuspend (rq : Requester) (tag : Nat) : exec (.opSuspend dt rq tag) s = execOpSuspend dt rq tag s := rfl
@[simp] theorem exec_opResume (rq : Requester) (tag : Nat) : exec (.opResume dt rq tag) s = execOpResume dt rq tag s := rfl
@[simp] theorem exec_opCancel (rq : Requester) (tag : Nat) : exec (.opCancel dt rq tag) s = execOpCancel dt rq tag s := rfl
@[simp] theorem exec_opSuspended (kind : Nat) : exec (.opSuspended dt kind) s = execOpSuspended dt kind s := rfl
@[simp] theorem exec_opCancelled (kind : Nat) : exec (.opCancelled dt kind) s = execOpCancelled dt kind s := rfl
@[simp] theorem exec_sluiceFrameStart : exec (.sluiceFrameStart dt) s = execSluiceFrameStart dt s := rfl
@[simp] theorem exec_slotStart (meas : (List SlotMeas)) : exec (.slotStart dt meas) s = execSlotStart dt meas s := rfl
@[simp] theorem exec_balLevelWrite (rq : Requester) (cell : Nat) (level : Nat) :
    exec (.balLevelWrite dt rq cell level) s = execBalLevelWrite dt rq cell level s := rfl
@[simp] theorem exec_balQuotaWrite (rq : Requester) (cell : Nat) (quota : Word) :
    exec (.balQuotaWrite dt rq cell quota) s = execBalQuotaWrite dt rq cell quota s := rfl
@[simp] theorem exec_xfetWrite (rq : Requester) (val : Word) : exec (.xfetWrite dt rq val) s = execXfetWrite dt rq val s := rfl
@[simp] theorem exec_balOvercurrent (cell : Nat) : exec (.balOvercurrent dt cell) s = execBalOvercurrent dt cell s := rfl
@[simp] theorem exec_balCurrentCheck (cell : Nat) (cur : Nat) :
    exec (.balCurrentCheck dt cell cur) s = execBalCurrentCheck dt cell cur s := rfl
@[simp] theorem exec_balStuckOn (cell : Nat) (cur : Nat) : exec (.balStuckOn dt cell cur) s = execBalStuckOn dt cell cur s := rfl
@[simp] theorem exec_balGateCheck (cell : Nat) (vgs : Int) (vcell : Int) :
    exec (.balGateCheck dt cell vgs vcell) s = execBalGateCheck dt cell vgs vcell s := rfl
@[simp] theorem exec_spectrumStart (rq : Requester) (val : Word) :
    exec (.spectrumStart dt rq val) s = execSpectrumStart dt rq val s := rfl
@[simp] theorem exec_spectrumRunBegin : exec (.spectrumRunBegin dt) s = execSpectrumRunBegin dt s := rfl
@[simp] theorem exec_currentTrimDone (sense : (List TrimMeas)) :
    exec (.currentTrimDone dt sense) s = execCurrentTrimDone dt sense s := rfl
@[simp] theorem exec_passExcite : exec (.passExcite dt) s = execPassExcite dt s := rfl
@[simp] theorem exec_excitationEdge : exec (.excitationEdge dt) s = execExcitationEdge dt s := rfl
@[simp] theorem exec_windowOpen : exec (.windowOpen dt) s = execWindowOpen dt s := rfl
@[simp] theorem exec_windowClose : exec (.windowClose dt) s = execWindowClose dt s := rfl
@[simp] theorem exec_passEnd : exec (.passEnd dt) s = execPassEnd dt s := rfl
@[simp] theorem exec_publish (cur : (List CurSense)) : exec (.publish dt cur) s = execPublish dt cur s := rfl
@[simp] theorem exec_currentPhasorSend (n : Nat) : exec (.currentPhasorSend dt n) s = execCurrentPhasorSend dt n s := rfl
@[simp] theorem exec_peerFrame (p : PortId) (h : Header) (payload : Bytes) :
    exec (.peerFrame dt p h payload) s = execPeerFrame dt p h payload s := rfl
@[simp] theorem exec_currentTimeout (n : Nat) : exec (.currentTimeout dt n) s = execCurrentTimeout dt n s := rfl
@[simp] theorem exec_spectrumHeldTimeout : exec (.spectrumHeldTimeout dt) s = execSpectrumHeldTimeout dt s := rfl
@[simp] theorem exec_f1TrackDone (lay : Nat) : exec (.f1TrackDone dt lay) s = execF1TrackDone dt lay s := rfl
@[simp] theorem exec_f1TrackTimeout : exec (.f1TrackTimeout dt) s = execF1TrackTimeout dt s := rfl
@[simp] theorem exec_regFrame (p : PortId) (h : Header) (payload : Bytes) :
    exec (.regFrame dt p h payload) s = execRegFrame dt p h payload s := rfl
@[simp] theorem exec_regRspFrame (p : PortId) (h : Header) (payload : Bytes) :
    exec (.regRspFrame dt p h payload) s = execRegRspFrame dt p h payload s := rfl
@[simp] theorem exec_cmdRspFrame (p : PortId) (h : Header) (payload : Bytes) :
    exec (.cmdRspFrame dt p h payload) s = execCmdRspFrame dt p h payload s := rfl
@[simp] theorem exec_bsnRdFrame (p : PortId) (h : Header) (payload : Bytes) :
    exec (.bsnRdFrame dt p h payload) s = execBsnRdFrame dt p h payload s := rfl
@[simp] theorem exec_bsnHitFrame (p : PortId) (h : Header) (payload : Bytes) :
    exec (.bsnHitFrame dt p h payload) s = execBsnHitFrame dt p h payload s := rfl
@[simp] theorem exec_bsnMissFrame (p : PortId) (h : Header) (payload : Bytes) :
    exec (.bsnMissFrame dt p h payload) s = execBsnMissFrame dt p h payload s := rfl
@[simp] theorem exec_syncFrame (p : PortId) (h : Header) (tOrigin : Tick) (corr : Nat) (sseq : Nat) (hops : Nat) :
    exec (.syncFrame dt p h tOrigin corr sseq hops) s = execSyncFrame dt p h tOrigin corr sseq hops s := rfl
@[simp] theorem exec_notifyFrame (p : PortId) (h : Header) (payload : Bytes) :
    exec (.notifyFrame dt p h payload) s = execNotifyFrame dt p h payload s := rfl
@[simp] theorem exec_svcFrame (p : PortId) (h : Header) (payload : Bytes) :
    exec (.svcFrame dt p h payload) s = execSvcFrame dt p h payload s := rfl
@[simp] theorem exec_svcRspFrame (p : PortId) (h : Header) (payload : Bytes) :
    exec (.svcRspFrame dt p h payload) s = execSvcRspFrame dt p h payload s := rfl
@[simp] theorem exec_frameForward (p : PortId) (f : Frame) (x : Tail) :
    exec (.frameForward dt p f x) s = execFrameForward dt p f x s := rfl
@[simp] theorem exec_lnkToken (p : PortId) (info : Byte) : exec (.lnkToken dt p info) s = execLnkToken dt p info s := rfl
@[simp] theorem exec_transmitStart (x : TxAt) : exec (.transmitStart dt x) s = execTransmitStart dt x s := rfl
@[simp] theorem exec_trainingLnk (x : TxAt) : exec (.trainingLnk dt x) s = execTrainingLnk dt x s := rfl
@[simp] theorem exec_keepalive (x : TxAt) : exec (.keepalive dt x) s = execKeepalive dt x s := rfl
@[simp] theorem exec_linkTimeout (p : PortId) : exec (.linkTimeout dt p) s = execLinkTimeout dt p s := rfl
@[simp] theorem exec_wakeToneSend (rq : Requester) (north : Bool) (south : Bool) :
    exec (.wakeToneSend dt rq north south) s = execWakeToneSend dt rq north south s := rfl
@[simp] theorem exec_wakeToneEnd (p : PortId) : exec (.wakeToneEnd dt p) s = execWakeToneEnd dt p s := rfl
@[simp] theorem exec_wakeToneRelay : exec (.wakeToneRelay dt) s = execWakeToneRelay dt s := rfl
@[simp] theorem exec_counterClear (rq : Requester) : exec (.counterClear dt rq) s = execCounterClear dt rq s := rfl
@[simp] theorem exec_enumStart (rq : Requester) (clear : Bool) :
    exec (.enumStart dt rq clear) s = execEnumStart dt rq clear s := rfl
@[simp] theorem exec_enumAssignTimeout : exec (.enumAssignTimeout dt) s = execEnumAssignTimeout dt s := rfl
@[simp] theorem exec_netClear (p : PortId) (h : Header) (hops : Nat) :
    exec (.netClear dt p h hops) s = execNetClear dt p h hops s := rfl
@[simp] theorem exec_netAssign (p : PortId) (h : Header) (hops : Nat) :
    exec (.netAssign dt p h hops) s = execNetAssign dt p h hops s := rfl
@[simp] theorem exec_netDiscover (p : PortId) (h : Header) (hops : Nat) :
    exec (.netDiscover dt p h hops) s = execNetDiscover dt p h hops s := rfl
@[simp] theorem exec_netReverse (p : PortId) (h : Header) (hops : Nat) :
    exec (.netReverse dt p h hops) s = execNetReverse dt p h hops s := rfl
@[simp] theorem exec_netNormal (p : PortId) (h : Header) (hops : Nat) :
    exec (.netNormal dt p h hops) s = execNetNormal dt p h hops s := rfl
@[simp] theorem exec_netAssigned (p : PortId) (h : Header) (payload : Bytes) :
    exec (.netAssigned dt p h payload) s = execNetAssigned dt p h payload s := rfl
@[simp] theorem exec_netPresent (p : PortId) (h : Header) (payload : Bytes) :
    exec (.netPresent dt p h payload) s = execNetPresent dt p h payload s := rfl
@[simp] theorem exec_netReversed (p : PortId) (h : Header) (payload : Bytes) :
    exec (.netReversed dt p h payload) s = execNetReversed dt p h payload s := rfl
@[simp] theorem exec_netLinkDown (p : PortId) (h : Header) (payload : Bytes) :
    exec (.netLinkDown dt p h payload) s = execNetLinkDown dt p h payload s := rfl
@[simp] theorem exec_netHealed (p : PortId) (h : Header) (payload : Bytes) :
    exec (.netHealed dt p h payload) s = execNetHealed dt p h payload s := rfl
@[simp] theorem exec_modeAckFrame (p : PortId) (h : Header) (payload : Bytes) :
    exec (.modeAckFrame dt p h payload) s = execModeAckFrame dt p h payload s := rfl
@[simp] theorem exec_linkDownSend (p : PortId) : exec (.linkDownSend dt p) s = execLinkDownSend dt p s := rfl
@[simp] theorem exec_hostNop : exec (.hostNop dt) s = execHostNop dt s := rfl
@[simp] theorem exec_txqPut (handle : Nat) (typ : Nat) (addr : Nat) (len : Nat) (payload : Bytes) (err : HostErr) :
    exec (.txqPut dt handle typ addr len payload err) s = execTxqPut dt handle typ addr len payload err s := rfl
@[simp] theorem exec_rxqGet (full : Bool) (err : HostErr) : exec (.rxqGet dt full err) s = execRxqGet dt full err s := rfl
@[simp] theorem exec_regRd (addr : Nat) (count : Nat) (err : HostErr) :
    exec (.regRd dt addr count err) s = execRegRd dt addr count err s := rfl
@[simp] theorem exec_regWr (addr : Nat) (data : (List Word)) (err : HostErr) :
    exec (.regWr dt addr data err) s = execRegWr dt addr data err s := rfl
@[simp] theorem exec_tagTimeout (tag : Nat) : exec (.tagTimeout dt tag) s = execTagTimeout dt tag s := rfl
@[simp] theorem exec_broadcastWindowEnd (tag : Nat) : exec (.broadcastWindowEnd dt tag) s = execBroadcastWindowEnd dt tag s := rfl
@[simp] theorem exec_syncSend : exec (.syncSend dt) s = execSyncSend dt s := rfl
@[simp] theorem exec_hopDelayLnk (x : TxAt) (rtt : Nat) : exec (.hopDelayLnk dt x rtt) s = execHopDelayLnk dt x rtt s := rfl
@[simp] theorem exec_syncLossExpiry : exec (.syncLossExpiry dt) s = execSyncLossExpiry dt s := rfl
@[simp] theorem exec_ringLossExpiry : exec (.ringLossExpiry dt) s = execRingLossExpiry dt s := rfl
@[simp] theorem exec_reverseCollectClose : exec (.reverseCollectClose dt) s = execReverseCollectClose dt s := rfl
@[simp] theorem exec_heal (rq : Requester) : exec (.heal dt rq) s = execHeal dt rq s := rfl
@[simp] theorem exec_chkStart (rq : Requester) (n : Nat) (val : Word) :
    exec (.chkStart dt rq n val) s = execChkStart dt rq n val s := rfl
@[simp] theorem exec_chkData (rq : Requester) (n : Nat) (val : Word) :
    exec (.chkData dt rq n val) s = execChkData dt rq n val s := rfl
@[simp] theorem exec_chkByte (rq : Requester) (n : Nat) (val : Word) :
    exec (.chkByte dt rq n val) s = execChkByte dt rq n val s := rfl
@[simp] theorem exec_chkFeed (rq : Requester) (n : Nat) (val : Word) :
    exec (.chkFeed dt rq n val) s = execChkFeed dt rq n val s := rfl
@[simp] theorem exec_chkFeedDone (n : Nat) : exec (.chkFeedDone dt n) s = execChkFeedDone dt n s := rfl
@[simp] theorem exec_chkFinish (rq : Requester) (n : Nat) : exec (.chkFinish dt rq n) s = execChkFinish dt rq n s := rfl
@[simp] theorem exec_chkAbort (rq : Requester) (n : Nat) : exec (.chkAbort dt rq n) s = execChkAbort dt rq n s := rfl
@[simp] theorem exec_chkIdleRelease (n : Nat) : exec (.chkIdleRelease dt n) s = execChkIdleRelease dt n s := rfl
@[simp] theorem exec_rilSearch (rq : Requester) : exec (.rilSearch dt rq) s = execRilSearch dt rq s := rfl
@[simp] theorem exec_autoSearch : exec (.autoSearch dt) s = execAutoSearch dt s := rfl
@[simp] theorem exec_rlvOn : exec (.rlvOn dt) s = execRlvOn dt s := rfl
@[simp] theorem exec_queryDone (slots : (List SlotReply)) : exec (.queryDone dt slots) s = execQueryDone dt slots s := rfl
@[simp] theorem exec_rilEcho (ok : Bool) : exec (.rilEcho dt ok) s = execRilEcho dt ok s := rfl
@[simp] theorem exec_pollRound : exec (.pollRound dt) s = execPollRound dt s := rfl
@[simp] theorem exec_pollRead : exec (.pollRead dt) s = execPollRead dt s := rfl
@[simp] theorem exec_directTransaction (rq : Requester) (val : Word) :
    exec (.directTransaction dt rq val) s = execDirectTransaction dt rq val s := rfl
@[simp] theorem exec_replyTimeout : exec (.replyTimeout dt) s = execReplyTimeout dt s := rfl
@[simp] theorem exec_rlvCurrentLimit : exec (.rlvCurrentLimit dt) s = execRlvCurrentLimit dt s := rfl
@[simp] theorem exec_rlvRetry : exec (.rlvRetry dt) s = execRlvRetry dt s := rfl
@[simp] theorem exec_busStuck : exec (.busStuck dt) s = execBusStuck dt s := rfl
@[simp] theorem exec_stickyClear (rq : Requester) (k : Nat) (val : Word) :
    exec (.stickyClear dt rq k val) s = execStickyClear dt rq k val s := rfl
@[simp] theorem exec_secondaryClear (rq : Requester) (k : Nat) (val : Word) :
    exec (.secondaryClear dt rq k val) s = execSecondaryClear dt rq k val s := rfl
@[simp] theorem exec_clearAll (rq : Requester) : exec (.clearAll dt rq) s = execClearAll dt rq s := rfl
@[simp] theorem exec_shadowEnd (mode : Bool) : exec (.shadowEnd dt mode) s = execShadowEnd dt mode s := rfl
@[simp] theorem exec_aliveKey : exec (.aliveKey dt) s = execAliveKey dt s := rfl
@[simp] theorem exec_stewardWatchdog : exec (.stewardWatchdog dt) s = execStewardWatchdog dt s := rfl
@[simp] theorem exec_stewardStart : exec (.stewardStart dt) s = execStewardStart dt s := rfl
@[simp] theorem exec_flowToggle : exec (.flowToggle dt) s = execFlowToggle dt s := rfl
@[simp] theorem exec_flowDrop : exec (.flowDrop dt) s = execFlowDrop dt s := rfl
@[simp] theorem exec_ledgerWrite : exec (.ledgerWrite dt) s = execLedgerWrite dt s := rfl
@[simp] theorem exec_sensorStep (readings : List Int) : exec (.sensorStep dt readings) s = execSensorStep dt readings s := rfl
@[simp] theorem exec_graceExpiry : exec (.graceExpiry dt) s = execGraceExpiry dt s := rfl
@[simp] theorem exec_thermalShutdown : exec (.thermalShutdown dt) s = execThermalShutdown dt s := rfl
@[simp] theorem exec_sensorRestore (rq : Requester) (mask : Nat) :
    exec (.sensorRestore dt rq mask) s = execSensorRestore dt rq mask s := rfl
@[simp] theorem exec_backgroundSlice : exec (.backgroundSlice dt) s = execBackgroundSlice dt s := rfl
@[simp] theorem exec_sliceEnd (unit : Nat) (resp : List Word) (meas : SliceMeas) :
    exec (.sliceEnd dt unit resp meas) s = execSliceEnd dt unit resp meas s := rfl
@[simp] theorem exec_sliceBudgetExpiry (unit : Nat) : exec (.sliceBudgetExpiry dt unit) s = execSliceBudgetExpiry dt unit s := rfl
@[simp] theorem exec_sliceCut (unit : Nat) (cut : Nat) (reinit : Nat) :
    exec (.sliceCut dt unit cut reinit) s = execSliceCut dt unit cut reinit s := rfl
@[simp] theorem exec_confirmSlice : exec (.confirmSlice dt) s = execConfirmSlice dt s := rfl
@[simp] theorem exec_campaign (rq : Requester) : exec (.campaign dt rq) s = execCampaign dt rq s := rfl
@[simp] theorem exec_repair (rq : Requester) (unit : Nat) : exec (.repair dt rq unit) s = execRepair dt rq unit s := rfl
@[simp] theorem exec_bstCounterClear (rq : Requester) : exec (.bstCounterClear dt rq) s = execBstCounterClear dt rq s := rfl
@[simp] theorem exec_repairMapStore (ok : Bool) : exec (.repairMapStore dt ok) s = execRepairMapStore dt ok s := rfl
@[simp] theorem exec_mramRowRepair (row : Nat) : exec (.mramRowRepair dt row) s = execMramRowRepair dt row s := rfl
@[simp] theorem exec_mramPageWrite : exec (.mramPageWrite dt) s = execMramPageWrite dt s := rfl
@[simp] theorem exec_scrubStart (rq : (Option Requester)) : exec (.scrubStart dt rq) s = execScrubStart dt rq s := rfl
@[simp] theorem exec_scrubPage : exec (.scrubPage dt) s = execScrubPage dt s := rfl
@[simp] theorem exec_bind (rq : Requester) : exec (.bind dt rq) s = execBind dt rq s := rfl
@[simp] theorem exec_unbind (rq : Requester) : exec (.unbind dt rq) s = execUnbind dt rq s := rfl
@[simp] theorem exec_bindingWriteDone (ok : Bool) : exec (.bindingWriteDone dt ok) s = execBindingWriteDone dt ok s := rfl
@[simp] theorem exec_customerWrite (rq : Requester) (val : Word) :
    exec (.customerWrite dt rq val) s = execCustomerWrite dt rq val s := rfl
@[simp] theorem exec_svcOpen (q : SvcReq) (target : Nat) : exec (.svcOpen dt q target) s = execSvcOpen dt q target s := rfl
@[simp] theorem exec_svcWrite (q : SvcReq) (block : Nat) (chunk : Nat) (data : Bytes) :
    exec (.svcWrite dt q block chunk data) s = execSvcWrite dt q block chunk data s := rfl
@[simp] theorem exec_svcStatus (q : SvcReq) : exec (.svcStatus dt q) s = execSvcStatus dt q s := rfl
@[simp] theorem exec_svcVerify (q : SvcReq) : exec (.svcVerify dt q) s = execSvcVerify dt q s := rfl
@[simp] theorem exec_svcActivate (q : SvcReq) (tact : Tick) (chainMin : Nat) (chainMax : Nat) :
    exec (.svcActivate dt q tact chainMin chainMax) s = execSvcActivate dt q tact chainMin chainMax s := rfl
@[simp] theorem exec_svcClose (q : SvcReq) : exec (.svcClose dt q) s = execSvcClose dt q s := rfl
@[simp] theorem exec_svcConfirm (q : SvcReq) : exec (.svcConfirm dt q) s = execSvcConfirm dt q s := rfl
@[simp] theorem exec_svcRestart (q : SvcReq) : exec (.svcRestart dt q) s = execSvcRestart dt q s := rfl
@[simp] theorem exec_svcRead (q : SvcReq) (addr : Nat) (count : Nat) :
    exec (.svcRead dt q addr count) s = execSvcRead dt q addr count s := rfl
@[simp] theorem exec_svcKeyslot (q : SvcReq) (require : Bool) (x : Bytes) (y : Bytes) :
    exec (.svcKeyslot dt q require x y) s = execSvcKeyslot dt q require x y s := rfl
@[simp] theorem exec_activation : exec (.activation dt) s = execActivation dt s := rfl
@[simp] theorem exec_sessionTimeout : exec (.sessionTimeout dt) s = execSessionTimeout dt s := rfl
@[simp] theorem exec_imageConfirm : exec (.imageConfirm dt) s = execImageConfirm dt s := rfl
@[simp] theorem exec_confirmWindowExpiry : exec (.confirmWindowExpiry dt) s = execConfirmWindowExpiry dt s := rfl
@[simp] theorem exec_vstkResetRising (e : TestAt) : exec (.vstkResetRising e) s = execVstkResetRising e s := rfl
@[simp] theorem exec_supplyDipRecovery (v : VstkAt) : exec (.supplyDipRecovery v) s = execSupplyDipRecovery v s := rfl
@[simp] theorem exec_stackLimitReturn : exec (.stackLimitReturn dt) s = execStackLimitReturn dt s := rfl
@[simp] theorem exec_vregRecovery : exec (.vregRecovery dt) s = execVregRecovery dt s := rfl
@[simp] theorem exec_vchnRestored : exec (.vchnRestored dt) s = execVchnRestored dt s := rfl
@[simp] theorem exec_referenceOscillatorRecovery :
    exec (.referenceOscillatorRecovery dt) s = execReferenceOscillatorRecovery dt s := rfl
@[simp] theorem exec_lpoRecovery : exec (.lpoRecovery dt) s = execLpoRecovery dt s := rfl
@[simp] theorem exec_receiveCheckFailure (p : PortId) (bad : BadRx) :
    exec (.receiveCheckFailure dt p bad) s = execReceiveCheckFailure dt p bad s := rfl
@[simp] theorem exec_serviceFrameGap (e : GapAt) : exec (.serviceFrameGap e) s = execServiceFrameGap e s := rfl
@[simp] theorem exec_rillReply (bytes : Bytes) (crc : Byte) :
    exec (.rillReply dt bytes crc) s = execRillReply dt bytes crc s := rfl
@[simp] theorem exec_faultWindowExpiry (ix : Nat) : exec (.faultWindowExpiry dt ix) s = execFaultWindowExpiry dt ix s := rfl

end Sys2Proof.Machine
end

