-- ==== Sys2Proof/Laws/Frame.lean ====
section
/-! SUPPORT. Laws/Frame.lean: frames compose, and the frames of the operations that every block shares. -/

namespace Sys2Proof.Machine

theorem OnlyIn.refl {ps : List Part} {s : State} : OnlyIn ps s s := by intro p _; cases p <;> rfl

theorem OnlyIn.trans {ps : List Part} {a b c : State} (h : OnlyIn ps a b) (k : OnlyIn ps b c) : OnlyIn ps a c := by
  intro p hp; have := h p hp; have := k p hp; cases p <;> simp_all [Part.same]

theorem OnlyIn.mono {ps qs : List Part} {a b : State} (h : OnlyIn ps a b) (k : ∀ p, p ∈ ps → p ∈ qs) : OnlyIn qs a b :=
  fun p hp => h p (fun x => hp (k p x))

theorem onlyIn_elapse (s : State) (n : Nat) : OnlyIn [.time] s (s.elapse n) := by
  intro p hp; cases p <;> simp_all [Part.same, State.elapse]

theorem onlyIn_setJet (s : State) (j : Nat) (f : Jet → Jet) : OnlyIn [.seq] s (s.setJet j f) := by
  intro p hp; cases p <;> simp_all [Part.same, State.setJet]

theorem onlyIn_answers (s : State) (st : AccSt) (ws : List Word) : OnlyIn [.answer] s (s.answers st ws) := by
  intro p hp; cases p <;> simp_all [Part.same, State.answers]

theorem onlyIn_setUnder (s : State) (a : Nat) (w : Word) : OnlyIn [.regs] s (s.setUnder a w) := by
  intro p hp; cases p <;> simp_all [Part.same, State.setUnder]

theorem onlyIn_setPort (s : State) (p : PortId) (f : Port → Port) : OnlyIn [.ecp] s (s.setPort p f) := by
  intro x hx; cases p <;> cases x <;> simp_all [Part.same, State.setPort]

/-- Parts that `State.eff` does not read. -/
theorem eff_of_onlyIn {ps : List Part} {s t : State} (h : OnlyIn ps s t) (h1 : Part.regs ∉ ps) (h2 : Part.ovl ∉ ps) (a : Nat) :
    t.eff a = s.eff a := by
  have k1 : t.regs = s.regs := h .regs h1
  have k2 : t.ovl = s.ovl := h .ovl h2
  unfold State.eff State.under; rw [k1, k2]

theorem onlyIn_storeReg (s : State) (a : Nat) (v : Word) : OnlyIn [.regs, .rwo] s (s.storeReg a v) := by
  unfold State.storeReg
  intro p hp
  cases p <;> simp_all only [List.mem_cons, Part.same, List.not_mem_nil, or_false, reduceCtorEq, not_false_eq_true] <;>
    (split <;> split <;> simp_all [State.setUnder])

/-- The commit of an overlay begins: nothing but mode control and the operation table. -/
theorem onlyIn_beginCommit (s : State) (m : Mode) (w : CommitWhy) : OnlyIn [.pwr, .seq] s (s.beginCommit m w) := by
  intro p hp; cases p <;> simp_all [Part.same, State.beginCommit, State.leaveOps]

end Sys2Proof.Machine
end

