-- ==== Sys2Proof/Laws/State.lean ====
section
/-! SUPPORT. Laws/State.lean: the small lemmas of the state: fixed tables, sparse tables and their canonical form, the memory, the
jets, time. -/

namespace Sys2Proof.Machine

/-! ## Fixed tables -/

@[simp] theorem vmod_vmod {α : Type} {n : Nat} (v : Vector α n) (i : Nat) (f g : α → α) :
    vmod (vmod v i f) i g = vmod v i (fun q => g (f q)) := by
  unfold vmod; split <;> simp

theorem vget_vmod {α : Type} {n : Nat} (v : Vector α n) (d : α) (i k : Nat) (f : α → α) :
    vget (vmod v i f) d k = if k = i ∧ i < n then f (vget v d i) else vget v d k := by
  unfold vget vmod
  by_cases hi : i < n
  · by_cases hk : k < n
    · by_cases e : k = i
      · subst e; simp [hi]
      · simp [hi, hk, e, Ne.symm e]
    · simp [hk]; intro e; omega
  · simp [hi]

@[simp] theorem vget_vmod_ne {α : Type} {n : Nat} (v : Vector α n) (d : α) {i k : Nat} (f : α → α) (h : k ≠ i) :
    vget (vmod v i f) d k = vget v d k := by simp [vget_vmod, h]

theorem vget_vset {α : Type} {n : Nat} (v : Vector α n) (d x : α) (i k : Nat) :
    vget (vset v i x) d k = if k = i ∧ i < n then x else vget v d k := by
  unfold vget vset
  by_cases hi : i < n
  · by_cases hk : k < n
    · by_cases e : k = i
      · subst e; simp [hi]
      · simp [hi, hk, e, Ne.symm e]
    · simp [hk]; intro e; omega
  · simp [hi]

/-! ## Sparse tables -/

/-- Nothing is listed at or below the bound of a table. -/
theorem Sparse.get_below {α : Type} [DecidableEq α] (d : α) :
    ∀ (t : Sparse α) (n : Nat), Sparse.okFrom d (some n) t = true → ∀ m, m ≤ n → Sparse.get d t m = d
  | [], _, _, _, _ => rfl
  | (a, w) :: t, n, h, m, hm => by
    simp [Sparse.okFrom] at h
    have : a ≠ m := by omega
    simp only [Sparse.get, this, if_false]
    exact Sparse.get_below d t a h.2 m (by omega)

/-- A read after a write: the entry written, and every other entry as before. -/
theorem Sparse.get_set {α : Type} [DecidableEq α] (d : α) :
    ∀ (t : Sparse α) (lo : Option Nat) (k : Nat) (v : α) (i : Nat), Sparse.okFrom d lo t = true →
      Sparse.get d (Sparse.set d t k v) i = if i = k then v else Sparse.get d t i
  | [], lo, k, v, i, _ => by
    unfold Sparse.set; split <;> rename_i h <;> simp [Sparse.get, eq_comm, h]
  | (n, w) :: t, lo, k, v, i, hw => by
    have ht : Sparse.okFrom d (some n) t = true := by simp [Sparse.okFrom] at hw; exact hw.2
    have low : ∀ m, m ≤ n → Sparse.get d t m = d := Sparse.get_below d t n ht
    unfold Sparse.set
    by_cases h1 : n < k
    · simp only [h1, if_true, Sparse.get, Sparse.get_set d t (some n) k v i ht]
      by_cases e : n = i
      · subst e; simp [Nat.ne_of_lt h1]
      · simp [e]
    · by_cases h2 : n = k
      · subst h2
        by_cases hv : v = d
        · simp only [if_neg (Nat.lt_irrefl n), if_pos hv, if_true]
          by_cases e : i = n
          · subst e; simp [low i le_rfl, hv]
          · simp [Sparse.get, Ne.symm e, e]
        · simp only [if_neg (Nat.lt_irrefl n), if_neg hv, if_true, Sparse.get]
          by_cases e : n = i
          · subst e; simp
          · simp [e, Ne.symm e]
      · have h3 : k < n := by omega
        by_cases hv : v = d
        · simp only [if_neg h1, if_neg h2, if_pos hv]
          by_cases e : i = k
          · subst e; simp [Sparse.get, h2, low i (by omega), hv]
          · simp [e]
        · simp only [if_neg h1, if_neg h2, if_neg hv]
          by_cases e : i = k
          · subst e; simp [Sparse.get]
          · simp [Sparse.get, e, Ne.symm e]

/-- A read after a write of an entry that is not the default, in every table. -/
theorem Sparse.get_set_of_ne {α : Type} [DecidableEq α] (d : α) :
    ∀ (t : Sparse α) (k : Nat) (v : α) (i : Nat), v ≠ d →
      Sparse.get d (Sparse.set d t k v) i = if i = k then v else Sparse.get d t i
  | [], k, v, i, h => by simp [Sparse.set, Sparse.get, h, eq_comm]
  | (n, w) :: t, k, v, i, h => by
    unfold Sparse.set
    by_cases h1 : n < k
    · simp only [h1, if_true, Sparse.get, Sparse.get_set_of_ne d t k v i h]
      by_cases e : n = i
      · subst e; simp [Nat.ne_of_lt h1]
      · simp [e]
    · by_cases h2 : n = k
      · subst h2
        by_cases e : n = i
        · subst e; simp [h, Sparse.get]
        · simp [h, Sparse.get, e, Ne.symm e]
      · by_cases e : i = k
        · subst e; simp [h1, h2, h, Sparse.get]
        · simp [h1, h2, h, Sparse.get, e, Ne.symm e]

/-- A bound may be lowered. -/
theorem Sparse.okFrom_mono {α : Type} [DecidableEq α] (d : α) :
    ∀ (t : Sparse α) {lo lo' : Option Nat}, (∀ m, lo' = some m → ∃ n, lo = some n ∧ m ≤ n) →
      Sparse.okFrom d lo t = true → Sparse.okFrom d lo' t = true
  | [], _, _, _, _ => rfl
  | (a, w) :: t, lo, lo', h, ok => by
    simp only [Sparse.okFrom, Bool.and_eq_true] at ok ⊢
    refine ⟨⟨?_, ok.1.2⟩, ok.2⟩
    cases lo' with
    | none => rfl
    | some m =>
      obtain ⟨n, rfl, hn⟩ := h m rfl
      have := ok.1.1
      simp at this ⊢; omega

/-- A write above the bound keeps the canonical form. -/
theorem Sparse.okFrom_set {α : Type} [DecidableEq α] (d : α) :
    ∀ (t : Sparse α) (lo : Option Nat) (k : Nat) (v : α), (∀ m, lo = some m → m < k) →
      Sparse.okFrom d lo t = true → Sparse.okFrom d lo (Sparse.set d t k v) = true
  | [], lo, k, v, h, _ => by
    unfold Sparse.set
    split
    · rfl
    · cases lo with
      | none => simp_all [Sparse.okFrom]
      | some m => have := h m rfl; simp_all [Sparse.okFrom]
  | (n, w) :: t, lo, k, v, h, ok => by
    have ok' := ok
    simp only [Sparse.okFrom, Bool.and_eq_true] at ok'
    unfold Sparse.set
    by_cases h1 : n < k
    · rw [if_pos h1]
      simp only [Sparse.okFrom, Bool.and_eq_true]
      exact ⟨ok'.1, Sparse.okFrom_set d t (some n) k v (fun m e => by cases e; exact h1) ok'.2⟩
    · rw [if_neg h1]
      by_cases h2 : n = k
      · rw [if_pos h2]
        subst h2
        by_cases hv : v = d
        · rw [if_pos hv]
          refine Sparse.okFrom_mono d t (fun m e => ⟨n, rfl, ?_⟩) ok'.2
          exact Nat.le_of_lt (h m e)
        · rw [if_neg hv]
          simp only [Sparse.okFrom, Bool.and_eq_true]
          exact ⟨⟨ok'.1.1, by simp [hv]⟩, ok'.2⟩
      · rw [if_neg h2]
        by_cases hv : v = d
        · rw [if_pos hv]; exact ok
        · rw [if_neg hv]
          have hk : k < n := by omega
          simp only [Sparse.okFrom, Bool.and_eq_true]
          refine ⟨⟨?_, by simp [hv]⟩, ⟨⟨by simp [hk], ok'.1.2⟩, ok'.2⟩⟩
          cases lo with
          | none => rfl
          | some m => simp; exact h m rfl

/-- Every write of a sparse table keeps its canonical form. -/
theorem Sparse.wf_set {α : Type} [DecidableEq α] (d : α) (t : Sparse α) (k : Nat) (v : α) (h : Sparse.wf d t = true) :
    Sparse.wf d (Sparse.set d t k v) = true :=
  Sparse.okFrom_set d t none k v (fun _ e => nomatch e) h

/-- A read after a write of a table in canonical form. -/
theorem Sparse.get_set_wf {α : Type} [DecidableEq α] (d : α) (t : Sparse α) (k i : Nat) (v : α) (h : Sparse.wf d t = true) :
    Sparse.get d (Sparse.set d t k v) i = if i = k then v else Sparse.get d t i := Sparse.get_set d t none k v i h

/-! ## Time -/

@[simp] theorem State.elapse_clk (s : State) (dt : Nat) : (s.elapse dt).clk = s.clk + dt := rfl
@[simp] theorem State.elapse_tb (s : State) (dt : Nat) : (s.elapse dt).tb = s.time.tbAt dt := rfl
@[simp] theorem State.cycMod_time (s : State) (f : Cyc → Cyc) : (s.cycMod f).time = s.time := rfl
@[simp] theorem State.cycMod_nowCyc (s : State) (f : Cyc → Cyc) (h : ∀ c, (f c).at_ = c.at_) : (s.cycMod f).nowCyc = f s.nowCyc := by
  have : (f s.nowCyc).at_ = s.clk := by
    rw [h]; unfold State.nowCyc
    cases e : s.cyc.find? (fun c => decide (c.at_ = s.clk)) with
    | none => rfl
    | some c => simpa using List.find?_some e
  simp [State.nowCyc, State.cycMod] at this ⊢; simp [this]
@[simp] theorem State.nextCycle_time (s : State) (f : State → State) : (s.nextCycle f).time = s.time := rfl
theorem State.nextCycle_nowCyc (s : State) (f : State → State) : (s.nextCycle f).nowCyc = s.nowCyc := by
  have h : ∀ l : List Cyc, (l.filter (fun c => decide (s.clk < c.at_))).find? (fun c => decide (c.at_ = s.clk)) = none := by
    intro l; simp [List.find?_eq_none]; omega
  have k : ∀ l : List Cyc, (l.filter (fun c => decide (c.at_ = s.clk))).find? (fun c => decide (c.at_ = s.clk)) =
      l.find? (fun c => decide (c.at_ = s.clk)) := by
    intro l; induction l with
    | nil => rfl
    | cons a l ih => by_cases e : a.at_ = s.clk <;> simp [e, ih]
  show (List.find? (fun c => decide (c.at_ = s.clk)) (s.cyc.filter (fun c => decide (c.at_ = s.clk)) ++ _)).getD (Cyc.fresh s.clk) = _
  rw [List.find?_append, k, h, Option.or_none]; rfl
@[simp] theorem State.elapse_zero_clk (s : State) : (s.elapse 0).clk = s.clk := rfl

/-! ## Jets -/

@[simp] theorem State.setJet_setJet (u : State) (j : Nat) (f g : Jet → Jet) :
    (u.setJet j f).setJet j g = u.setJet j (fun q => g (f q)) := by simp [State.setJet]

theorem State.jet_setJet (u : State) (j k : Nat) (f : Jet → Jet) :
    (u.setJet j f).jet k = if k = j ∧ j < 8 then f (u.jet j) else u.jet k := by
  simp [State.jet, State.setJet, vget_vmod]

@[simp] theorem State.jet_setJet_ne (u : State) {j k : Nat} (f : Jet → Jet) (h : k ≠ j) : (u.setJet j f).jet k = u.jet k := by
  simp [State.jet_setJet, h]

@[simp] theorem State.setJet_clk (u : State) (j : Nat) (f : Jet → Jet) : (u.setJet j f).clk = u.clk := rfl
@[simp] theorem State.setJet_pwr (u : State) (j : Nat) (f : Jet → Jet) : (u.setJet j f).pwr = u.pwr := rfl
@[simp] theorem State.setJet_regs (u : State) (j : Nat) (f : Jet → Jet) : (u.setJet j f).regs = u.regs := rfl

end Sys2Proof.Machine
end

