-- ==== Sys2Proof/Laws/Access.lean ====
section
/-! SUPPORT. Laws/Access.lean: what a register access does, once for all registers (R10 to R14, R60). -/

namespace Sys2Proof.Machine

/-- A write that is accepted: the requester's first key of the lock is undone and the register's own effect follows. -/
theorem writeReg_accepts {s : State} {rq : Requester} {a : Nat} {v : Word} (h : s.accepts rq a v) :
    s.writeReg rq a v = (.ok, (s.disarm rq).applyWrite rq (s.pwr.keyArmed.contains rq) a v) := by
  obtain ⟨_, h2, h3, _⟩ := h
  unfold State.writeReg
  simp [h2, h3]

/-- A write that is refused with no commit in progress changes nothing but the first key of the lock. -/
theorem writeReg_refused {s : State} {rq : Requester} {a : Nat} {v : Word} (h : s.refuses rq a v = true) (hc : s.pwr.commit = none) :
    s.writeReg rq a v = (.denied, s.disarm rq) := by
  unfold State.writeReg
  simp [h, hc]

/-- A command that writes a register, where the write is accepted. -/
theorem put_accepts {s : State} {dt : Nat} {rq : Requester} {a : Nat} {v : Word} (h : (s.elapse dt).accepts rq a v) :
    s.put dt rq a v =
      .next ((((s.elapse dt).disarm rq).applyWrite rq ((s.elapse dt).pwr.keyArmed.contains rq) a v).answers .ok []) := by
  have h1 : (s.elapse dt).serves rq = true := h.1
  unfold State.put State.access
  rw [writeReg_accepts h]
  simp [h1]

/-- A command that writes an entry of a register array. -/
theorem putAt_accepts {s : State} {dt : Nat} {rq : Requester} {a n i : Nat} {v : Word} (hi : i < n)
    (h : (s.elapse dt).accepts rq (a + i) v) :
    s.putAt dt rq a n i v =
      .next ((((s.elapse dt).disarm rq).applyWrite rq ((s.elapse dt).pwr.keyArmed.contains rq) (a + i) v).answers .ok []) := by
  unfold State.putAt
  rw [if_pos hi, put_accepts h]

theorem onlyIn_disarm (s : State) (rq : Requester) : OnlyIn [.pwr] s (s.disarm rq) := by
  intro p hp; cases p <;> simp_all [Part.same, State.disarm]

/-- A command that writes a register whose change brings nothing else about at once. -/
theorem put_effect {s : State} {dt : Nat} {rq : Requester} {a : Nat} {v : Word} (h : (s.elapse dt).accepts rq a v)
    (h1 : regExists a = true) (h2 : isSelector a = false) (h3 : settles a = false)
    (h4 : ∀ u : State, u.inputWrite a = u := by intro u; rfl) :
    s.put dt rq a v =
      .next ((((s.elapse dt).wrote rq a v).effect rq ((s.elapse dt).pwr.keyArmed.contains rq) a v).answers .ok []) := by
  rw [put_accepts h]
  have k := h.2.2.2.1
  unfold State.upTo at k
  unfold State.applyWrite State.wrote State.upTo
  simp only [h1, h2, h3, h4, k]
  rfl

/-- The same for a register whose change is examined at once. -/
theorem put_settle {s : State} {dt : Nat} {rq : Requester} {a : Nat} {v : Word} (h : (s.elapse dt).accepts rq a v)
    (h1 : regExists a = true) (h2 : isSelector a = false) (h3 : settles a = true)
    (h4 : ∀ u : State, u.inputWrite a = u := by intro u; rfl) (h5 : ∀ u : State, u.busNow a = u := by intro u; rfl) :
    s.put dt rq a v =
      .next (((((s.elapse dt).wrote rq a v).effect rq ((s.elapse dt).pwr.keyArmed.contains rq) a v).settle
        (s.elapse dt).ncells (s.elapse dt).ringOn).answers .ok []) := by
  rw [put_accepts h]
  have k := h.2.2.2.1
  unfold State.upTo at k
  unfold State.applyWrite State.wrote State.upTo
  simp only [h1, h2, h3, h4, h5] at k ⊢
  simp only [k]
  rfl

/-- The record of a cycle decides what the device has set in it. -/
theorem wcFresh_of_same {s t : State} (h1 : t.cyc = s.cyc) (h2 : t.time = s.time) (b : Nat) : t.wcFresh b = s.wcFresh b := by
  unfold State.wcFresh State.nowCyc State.clk; rw [h1, h2]

theorem wcFresh_cycMod (s : State) (f : Cyc → Cyc) (b : Nat) (h : ∀ c, (f c).at_ = c.at_ ∧ (f c).wc = c.wc) :
    (s.cycMod f).wcFresh b = s.wcFresh b := by
  unfold State.wcFresh; rw [State.cycMod_nowCyc _ _ (fun c => (h c).1), (h _).2]

theorem wcFresh_noteOld (s : State) (a k : Nat) (w : Word) (b : Nat) : (s.noteOld a k w).wcFresh b = s.wcFresh b := by
  unfold State.noteOld; split
  · rfl
  · exact wcFresh_cycMod _ _ _ (fun _ => ⟨rfl, rfl⟩)

theorem wcFresh_noteRank (s : State) (rq : Requester) (a k b : Nat) : (s.noteRank rq a k).wcFresh b = s.wcFresh b :=
  wcFresh_cycMod _ _ _ (fun _ => ⟨rfl, rfl⟩)

theorem wcFresh_noteWrite (s : State) (rq : Requester) (a b : Nat) : (s.noteWrite rq a).wcFresh b = s.wcFresh b := by
  unfold State.noteWrite; simp only []
  split
  · rfl
  split
  · exact wcFresh_noteOld ..
  · rw [wcFresh_noteRank, wcFresh_noteOld]

theorem onlyIn_stored (s : State) (rq : Requester) (a : Nat) (v : Word) : OnlyIn [.pwr, .regs, .rwo] s (s.stored rq a v) := by
  have h : OnlyIn [.pwr] s (s.ownerActs rq a) := by
    unfold State.ownerActs; split
    · intro p hp; cases p <;> simp_all [Part.same]
    · exact OnlyIn.refl
  unfold State.stored; split
  · exact (h.mono (by simp)).trans ((onlyIn_storeReg _ _ _).mono (by simp))
  · exact h.mono (by simp)

/-- The word of an accepted write keeps every bit where the register's own rule takes it (R12). -/
theorem mask_wrote {s : State} {rq : Requester} {a : Nat} {v : Word} (h : s.accepts rq a v) :
    v &&& ~~~((s.wrote rq a v).wcFresh a) = v := by
  have k := onlyIn_stored ((s.upTo rq a).noteWrite rq a) rq a v
  have : (s.wrote rq a v).wcFresh a = (s.upTo rq a).wcFresh a :=
    (wcFresh_of_same (k .cyc (by simp)) (k .time (by simp)) a).trans (wcFresh_noteWrite ..)
  rw [this]
  have hz := h.2.2.2.2
  apply BitVec.eq_of_getLsbD_eq
  intro i hi
  have := congrArg (fun w => w.getLsbD i) hz
  simp at this ⊢
  intro hv
  exact ⟨hi, by simpa [BitVec.getLsbD_eq_getElem hi] using this hv⟩

/-- The effect of an accepted write, by the range of its register. -/
theorem effect_wrote {s : State} {rq : Requester} {a : Nat} {v : Word} (h : s.accepts rq a v) (armed : Bool) :
    (s.wrote rq a v).effect rq armed a v =
      if a < 0xC00 then (s.wrote rq a v).effectLow rq armed a v
      else if a < 0x1400 then (s.wrote rq a v).effectMid rq a v
      else (s.wrote rq a v).effectHigh rq a v := by
  unfold State.effect; rw [mask_wrote h]

end Sys2Proof.Machine
end

