-- ==== Sys2Proof/Laws/Arrive.lean ====
section
/-! SUPPORT. Laws/Arrive.lean: what the arrival of a frame does, once for all types (R280, R289 to R295). -/

namespace Sys2Proof.Machine

/-- A frame that a port hears passes the receive checks. -/
theorem rxCheck_hears {s : State} {p : PortId} {f : Frame} {x : Tail} (h : s.hears p f x) : s.rxCheck p f x = none := by
  obtain ⟨_, h2, h3, h4, h5, _⟩ := h
  unfold State.rxCheck
  simp [h2, h3, h4, h5]

/-- A frame that the device takes: the hop's counter and the forwarding, then what its type calls for. -/
theorem arrive_hears {s : State} {p : PortId} {f : Frame} {x : Tail} (h : s.hears p f x) (take : State → Out) :
    s.arrive p f x take = take (s.heard p f x) := by
  unfold State.arrive
  rw [rxCheck_hears h]
  simp [h.1, h.2.2.2.2.2]

end Sys2Proof.Machine
end

