-- ==== Sys2Proof/Laws/Feeds.lean ====
section
/-! SUPPORT. Laws/Feeds.lean: the reads of check-value feeds, which are done before anything that changes what they read (R333). -/

namespace Sys2Proof.Machine

theorem chkOf_feed {u : State} (h : u.noFeed) (n : Nat) : (u.chkOf n).feed = none := by
  by_cases k : n < 16
  · exact h n k
  · simp [State.chkOf, vget, k, Chk.init]

theorem foldl_id {α β : Type} (f : α → β → α) (u : α) (h : ∀ b, f u b = u) (l : List β) : l.foldl f u = u := by
  induction l with
  | nil => rfl
  | cons a l ih => simp [h, ih]

/-- Where no channel takes a feed, result SRAM is not read. -/
@[simp] theorem feedsPage_id {u : State} (h : u.noFeed) : u.feedsPage = u := by
  refine foldl_id _ _ (fun n => ?_) _
  show State.feedPage 256 u n = u
  unfold State.feedPage; simp [chkOf_feed h]

/-- Where no channel takes a feed, MRAM is not read. -/
@[simp] theorem feedsMram_id {u : State} (h : u.noFeed) : u.feedsMram = u := by
  refine foldl_id _ _ (fun n => ?_) _
  unfold State.feedMram; split <;> simp_all [chkOf_feed h]

end Sys2Proof.Machine
end

