-- ==== Sys2Proof/Laws/Issue.lean ====
section
/-! SUPPORT. Laws/Issue.lean: what a jet does when it issues an instruction, once for all instructions (R157 to R165). -/

namespace Sys2Proof.Machine

/-- A jet that is next to issue `i` fetches it, at the first clock at which it may issue. -/
theorem fetchI_issues {e : State} {j : Nat} {i : Balrax} (h : e.issues j i) : e.fetchI j = (some i, e.issueAt j) := by
  obtain ⟨h1, h2, h3, h4, _⟩ := h
  have k1 : (e.issueAt j).jet j = e.jet j := rfl
  have k2 : (e.issueAt j).eccOf = e.eccOf := rfl
  have k4 : e.until_ ((e.jet j).busyTo + e.lagOf j * e.cycle) = e.issueAt j := rfl
  unfold State.fetchI
  simp only [h1, k4, k1, State.seqBad, State.seqEcc, k2, h3, h4]
  simp [Nat.not_le.mpr h2]

/-- A command that reports the issue of the jet's next instruction runs that instruction. -/
theorem issue_of_issues {e : State} {j : Nat} {i : Balrax} (h : e.issues j i) (run : State → State) :
    e.issue j i run = .next (run (e.issueAt j)) := by
  have k : e.killOf j = none := by
    have := h.1
    unfold State.canIssue at this
    unfold State.killOf
    rw [if_neg (by intro x; simp [x] at this)]
  simp [State.issue, k, State.issueNow, fetchI_issues h, h.2.2.2.2]

@[simp] theorem setReg_clk (u : State) (j : Nat) (d : Reg) (w : Word) : (u.setReg j d w).clk = u.clk := rfl
@[simp] theorem setReg_cycle (u : State) (j : Nat) (d : Reg) (w : Word) : (u.setReg j d w).cycle = u.cycle := rfl
@[simp] theorem Jet.write_pc (q : Jet) (r : Reg) (w : Word) : (q.write r w).pc = q.pc := by unfold Jet.write; split <;> rfl
@[simp] theorem Jet.write_stack (q : Jet) (r : Reg) (w : Word) : (q.write r w).stack = q.stack := by unfold Jet.write; split <;> rfl
@[simp] theorem Jet.write_zero (q : Jet) (w : Word) : q.write 0 w = q := rfl

/-- Writing a register and retiring. -/
theorem setReg_retire (u : State) (j : Nat) (d : Reg) (w : Word) (at_ c : Nat) :
    (u.setReg j d w).retire j at_ c = u.done j d w at_ c := by
  unfold State.retire State.done
  rw [setReg_clk, setReg_cycle]
  unfold State.setReg
  rw [State.setJet_setJet]
  simp

/-- An instruction of one core cycle that writes no register retires. -/
theorem retire_pass (u : State) (j : Nat) : u.retire j u.clk 1 = u.pass j := by simp [State.retire, State.pass]

/-- A control transfer inside the program. -/
theorem jump_goto (u : State) (j t : Nat) (h : t < 16384) (i : Int) (e : (t : Int) = i) : u.jump j i = u.goto j t := by
  unfold State.jump; rw [if_pos (by omega)]; subst e; rfl

end Sys2Proof.Machine
end

