-- ==== Sys2Proof/Laws/Memory.lean ====
section
/-! SUPPORT. Laws/Memory.lean: the MRAM as a list of cells: a read after a write, and the canonical form that every memory operation
keeps. -/

namespace Sys2Proof.Machine

/-- Nothing at or below the bound is listed. -/
theorem memGet_below : ∀ (m : List Host.Cell) (n : Nat), memOkFrom (some n) m = true → ∀ k, k ≤ n → memGet m k = memBase k
  | [], _, _, _, _ => rfl
  | (a, v) :: t, n, h, k, hk => by
    simp [memOkFrom] at h
    have : a ≠ k := by omega
    simp only [memGet, this, if_false]
    exact memGet_below t a h.2 k (by omega)

/-- A read after a write gives the byte written, and every other address reads as before. -/
theorem memGet_memSet : ∀ (m : List Host.Cell) (lo : Option Nat) (k : Nat) (v : Byte) (i : Nat), memOkFrom lo m = true →
    memGet (memSet m k v) i = if i = k then v else memGet m i
  | [], lo, k, v, i, _ => by
    unfold memSet
    by_cases h : v = memBase k
    · rw [if_pos h]; by_cases e : i = k
      · subst e; simp [memGet, h]
      · simp [e]
    · rw [if_neg h]; by_cases e : i = k
      · subst e; simp [memGet]
      · simp [memGet, e, Ne.symm e]
  | (n, w) :: t, lo, k, v, i, hw => by
    have ht : memOkFrom (some n) t = true := by simp [memOkFrom] at hw; exact hw.2
    unfold memSet
    by_cases h1 : n < k
    · simp only [h1, if_true, memGet, memGet_memSet t (some n) k v i ht]
      by_cases e : n = i
      · subst e; simp [Nat.ne_of_lt h1]
      · simp [e]
    · by_cases h2 : n = k
      · subst h2
        by_cases hv : v = memBase n
        · simp only [if_neg (Nat.lt_irrefl n), if_pos hv, if_true]
          by_cases e : i = n
          · subst e; simp [memGet_below t i ht i le_rfl, hv]
          · simp [memGet, Ne.symm e, e]
        · simp only [if_neg (Nat.lt_irrefl n), if_neg hv, if_true, memGet]
          by_cases e : n = i
          · subst e; simp
          · simp [e, Ne.symm e]
      · by_cases hv : v = memBase k
        · simp only [if_neg h1, if_neg h2, if_pos hv]
          by_cases e : i = k
          · subst e; simp [memGet, h2, memGet_below t n ht i (by omega), hv]
          · simp [e]
        · simp only [if_neg h1, if_neg h2, if_neg hv]
          by_cases e : i = k
          · subst e; simp [memGet]
          · simp [memGet, e, Ne.symm e]

/-- A bound may be lowered. -/
theorem memOkFrom_mono : ∀ (m : List Host.Cell) {lo lo' : Option Nat}, (∀ k, lo' = some k → ∃ n, lo = some n ∧ k ≤ n) →
    memOkFrom lo m = true → memOkFrom lo' m = true
  | [], _, _, _, _ => rfl
  | (a, w) :: t, lo, lo', h, ok => by
    simp only [memOkFrom, Bool.and_eq_true] at ok ⊢
    refine ⟨⟨?_, ok.1.2⟩, ok.2⟩
    cases lo' with
    | none => rfl
    | some k =>
      obtain ⟨n, rfl, hn⟩ := h k rfl
      have := ok.1.1
      simp at this ⊢; omega

/-- A write above the bound keeps the canonical form. -/
theorem memOkFrom_memSet : ∀ (m : List Host.Cell) (lo : Option Nat) (k : Nat) (v : Byte), (∀ n, lo = some n → n < k) →
    memOkFrom lo m = true → memOkFrom lo (memSet m k v) = true
  | [], lo, k, v, h, _ => by
    unfold memSet
    split
    · rfl
    · cases lo with
      | none => simp_all [memOkFrom]
      | some m => have := h m rfl; simp_all [memOkFrom]
  | (n, w) :: t, lo, k, v, h, ok => by
    have ok' := ok
    simp only [memOkFrom, Bool.and_eq_true] at ok'
    unfold memSet
    by_cases h1 : n < k
    · rw [if_pos h1]
      simp only [memOkFrom, Bool.and_eq_true]
      exact ⟨ok'.1, memOkFrom_memSet t (some n) k v (fun m e => by cases e; exact h1) ok'.2⟩
    · rw [if_neg h1]
      by_cases h2 : n = k
      · rw [if_pos h2]
        subst h2
        by_cases hv : v = memBase n
        · rw [if_pos hv]
          exact memOkFrom_mono t (fun m e => ⟨n, rfl, Nat.le_of_lt (h m e)⟩) ok'.2
        · rw [if_neg hv]
          simp only [memOkFrom, Bool.and_eq_true]
          exact ⟨⟨ok'.1.1, by simp [hv]⟩, ok'.2⟩
      · rw [if_neg h2]
        by_cases hv : v = memBase k
        · rw [if_pos hv]; exact ok
        · rw [if_neg hv]
          have hk : k < n := by omega
          simp only [memOkFrom, Bool.and_eq_true]
          refine ⟨⟨?_, by simp [hv]⟩, ⟨⟨by simp [hk], ok'.1.2⟩, ok'.2⟩⟩
          cases lo with
          | none => rfl
          | some m => simp; exact h m rfl

/-- Every write of a byte keeps the canonical form. -/
theorem memSet_wf (m : List Host.Cell) (k : Nat) (v : Byte) (h : Memory.wf m = true) : Memory.wf (memSet m k v) = true :=
  memOkFrom_memSet m none k v (fun _ e => nomatch e) h

/-- Every write of bytes keeps the canonical form. -/
theorem memWrite_wf : ∀ (b : Bytes) (m : List Host.Cell) (a : Nat), Memory.wf m = true → Memory.wf (memWrite m a b) = true
  | [], _, _, h => h
  | v :: t, m, a, h => memWrite_wf t (memSet m a v) (a + 1) (memSet_wf m a v h)

/-- The memory after reset is in canonical form. -/
theorem reset_memory_wf : Memory.wf State.reset.nvm.mram = true := rfl

end Sys2Proof.Machine
end

