-- ==== Sys2Proof/Laws/Ports.lean ====
section
/-! SUPPORT. Laws/Ports.lean: what the shared operations of the ports can do: frames given to a port, ports that leave and enter their
states. -/

namespace Sys2Proof.Machine

@[simp] theorem Port.waits_st (q : Port) (t : Nat) (parked : Bool) (c : Nat) : (q.waits t parked c).st = q.st := by
  unfold Port.waits; split <;> rfl

/-- A frame given to a port changes no port's state. -/
theorem send_port (s : State) (p : PortId) (f : Frame) (q : PortId) :
    ((s.send p f).port q).st = (s.port q).st ∧ OnlyIn [.ecp] s (s.send p f) := by
  unfold State.send
  constructor
  · cases p <;> cases q <;> (split; split) <;> simp_all [State.setPort, State.port]
  · intro x hx
    cases p <;> cases x <;> simp_all [Part.same] <;> (split; split) <;> simp_all [State.setPort, State.port]

theorem recover_port (s : State) (x : Option (List Nat)) (q : PortId) :
    ((s.recover x).port q).st = (s.port q).st ∧ OnlyIn [.ecp, .net] s (s.recover x) := by
  unfold State.recover State.sendNet
  constructor
  · exact (send_port _ _ _ _).1
  · refine OnlyIn.trans ?_ ((send_port _ _ _ .north).2.mono (by simp))
    intro x hx; cases x <;> simp_all [Part.same]

theorem portLost_port (s : State) (p q : PortId) :
    ((s.portLost p).port q).st = (s.port q).st ∧ OnlyIn [.ecp, .net] s (s.portLost p) := by
  unfold State.portLost
  split
  · split
    · exact recover_port s _ q
    · exact ⟨rfl, OnlyIn.refl⟩
  · exact ⟨by cases p <;> cases q <;> rfl, (onlyIn_setPort _ _ _).mono (by simp)⟩

theorem portOff_port (s : State) (p q : PortId) :
    ((s.portOff p).port q).st = (if q = p then .off else (s.port q).st) ∧ OnlyIn [.ecp, .net] s (s.portOff p) := by
  unfold State.portOff
  simp only
  split
  · constructor
    · rw [(portLost_port _ _ _).1]; cases p <;> cases q <;> rfl
    · exact ((onlyIn_setPort _ _ _).mono (by simp)).trans (portLost_port _ _ .north).2
  · exact ⟨by cases p <;> cases q <;> rfl, (onlyIn_setPort _ _ _).mono (by simp)⟩

theorem portTrain_port (s : State) (p q : PortId) :
    ((s.portTrain p).port q).st = (if q = p then .training else (s.port q).st) ∧ OnlyIn [.ecp, .net] s (s.portTrain p) := by
  unfold State.portTrain
  simp only
  split
  · constructor
    · rw [(portLost_port _ _ _).1]; cases p <;> cases q <;> rfl
    · exact ((onlyIn_setPort _ _ _).mono (by simp)).trans (portLost_port _ _ .north).2
  · exact ⟨by cases p <;> cases q <;> rfl, (onlyIn_setPort _ _ _).mono (by simp)⟩

theorem portOn_of_onlyIn {s t : State} (h : OnlyIn [.ecp, .net] s t) (p : PortId) : t.portOn p = s.portOn p := by
  have h1 : t.pwr = s.pwr := h .pwr (by simp)
  unfold State.portOn State.bit; rw [h1, eff_of_onlyIn h (by simp) (by simp)]

/-- One port as its conditions stand (R295). -/
theorem checkOne_port (s : State) (p q : PortId) :
    let t := if s.portOn p then (if (s.port p).st = .off then s.portTrain p else s)
      else (if (s.port p).st = .off then s else s.portOff p)
    (t.port q).st =
        (if q = p then (if s.portOn p then (if (s.port p).st = .off then .training else (s.port p).st) else .off) else (s.port q).st) ∧
      OnlyIn [.ecp, .net] s t := by
  intro t; show (t.port q).st = _ ∧ _
  unfold t
  split <;> split
  · rw [(portTrain_port s p q).1]; exact ⟨by split <;> rfl, (portTrain_port s p q).2⟩
  · exact ⟨by split <;> simp_all, OnlyIn.refl⟩
  · exact ⟨by split <;> simp_all, OnlyIn.refl⟩
  · rw [(portOff_port s p q).1]; exact ⟨by split <;> rfl, (portOff_port s p q).2⟩

/-- Both ports as their conditions stand: a port that may not run is OFF, one that may leaves OFF for TRAINING (R295). -/
theorem portCheck_port (s : State) (q : PortId) :
    ((s.portCheck).port q).st = (if s.portOn q then (if (s.port q).st = .off then .training else (s.port q).st) else .off) ∧
      OnlyIn [.ecp, .net] s s.portCheck := by
  have a := checkOne_port s .north
  have b := checkOne_port (if s.portOn .north then (if (s.port .north).st = .off then s.portTrain .north else s)
      else (if (s.port .north).st = .off then s else s.portOff .north)) .south q
  refine ⟨?_, (a .north).2.trans b.2⟩
  refine b.1.trans ?_
  rw [portOn_of_onlyIn (a .north).2, (a q).1, (a .south).1]
  cases q <;> simp

theorem onlyIn_portCheck (s : State) : OnlyIn [.ecp, .net] s s.portCheck := (portCheck_port s .north).2

end Sys2Proof.Machine
end

