-- ==== Sys2Proof/Laws/Total.lean ====
section
/-! SUPPORT. Laws/Total.lean: the operations through which commands pass answer a next state. -/

namespace Sys2Proof.Machine

theorem put_next (s : State) (dt : Nat) (rq : Requester) (a : Nat) (v : Word) : ∃ t, s.put dt rq a v = .next t := ⟨_, rfl⟩

theorem issue_next (s : State) (j : Nat) (i : Balrax) (run : State → State) : ∃ t, s.issue j i run = .next t := ⟨_, rfl⟩

theorem putAt_next (s : State) (dt : Nat) (rq : Requester) (a n i : Nat) (v : Word) : ∃ t, s.putAt dt rq a n i v = .next t := by
  unfold State.putAt; split <;> exact ⟨_, rfl⟩

theorem chkPut_next (s : State) (dt : Nat) (rq : Requester) (n k : Nat) (v : Word) : ∃ t, s.chkPut dt rq n k v = .next t := by
  unfold State.chkPut; split <;> exact ⟨_, rfl⟩

theorem packet_next (s : State) (q : SvcReq) (op : Nat) (o : Bytes) : ∃ t, s.packet q op o = .next t := by
  unfold State.packet; repeat' split
  all_goals exact ⟨_, rfl⟩

theorem takeSvc_next (s : State) (p : PortId) (tag : Nat) (b : Bytes) : ∃ t, s.takeSvc p tag b = .next t := by
  unfold State.takeSvc; split
  · exact ⟨_, rfl⟩
  · exact packet_next ..

theorem execLocal_next (s : State) (f : Frame) (tag : Nat) : ∃ t, s.execLocal f tag = .next t := by
  simp only [State.execLocal]; repeat' split
  all_goals first | exact ⟨_, rfl⟩ | exact takeSvc_next ..

theorem hostFrame_next (s : State) (h : Nat) (f : Frame) : ∃ t, s.hostFrame h f = .next t := by
  unfold State.hostFrame; repeat' split
  all_goals first | exact ⟨_, rfl⟩ | exact execLocal_next ..

theorem transmitStart_next (s : State) (dt : Nat) (x : TxAt) : ∃ t, execTransmitStart dt x s = .next t := by
  simp only [execTransmitStart]; repeat' split
  all_goals first | exact ⟨_, rfl⟩ | exact execLocal_next ..

theorem answerLnk_next (s : State) (p : PortId) : ∃ t, s.answerLnk p = .next t := by
  unfold State.answerLnk; repeat' split
  all_goals first | exact ⟨_, rfl⟩ | exact transmitStart_next ..

/-- A frame that arrives at a port, where what takes it answers a next state. -/
theorem arrive_next (s : State) (p : PortId) (f : Frame) (x : Tail) (take : State → Out) (h : ∀ s, ∃ t, take s = .next t) :
    ∃ t, s.arrive p f x take = .next t := by
  unfold State.arrive; repeat' split
  all_goals first | exact ⟨_, rfl⟩ | exact h _

/-- A host transaction that is served, where what serves it answers a next state. -/
theorem hostDo_next (s : State) (err : HostErr) (run : State → Out) (h : ∀ s, ∃ t, run s = .next t) :
    ∃ t, s.hostDo err run = .next t := by
  unfold State.hostDo; repeat' split
  all_goals first | exact ⟨_, rfl⟩ | exact h _

end Sys2Proof.Machine
end

