-- ==== Sys2Proof/WellFormed.lean ====
section
/-! DEFINITION. WellFormed.lean: the operand ranges of the commands: register numbers, cells, channels, jets, streams, frame
fields and lengths as the manual bounds them. -/

namespace Sys2Proof

/-- One of the eleven requesters (R464). -/
def Requester.ok : Requester → Bool
  | .jet n => decide (n < 8)
  | _ => true

/-- No requester, or one of the eleven. -/
def optOk : Option Requester → Bool
  | some r => r.ok
  | none => true

/-- A check value of two or four bytes (R281). -/
def Tail.ok (x : Tail) : Bool := decide (x.check < 2 ^ 32)

/-- Header fields inside their widths (R281, R282). -/
def Header.ok (h : Header) : Bool :=
  decide (h.cnt < 16) && decide (h.addr < 64) && decide (h.cls < 4) && decide (h.tag < 128) && h.tail.ok

/-- A payload no longer than the longest frame's (R282). -/
def payloadOk (b : Bytes) : Bool := decide (b.length ≤ 511)

/-- A frame whose fields fit (R282). -/
def Frame.ok (f : Frame) : Bool :=
  decide (f.typ < 16) && decide (f.cnt < 16) && decide (f.addr < 64) && decide (f.cls < 4) && decide (f.tag < 128) &&
    payloadOk f.payload

/-- The head of a service request inside its widths (R423). -/
def SvcReq.ok (q : SvcReq) : Bool := decide (q.seq < 256) && decide (q.sid < 65536) && decide (q.tag < 128)

/-- A cell number (R75). -/
def cellOk (n : Nat) : Bool := decide (1 ≤ n) && decide (n ≤ 24)

/-- A command whose operands lie in the ranges the manual gives them. DESIGN CHOICE, log entry 7. -/
def Instr.wf : Instr → Bool
  | .registerWrite _ rq addr _ => rq.ok && decide (addr < 65536)
  | .powerOnReset _ _ => true
  | .supplyReset _ src _ => decide (1 ≤ src) && decide (src ≤ 5)
  | .commandReset _ rq _ => rq.ok
  | .wakeReset _ _ _ => true
  | .loaderStart _ _ _ => true
  | .imageCopyDone _ _ => true
  | .configLoad _ => true
  | .portEnable _ => true
  | .startModeEntry _ => true
  | .autoload _ => true
  | .supplyDipStart _ => true
  | .supplyDipEnd _ _ => true
  | .railSupervisorTrip _ _ => true
  | .vregFault _ => true
  | .stackOv _ => true
  | .vchnUndervoltage _ => true
  | .pllUnlock _ => true
  | .pllRelockRetry _ _ => true
  | .clockMonitor _ => true
  | .lpoFault _ => true
  | .localModeRequest _ rq target => rq.ok && decide (target < 16)
  | .overlayCommit _ => true
  | .stillScan _ cell _ => cellOk cell
  | .wakeTimerExpiry _ => true
  | .watchBurstStart _ => true
  | .watchBurstEnd _ => true
  | .buckBurstEnable _ => true
  | .supervisorUnmask _ => true
  | .wakePin _ => true
  | .lpoShipStart _ => true
  | .lpoShipStop _ => true
  | .wakeToneDetected _ _ => true
  | .lockOpen _ rq => rq.ok
  | .lockClose _ rq => rq.ok
  | .lockTimeout _ => true
  | .configSave _ rq => rq.ok
  | .configSaveDone _ _ => true
  | .configDiscard _ rq => rq.ok
  | .ovlEntryWrite _ rq _ => rq.ok
  | .modePrepare _ _ h target epoch _ => h.ok && decide (target < 16) && decide (epoch < 65536)
  | .modeCommit _ _ h target epoch _ => h.ok && decide (target < 16) && decide (epoch < 65536)
  | .chainCommitTime _ => true
  | .ncellsWrite _ rq n => rq.ok && decide (n < 32)
  | .owStart _ rq => rq.ok
  | .owPeriodExpiry _ => true
  | .owPhaseStart _ => true
  | .owBaselineStart _ => true
  | .owSinksOn _ => true
  | .owCheckStart _ => true
  | .owEvaluate _ => true
  | .owPhaseEnd _ => true
  | .decimatedSample _ m _ _ => decide (m < 64)
  | .rotationVisitStart _ sp => decide (sp < 4)
  | .spareCalDone _ sp _ _ => decide (sp < 4)
  | .matchWindowEnd _ sp _ => decide (sp < 4)
  | .handover _ sp => decide (sp < 4)
  | .modulatorCalDone _ sp _ _ => decide (sp < 4)
  | .handBack _ sp => decide (sp < 4)
  | .xmodInPlaceCal _ m _ _ => decide (m < 64)
  | .coeffHourlyCopy _ => true
  | .calRunStart _ rq _ => rq.ok
  | .calTrimDone _ _ => true
  | .calPointDone _ _ => true
  | .calRunCommit _ _ => true
  | .snapshot _ rq => rq.ok
  | .resultRead _ rq ch => rq.ok && decide (ch < 36)
  | .netTblRead _ rq => rq.ok
  | .netRingRead _ => true
  | .windowAutoincAccess _ rq addr _ => rq.ok && decide (addr < 65536)
  | .pageAck _ rq stream _ => rq.ok && decide (stream < 16)
  | .pageCloseRequest _ rq _ => rq.ok
  | .pageAgeClose _ stream => decide (stream < 16)
  | .streamCfgWrite _ rq stream _ => rq.ok && decide (stream < 16)
  | .streamReset _ rq stream => rq.ok && decide (stream < 16)
  | .add _ j _ _ _ => decide (j < 8)
  | .sub _ j _ _ _ => decide (j < 8)
  | .andOp _ j _ _ _ => decide (j < 8)
  | .orOp _ j _ _ _ => decide (j < 8)
  | .xorOp _ j _ _ _ => decide (j < 8)
  | .shl _ j _ _ _ => decide (j < 8)
  | .shr _ j _ _ _ => decide (j < 8)
  | .sar _ j _ _ _ => decide (j < 8)
  | .mul _ j _ _ _ => decide (j < 8)
  | .minOp _ j _ _ _ => decide (j < 8)
  | .maxOp _ j _ _ _ => decide (j < 8)
  | .addi _ j _ _ _ => decide (j < 8)
  | .lui _ j _ _ => decide (j < 8)
  | .beq _ j _ _ _ => decide (j < 8)
  | .bne _ j _ _ _ => decide (j < 8)
  | .blt _ j _ _ _ => decide (j < 8)
  | .bge _ j _ _ _ => decide (j < 8)
  | .loop _ j _ _ => decide (j < 8)
  | .jmp _ j _ => decide (j < 8)
  | .callOp _ j _ => decide (j < 8)
  | .retOp _ j => decide (j < 8)
  | .ld _ j _ _ _ => decide (j < 8)
  | .st _ j _ _ _ => decide (j < 8)
  | .rdreg _ j _ _ _ => decide (j < 8)
  | .wrreg _ j _ _ _ => decide (j < 8)
  | .conv _ j _ _ _ => decide (j < 8)
  | .syncv _ j _ _ _ _ => decide (j < 8)
  | .convWaitEnd _ j => decide (j < 8)
  | .getr _ j _ _ _ _ _ _ => decide (j < 8)
  | .getrNWake _ j => decide (j < 8)
  | .strm _ j _ _ _ _ _ _ => decide (j < 8)
  | .strmDecision _ j => decide (j < 8)
  | .lim _ j _ _ _ _ => decide (j < 8)
  | .bal _ j _ _ => decide (j < 8)
  | .balq _ j _ _ _ => decide (j < 8)
  | .exc _ j _ _ => decide (j < 8)
  | .corr _ j _ _ _ _ => decide (j < 8)
  | .waitOp _ j _ _ => decide (j < 8)
  | .waitEnd _ j => decide (j < 8)
  | .waitt _ j _ _ => decide (j < 8)
  | .waittDeadline _ j => decide (j < 8)
  | .waittRd _ j _ => decide (j < 8)
  | .waittRdh _ j _ => decide (j < 8)
  | .waite _ j _ _ _ _ _ _ => decide (j < 8)
  | .waiteWake _ j => decide (j < 8)
  | .waiteTimeout _ j => decide (j < 8)
  | .sig _ j _ _ _ _ => decide (j < 8)
  | .yield _ j => decide (j < 8)
  | .halt _ j _ => decide (j < 8)
  | .illegalInstruction _ j => decide (j < 8)
  | .flagSetWrite _ rq k _ => rq.ok && decide (k < 2)
  | .flagClearWrite _ rq k _ => rq.ok && decide (k < 2)
  | .programWindowWrite _ rq _ => rq.ok
  | .programLoad _ rq _ => rq.ok
  | .loadStopTimeout _ => true
  | .programLoadDone _ => true
  | .jetStart _ rq j addr => rq.ok && decide (j < 8) && decide (addr < 65536)
  | .jetStop _ rq j => rq.ok && decide (j < 8)
  | .jetStopTake _ j => decide (j < 8)
  | .jetKill _ rq j => rq.ok && decide (j < 8)
  | .jetWatchdogExpiry _ j => decide (j < 8)
  | .groupCfgWrite _ rq which g _ => rq.ok && decide (which < 3) && decide (g < 16)
  | .hostTrigger _ rq _ => rq.ok
  | .syncTickTrigger _ => true
  | .syncPinEdge _ _ => true
  | .intervalTimerFire _ _ => true
  | .arbiterGrant _ => true
  | .cmdFrame _ _ h _ => h.ok
  | .trigCmd _ => true
  | .jstartCmd _ => true
  | .jstopCmd _ => true
  | .jkillCmd _ => true
  | .flagsCmd _ => true
  | .opCmd _ => true
  | .loadCmd _ => true
  | .opSuspend _ rq _ => rq.ok
  | .opResume _ rq _ => rq.ok
  | .opCancel _ rq _ => rq.ok
  | .opSuspended _ _ => true
  | .opCancelled _ _ => true
  | .sluiceFrameStart _ => true
  | .slotStart _ _ => true
  | .balLevelWrite _ rq cell level => rq.ok && cellOk cell && decide (level < 512)
  | .balQuotaWrite _ rq cell _ => rq.ok && cellOk cell
  | .xfetWrite _ rq _ => rq.ok
  | .balOvercurrent _ cell => cellOk cell
  | .balCurrentCheck _ cell _ => cellOk cell
  | .balStuckOn _ cell _ => cellOk cell
  | .balGateCheck _ cell _ _ => cellOk cell
  | .spectrumStart _ rq _ => rq.ok
  | .spectrumRunBegin _ => true
  | .currentTrimDone _ _ => true
  | .passExcite _ => true
  | .excitationEdge _ => true
  | .windowOpen _ => true
  | .windowClose _ => true
  | .passEnd _ => true
  | .publish _ _ => true
  | .currentPhasorSend _ _ => true
  | .peerFrame _ _ h payload => h.ok && payloadOk payload
  | .currentTimeout _ _ => true
  | .spectrumHeldTimeout _ => true
  | .f1TrackDone _ _ => true
  | .f1TrackTimeout _ => true
  | .regFrame _ _ h payload => h.ok && payloadOk payload
  | .regRspFrame _ _ h payload => h.ok && payloadOk payload
  | .cmdRspFrame _ _ h payload => h.ok && payloadOk payload
  | .bsnRdFrame _ _ h payload => h.ok && payloadOk payload
  | .bsnHitFrame _ _ h payload => h.ok && payloadOk payload
  | .bsnMissFrame _ _ h payload => h.ok && payloadOk payload
  | .syncFrame _ _ h _ _ _ _ => h.ok
  | .notifyFrame _ _ h payload => h.ok && payloadOk payload
  | .svcFrame _ _ h payload => h.ok && payloadOk payload
  | .svcRspFrame _ _ h payload => h.ok && payloadOk payload
  | .frameForward _ _ f x => f.ok && x.ok
  | .lnkToken _ _ _ => true
  | .transmitStart _ _ => true
  | .trainingLnk _ _ => true
  | .keepalive _ _ => true
  | .linkTimeout _ _ => true
  | .wakeToneSend _ rq _ _ => rq.ok
  | .wakeToneEnd _ _ => true
  | .wakeToneRelay _ => true
  | .counterClear _ rq => rq.ok
  | .enumStart _ rq _ => rq.ok
  | .enumAssignTimeout _ => true
  | .netClear _ _ h _ => h.ok
  | .netAssign _ _ h _ => h.ok
  | .netDiscover _ _ h _ => h.ok
  | .netReverse _ _ h _ => h.ok
  | .netNormal _ _ h _ => h.ok
  | .netAssigned _ _ h payload => h.ok && payloadOk payload
  | .netPresent _ _ h payload => h.ok && payloadOk payload
  | .netReversed _ _ h payload => h.ok && payloadOk payload
  | .netLinkDown _ _ h payload => h.ok && payloadOk payload
  | .netHealed _ _ h payload => h.ok && payloadOk payload
  | .modeAckFrame _ _ h payload => h.ok && payloadOk payload
  | .linkDownSend _ _ => true
  | .hostNop _ => true
  | .txqPut _ _ typ addr _ payload _ => decide (typ < 16) && decide (addr < 65536) && payloadOk payload
  | .rxqGet _ _ _ => true
  | .regRd _ addr _ _ => decide (addr < 65536)
  | .regWr _ addr _ _ => decide (addr < 65536)
  | .tagTimeout _ _ => true
  | .broadcastWindowEnd _ _ => true
  | .syncSend _ => true
  | .hopDelayLnk _ _ _ => true
  | .syncLossExpiry _ => true
  | .ringLossExpiry _ => true
  | .reverseCollectClose _ => true
  | .heal _ rq => rq.ok
  | .chkStart _ rq n _ => rq.ok && decide (n < 16)
  | .chkData _ rq n _ => rq.ok && decide (n < 16)
  | .chkByte _ rq n _ => rq.ok && decide (n < 16)
  | .chkFeed _ rq n _ => rq.ok && decide (n < 16)
  | .chkFeedDone _ n => decide (n < 16)
  | .chkFinish _ rq n => rq.ok && decide (n < 16)
  | .chkAbort _ rq n => rq.ok && decide (n < 16)
  | .chkIdleRelease _ n => decide (n < 16)
  | .rilSearch _ rq => rq.ok
  | .autoSearch _ => true
  | .rlvOn _ => true
  | .queryDone _ _ => true
  | .rilEcho _ _ => true
  | .pollRound _ => true
  | .pollRead _ => true
  | .directTransaction _ rq _ => rq.ok
  | .replyTimeout _ => true
  | .rlvCurrentLimit _ => true
  | .rlvRetry _ => true
  | .busStuck _ => true
  | .stickyClear _ rq k _ => rq.ok && decide (k < 5)
  | .secondaryClear _ rq k _ => rq.ok && decide (k < 5)
  | .clearAll _ rq => rq.ok
  | .shadowEnd _ _ => true
  | .aliveKey _ => true
  | .stewardWatchdog _ => true
  | .stewardStart _ => true
  | .flowToggle _ => true
  | .flowDrop _ => true
  | .ledgerWrite _ => true
  | .sensorStep _ _ => true
  | .graceExpiry _ => true
  | .thermalShutdown _ => true
  | .sensorRestore _ rq _ => rq.ok
  | .backgroundSlice _ => true
  | .sliceEnd _ unit _ _ => decide (unit < 417)
  | .sliceBudgetExpiry _ unit => decide (unit < 417)
  | .sliceCut _ unit cut _ => decide (unit < 417) && decide (cut < 8)
  | .confirmSlice _ => true
  | .campaign _ rq => rq.ok
  | .repair _ rq _ => rq.ok
  | .bstCounterClear _ rq => rq.ok
  | .repairMapStore _ _ => true
  | .mramRowRepair _ row => decide (row < 1024)
  | .mramPageWrite _ => true
  | .scrubStart _ _ => true
  | .scrubPage _ => true
  | .bind _ rq => rq.ok
  | .unbind _ rq => rq.ok
  | .bindingWriteDone _ _ => true
  | .customerWrite _ rq _ => rq.ok
  | .svcOpen _ q _ => q.ok
  | .svcWrite _ q _ _ _ => q.ok
  | .svcStatus _ q => q.ok
  | .svcVerify _ q => q.ok
  | .svcActivate _ q _ _ _ => q.ok
  | .svcClose _ q => q.ok
  | .svcConfirm _ q => q.ok
  | .svcRestart _ q => q.ok
  | .svcRead _ q addr count => q.ok && decide (addr < 2 ^ 32) && decide (count < 256)
  | .svcKeyslot _ q _ x y => q.ok && decide (x.length = 32) && decide (y.length = 32)
  | .activation _ => true
  | .sessionTimeout _ => true
  | .imageConfirm _ => true
  | .confirmWindowExpiry _ => true
  | .vstkResetRising _ => true
  | .supplyDipRecovery _ => true
  | .stackLimitReturn _ => true
  | .vregRecovery _ => true
  | .vchnRestored _ => true
  | .referenceOscillatorRecovery _ => true
  | .lpoRecovery _ => true
  | .receiveCheckFailure _ _ _ => true
  | .serviceFrameGap _ => true
  | .rillReply _ _ _ => true
  | .faultWindowExpiry _ i => decide (i < 160)

end Sys2Proof
end

