-- ==== Sys2Proof/Tests/Slice0.lean ====
section
/-! SUPPORT. Tests/Slice0.lean: ill-formed commands that are refused, the examples of the manual, and for every statement with
hypotheses states that meet them. -/

namespace Sys2Proof.Machine

/-! ### Ill-formed commands are refused -/

/-- A header inside its widths. -/
def okHead : Header := ⟨0, 1, 1, 1, ⟨0, 7, false⟩⟩

/-- A service request inside its widths. -/
def okReq : SvcReq := ⟨true, 1, 1, 1, .north⟩

/-- One ill-formed command for each check on a requester, an address, a number or a value. -/
theorem test_wf_registers :
    [Instr.registerWrite 0 (.jet 8) 0x860 0, .registerWrite 0 .chain 65536 0, .supplyReset 0 0 false, .supplyReset 0 6 false,
      .commandReset 0 (.jet 8) false, .localModeRequest 0 (.jet 8) 4, .localModeRequest 0 .chain 16, .stillScan 0 0 5, .stillScan 0 25 5,
      .lockOpen 0 (.jet 8), .lockClose 0 (.jet 8), .configSave 0 (.jet 8), .configDiscard 0 (.jet 8), .ovlEntryWrite 0 (.jet 8) 0,
      .ncellsWrite 0 (.jet 8) 9, .ncellsWrite 0 .chain 32, .owStart 0 (.jet 8)].all (fun c => !c.wf) = true := by decide

theorem test_wf_measuring :
    [Instr.decimatedSample 0 64 [] false, .rotationVisitStart 0 4, .spareCalDone 0 4 0 0, .matchWindowEnd 0 4 0, .handover 0 4,
      .modulatorCalDone 0 4 0 0, .handBack 0 4, .xmodInPlaceCal 0 64 0 0, .calRunStart 0 (.jet 8) 0, .snapshot 0 (.jet 8),
      .resultRead 0 (.jet 8) 0, .resultRead 0 .chain 36, .netTblRead 0 (.jet 8), .windowAutoincAccess 0 (.jet 8) 0xC4B none,
      .windowAutoincAccess 0 .chain 65536 none, .pageAck 0 (.jet 8) 0 0, .pageAck 0 .chain 16 0, .pageCloseRequest 0 (.jet 8) 0,
      .pageAgeClose 0 16, .streamCfgWrite 0 (.jet 8) 0 0, .streamCfgWrite 0 .chain 16 0, .streamReset 0 (.jet 8) 0,
      .streamReset 0 .chain 16].all (fun c => !c.wf) = true := by decide

theorem test_wf_jets :
    [Instr.add 0 8 0 0 0, .sub 0 8 0 0 0, .andOp 0 8 0 0 0, .orOp 0 8 0 0 0, .xorOp 0 8 0 0 0, .shl 0 8 0 0 0, .shr 0 8 0 0 0, .sar 0 8 0 0 0,
      .mul 0 8 0 0 0, .minOp 0 8 0 0 0, .maxOp 0 8 0 0 0, .addi 0 8 0 0 0, .lui 0 8 0 0, .beq 0 8 0 0 0, .bne 0 8 0 0 0, .blt 0 8 0 0 0,
      .bge 0 8 0 0 0, .loop 0 8 0 0, .jmp 0 8 0, .callOp 0 8 0, .retOp 0 8, .ld 0 8 0 0 0, .st 0 8 0 0 0, .rdreg 0 8 0 0 0, .wrreg 0 8 0 0 0,
      .conv 0 8 0 false 0, .syncv 0 8 0 0 false 0, .convWaitEnd 0 8, .getr 0 8 0 0 0 false false false, .getrNWake 0 8,
      .strm 0 8 0 0 0 0 false 0, .strmDecision 0 8, .lim 0 8 0 0 0 false].all (fun c => !c.wf) = true ∧
    [Instr.bal 0 8 0 0, .balq 0 8 0 0 0, .exc 0 8 0 0, .corr 0 8 0 0 0 false, .waitOp 0 8 0 0, .waitEnd 0 8, .waitt 0 8 0 0, .waittDeadline 0 8,
      .waittRd 0 8 0, .waittRdh 0 8 0, .waite 0 8 0 0 0 0 false false, .waiteWake 0 8, .waiteTimeout 0 8, .sig 0 8 0 0 false false, .yield 0 8,
      .halt 0 8 0, .illegalInstruction 0 8].all (fun c => !c.wf) = true := by decide

theorem test_wf_sequencer :
    [Instr.flagSetWrite 0 (.jet 8) 0 0, .flagSetWrite 0 .chain 2 0, .flagClearWrite 0 (.jet 8) 0 0, .flagClearWrite 0 .chain 2 0,
      .programWindowWrite 0 (.jet 8) 0, .programLoad 0 (.jet 8) 0, .jetStart 0 (.jet 8) 0 0, .jetStart 0 .chain 8 0, .jetStart 0 .chain 0 65536,
      .jetStop 0 (.jet 8) 0, .jetStop 0 .chain 8, .jetStopTake 0 8, .jetKill 0 (.jet 8) 0, .jetKill 0 .chain 8, .jetWatchdogExpiry 0 8,
      .groupCfgWrite 0 (.jet 8) 0 0 0, .groupCfgWrite 0 .chain 3 0 0, .groupCfgWrite 0 .chain 0 16 0, .hostTrigger 0 (.jet 8) 0,
      .cmdFrame 0 .south ⟨16, 1, 1, 1, ⟨0, 7, false⟩⟩ [], .opSuspend 0 (.jet 8) 0, .opResume 0 (.jet 8) 0, .opCancel 0 (.jet 8) 0,
      .balLevelWrite 0 (.jet 8) 1 0, .balLevelWrite 0 .chain 0 0, .balLevelWrite 0 .chain 1 512, .balQuotaWrite 0 (.jet 8) 1 0,
      .balQuotaWrite 0 .chain 25 0, .xfetWrite 0 (.jet 8) 0, .balOvercurrent 0 0, .balCurrentCheck 0 25 0, .balStuckOn 0 0 0,
      .balGateCheck 0 25 0 0, .spectrumStart 0 (.jet 8) 0].all (fun c => !c.wf) = true := by decide

theorem test_wf_frames :
    [Instr.modePrepare 0 .south ⟨16, 1, 1, 1, ⟨0, 7, false⟩⟩ 4 1 0, .modePrepare 0 .south okHead 16 1 0, .modeCommit 0 .south okHead 4 65536 0,
      .regFrame 0 .south ⟨0, 64, 1, 1, ⟨0, 7, false⟩⟩ [], .regRspFrame 0 .north ⟨0, 1, 4, 1, ⟨0, 7, false⟩⟩ [], .cmdRspFrame 0 .north ⟨0, 1, 1, 128, ⟨0, 7, false⟩⟩ [],
      .bsnRdFrame 0 .south ⟨0, 1, 1, 1, ⟨2 ^ 32, 7, false⟩⟩ [], .bsnHitFrame 0 .north okHead (List.replicate 512 0), .bsnMissFrame 0 .north ⟨0, 1, 1, 1, ⟨2 ^ 32, 7, false⟩⟩ [],
      .syncFrame 0 .south ⟨16, 1, 1, 1, ⟨0, 7, false⟩⟩ 0 0 0 0, .notifyFrame 0 .north ⟨0, 64, 1, 1, ⟨0, 7, false⟩⟩ [], .peerFrame 0 .south ⟨0, 64, 1, 1, ⟨0, 7, false⟩⟩ [],
      .svcFrame 0 .south ⟨0, 64, 1, 1, ⟨0, 7, false⟩⟩ [], .svcRspFrame 0 .north ⟨0, 64, 1, 1, ⟨0, 7, false⟩⟩ [], .netClear 0 .south ⟨0, 64, 1, 1, ⟨0, 7, false⟩⟩ 0,
      .netAssign 0 .south ⟨0, 64, 1, 1, ⟨0, 7, false⟩⟩ 0, .netDiscover 0 .south ⟨0, 64, 1, 1, ⟨0, 7, false⟩⟩ 0, .netReverse 0 .south ⟨0, 64, 1, 1, ⟨0, 7, false⟩⟩ 0,
      .netNormal 0 .south ⟨0, 64, 1, 1, ⟨0, 7, false⟩⟩ 0, .netAssigned 0 .north ⟨0, 64, 1, 1, ⟨0, 7, false⟩⟩ [], .netPresent 0 .north ⟨0, 64, 1, 1, ⟨0, 7, false⟩⟩ [],
      .netReversed 0 .north ⟨0, 64, 1, 1, ⟨0, 7, false⟩⟩ [], .netLinkDown 0 .north ⟨0, 64, 1, 1, ⟨0, 7, false⟩⟩ [], .netHealed 0 .north ⟨0, 64, 1, 1, ⟨0, 7, false⟩⟩ [],
      .modeAckFrame 0 .north ⟨0, 64, 1, 1, ⟨0, 7, false⟩⟩ [], .frameForward 0 .north ⟨16, 0, 1, 1, 1, []⟩ ⟨0, 7, false⟩, .frameForward 0 .north ⟨1, 0, 1, 1, 1, []⟩ ⟨2 ^ 32, 7, false⟩,
      .frameForward 0 .north ⟨1, 0, 1, 1, 1, List.replicate 512 0⟩ ⟨0, 7, false⟩, .txqPut 0 1 16 1 0 [] .none, .txqPut 0 1 1 65536 0 [] .none,
      .regRd 0 65536 1 .none, .regWr 0 65536 [0] .none].all (fun c => !c.wf) = true := by decide +kernel

theorem test_wf_services :
    [Instr.wakeToneSend 0 (.jet 8) true true, .counterClear 0 (.jet 8), .enumStart 0 (.jet 8) true, .heal 0 (.jet 8), .chkStart 0 (.jet 8) 0 0,
      .chkStart 0 .chain 16 0, .chkData 0 .chain 16 0, .chkByte 0 .chain 16 0, .chkFeed 0 .chain 16 0, .chkFeedDone 0 16, .chkFinish 0 .chain 16,
      .chkAbort 0 .chain 16, .chkIdleRelease 0 16, .rilSearch 0 (.jet 8), .directTransaction 0 (.jet 8) 0, .stickyClear 0 (.jet 8) 0 0,
      .stickyClear 0 .chain 5 0, .secondaryClear 0 (.jet 8) 0 0, .secondaryClear 0 .chain 5 0, .clearAll 0 (.jet 8), .sensorRestore 0 (.jet 8) 0,
      .campaign 0 (.jet 8), .repair 0 (.jet 8) 0, .bstCounterClear 0 (.jet 8), .mramRowRepair 0 1024, .sliceEnd 0 417 [] ⟨0, 0, 0, 0, true⟩, .sliceBudgetExpiry 0 417,
      .sliceCut 0 417 0 0, .faultWindowExpiry 0 160, .bind 0 (.jet 8), .unbind 0 (.jet 8),
      .customerWrite 0 (.jet 8) 0, .svcOpen 0 ⟨true, 256, 1, 1, .north⟩ 1, .svcWrite 0 ⟨true, 1, 65536, 1, .north⟩ 0 0 [],
      .svcStatus 0 ⟨true, 1, 1, 128, .north⟩, .svcVerify 0 ⟨true, 256, 1, 1, .north⟩, .svcActivate 0 ⟨true, 256, 1, 1, .north⟩ 0 0 0,
      .svcClose 0 ⟨true, 256, 1, 1, .north⟩, .svcConfirm 0 ⟨true, 256, 1, 1, .north⟩, .svcRestart 0 ⟨true, 256, 1, 1, .north⟩,
      .svcRead 0 ⟨true, 256, 1, 1, .north⟩ 0 1, .svcRead 0 okReq 4294967296 1, .svcRead 0 okReq 0 256, .svcKeyslot 0 okReq false [] (List.replicate 32 0),
      .svcKeyslot 0 okReq false (List.replicate 32 0) []].all (fun c => !c.wf) = true := by decide

/-- Commands with every operand at the end of its range are well formed. -/
theorem test_wf_accepts :
    [Instr.registerWrite 0 (.jet 7) 65535 0xFFFFFFFF, .supplyReset 0 5 false, .stillScan 0 24 (-1), .ncellsWrite 0 .service 31,
      .resultRead 0 .steward 35, .add 0 7 15 15 15, .balLevelWrite 0 .chain 24 511, .chkData 0 .chain 15 0, .mramRowRepair 0 1023,
      .regFrame 0 .south ⟨15, 63, 3, 127, ⟨0, 7, false⟩⟩ (List.replicate 511 0), .svcStatus 0 ⟨false, 255, 65535, 127, .south⟩].all (fun c => c.wf) = true := by decide +kernel

/-! ### Small states -/

/-- A device that has started up and is in mode `m`, with the steward running. -/
def atMode (m : Mode) : State :=
  { State.reset with
    pwr := { State.reset.pwr with mode := m, step := 9, pllLock := true, refOk := true, coreSrc := .pll }
    flt := { State.reset.flt with stwRun := true, stwAlive := true } }

/-- The same, with the configuration lock held by the chain-interface requester. -/
def lockedAt (m : Mode) : State := { atMode m with pwr := { (atMode m).pwr with lockOwner := some .chain } }

/-- A device that is the bridge, with the ring enabled. -/
def bridgeAt (m : Mode) : State := { atMode m with regs := [(0x1600, some 0xF0000000)] }

/-- A device in MEASURE whose jets are in state `st`, with `i` as word 0 of the program. -/
def jetWith (st : JetSt) (w : JWait) (i : Balrax) : State :=
  { atMode .measure with
    seq := { Seq.init with prog := [(0, some i.encode)], jets := .replicate 8 { Jet.init with st := st, wait := w, stack := [7] } } }

/-- A device in MEASURE whose jets run, with `i` as word 0 of the program. -/
def jetAt (i : Balrax) : State := jetWith .running .none i

/-- A device in MEASURE whose jets wait for `w`. -/
def jetWait (w : JWait) : State := jetWith .waiting w .yield

/-! ### Hypotheses that states meet -/

theorem witness_StepRunsFrontCommand :
    ({ State.reset with pending := [.stackOv 3] }).pending = .stackOv 3 :: [] ∧ State.reset.pending = [] := by decide

theorem witness_StepKeepsInv :
    State.Inv { State.reset with pending := [.stackOv 3] } ∧ (nextOf (step { State.reset with pending := [.stackOv 3] })).isSome = true := by
  decide

theorem witness_DecodeEncodeAgree :
    Balrax.wf (.strm 1 2 3 0 true 15) = true ∧ Balrax.decode 0xFFFFFFFF = none ∧ Balrax.decode 0x9400FFFF = some (.halt 0xFFFF) := by
  decide

theorem witness_RegisterResults :
    (∀ op ∈ [AluOp.add, .sub, .and, .or, .xor, .shl, .shr, .sar, .mul, .min, .max],
      ((jetAt (.alu op 15 2 3)).elapse 0).issues 7 (.alu op 15 2 3)) ∧
    ((jetAt (.addi 15 0 0x20000)).elapse 0).issues 7 (.addi 15 0 0x20000) ∧ ((jetAt (.lui 15 0x3FFFF)).elapse 0).issues 0 (.lui 15 0x3FFFF) ∧
    (0x0000000B : Word).extractLsb' 26 6 = 0 ∧ 11 ≤ ((0x0000000B : Word).extractLsb' 0 14).toNat ∧
    (0x08040000 : Word).extractLsb' 26 6 = 2 ∧ (0x08040000 : Word).extractLsb' 18 4 ≠ 0 := by decide

theorem witness_ControlTransfers :
    (∀ op ∈ [BrOp.eq, .ne, .lt, .ge],
      ((jetAt (.br op 1 2 16383)).elapse 0).issues 0 (.br op 1 2 16383) ∧
        ((16383 : Nat) : Int) = ((((jetAt (.br op 1 2 16383)).elapse 0).issueAt 0).jet 0).pc + (16383 : Imm18).toInt) ∧
    ((jetAt (.loop 1 16383)).elapse 0).issues 0 (.loop 1 16383) ∧ ((jetAt (.jmp 16383)).elapse 0).issues 0 (.jmp 16383) ∧
    ((jetAt (.call 16383)).elapse 0).issues 0 (.call 16383) ∧ 16383 = (16383 : Imm26).toNat ∧
    ((jetAt .ret).elapse 0).issues 0 .ret ∧ ((((jetAt .ret).elapse 0).issueAt 0).jet 0).stack = 7 :: [] := by decide

theorem witness_LoadsAndStores :
    (0 + (4092 : Imm18).signExtend 32 : Word).toNat ≤ 4092 ∧
    ((jetAt (.ld 1 0 4092)).elapse 0).issues 0 (.ld 1 0 4092) ∧ ((jetAt (.ld 1 0 4092)).elapse 0).eccOf .scratch 1023 = none ∧
    ((jetAt (.st 1 0 4092)).elapse 0).issues 0 (.st 1 0 4092) ∧
    (∀ m < 8, (((jetAt .yield).jet m).wait.safe = true ∨ ((jetAt .yield).jet m).wait = .none)) ∧
    ((jetAt (.rdreg 1 0 0xFFFF)).elapse 0).issues 0 (.rdreg 1 0 0xFFFF) ∧
    ((jetAt (.wrreg 1 0 0x400)).elapse 0).issues 0 (.wrreg 1 0 0x400) ∧ (jetAt .yield).refuses (.jet 0) 0x400 0 = true ∧
    ((jetAt (.wrreg 1 0 0x860)).elapse 0).issues 0 (.wrreg 1 0 0x860) ∧ ((jetAt .yield).writeReg (.jet 0) 0x860 0).1 = .ok ∧
    ((jetAt .yield).writeReg (.jet 0) 0x860 0).2.resets = (jetAt .yield).resets ∧
    (((jetAt .yield).writeReg (.jet 0) 0x860 0).2.jet 0).st = .running ∧
    ((jetAt (.lim 1 0 35 false)).elapse 0).issues 0 (.lim 1 0 35 false) := by decide

theorem witness_WaitsOfTheJets :
    ((jetAt (.wait 0 0)).elapse 0).issues 0 (.wait 0 0) ∧ ((jetAt (.wait 0 1)).elapse 0).issues 0 (.wait 0 1) ∧
    ((jetAt (.waitt 1 0)).elapse 0).issues 0 (.waitt 1 0) ∧ 0 ≤ ((0 : Word) - 0).toInt ∧ ((0 : Word) - 1).toInt < 0 ∧
    ((jetAt (.waite 1 0 0 63 false true)).elapse 0).issues 0 (.waite 1 0 0 63 false true) ∧ (jetAt .yield).flagSet 63 = false ∧
    State.flagSet { jetAt .yield with seq := { (jetAt .yield).seq with flags := 1#64 <<< 63 } } 63 = true ∧
    (let s := State.putFlag (State.noteFlag (jetAt .yield) 63) 63 true
     s.flagSet 63 = true ∧ s.flagFresh 63 = true ∧ s.seq.flagTook.getLsbD 63 = false ∧
       State.flagFresh { s with seq := { s.seq with flagTook := 1#64 <<< 63 } } 63 = true) ∧
    ((jetWait (.time 5)).elapse 0).waits 7 (.time 5) ∧ ((jetWait (.deadline 1 0)).elapse 0).waits 0 (.deadline 1 0) ∧
    ((jetWait (.deadline 1 0)).elapse 0).reached32 0 = true ∧ ((jetWait (.deadline 1 5)).elapse 0).reached32 5 = false ∧
    ((jetWait (.flag 1 63 true none true)).elapse 0).waits 0 (.flag 1 63 true none true) ∧
    ((jetWait (.flag 1 63 true (some 9) false)).elapse 0).waits 0 (.flag 1 63 true (some 9) false) ∧
    ((jetWait (.conv 1 0 0 none (some 2))).elapse 0).waits 0 (.conv 1 0 0 none (some 2)) ∧
    ((jetWait (.getr 1 35 false (some 0))).elapse 0).waits 0 (.getr 1 35 false (some 0)) ∧ (jetAt .yield).latest 35 = 0 ∧
    ((jetAt (.waittRd 1)).elapse 0).issues 0 (.waittRd 1) ∧ ((jetAt (.waittRdh 1)).elapse 0).issues 0 (.waittRdh 1) := by decide

/-- A device in MEASURE whose jet 0 waits for a flag that jet 5 has taken in the same cycle. -/
def jetTook : State := (jetAt (.waite 1 0 0 63 false true)).cycMod (fun c => { c with took := [(63, 5, Jet.init)] })

theorem witness_WaitsOfTheJets_taken :
    (jetTook.elapse 0).issues 0 (.waite 1 0 0 63 false true) ∧ ((jetTook.elapse 0).issueAt 0).taker 63 = some (5, Jet.init) ∧
    ((jetTook.elapse 0).issueAt 0).flagFresh 63 = false := by decide

theorem witness_FlagsYieldHalt :
    ((jetAt (.sig 0 63 false false)).elapse 0).issues 0 (.sig 0 63 false false) ∧ (jetAt .yield).flagFresh 63 = false ∧
    ((jetAt (.sig 0 63 false true)).elapse 0).issues 0 (.sig 0 63 false true) ∧ (∀ m < 8, ¬ waitsOn (jetAt .yield) 63 true m) ∧
    ((jetAt .yield).elapse 0).issues 7 .yield ∧ ((jetAt .yield).jet 7).st = .running ∧
    ((jetAt (.halt 0xFFFF)).elapse 0).issues 7 (.halt 0xFFFF) ∧ ((jetAt (.halt 0xFFFF)).issueAt 7).noFeed := by decide

/-- A device in MEASURE with group 15 defined for the jets. -/
def groupAt (i : Balrax) : State :=
  { jetAt i with
    regs := [(0xC0F, some 0x8A400000)], seq := { (jetAt i).seq with groups := .replicate 16 ⟨true, false, 0, 0, 0, none⟩ } }

theorem witness_ConversionsStart :
    ((groupAt (.conv 1 true 15)).elapse 0).issues 0 (.conv 1 true 15) ∧ ((groupAt (.syncv 1 2 false 15)).elapse 0).issues 7 (.syncv 1 2 false 15) ∧
    ((groupAt .yield).grp 15).defined = true ∧ (groupAt .yield).grpTrig 15 = 0 ∧ (groupAt .yield).grpBusy 15 = false := by decide

theorem witness_ResultsAndStreams :
    ((jetAt (.getr 1 0 35 false true false)).elapse 0).issues 0 (.getr 1 0 35 false true false) ∧
    ((jetAt (.getr 1 0 23 false true true)).elapse 0).issues 0 (.getr 1 0 23 false true true) ∧
    State.used { jetAt .yield with regs := [(0x400, some 24)] } 24 = true ∧
    ((jetAt (.strm 1 0 0 63 false 15)).elapse 0).issues 0 (.strm 1 0 0 63 false 15) ∧ 0 % 4 = 0 ∧ 0 + 4 * 64 ≤ 4096 ∧
    (((jetWait (.strm 1 15 0 1 0 0 [] false)).elapse 0).jet 0).wait = .strm 1 15 0 1 0 0 [] false ∧
    (∀ j ∈ [0, 7],
      (∀ i < j, State.strmDue { jetAt .yield with seq := { (jetAt .yield).seq with
        jets := (jetAt .yield).seq.jets.set! j { Jet.init with st := .waiting, wait := .strm 1 15 0 1 0 0 [] false } } } i = none) ∧
        (jetWait (.strm 1 15 0 1 0 0 [] false)).wdBefore j 20 = false) ∧
    ((jetWait (.strm 1 15 0 1 0 0 [] false)).elapse 0).coreOn = true ∧ ((jetWait (.strm 1 15 0 1 0 0 [] false)).elapse 0).modeIn 3 10 = true ∧
    (∀ i < 1, ((jetWait (.strm 1 15 0 1 0 0 [] false)).elapse 0).eccOf .scratch i = none) ∧
    (let s := State.elapse { jetWait (.strm 1 15 0 2 0 0 [] false) with ecc := [(.scratch, 1, true)] } 0
     (∀ y < 1, s.eccOf .scratch y = none) ∧ s.eccOf .scratch 1 = some true) := by decide

/-- A device in MEASURE whose jets run, with `x` in every register and `i` as word 0 of the program. -/
def jetRegs (x : Word) (i : Balrax) : State :=
  { atMode .measure with
    seq := { Seq.init with prog := [(0, some i.encode)], jets := .replicate 8 { Jet.init with st := .running, regs := .replicate 16 x } } }

theorem witness_CellInstructions :
    ((jetAt (.bal 0 0)).elapse 0).issues 0 (.bal 0 0) ∧ (0xFFFFFF : Word).toNat < 2 ^ 24 ∧ Nat.testBit 0xFFFFFF 23 = true ∧
    Nat.testBit 0 23 = false ∧
    ((jetRegs 1 (.balq 1 2 3)).elapse 0).issues 0 (.balq 1 2 3) ∧ ((jetRegs 1 (.balq 1 2 3)).greg 0 2).toNat = 1 ∧
    ((jetRegs 24 (.balq 1 2 3)).elapse 0).issues 7 (.balq 1 2 3) ∧ ((jetRegs 24 (.balq 1 2 3)).greg 7 2).toNat = 24 ∧
    ((jetRegs 24 (.corr 1 2 7 true)).elapse 0).issues 0 (.corr 1 2 7 true) ∧ ((jetAt (.exc 1 2)).elapse 0).issues 0 (.exc 1 2) := by decide

/-- A device in MEASURE whose jet 0 fetches a word that is no instruction, or runs past word 16,383. -/
def jetBad (pc : Nat) : State :=
  { atMode .measure with
    seq := { Seq.init with prog := [(0, some 0xFFFFFFFF)], jets := .replicate 8 { Jet.init with st := .running, pc := pc } } }

theorem witness_JetFaults :
    State.canIssue (jetBad 0) 0 = true ∧ (jetBad 0).eccOf .prog 0 = none ∧ Balrax.decode ((jetBad 0).fetchWord 0) = none ∧
    (jetBad 16384).canIssue 0 = true ∧ 16384 ≤ ((jetBad 16384).jet 0).pc ∧
    (jetBad 0).noFeed ∧ ({ BalCell.init with owner := some (.jet 7), on := true }).owner = some (.jet 7) := by decide

/-- A device in mode `m` with its supplies, clocks and modes changed. -/
def withPwr (m : Mode) (f : Pwr → Pwr) : State := { atMode m with pwr := f (atMode m).pwr }

/-- A device in mode `m` with a wake due. -/
def wakeAt (m : Mode) : State := withPwr m (fun p => { p with wakeDue := some 1 })

theorem witness_Resets :
    (∀ src ∈ [2, 3, 4], (withPwr .measure (fun p => { p with railTrip := some (src, 5) })).pwr.railTrip = some (src, 5)) ∧
    (let s := withPwr .measure (fun p => { p with retries := 8, pllLock := false })
     8 ≤ s.pwr.retries ∧ s.pwr.pllLock = false) ∧
    (lockedAt .measure).pwr.lockOwner.isSome = true ∧ (lockedAt .measure).pwr.commit = none ∧ (lockedAt .measure).pwr.mode ≠ .lockout ∧
    (wakeAt .ship).pwr.wakeDue = some 1 ∧ (wakeAt .ship).pwr.mode = .ship ∧ (wakeAt .still).pwr.wakeDue = some 1 ∧
    (wakeAt .still).pwr.mode = .still ∧
    (∀ k ∈ [0, 1],
      (withPwr .reset (fun p => { p with factory := true, step := k })).pwr.step ≤ 1 ∧
        (withPwr .reset (fun p => { p with factory := true, step := k })).pwr.stuck = false) := by decide

/-- A device in RESET that has done start-up step `n`. -/
def startAt (n : Nat) : State :=
  { State.reset with
    pwr := { State.reset.pwr with step := n, pllLock := true, refOk := true, coreSrc := .pll, autoDue := true }
    flt := { State.reset.flt with stwRun := true } }

theorem witness_StartUp :
    (startAt 0).pwr.mode = .reset ∧ (startAt 0).pwr.step = 0 ∧ (startAt 1).atStep 1 = true ∧ (startAt 5).atStep 5 = true ∧
    (startAt 6).atStep 6 = true ∧ (startAt 6).stw = true ∧ (startAt 7).atStep 7 = true ∧ (startAt 8).atStep 8 = true ∧
    (startAt 8).pwr.commit = none ∧ (withPwr .safe (fun p => { p with autoDue := true })).pwr.autoDue = true ∧
    (withPwr .safe (fun p => { p with autoDue := true })).modeIn 3 11 = true := by decide

/-- A device in MEASURE in a supply dip from which VSTK has risen. -/
def dipAt : State :=
  { withPwr .measure (fun p => { p with supplyOk := 0x3E, mramHold := true, dipRec := some 7 }) with aon := { Aon.init with dipOpen := true } }

theorem witness_SuppliesAndClocks :
    ((atMode .measure).supplied = true ∧ (atMode .measure).pwr.supplyOk.testBit 0 = true ∧ (atMode .measure).aon.dipOpen = false) ∧
    ((7000 : Nat) < (atMode .measure).warnMv ∧ dipAt.warnMv + 500 < 12000 ∧ (atMode .measure).cycle ≠ 2) ∧
    (dipAt.supplied = true ∧ dipAt.pwr.supplyOk.testBit 0 = false ∧ dipAt.pwr.dipRec = some 7 ∧ dipAt.aon.dipOpen = true) ∧
    (¬((atMode .measure).pwr.mode = .watch ∧ (atMode .measure).pwr.supMask = true) ∧ (atMode .measure).pwr.railTrip = none) ∧
    (atMode .measure).pwr.supplyOk.testBit 2 = true ∧
    (withPwr .measure (fun p => { p with supplyOk := 0x3B })).pwr.supplyOk.testBit 2 = false ∧ (atMode .measure).res.stackHi = false ∧
    (State.portOn { atMode .measure with regs := [(0x1400, some 3)] } .north = true ∧ (atMode .measure).ecp.north.st = .off) ∧
    (atMode .measure).pwr.pllLock = true ∧ (atMode .measure).pwr.refOk = true ∧ (atMode .measure).pwr.lpoOk = true ∧
    (let s := withPwr .measure (fun p => { p with pllLock := false, refOk := false, coreSrc := .lpo, retries := 7 })
     s.pwr.pllLock = false ∧ s.pllMode = true ∧ s.pwr.retries < 8 ∧ s.supplied = true ∧ s.pwr.refOk = false) := by decide

/-- A device in STILL with every wake enabled, the timer at its longest. -/
def stillAt : State := { atMode .still with regs := [(0x10B, some 0xFFFF0007)] }

/-- A device in WATCH with the WAKE pin enabled; `b` says that the buck is on for a burst, `r` that a burst runs. -/
def watchAt (b r : Bool) : State :=
  { withPwr .watch (fun p => { p with buckBurst := b, burst := r, supMask := true }) with regs := [(0x10B, some 0x00000007)] }

/-- A device in SHIP whose LPO has run for 38,000 ticks, with WAKE and the tone enabled. -/
def shipAt : State :=
  { withPwr .ship (fun p => { p with lpoRun := true, lpoAt := 0 }) with
    time := { State.reset.time with clk := 38000 }, regs := [(0x10B, some 3)] }

theorem witness_StillAndWatch :
    (stillAt.pwr.mode = .still ∧ 1 = stillAt.pwr.scanCell ∧ stillAt.used 1 = true ∧ stillAt.busbar 1 = false ∧ stillAt.bit 0x10B 2 = true ∧
      (-40000 : Int) < ((stillAt.eff 0x10C).extractLsb' 16 16).toInt) ∧
    (stillAt.fld 0x10B 16 16 ≠ 0 ∧ stillAt.bit 0x10B 0 = true ∧ stillAt.bit 0x10B 1 = true ∧ stillAt.pwr.portsOff = false) ∧
    ((withPwr .ship id).pwr.mode = .ship ∧ (withPwr .ship id).pwr.lpoRun = true ∧ (withPwr .ship id).pwr.wakeDue = none) ∧
    (10400 < stillAt.lpoTicks 10401 ∧ stillAt.lpoTicks 9399 < 9400 ∧ 10400 < shipAt.lpoTicks 10401 ∧ shipAt.lpoTicks 9399 < 9400 ∧
      shipAt.bit 0x10B 0 = true ∧ shipAt.bit 0x10B 1 = true ∧ shipAt.pwr.lpoAt + 38000 ≤ shipAt.clk ∧ 10400 < (watchAt false false).lpoTicks 10401) ∧
    ((watchAt false false).pwr.mode = .watch ∧ (watchAt false false).pwr.commit = none ∧ (watchAt false false).bit 0x10B 0 = true) ∧
    ((watchAt false false).pwr.burst = false ∧ (watchAt false false).pwr.buckBurst = false) ∧
    ((watchAt true false).pwr.buckBurst = true ∧ (watchAt true false).pwr.supMask = true) ∧
    ((watchAt true true).pwr.burst = true ∧ (watchAt true true).convs = [] ∧ (watchAt true true).cfe.run = none) := by decide

/-- A device in MEASURE with an overlay commit in progress, for a request that came at clock 0. -/
def committing : State := withPwr .measure (fun p => { p with commit := some ⟨.balance, .request, [], 1, []⟩ })

theorem witness_RegisterWrites :
    (((atMode .measure).elapse 0).serves .chain = true ∧ ((atMode .measure).elapse 0).refuses .chain 0x400 8 = true) ∧
    ((committing.elapse 0).serves .chain = true ∧ (committing.elapse 0).refuses .chain 0x860 8 = false ∧
      (committing.elapse 0).pwr.commit = some ⟨.balance, .request, [], 1, []⟩) ∧
    ((atMode .measure).elapse 0).accepts .service 0x860 5 ∧ ((atMode .measure).elapse 0).accepts (.jet 7) 0x883 5 ∧
    ((lockedAt .measure).elapse 0).accepts .chain 0x1B00 5 ∧ ((lockedAt .measure).elapse 0).accepts .chain 0x1B9F 5 ∧
    ((atMode .measure).elapse 0).ovl.snap = [] ∧ storesReg 0x860 = true ∧ 0x861 ≠ 0x860 ∧
    (let s := ((atMode .measure).noteWrite (.jet 7) 0x860).elapse 0
     s.serves .chain = true ∧ s.refuses .chain 0x860 8 = false ∧ s.pwr.commit = none ∧ s.outranked .chain 0x860 0 = true) ∧
    (∀ x ∈ [HeldWrite.mk .chain 0x860 1 true 0], x.at_ = (HeldWrite.mk (.jet 0) 0x860 2 true 0).at_ →
      writeRank x.rq ≤ writeRank (.jet 0)) := by decide

/-- A device in MEASURE with the lock held by the chain-interface requester, entry 0 of MEASURE's overlay selected, and a save running. -/
def savingAt (busy : Bool) : State :=
  { lockedAt .measure with
    ovl := { State.reset.ovl with saveBusy := busy, saveImg := if busy then some ⟨true, 0, 2, [], []⟩ else none }
    regs := [(0x202, some 0x00040000)] }

theorem witness_LockAndConfiguration :
    (((lockedAt .measure).elapse 0).accepts .chain 0x10A 0x1F2E ∧ isJet .chain = false ∧ (lockedAt .measure).pwr.lockOwner = some .chain) ∧
    (((atMode .measure).elapse 0).accepts .service 0x10A 0x1F2E ∧ (atMode .measure).pwr.lockOwner = none) ∧
    ((lockedAt .measure).elapse 0).accepts .chain 0x10A 0 ∧
    (((lockedAt .measure).elapse 0).accepts .chain 0x200 (((lockedAt .measure).elapse 0).keep 0x200 ||| 256) ∧
      (lockedAt .measure).ovl.saveBusy = false) ∧
    ((savingAt true).ovl.saveImg = some ⟨true, 0, 2, [], []⟩ ∧ (savingAt true).mramHeld = false ∧ (savingAt true).nvm.act ≠ 1 ∧ (savingAt true).noFeed) ∧
    ((lockedAt .measure).elapse 0).accepts .chain 0x200 (((lockedAt .measure).elapse 0).keep 0x200 ||| 512) ∧
    (((savingAt false).elapse 0).accepts .chain 0x203 0x10860 ∧ (savingAt false).ovlSel.isSome = true ∧
      Sparse.wf ⟨false, 0, 0, 0⟩ (savingAt false).ovl.entries = true) ∧
    (((savingAt false).elapse 0).serves .chain = true ∧ (0x10400 : Word).getLsbD 16 = true ∧ ovlAddrBad ((0x10400 : Word).toNat % 65536) = true) := by
  decide

/-- A device in SAFE with source 1 latched, which is SEVERE. -/
def heldSafe : State := { atMode .safe with flt := { (atMode .safe).flt with src := [(1, { FltSrc.clear with sticky := true })] } }

theorem witness_LocalModeChanges :
    ((atMode .measure).elapse 0).accepts .chain 0x101 (put Mode.balance.num 0 4) ∧
    (let s := withPwr .measure (fun p => { p with prepared := some ⟨1, 5, 9⟩ })
     (s.elapse 0).accepts .chain 0x101 (put Mode.balance.num 0 4) ∧ s.pwr.prepared.isSome = true) ∧
    ((atMode .measure).pwr.prepared = none ∧ routeOk (atMode .measure).pwr.mode.num Mode.reset.num = false) ∧
    (heldSafe.pwr.prepared = none ∧ routeOk heldSafe.pwr.mode.num Mode.measure.num = true ∧ heldSafe.safeHeld Mode.measure.num = true) ∧
    (routeOk (atMode .measure).pwr.mode.num Mode.balance.num = true ∧ (atMode .measure).safeHeld Mode.balance.num = false ∧
      (atMode .measure).pwr.nextReact = none) ∧
    committing.pwr.commit = some ⟨.balance, .request, [], 1, []⟩ ∧
    State.rwo { atMode .measure with rwo := [(0x105, 1, 1)] } = [(0x105, 1, 1)] := by decide

/-- The header of a frame of class `cls` to node `addr`, with the check value of the frame and an INFO that says RDY. -/
def headTo (addr cls typ : Nat) (payload : Bytes) : Header := ⟨0, addr, cls, 1, ⟨frameCheck ⟨typ, 0, addr, cls, 1, payload⟩, 7, false⟩⟩

/-- A device in mode `m` with chain address 1 and both ports UP. -/
def nodeAt (m : Mode) : State :=
  { atMode m with
    aon := { Aon.init with chainAddr := some 1 }
    ecp := ⟨{ Port.init false with st := .up }, { Port.init true with st := .up }, false, false, none⟩ }

/-- The same with a change to BALANCE PREPARED for timebase 100, and a COMMIT for it that came early enough. -/
def preparedAt (commits : List CommitRec) : State :=
  { nodeAt .measure with pwr := { (nodeAt .measure).pwr with prepared := some ⟨1, 5, 100⟩, commits := commits } }

/-- The header and the frame of a MODE command for the change to BALANCE at timebase `tc`. -/
def modeHead (op : Nat) (tc : Tick) : Header := headTo 1 1 10 (modePayload op 5 1 tc)
def modeFrame (op : Nat) (tc : Tick) : Frame := Header.frame (modeHead op tc) 10 (modePayload op 5 1 tc)

theorem witness_ChainModeChanges :
    (((nodeAt .measure).elapse 0).hears .south (modeFrame 1 100000000) (modeHead 1 100000000).tail ∧
      (let u := ((nodeAt .measure).elapse 0).heard .south (modeFrame 1 100000000) (modeHead 1 100000000).tail
       u.prepDeaf = false ∧ u.prepJudge 1 5 100000000 = none)) ∧
    (((preparedAt []).elapse 0).hears .south (modeFrame 2 100) (modeHead 2 100).tail ∧
      (let u := ((preparedAt []).elapse 0).heard .south (modeFrame 2 100) (modeHead 2 100).tail
       u.prepDeaf = false ∧ u.staleEpoch 1 = false ∧ u.lapsedAs 1 ≠ some false ∧ u.tb < 100)) ∧
    (let s := preparedAt [⟨1, 5, 100, true⟩]
     s.pwr.commit = none ∧ s.pwr.prepared = some ⟨1, 5, 100⟩ ∧ s.tb < 100 ∧ s.pwr.commits = [⟨1, 5, 100, true⟩] ∧
       Mode.ofNum 5 = some .balance ∧ s.pwr.mode ≠ .balance ∧ (s.untilTb 100).reached 100 = true) ∧
    (preparedAt []).pwr.commits = [] := by decide +kernel

theorem witness_CellsUsed :
    ((lockedAt .measure).elapse 0).accepts .chain 0x400 (put 8 0 5) ∧ ((lockedAt .measure).elapse 0).accepts .chain 0x400 (put 24 0 5) ∧
    ((lockedAt .measure).elapse 0).ovl.snap = [] ∧ 24 ≤ State.ncells { State.reset with regs := [(0x400, some 24)] } ∧
    State.ncells { State.reset with regs := [(0x400, some 8)] } < 24 ∧ State.reset.convs = [] ∧
    (let u : State := { State.reset with
       regs := [(0x400, some 8)], mod := { Mod.init with spares := .replicate 4 ⟨none, some 16, none, false, false, none, none⟩ } }
     u.mod.run = none ∧ (16 < 48 ∧ u.used (16 / 2 + 1) = false) ∧ (u.spare 3).used = none ∧ (u.spare 3).stand = some 16) := by decide

/-- A device in MEASURE whose open-wire check is in phase `j` at step `st`. -/
def owAt (j : Nat) (st : OwStep) : State :=
  { atMode .measure with
    cfe := { Cfe.init with run := some ⟨j, st, 0, 0, [], [], false, none⟩, lastRun := some 0 }, regs := [(0x403, some 0x00040000)] }

theorem witness_OpenWire :
    (((atMode .measure).elapse 0).accepts .chain 0x404 1 ∧ (atMode .measure).cfe.run = none ∧ (atMode .measure).owMode = true) ∧
    (((atMode .spectrum).elapse 0).accepts .chain 0x404 1 ∧ (atMode .spectrum).cfe.run = none ∧ (atMode .spectrum).owMode = false) ∧
    ((owAt 0 .due).cfe.lastRun = some 0 ∧ (owAt 0 .due).owPeriod ≠ 0) ∧
    (∀ st ∈ [OwStep.due, .hold, .baseline, .settle, .check, .off],
      (owAt 2 st).cfe.run = some ⟨2, st, 0, 0, [], [], false, none⟩ ∧ (owAt 0 st).cfe.run = some ⟨0, st, 0, 0, [], [], false, none⟩) ∧
    ((owAt 0 .baseline).owBusy .owBase = false ∧ (owAt 0 .check).owBusy .owCheck = false) ∧ 2 ≤ 8 ∧ 1 ≤ 7 ∧ 7 < 8 := by decide

/-- A device in MEASURE in which spare 3 visits modulator 0 and has come to step `st`. -/
def visitAt (st : VisitStep) (tries : Nat) : State :=
  { atMode .measure with
    regs := [(0x1D01, some 0)]
    mod := { Mod.init with spares := .replicate 4 ⟨some ⟨0, st, tries, 0⟩, none, none, false, false, none, none⟩ } }

theorem witness_Rotation :
    (let u := State.pauseCheck { atMode .measure with regs := [(0x1D01, some 0)] }
     u.pauseCause = 0 ∧ u.coreOn = true ∧ (u.spare 3).used = none ∧ (u.spare 3).stand = none ∧ (u.spare 3).visit = none ∧
       (u.spare 3).due = none ∧ (u.spare 3).bad = false ∧ u.nextVisit = some (0, false) ∧ u.rotSlices = false) ∧
    (∀ st ∈ [VisitStep.calSpare, .match1, .match2, .handDue, .calMod, .backDue],
      ((visitAt st 2).pauseCheck.spare 3).visit = some ⟨0, st, 2, 0⟩) ∧
    coefOk 0 0 0x400000 = true ∧ coefOk 51 0 0 = false ∧ coefOk 63 1280 0x400000 = true ∧ (visitAt .calSpare 0).used 1 = true ∧
    (visitAt .handDue 0).atBoundary 0 = true ∧
    (visitAt .handDue 0).res.owSpans.any (fun x => decide (x.1 = 0 / 2 + 1) && (visitAt .handDue 0).inSpan x.2) = false ∧
    (visitAt .calMod 0).pauseCheck.pauseCause = 0 ∧ (visitAt .calMod 0).rotSlices = false ∧
    ((atMode .measure).stw = true ∧ (atMode .measure).coreOn = true ∧
      (atMode .measure).modHeld 63 = false ∧ (atMode .measure).calOther ≠ some 63 ∧ ((atMode .measure).modul 63).live = none) ∧
    (let h := State.rotClock { atMode .measure with regs := [(0x601, some 0x80000000)] }
     h.pauseCause = 0 ∧ h.mramHeld = false ∧ h.noFeed ∧ Sparse.wf (0, 0x400000) h.calCopy.coefs = true) ∧
    (let s : State := { atMode .measure with cfe := { Cfe.init with xbar := .replicate 4 ⟨false, .parallel, false, 24, 0, 200, 0⟩ } }
     (vget s.cfe.xbar default 3).source ≠ 0 ∧ s.clk < (vget s.cfe.xbar default 3).leftAt) := by decide

/-- A device in CALIBRATE with operation `kind` in state `st`. -/
def operAt (m : Mode) (kind : Nat) (st : OpSt) : State :=
  { lockedAt m with seq := { Seq.init with ops := (Vector.replicate 8 Oper.empty).set 0 { Oper.empty with tag := 5, st := st, kind := kind } } }

/-- The same with calibration run `r`. -/
def calAt (r : CalRun) : State :=
  { operAt .calibrate 3 .running with mod := { Mod.init with run := some r } }

theorem witness_CalibrationRuns :
    (((lockedAt .calibrate).elapse 0).accepts .chain 0x609 (0 ||| putb true 31)) ∧
    (atMode .measure).pwr.mode ≠ .calibrate ∧ ((operAt .calibrate 3 .running).pwr.mode = .calibrate ∧ ((operAt .calibrate 3 .running).oper 3).isSome = true) ∧
    ((atMode .calibrate).oper 3 = none ∧ State.calScope { atMode .calibrate with regs := [(0x609, some 0)] } = []) ∧
    ((calAt ⟨5, some 1, [0], false, 0, [], 0, 0, [], false, none⟩).mod.run = some ⟨5, some 1, [0], false, 0, [], 0, 0, [], false, none⟩ ∧
      (calAt ⟨5, some 1, [0], false, 0, [], 0, 0, [], false, none⟩).opIs 3 .running = true) ∧
    (let h := (calAt ⟨5, none, [51], true, 2, [0, 1], 0, 0, [], false, none⟩).handsDue
     h.opIs 3 .running = true ∧ h.mod.run = some ⟨5, none, [51], true, 2, [0, 1], 0, 0, [], false, none⟩ ∧ h.calReady 51 = true) ∧
    ((calAt ⟨5, none, [], false, 0, [], 0, 0, [], false, none⟩).opIs 3 .running = true ∧
      (calAt ⟨5, none, [], false, 0, [], 0, 0, [], false, none⟩).handsDue.mod.run = some ⟨5, none, [], false, 0, [], 0, 0, [], false, none⟩ ∧
      (calAt ⟨5, none, [], false, 0, [], 0, 0, [], false, none⟩).mramHeld = false) := by decide

/-- A read of MRAM without an error changes nothing. -/
theorem mramRead_clean (s : State) (a n : Nat) (he : s.ecc = []) (hh : s.nvm.hotWords = []) : s.mramRead a n = (true, s) := by
  have touch : ∀ w, s.mramTouch w = s := by
    intro w
    have : s.eccOf .mram w = none := by simp [State.eccOf, he]
    unfold State.mramTouch
    rw [this]
    show { s with nvm := { s.nvm with hotWords := s.nvm.hotWords.filter (fun x => decide (x ≠ w)) } } = s
    rw [hh, List.filter_nil, ← hh]
  have fold : ∀ ws : List Nat, ws.foldl State.mramTouch s = s := by
    intro ws
    induction ws with
    | nil => rfl
    | cons w t ih => rw [List.foldl_cons, touch, ih]
  simp [State.mramRead, fold, State.eccOf, he]

theorem witness_StartUp_reads :
    (∀ a, (startAt 1).mramRead a 0x4000 = (true, startAt 1)) ∧ (∀ w, (startAt 6).eccOf .mram w = none) ∧
    (∀ s : State, s.eccOf .mram (0x4000 / 8) = some true → (s.mramRead 0x4000 0x4000).1 = false) := by
  refine ⟨fun a => mramRead_clean _ a _ (by decide) (by decide), fun w => by simp [State.eccOf, show (startAt 6).ecc = [] from rfl],
    fun s h => ?_⟩
  simp only [State.mramRead, List.all_eq_false]
  exact ⟨0x4000 / 8, by rw [wordsOf, if_neg (by decide)]; exact List.mem_map.2 ⟨0, by simp, by simp⟩, by simp [h]⟩

/-- The first block of an image of one block: NBLK 1, and the CRC-32C of the bytes before it. -/
def imageBlock : Bytes := (List.replicate 0x24 0 ++ [1]) ++ List.replicate 983 0 ++ leBytes 4 2537135320

/-- That block where the image lies. -/
def imageCells : List Host.Cell := (List.range 1024).map (fun i => (0x8000 + i, byteAt imageBlock i))

/-- A device like `s` with stored memory `m`. -/
def imageIn (s : State) (m : List Host.Cell) : State := { s with nvm := { Nvm.init with mram := m } }

theorem imageBlock_length : imageBlock.length = 1024 := by
  simp only [imageBlock, List.length_append, List.length_replicate, leBytes]; rfl

theorem imageBlock_crc : crc32c ((List.replicate 0x24 0 ++ [1]) ++ List.replicate 983 0) = 2537135320 := by
  have app : ∀ v (l m : Bytes), crcFeed (crcAlg 1) v (l ++ m) = crcFeed (crcAlg 1) (crcFeed (crcAlg 1) v l) m := by
    intro v l m; simp only [crcFeed, List.foldl_append]
  have ha : crcFeed (crcAlg 1) (crcAlg 1).init (List.replicate 0x24 0) = 3030096800 := by decide +kernel
  have hb : crcFeed (crcAlg 1) 3030096800 [1] = 3944341430 := by decide +kernel
  have h0 : crcFeed (crcAlg 1) 3944341430 (List.replicate 98 0) = 4294578138 := by decide +kernel
  have h1 : crcFeed (crcAlg 1) 4294578138 (List.replicate 98 0) = 1757985540 := by decide +kernel
  have h2 : crcFeed (crcAlg 1) 1757985540 (List.replicate 98 0) = 3212519596 := by decide +kernel
  have h3 : crcFeed (crcAlg 1) 3212519596 (List.replicate 98 0) = 2043984183 := by decide +kernel
  have h4 : crcFeed (crcAlg 1) 2043984183 (List.replicate 98 0) = 3363241379 := by decide +kernel
  have h5 : crcFeed (crcAlg 1) 3363241379 (List.replicate 98 0) = 417334384 := by decide +kernel
  have h6 : crcFeed (crcAlg 1) 417334384 (List.replicate 98 0) = 1461672891 := by decide +kernel
  have h7 : crcFeed (crcAlg 1) 1461672891 (List.replicate 98 0) = 3121138053 := by decide +kernel
  have h8 : crcFeed (crcAlg 1) 3121138053 (List.replicate 98 0) = 334563739 := by decide +kernel
  have h9 : crcFeed (crcAlg 1) 334563739 (List.replicate 98 0) = 2881427145 := by decide +kernel
  have h10 : crcFeed (crcAlg 1) 2881427145 (List.replicate 3 0) = 3838206742 := by decide +kernel
  have z : List.replicate 983 (0 : Byte) =
      ((List.replicate 98 0 ++ List.replicate 98 0) ++ (List.replicate 98 0 ++ List.replicate 98 0)) ++
      (((List.replicate 98 0 ++ List.replicate 98 0) ++ (List.replicate 98 0 ++ List.replicate 98 0)) ++
      ((List.replicate 98 0 ++ List.replicate 98 0) ++ List.replicate 3 0)) := by
    simp only [List.replicate_append_replicate]
  rw [crc32c, crcOf, z]
  simp only [app, ha, hb, h0, h1, h2, h3, h4, h5, h6, h7, h8, h9, h10]
  decide +kernel

theorem memGet_cells (f : Nat → Byte) (n b j : Nat) (h : j < n) :
    memGet ((List.range n).map (fun i => (b + i, f i))) (b + j) = f j := by
  induction n generalizing b f j with
  | zero => omega
  | succ n ih =>
    rw [List.range_succ_eq_map, List.map_cons, List.map_map]
    unfold memGet
    rcases Nat.eq_zero_or_pos j with rfl | hj
    · simp
    · rw [if_neg (by omega)]
      have := ih (fun i => f (i + 1)) (b + 1) (j - 1) (by omega)
      rw [show b + 1 + (j - 1) = b + j by omega, show j - 1 + 1 = j by omega] at this
      rw [← this]
      congr 1
      refine List.map_congr_left fun i _ => ?_
      simp only [Function.comp]
      rw [show b + i.succ = b + 1 + i by omega]

theorem imageIn_byte (s : State) (m : List Host.Cell) (j : Nat) (h : j < 1024) : (imageIn s m).mramByte (0x8000 + j) = memGet m (0x8000 + j) := by
  have hq : (imageIn s m).nvm.wq = [] := rfl
  have hs : (imageIn s m).nvm.sess = none := rfl
  have hm : (imageIn s m).nvm.mram = m := rfl
  have held : (imageIn s m).heldByte (0x8000 + j) = none := by rw [State.heldByte, if_pos (by omega)]
  simp only [State.mramByte, hq, List.filterMap_nil, List.getLast?_nil, State.mramStored, State.stagedByte, hs, held, hm]

theorem image_bytes (s : State) (a n : Nat) (h : a + n ≤ 1024) : (imageIn s imageCells).mramBytes (0x8000 + a) n = (imageBlock.drop a).take n := by
  have hl := imageBlock_length
  refine List.ext_getElem (by simp only [State.mramBytes, List.length_map, List.length_range, List.length_take, List.length_drop]; omega) fun i h1 h2 => ?_
  simp only [State.mramBytes, List.length_map, List.length_range] at h1
  simp only [State.mramBytes, List.getElem_map, List.getElem_range, List.getElem_take, List.getElem_drop, Nat.add_assoc]
  rw [imageIn_byte _ _ _ (by omega), imageCells, memGet_cells (byteAt imageBlock) 1024 0x8000 _ (by omega)]
  exact List.getD_eq_getElem _ _ _

theorem image_loads (s : State) (he : s.ecc = []) : (imageIn s imageCells).loadImage.1 = true := by
  have clean : ∀ m a n, (imageIn s m).mramRead a n = (true, imageIn s m) := fun m a n => mramRead_clean _ a n he rfl
  have from_ : ∀ m k, (imageIn s m).imgFrom k = homeAddr 1 k := fun _ _ => rfl
  have hn : leField ((imageIn s imageCells).mramBytes ((imageIn s imageCells).imgFrom 0 + 0x24) 2) 0 2 = 1 := by
    rw [from_, show homeAddr 1 0 + 0x24 = 0x8000 + 0x24 from rfl, image_bytes _ _ _ (by omega)]; decide +kernel
  have hb : (imageIn s imageCells).mramBytes ((imageIn s imageCells).imgFrom 0) 1024 = imageBlock := by
    rw [from_, show homeAddr 1 0 = 0x8000 + 0 from rfl, image_bytes _ _ _ (by omega), List.drop_zero, List.take_of_length_le (by rw [imageBlock_length])]
  have hl : ((List.replicate 0x24 (0 : Byte) ++ [1]) ++ List.replicate 983 0).length = 1020 := by simp only [List.length_append, List.length_replicate]; rfl
  have hc : leField imageBlock 1020 4 = crc32c (imageBlock.take 1020) := by
    rw [imageBlock, List.take_append_of_le_length (by rw [hl]), List.take_of_length_le (by rw [hl]), imageBlock_crc, leField, ← hl, List.drop_left]
    decide +kernel
  rw [State.loadImage, hn]
  simp only [show List.range (max 1 (min 1 256)) = [0] from rfl, List.foldl_cons, List.foldl_nil, hb, clean, hc]
  rfl

/-- An image of no block does not pass. -/
theorem image_empty (s : State) : (imageIn s [(0x8024, 0), (0x8025, 0)]).loadImage.1 = false := by
  have from_ : (imageIn s [(0x8024, 0), (0x8025, 0)]).imgFrom 0 = homeAddr 1 0 := rfl
  have b0 := imageIn_byte s [(0x8024, 0), (0x8025, 0)] 0x24 (by omega)
  have b1 := imageIn_byte s [(0x8024, 0), (0x8025, 0)] 0x25 (by omega)
  have hn : leField ((imageIn s [(0x8024, 0), (0x8025, 0)]).mramBytes (homeAddr 1 0 + 0x24) 2) 0 2 = 0 := by
    have : (imageIn s [(0x8024, 0), (0x8025, 0)]).mramBytes (homeAddr 1 0 + 0x24) 2 = [0, 0] := by
      show [(imageIn s [(0x8024, 0), (0x8025, 0)]).mramByte (0x8000 + 0x24), (imageIn s [(0x8024, 0), (0x8025, 0)]).mramByte (0x8000 + 0x25)] = _
      rw [b0, b1]; decide
    rw [this]; decide
  simp only [State.loadImage, from_, hn]
  simp

theorem witness_StartUp_image :
    (imageIn (startAt 5) imageCells).atStep 5 = true ∧ (imageIn (startAt 5) imageCells).loadImage.1 = true ∧
    (imageIn (startAt 5) [(0x8024, 0), (0x8025, 0)]).loadImage.1 = false :=
  have h : ∀ m, (imageIn (startAt 5) m).atStep 5 = true := fun _ => rfl
  ⟨h _, image_loads _ rfl, image_empty _⟩

theorem witness_CalibrationRuns_read :
    (let h := (calAt ⟨5, none, [], false, 0, [], 0, 0, [], false, none⟩).handsDue
     h.mramRead 0x9C000 0x4000 = (true, h)) ∧
    (∀ s : State, s.eccOf .mram (0x9C000 / 8) = some true → (s.mramRead 0x9C000 0x4000).1 = false) := by
  refine ⟨mramRead_clean _ _ _ (by decide) (by decide), fun s h => ?_⟩
  simp only [State.mramRead, List.all_eq_false]
  exact ⟨0x9C000 / 8, by rw [wordsOf, if_neg (by decide)]; exact List.mem_map.2 ⟨0, by simp, by simp⟩, by simp [h]⟩

/-- A device in MEASURE whose modulator 0 decimates. -/
def decimAt : State :=
  { atMode .measure with mod := { Mod.init with mods := Mod.init.mods.set 0 ⟨none, some ⟨7, .side 1 false, 0, 5⟩, 0, 1, none⟩ } }

theorem witness_SamplesAndWords :
    (let e := (decimAt.elapse 0).handsDue
     e.modsOn = true ∧ e.sliceOf 0 = none ∧ e.calAway 0 = false ∧ e.roleOf 0 = some 0 ∧ (e.modul 0).decim = some ⟨7, .side 1 false, 0, 5⟩ ∧ e.convs = []) ∧
    ((-2 : Int) * 64 ≤ 128 ∧ (128 : Int) ≤ 2 * 64) ∧
    ((State.reset.effHeld (0x860 + 23)).extractLsb' 16 16 = 0x7FFF ∧ (State.reset.effHeld (0x860 + 23)).extractLsb' 0 16 = 0x8000 ∧
      State.reset.bit 0x826 23 = false) := by decide

theorem witness_ResultRegisters :
    ((atMode .measure).elapse 0).accepts .chain 0x828 1 ∧ ((atMode .measure).elapse 0).serves (.jet 7) = true ∧
    (((bridgeAt .measure).elapse 0).serves .chain = true ∧ (bridgeAt .measure).bridge = true) ∧ (Requester.jet 7).bank < 11 ∧
    ((atMode .measure).elapse 0).accepts .chain 0xC4B 5 ∧ (atMode .measure).eccOf .scratch 8191 = none := by decide

theorem witness_StreamsAndPages :
    ((atMode .measure).elapse 0).accepts .chain 0xA03 (put 15 16 4 ||| put 65535 0 16) ∧
    ((atMode .measure).elapse 0).accepts .chain 0xA04 (put 65535 0 16) ∧ ((atMode .measure).elapse 0).accepts .chain 0xA1F 1 ∧
    ((atMode .measure).elapse 0).accepts .chain 0xA1F ((atMode .measure).keep 0xA1F ||| putb true 29) ∧
    (let s : State := { atMode .measure with
       regs := [(0xA1F, some 1)], bsn := { Bsn.init with streams := .replicate 16 { Strm.init with pages := [⟨0, 0, true, false, 0, 0, 0⟩] } } }
     (s.strm 15).openPage = some ⟨0, 0, true, false, 0, 0, 0⟩ ∧ s.fld 0xA1F 0 8 ≠ 0 ∧ s.pwr.mode ≠ .lockout ∧
       s.noFeed ∧ (∀ p ∈ (s.strm 15).pages, p.bad = false) ∧ Sparse.wf none s.bsn.sram = true ∧ 4 * (3 + 249) + 0 ≤ 1008) ∧
    (let t : Strm := { Strm.init with active := true, pages := [⟨65535, 3, false, false, 8, 0, 1⟩] }
     t.active = true ∧ (∀ p ∈ t.closed, p.bad = false) ∧ (0 + 65536 - 65535) % 65536 ≤ 63) ∧
    (State.reset.strm 15).active = false ∧ State.reset.pageOut 255 = false ∧ State.reset.noFeed ∧
    (∀ e ∈ State.reset.nowCyc.acked, e.1 ≠ 15) := by decide

/-- A device in MEASURE with a program load that waits for jet 7, or for none. -/
def loadAt (stop : Nat) (st : JetSt) : State :=
  { jetWith st .none .yield with
    seq := { (jetWith st .none .yield).seq with load := some ⟨[(0, 5), (16383, 6)], [], 9, 0, stop⟩ } }

theorem witness_FlagsAndPrograms :
    ((atMode .measure).elapse 0).accepts .chain 0xC43 1 ∧ ((atMode .measure).elapse 0).accepts .chain 0xC45 1 ∧
    State.accepts { lockedAt .measure with seq := { Seq.init with prog := [(0, some 5)] } } .chain 0xC49 1 ∧ ((lockedAt .measure).elapse 0).accepts .chain 0xC61 (putb true 31 ||| put 255 16 8) ∧
    ((loadAt 255 .running).seq.load.isSome = true ∧ (bitsOf 8 255).any (fun j => ((loadAt 255 .running).jet j).busy) = true) ∧
    ((bitsOf 8 255).all (fun j => ((loadAt 255 .idle).jet j).free && !(loadAt 255 .idle).dying j) = true ∧ ([(0, (5 : Word)), (16383, 6)].map (·.1)).Nodup) ∧
    (jetWait (.flag 1 63 true none false)).flagFresh 63 = false ∧ waitsOn (jetWait (.flag 1 63 true none false)) 63 true 0 = true ∧
    (∀ j < 8, waitsOn (atMode .measure) 63 true j = false) ∧
    State.flagFresh { atMode .measure with seq := { Seq.init with flagNew := 1#64 <<< 63 } } 63 = true := by decide

/-- A program container of one segment of one word at index 16,383 (Table 7.1), without its CRC. -/
def containerHead : Bytes :=
  leBytes 4 0xBA150001 ++ leBytes 4 9 ++ leBytes 4 1 ++ leBytes 4 4 ++ List.replicate 48 0 ++ leBytes 2 16383 ++ leBytes 2 1 ++
    leBytes 4 (crc32c (leBytes 4 5)) ++ List.replicate 180 0

/-- A device in MEASURE with that container in its program store. -/
def storeAt : State :=
  { atMode .measure with
    nvm := { Nvm.init with mram := memWrite [] progStore (containerHead ++ leBytes 4 (crc32c containerHead) ++ leBytes 4 5) } }

set_option maxRecDepth 8000 in
theorem witness_FlagsAndPrograms_containers :
    (atMode .measure).seq.load = none ∧ (atMode .measure).checkContainer.1 = .inl 3 ∧ storeAt.checkContainer.1 = .inr [(16383, 5)] := by
  decide +kernel

theorem witness_JetControl :
    ((atMode .measure).elapse 0).accepts .chain 0xC6F (putb true 31 ||| put 16383 0 14) ∧
    ((atMode .measure).elapse 0).accepts .chain 0xC6F (((atMode .measure).elapse 0).keep 0xC6F ||| putb true 30) ∧
    ((atMode .measure).elapse 0).accepts .chain 0xC6F (((atMode .measure).elapse 0).keep 0xC6F ||| putb true 29) ∧
    (((jetWith .stopping (.time 5) .yield).jet 7).st = .stopping ∧ ((jetWith .stopping (.time 5) .yield).jet 7).wait.safe = true) ∧
    (let s : State := { jetAt .yield with regs := [(0xC60, some 0x00010000)] }
     (s.jet 7).st = .running ∧ s.fld 0xC60 16 8 ≠ 0 ∧ s.coreOn = true ∧ (s.jet 7).pc < 16384) ∧
    ((atMode .measure).jet 7).free = true ∧ (atMode .measure).dying 7 = false ∧ ((jetAt .yield).jet 7).free = false ∧ (jetAt .yield).noFeed ∧
    State.dying { atMode .measure with cyc := [{ Cyc.fresh (atMode .measure).cycle with killed := [(7, Jet.init)] }] } 7 = true := by decide

/-- One conversion that waits for the arbiter, of channel 24. -/
def convOf : Conv :=
  ⟨0, .group 0, 1, 8, 10, 0, false, false, false, none, none, 0, none, [⟨24, 1, 0, 0, none, 0, none, none, 0, 0, none, none⟩]⟩

/-- A device in MEASURE with a conversion of group 0, whose policy is `p`. -/
def busyAt (p : Nat) : State :=
  { atMode .measure with
    convs := [convOf]
    regs := [(0xC00, some (BitVec.ofNat 32 (0x8A400000 + p * 4096)))], seq := { Seq.init with groups := .replicate 16 ⟨true, false, 0, 0, 0, none⟩ } }

theorem witness_GroupsAndTriggers :
    ((atMode .measure).elapse 0).accepts .chain 0xC2F 1 ∧ ((atMode .measure).elapse 0).accepts .chain 0xC62 (put 65535 0 16) ∧
    (atMode .measure).coreOn = true ∧
    (State.bit { atMode .measure with regs := [(0xC60, some 0x100)] } 0xC60 8 = true ∧ (atMode .measure).spc.run = none) ∧
    State.bit { atMode .measure with regs := [(0xC73, some 0x80000000)] } 0xC73 31 = true ∧ (atMode .measure).calOther = none ∧
    ((atMode .measure).grp 15).defined = false ∧ (atMode .lockout).pwr.mode = .lockout ∧ (atMode .measure).grpBusy 15 = false ∧
    ((busyAt 0).grpBusy 0 = true ∧ (busyAt 0).fld 0xC00 12 2 = 0) ∧
    ((busyAt 1).grpBusy 0 = true ∧ (busyAt 1).fld 0xC00 12 2 = 1 ∧ ((busyAt 1).grp 0).held = none) ∧
    ((busyAt 0).convs = [convOf] ∧ convOf.start = none ∧ convOf.chans ≠ [] ∧ (busyAt 0).canGrant convOf = true) := by decide

/-- A command of code `c` that is due, and the device in MEASURE with it at the front of its command queue. -/
def cmdOf (c : Nat) : CqEnt := ⟨c, none, false, 1, List.replicate 16 0, .chain, 1⟩

def queueAt (c : Nat) : State := { atMode .measure with seq := { Seq.init with queue := [cmdOf c] } }

/-- A command body without DUE, of code `c`. -/
def bodyOf (c len : Nat) : Bytes := [BitVec.ofNat 8 c, 0, 0, 1, 0, 0, 0, 0] ++ List.replicate (len - 8) 0

/-- The header of a command frame with the body of code 5 and `n` bytes. -/
def cmdHead (n : Nat) : Header := headTo 1 1 3 (bodyOf 5 n)

/-- A command body with DUE, of code 6, due at `t`. -/
def bodyAt (t : Nat) : Bytes := [6, 1, 0, 1] ++ beBytes 4 t ++ [1, 0, 0, 5]

theorem witness_CommandQueue :
    (∀ n ∈ [8, 24],
      ((nodeAt .measure).elapse 0).hears .south (Header.frame (cmdHead n) 3 (bodyOf 5 n)) (cmdHead n).tail ∧ 8 ≤ (bodyOf 5 n).length ∧ (bodyOf 5 n).length ≤ 24) ∧
    (State.heard (nodeAt .measure) .south (Header.frame (cmdHead 24) 3 (bodyOf 5 24)) (cmdHead 24).tail).serves .chain = true ∧
    (∀ c ∈ [1, 2, 3, 4, 5, 6, 7], ((queueAt c).elapse 0).cmdTurn (cmdOf c)) ∧
    (atMode .lockout).pwr.mode = .lockout ∧ cmdOk (bodyOf 9 8) = false ∧ cmdOk (bodyAt 0) = true ∧
    beField (bodyAt 0) 1 1 % 2 = 1 ∧ 2000000000 < (BitVec.ofNat 32 (beField (bodyAt 2000000001) 4 4) - (atMode .measure).tb.setWidth 32).toInt ∧
    ¬(2000000000 < (BitVec.ofNat 32 (beField (bodyAt 2000000000) 4 4) - (atMode .measure).tb.setWidth 32).toInt) ∧
    64 ≤ (List.replicate 64 (cmdOf 1)).length ∧ (atMode .measure).seq.queue.length < 64 ∧ [cmdOf 1].find? (fun _ => true) = some (cmdOf 1) := by
  decide +kernel

theorem witness_LongOperations :
    (∀ k ∈ [1, 2, 3], ((atMode .measure).elapse 0).accepts .chain 0xC80 (put k 24 2 ||| put 65535 0 16)) ∧
    (∀ k ∈ [1, 3, 4, 5, 6],
      let s : State := { operAt .measure k .running with seq :=
        { (operAt .measure k .running).seq with
          ops := (Vector.replicate 8 Oper.empty).set 0 { Oper.empty with tag := 5, st := .running, kind := k, pend := true } } }
      (s.oper k).isSome = true ∧ (s.oper k).all (fun o => decide (o.st = .running) && o.pend) = true) ∧
    (∀ k ∈ [1, 2, 3, 4, 5, 6], ((operAt .measure k .cancelling).oper k).all (fun o => decide (o.st = .cancelling)) = true) ∧
    (operAt .measure 1 .cancelling).stw = true ∧
    (let find := fun (u : State) (tag : Nat) => u.seq.ops.toList.find? (fun o => decide (o.tag = tag) && decide (tag ≠ 0))
     find (atMode .measure) 5 = none ∧ (find (operAt .measure 1 .done) 5).any (fun o => !o.live) = true ∧
       (find (operAt .measure 1 .running) 5).any (fun o => o.live && !o.scReq) = true) := by decide

theorem witness_TagsInOrder :
    1 ≤ (operAt .measure 1 .running).seq.nextTag ∧ (operAt .measure 1 .running).seq.nextTag ≤ 65535 ∧ 1 ≤ 65535 := by decide

/-- A device in BALANCE with every cell asking for its full level in a frame that runs; `f` changes every cell. -/
def balAt (f : BalCell → BalCell) : State :=
  { atMode .balance with
    regs := [(0x400, some 24), (0x1000, some 0x800A0000), (0x1004, some 0x00000080)]
    slu := { Slu.init with
      running := true, next := 0, cells := .replicate 24 (f { BalCell.init with req := .level 256, owner := some .chain, duty := 128, l := 128 }) } }

/-- A run of kind `k` in phase `ph`, whose pass is excited where `x` says so, with publications `pubs`. -/
def runOf (k : Nat) (ph : SpcPhase) (x : Bool) (pubs : List PubDue) : SpcRun :=
  { tag := 5, kind := k, cfg := (((Vector.replicate 80 0).set 2 0x00100000).set 3 0xFFFFFF).set 16 10000, phase := ph, step := 0, pass := 0, win := 0, f1 := 0, since := 0, tb := 0
    tx := 0, ts := 100, te := 50000000, tf := 50000000, trims := [], faults := 0, exc := x, closed := false, edge := none, pubs := pubs }

/-- A device in SPECTRUM with run `r`, whose operation is running. -/
def specAt (r : SpcRun) : State :=
  { operAt .spectrum 1 .running with spc := { Spc.init with run := some r } }

theorem witness_BalanceRequests :
    ((atMode .measure).elapse 0).accepts .chain 0x1037 (put 511 0 9) ∧ ((atMode .measure).elapse 0).accepts .chain 0x1020 (put 0 0 9) ∧
    ((atMode .measure).elapse 0).accepts .chain 0x1057 5 ∧ ((lockedAt .measure).elapse 0).accepts .chain 0x1002 0xF00000 ∧
    (((lockedAt .measure).elapse 0).serves .chain = true ∧ xfetBad 0x000001 = true) ∧
    (atMode .measure).reqTaken .chain 24 = false ∧ ((atMode .measure).noteReq (.jet 7) 24).reqTaken .chain 24 = true := by decide

theorem witness_SluiceFramesAndSlots :
    (balAt id).coreOn = true ∧ ((balAt id).pwr.mode = .balance ∧ (balAt id).slu.running = true ∧ (balAt id).slu.next ≤ 256) ∧
    ((balAt id).spc.run = none ∧ (specAt (runOf 0 .window true [])).coreOn = true ∧
      (specAt (runOf 0 .window true [])).spc.run = some (runOf 0 .window true [])) ∧
    ((balAt id).bit 0x1004 7 = true ∧ (balAt id).slu.gapSent = false ∧ (balAt id).slu.frameU < 256 ∨ (balAt id).slu.frameU = 256) ∧
    (let s : State := { balAt id with slu := { (balAt id).slu with frameU := 0 } }
     s.slu.frameU = 0 ∧ s.slu.gapSent = false) ∧
    ((balAt id).onTicks 24 = 0) ∧
    (let s : State := balAt fun c => { c with req := .quota 5, on := true, onT := 7 }
     0 < s.onTicks 24 ∧ s.effReq 24 = .quota 5 ∧ s.ovl.snap = []) := by decide

theorem witness_SlotsOfACell :
    (balAt id).eligible 24 = true ∧ (balAt id).owHeld 24 = false ∧ ((balAt id).bal 24).duty ≤ (balAt id).slu.frameU ∧
    (balAt id).eligible 1 = true ∧ (balAt id).owHeld 1 = false := by decide

theorem witness_BudgetsHold :
    (∀ n, 1 ≤ n → n ≤ 24 → 0 ≤ (State.reset.bal n).pd ∧ 0 ≤ (State.reset.bal n).pb) ∧ 0 < State.reset.thrFactor := by
  refine ⟨fun n h1 h2 => ?_, by decide⟩
  interval_cases n <;> decide

theorem witness_NeighboursApart :
    (balAt id).slu.frameU % 2 = 0 ∧ ((balAt id).bal 23).xfet = false ∧ ((balAt id).bal 24).xfet = false ∧
    ((balAt id).inSlot 1 0 = true ∧ (balAt id).inSlot 2 255 = true) := by decide

theorem witness_BalanceChecks :
    ((balAt fun c => { c with on := true }).internalCell 24 = true ∧ (balAt id).pathFree 24 = true ∧ (balAt id).pathFree 1 = true ∧
      ((balAt fun c => { c with on := true }).bal 24).on = true ∧
      ((balAt fun c => { c with on := true }).bal 24).checked = false) ∧
    ((balAt fun c => { c with on := true, duty := 1 }).checkable 23 = false ∧ (balAt fun c => { c with on := true }).checkable 24 = true ∧
      suspectOf ((balAt id).latest 23) = false ∧ suspectOf 0x00000080 = true) ∧
    ((balAt id).internalCell 1 = true ∧ ((balAt id).bal 1).on = false) ∧
    ((balAt fun c => { c with xfet := true }).used 24 = true ∧ ((balAt fun c => { c with xfet := true }).bal 24).xfet = true) ∧
    ((balAt fun c => { c with faulted := true }).bal 24).faulted = true ∧ (balAt id).stopped = false := by decide

/-- A publication that is due, and one that waits for the chain's current. -/
def pubOf (wait : Bool) : PubDue := ⟨0, 0, 10, 5, 5, 9, 10, 1, 0, wait, [], 0⟩

theorem specAt_run (r : SpcRun) : (specAt r).spc.run = some r ∧ (specAt r).opIs 1 .running = true := ⟨rfl, rfl⟩

theorem witness_SpectrumStart :
    (((atMode .spectrum).elapse 0).accepts .chain 0x1200 (0 ||| putb true 31) ∧ isJet .chain = false) ∧
    (runOf 0 .notStarted false []).fld 0x1202 20 2 = 1 ∧
    (let r : SpcRun := { runOf 0 .notStarted false [] with cfg := (Vector.replicate 80 0).set 2 0x00200000, edge := some 5 }
     r.fld 0x1202 20 2 = 2 ∧ r.edge = some 5 ∧ r.phase = .notStarted) ∧
    (atMode .measure).pwr.mode ≠ .spectrum ∧ ((specAt (runOf 0 .notStarted false [])).pwr.mode = .spectrum ∧
      (specAt (runOf 0 .notStarted false [])).spc.run.isSome = true) ∧
    ((atMode .spectrum).spc.run = none ∧ (atMode .spectrum).spcRefuse 3 ≠ 0) ∧
    State.spcCells { atMode .spectrum with regs := [(0x1203, some 0)] } = [] := by decide

theorem witness_SpectrumPasses :
    ((runOf 0 .window true []).nextEdge (runOf 0 .window true []).closed (specAt (runOf 0 .window true [])).tbn < 50000000) ∧
    ((specAt (runOf 0 .trim false [])).runCells (runOf 0 .trim false [])).all (fun c => ((specAt (runOf 0 .trim false [])).bal c).hold) = false ∧
    (runOf 2 .window true []).fld 0x1208 30 1 = 0 ∧ 500 ≤ 5000000 ∧
    (specAt (runOf 1 .track false [])).clk ≤ (runOf 1 .track false []).since + 4000000000 ∧
    ((runOf 0 .settle false []).kind = 0 ∧ (runOf 1 .settle false []).kind ≠ 0) ∧
    ((runOf 2 .window true []).kind = 2 ∧ SpcRun.fld { runOf 2 .window true [] with cfg := (runOf 2 .window true []).cfg.set 8 0x40000000 } 0x1208 30 1 = 1) ∧
    (specAt (runOf 1 .tail true [])).nextPass (runOf 1 .tail true []) = none := by decide +kernel

/-- Seventeen periods of a 100 Hz signal on AUX9, sampled twice a period: F1 is 100,000 mHz (R268). -/
theorem witness_SpectrumPasses_f1 :
    (let s := specAt (runOf 2 .track false [])
     State.f1Found { s with spc := { s.spc with smp := ((List.range 34).map (fun k => (⟨32, k * 1000000, some (if k % 2 = 0 then -1000 else 1000), false⟩ : Smp))).reverse } }
       (runOf 2 .track false []) 500) = some 100000 := by decide +kernel

theorem witness_PublicationsAndCurrent :
    ((runOf 1 .ending false [pubOf true, pubOf false]).pubs.find? (fun x => !x.wait) = some (pubOf false) ∧
      (runOf 1 .ending false [pubOf false, pubOf true]).pubs[1]? = some (pubOf true) ∧ (pubOf true).wait = true) ∧
    belowImin 1 ⟨0, 0⟩ = true ∧ (belowImin 0 ⟨1000, 0⟩ = false ∧ (1000 : Rat) * 1000 + 0 * 0 ≠ 0) ∧
    ((-0x7FFFFFFF : Int) ≤ 0x7FFFFFFF ∧ (0x7FFFFFFF : Int) < 0x80000000 ∧ (-0x80000000 : Int) < -0x7FFFFFFF) ∧
    (State.spc { atMode .spectrum with spc := { Spc.init with sends := [⟨0, 0, 0, 5, 5, 9, 10, 10, 0, 0, []⟩] } }).sends[0]?.isSome ∧
    (let h := headTo 2 1 13 [1, 0, 0, 0]
     ((nodeAt .spectrum).elapse 0).hears .north (Header.frame h 13 [1, 0, 0, 0]) h.tail ∧
      (State.heard (nodeAt .spectrum) .north (Header.frame h 13 [1, 0, 0, 0]) h.tail).bridge = false) := by decide +kernel

/-- A run of kind 1 that takes the chain's current of run identifier 5 from address 2, with one publication that waits, and the
PEER payload of its pass. -/
theorem witness_PublicationsAndCurrent_chain :
    (let r : SpcRun := { runOf 1 .ending false [pubOf true] with cfg := ((Vector.replicate 80 0).set 2 0x82000000).set 5 5 }
     let b : Bytes := [0, 5, 0, 0, 0, 0, 0, 5, 1, 0, 0, 0, 0, 0, 0, 9, 0, 0, 0, 7]
     (specAt r).specLive = true ∧ (specAt r).spc.run = some r ∧ r.pubs = [pubOf true] ∧ (pubOf true).wait = true ∧ r.chainCur = true ∧ r.kind = 1 ∧
       beField b 0 2 = r.fld 0x1205 0 16 ∧ beField b 2 1 = (pubOf true).step ∧ beField b 3 1 = (pubOf true).pass ∧ (pubOf true).pass < 2 ∧
       beField b 4 4 = (pubOf true).ts % 2 ^ 32 ∧ (specAt r).tbn ≤ (pubOf true).tf + 2000000 ∧ (pubOf true).parts = 0) := by decide +kernel

/-- The bridge in mode `m` with both ports UP, its network state changed by `f`. -/
def bridgeNet (m : Mode) (f : Net → Net) : State :=
  { bridgeAt m with
    net := f Net.init
    ecp := ⟨{ Port.init false with st := .up }, { Port.init true with st := .up }, false, false, none⟩ }

/-- A tag held for a frame to `addr`, from handle `h`. -/
def holdOf (addr h : Nat) : TagHold := ⟨1, h, addr, 0, 0⟩

theorem witness_FramesTaken :
    (∀ x ∈ [(1, 1), (5, 2), (14, 3)],
      let h := headTo 1 x.2 x.1 [0, 0, 1, 0]
      ((nodeAt .measure).elapse 0).hears .south (Header.frame h x.1 [0, 0, 1, 0]) h.tail) ∧
    (∀ x ∈ [(2, 1), (4, 1), (6, 2), (7, 2), (15, 3), (12, 1), (9, 0)],
      let h := headTo 1 x.2 x.1 [0, 0, 1, 0]
      ((bridgeNet .measure id).elapse 0).hears .north (Header.frame h x.1 [0, 0, 1, 0]) h.tail) ∧
    (atMode .measure).serves .chain = true ∧ beField [0, 0, 0, 0] 2 1 = 0 ∧ 63 < beField [0, 0, 64, 0] 2 1 ∧
    65536 < beField [255, 255, 2, 0] 0 2 + beField [255, 255, 2, 0] 2 1 ∧ 1 < beField [0, 0, 1, 2] 3 1 ∧
    (beField [1, 0, 1, 0] 2 1 = 1 ∧ beField [1, 0, 1, 0] 3 1 = 0 ∧ ([1, 0, 1, 0] : Bytes).length = 4) ∧
    (beField [4, 0, 1, 1, 0, 0, 0, 8] 2 1 = 1 ∧ beField [4, 0, 1, 1, 0, 0, 0, 8] 3 1 = 1 ∧
      (atMode .measure).refuses .chain (beField [4, 0, 1, 1, 0, 0, 0, 8] 0 2) (BitVec.ofNat 32 (beField [4, 0, 1, 1, 0, 0, 0, 8] 4 4)) = true) ∧
    (let b : Bytes := [15, 0, 0, 0, 255, 2, 0, 0]
     b.length = 8 ∧ beField b 0 1 < 16 ∧ beField b 1 1 = 0 ∧ 1 ≤ beField b 5 1 ∧ beField b 5 1 ≤ 64 ∧ beField b 6 2 = 0 ∧
       256 < beField b 4 1 + beField b 5 1) ∧ (atMode .measure).pwr.commit = none ∧
    (let t := [holdOf 62 5]
     t.all (fun x => decide (x.tag ≠ 2)) = true ∧ t.find? (fun x => decide (x.tag = 1)) = some (holdOf 62 5) ∧
       [holdOf 63 0].find? (fun x => decide (x.tag = 1)) = some (holdOf 63 0)) := by decide +kernel

/-- A node with frame `f` in the buffer of its south port. -/
def sendAt (f : Frame) : State :=
  { nodeAt .measure with
    ecp := ⟨{ Port.init false with st := .up }, { Port.init true with st := .up, buf := [f] }, false, false, none⟩ }

/-- The bridge with frame `f` of handle 5 in the transmit queue, and the tags `t`. -/
def hostAt (f : Frame) (t : List TagHold) : State := bridgeNet .measure (fun n => { n with txq := [⟨5, f⟩], tags := t })

/-- Every tag held. -/
def allTags : List TagHold := (List.range 128).map (fun i => ⟨i, 1, 1, 0, 0⟩)

theorem witness_PortTraffic :
    ((nodeAt .measure).port .north).st ≠ .off ∧ badInfo 5 = true ∧ badInfo 7 = false ∧
    frameCheck ⟨1, 0, 2, 1, 1, []⟩ ≠ frameCheck ⟨1, 0, 3, 1, 1, []⟩ ∧
    (spelled ⟨10, 0, 1, 1, 1, []⟩ = false ∧ ((nodeAt .measure).route .south ⟨10, 0, 1, 1, 1, []⟩).take = true) ∧
    (let q := fun (b : Option Nat) (u : State) => State.setPort u .south (fun q => { q with asked := false, farBest := b })
     ((q (some 1) (sendAt ⟨2, 0, 1, 1, 1, []⟩)).port .south).favoured 1 = true ∧ ((q none (sendAt ⟨2, 0, 1, 1, 1, []⟩)).port .south).favoured 1 = false) ∧
    (let s := State.setPort (nodeAt .measure) .north (fun q => { q with asked := true })
     ((s.port .north).asked && decide (s.clk ≤ (s.port .north).busyTo + 384)) = true) ∧
    ((nodeAt .measure).port .south).st = .up ∧ ((nodeAt .measure).route .south ⟨1, 0, 2, 1, 1, []⟩).take = false ∧
    ((nodeAt .measure).route .south ⟨1, 0, 2, 1, 1, []⟩).wrong = false ∧ headerOk ⟨1, 0, 2, 1, 1, []⟩ = true ∧
    headerOk ⟨0, 0, 2, 1, 1, []⟩ = false ∧ ((nodeAt .measure).route .north ⟨1, 0, 2, 1, 1, []⟩).wrong = true ∧
    (15#8).toNat < 16 ∧ ((nodeAt .measure).port .north).asked = false ∧ (nodeAt .measure).nextOut .north = none ∧
    ((sendAt ⟨2, 0, 1, 1, 1, []⟩).nextOut .south = some (⟨2, 0, 1, 1, 1, []⟩, none) ∧ (⟨2, 0, 1, 1, 1, []⟩ : Frame).tag ≠ noTag) ∧
    ((hostAt ⟨13, 0, 1, 1, 0, []⟩ []).nextOut .north = some (⟨13, 0, 1, 1, 0, []⟩, some ⟨5, ⟨13, 0, 1, 1, 0, []⟩⟩)) ∧
    ((hostAt ⟨1, 0, 1, 1, 0, []⟩ []).nextOut .north = some (⟨1, 0, 1, 1, 0, []⟩, some ⟨5, ⟨1, 0, 1, 1, 0, []⟩⟩) ∧
      (hostAt ⟨1, 0, 1, 1, 0, []⟩ []).tagNext = some 0) ∧
    (hostAt ⟨1, 0, 63, 1, 0, []⟩ []).nextOut .north = some (⟨1, 0, 63, 1, 0, []⟩, some ⟨5, ⟨1, 0, 63, 1, 0, []⟩⟩) ∧
    (sendAt ⟨11, 0, 63, 1, noTag, []⟩).nextOut .south = some (⟨11, 0, 63, 1, noTag, []⟩, none) ∧
    ((State.setPort (nodeAt .measure) .north (fun q => { q with st := .training, tokens := 1 })).port .north).st = .training ∧
    bufferFree [] 3 = true ∧ bufferFree (List.replicate 16 ⟨1, 0, 1, 1, 1, []⟩) 1 = false := by decide +kernel

theorem witness_PortTraffic_tags : (hostAt ⟨1, 0, 1, 1, 0, []⟩ allTags).tagNext = none := by decide

theorem witness_PortTimers :
    (let s := State.setPort (nodeAt .measure) .north (fun q => { q with st := .training })
     (s.port .north).st = .training ∧ (s.port .north).toneEnd = none) ∧
    ((nodeAt .measure).port .north).st = .up ∧ ((nodeAt .measure).port .south).st = .up ∧
    (let s := State.setPort (nodeAt .measure) .north (fun q => { q with notice := some false, toneEnd := some 5, st := .training })
     (s.port .north).notice = some false ∧ s.bridge = false ∧ (s.port .north).toneEnd = some 5 ∧ (s.port .north).st ≠ .up) ∧
    (State.ecp { nodeAt .measure with ecp := { (nodeAt .measure).ecp with relayAt := some 5 } }).relayAt = some 5 ∧
    ((lockedAt .measure).elapse 0).accepts .chain 0x1400 (((lockedAt .measure).elapse 0).keep 0x1400 ||| putb true 8 ||| putb true 9) ∧
    ((lockedAt .measure).elapse 0).accepts .chain 0x1400 (((lockedAt .measure).elapse 0).keep 0x1400 ||| putb true 16) := by decide

theorem witness_NetworkManagement :
    (∀ op ∈ [1, 2, 3, 4, 5],
      let h := headTo 63 1 11 (netPayload op 0)
      ((nodeAt .measure).elapse 0).hears .south (Header.frame h 11 (netPayload op 0)) h.tail) ∧
    (let h := headTo 1 1 12 [0x81, 0, 0, 0]
     ((bridgeNet .measure id).elapse 0).hears .north (Header.frame h 12 [0x81, 0, 0, 0]) h.tail) ∧
    (let n := fun (st : EnumStep) (t : Nat) => bridgeNet .measure (fun n => { n with enumRun := some ⟨st, 0, 0, t, false, 0, false⟩ })
     ((n .assign 1).net.enumRun = some ⟨.assign, 0, 0, 1, false, 0, false⟩ ∧ 1 ≠ noTag) ∧ (n .assign 1).bridge = true ∧
       (n .assign 1).net.enumRun.isSome = true) ∧
    ((bridgeNet .measure id).ringOn = true ∧ (bridgeNet .measure id).bit 0x1600 28 = true ∧ (bridgeNet .measure id).net.ringLost = false ∧
      (bridgeNet .measure id).net.ring ≠ .split ∧ (bridgeNet .measure id).net.collect = none) ∧
    (bridgeNet .measure (fun n => { n with collect := some ⟨0, none, [5]⟩ })).net.collect = some ⟨0, none, [5]⟩ ∧
    ((lockedAt .measure).elapse 0).accepts .chain 0x1601 (putb true 31 ||| putb true 30) ∧
    ((lockedAt .measure).elapse 0).accepts .chain 0x1601 (putb true 29) ∧
    ((atMode .measure).aon.chainAddr = none ∧ (nodeAt .measure).aon.chainAddr ≠ none ∧ (atMode .measure).bridge = false) ∧
    ((bridgeAt .measure).ecp.north.st ≠ .up ∧ (bridgeNet .measure id).ecp.north.st = .up ∧ (bridgeNet .measure id).net.enumRun = none ∧
      bufferFree (bridgeNet .measure id).ecp.north.buf 1 = true) := by
  decide +kernel

theorem witness_HostPortTransactions :
    ((bridgeNet .measure id).elapse 0).serves .chain = true ∧ (nodeAt .measure).hostBegin.bridge = false ∧
    ((bridgeNet .measure id).hostBegin.bridge = true ∧ hostTyp 1 [0, 0, 1, 0] = true ∧ (bridgeNet .measure id).hostBegin.net.txq.length < 16) ∧
    16 ≤ (List.replicate 16 (⟨5, ⟨1, 0, 1, 1, 0, []⟩⟩ : TxEnt)).length ∧
    (bridgeNet .measure (fun n => { n with rxq := [⟨5, 1, 0, none⟩] })).hostBegin.net.rxq = ⟨5, 1, 0, none⟩ :: [] ∧
    (bridgeNet .measure id).hostBegin.net.rxq = [] ∧ 65535 + 1 ≤ 65536 ∧
    (bridgeNet .measure id).hostBegin.accepts .chain 0x860 5 ∧ (bridgeNet .measure id).hostBegin.refuses .chain 0x400 5 = true ∧
    ((bridgeNet .measure (fun n => { n with tags := [holdOf 1 5] })).hold 1 = some (holdOf 1 5) ∧
      (bridgeNet .measure (fun n => { n with tags := [holdOf 63 5] })).hold 1 = some (holdOf 63 5) ∧
      (bridgeNet .measure (fun n => { n with tags := [holdOf 63 0] })).hold 1 = some (holdOf 63 0)) ∧
    (let d := fun (t : Nat) (l : Bool) => bridgeNet .measure (fun n =>
       { n with tags := [holdOf 63 0], enumRun := some ⟨.discover, 0, 0, t, l, 0, false⟩ })
     (d 1 false).net.enumRun = some ⟨.discover, 0, 0, 1, false, 0, false⟩ ∧ (d 2 true).hold 2 = none ∧
       (d 2 true).net.enumRun = some ⟨.discover, 0, 0, 2, true, 0, false⟩) := by decide

/-- The payload of a SYNC. -/
def syncPayload (t : Tick) (corr q hops : Nat) : Bytes := beBytes 8 t.toNat ++ beBytes 4 corr ++ beBytes 2 q ++ beBytes 1 hops ++ [0]

theorem witness_ChainTime :
    (let h := headTo 63 0 8 (syncPayload 0 0xFFFFFFFF 65535 0)
     ((nodeAt .measure).elapse 0).hears .south (Header.frame h 8 (syncPayload 0 0xFFFFFFFF 65535 0)) h.tail) ∧
    ((bridgeNet .measure id).bridge = true ∧ (bridgeNet .measure id).bit 0x1600 28 = true) ∧
    (∀ st ∈ [SyncSt.acquire, .locked],
      (State.bridge { nodeAt .measure with net := { Net.init with sync := st } }) = false) ∧
    (Net.init.sseqSet = false ∧ Net.init.sync = .free) ∧ State.reset.time.slewEnd ≤ State.reset.clk := by decide +kernel

/-- A device in MEASURE whose check-value channels are ACTIVE for `rq`, with feed `f`. -/
def chkAt (rq : Requester) (f : Option Feed) : State :=
  { atMode .measure with chk := .replicate 16 { Chk.init with active := true, owner := some rq, feed := f } }

theorem witness_CheckValues :
    ((lockedAt .measure).elapse 0).accepts .chain 0x1804 (0 ||| putb true 31) ∧ ((atMode .measure).elapse 0).accepts .service 0x18F4 (putb true 31) ∧
    ((chkAt .chain none).elapse 0).accepts .chain 0x18F5 5 ∧ ((chkAt .chain none).elapse 0).accepts .chain 0x18F6 5 ∧
    ((chkAt .chain none).elapse 0).accepts .chain 0x18F4 (0 ||| putb true 30) ∧ ((chkAt .chain none).elapse 0).accepts .chain 0x18F4 (putb true 29) ∧
    ((chkAt .chain none).elapse 0).accepts .chain 0x18F4 (putb true 28) ∧ ((chkAt .chain none).chkOf 15).active = true ∧
    ((atMode .measure).chkOf 15).active = false ∧ ((chkAt .chain (some ⟨0, 1, false, 0, 0⟩)).chkOf 0).feed = some ⟨0, 1, false, 0, 0⟩ ∧
    ((chkAt .chain none).chkOf 4).cfg.getLsbD 16 = false ∧ feedRefused 0 0 = true ∧ regExists 0x1804 = true ∧
    ((chkAt .chain none).chkOf 15).owner ≠ some .service ∧ ((chkAt .chain none).chkOf 15).feed = none ∧
    ((0 : Word).getLsbD 28 = false ∧ (0 : Word).getLsbD 29 = false ∧ (0 : Word).getLsbD 30 = false ∧ (0 : Word).getLsbD 31 = false) ∧
    ((atMode .measure).elapse 0).accepts .chain 0x18F5 5 ∧ feedRefused 0x40000000 1 = false ∧ (chkAt .chain none).noFeed ∧
    ((chkAt .chain none).chkOf 15).startAt ≠ some (chkAt .chain none).clk ∧
    (let s : State := { atMode .measure with chk := .replicate 16 { Chk.init with active := true, owner := some .chain, startAt := some (atMode .measure).clk } }
     (s.chkOf 15).active = true ∧ (s.chkOf 15).startAt = some s.clk ∧ (s.chkOf 15).feed = none) := by decide

/-- A device in MEASURE whose rill bus is powered, changed by `f`, with operation 6 running. -/
def rilAt (f : Ril → Ril) : State :=
  { operAt .measure 6 .running with regs := [(0x1901, some 0xC0000000), (0x1902, some 0x80000000)], ril := f { Ril.init with rlv := true } }

/-- A search whose first query is on the bus. -/
def searchOf : RilSearch :=
  { tag := 5, todo := [], cur := [], found := [], clean := [], garbled := [], n := 0, want := false, before := [], restarts := 0, shown := false, lost := false }

theorem witness_RillBus :
    ((rilAt fun r => { r with rlv := false }).rilEnabled = true ∧ (rilAt fun r => { r with rlv := false }).ril.rlvRetry = none) ∧
    (rilAt id).ril.rlv = true ∧ (rilAt fun r => { r with rlvRetry := some 5 }).ril.rlvRetry = some 5 ∧
    ((rilAt id).bit 0x1901 30 = true ∧ (rilAt id).stw = true ∧ (rilAt fun r => { r with autoFrom := true }).ril.autoFrom = true ∧
      (rilAt fun r => { r with autoRlv := some 0 }).ril.autoRlv = some 0) ∧
    ((rilAt fun r => { r with search := some searchOf, bus := some .query }).ril.search = some searchOf ∧
      (rilAt fun r => { r with search := some searchOf, bus := some .query }).opIs 6 .running = true) ∧
    ((rilAt id).bit 0x1902 31 = true ∧ (rilAt id).coreOn = true ∧ (rilAt id).ril.round = none) ∧
    ((rilAt fun r => { r with round := some ⟨some 5, 0, true⟩ }).ril.round = some ⟨some 5, 0, true⟩ ∧
      (rilAt fun r => { r with round := some ⟨some 5, 0, true⟩ }).ril.round.isSome = true) ∧
    (let q := { searchOf with clean := [(0, 5)] }
     (rilAt fun r => { r with search := some q, bus := some .echo }).ril.search = some q ∧ q.clean = (0, 5) :: [] ∧
       (rilAt fun r => { r with search := some q, bus := some .echo }).ril.bus = some .echo ∧
       (rilAt fun r => { r with search := some q, bus := some .echo }).opIs 6 .running = true) ∧
    (rilAt fun r => { r with autoRlv := some 0 }).ril.autoFrom = false ∧
    (rilAt fun r => { r with bus := some (.read 31) }).ril.bus = some (.read 31) ∧
    ((rilAt fun r => { r with bus := some .direct, direct := some 0x80180000 }).ril.direct = some 0x80180000 ∧ directReply 0x80180000 = true) ∧
    ((atMode .measure).elapse 0).accepts .chain 0x1900 (putb true 31) ∧ ((atMode .measure).elapse 0).accepts .chain 0x1905 (0 ||| putb true 31) ∧
    ((atMode .measure).modeIn 4 10 && (atMode .measure).ril.rlv) = false ∧ ((rilAt id).modeIn 4 10 && (rilAt id).ril.rlv) = true ∧
    ((0x80080000 : Word).getLsbD 31 = true ∧ (0x80080000 : Word).getLsbD 19 = true ∧ ((rilAt id).rent 31).present = false) := by decide

/-- A device in MEASURE with source 159 latched, and not live. -/
def stickyAt : State := { atMode .measure with flt := { (atMode .measure).flt with src := [(159, { FltSrc.clear with sticky := true })] } }

theorem witness_FaultCollector :
    ((atMode .measure).elapse 0).accepts (.jet 7) 0x1A14 0x80000000 ∧ ((atMode .measure).elapse 0).accepts .chain 0x1A24 1 ∧
    ((lockedAt .measure).elapse 0).accepts .chain 0x1A0B 0xC1EA ∧
    (let h : Shadow := ⟨1, 5, 9, [3]⟩
     (State.flt { atMode .measure with flt := { Flt.init with shadowB := some h, shadowM := some h } }).shadowB = some h) ∧
    (State.fsrc { atMode .measure with flt := { Flt.init with src := [(159, { FltSrc.clear with winOpen := true })] } } 159).winOpen = true ∧
    (atMode .measure).stw = true ∧ (atMode .measure).coreOn = true ∧
    (let s : State := { atMode .measure with flt := Flt.init }
     s.stw = false ∧ s.nvm.noImg = false ∧ s.startWaits = false ∧ s.pwr.lpoRun = true ∧ s.pwr.mode ≠ .ship ∧ s.pwr.mode ≠ .still ∧ s.pwr.mode ≠ .reset ∧ s.flowOk = false) ∧
    (atMode .reset).pwr.mode = .reset ∧ 6 ≤ (atMode .reset).pwr.step ∧ stickyAt.srcFresh 0x1A10 159 = false ∧ stickyAt.srcFresh 0x1A20 159 = false ∧
    (let s : State := stickyAt.cycMod (fun c => { c with wc := [(0x1A14, 0x80000000), (0x1A24, 0x80000000)] })
     s.srcFresh 0x1A10 159 = true ∧ s.srcFresh 0x1A20 159 = true) ∧
    (atMode .measure).flowOk = true ∧ (((atMode .measure).fsrc 159).esc = 0 ∧ ((atMode .measure).fsrc 159).lockDone = false) ∧
    (stickyAt.live 159 = false ∧ (stickyAt.fsrc 159).sticky = true ∧ Sparse.wf FltSrc.clear stickyAt.flt.src = true) ∧
    (State.collectorOn { State.reset with pwr := { Pwr.init with mode := .ship } } = false) ∧
    (((atMode .measure).fsrc 0).sticky = false ∧ ((atMode .measure).fsrc 0).winOpen = false ∧
      2 ≤ State.fld { atMode .measure with regs := [(0x1B00, some 0x00020001)] } 0x1B00 16 8 ∧ State.bit { atMode .measure with regs := [(0x1A00, some 0)] } 0x1A00 31 = false ∧
      State.bit { atMode .measure with regs := [(0x1A00, some 0)] } 0x1A00 7 = false ∧
      (∀ x ∈ (atMode .measure).nowCyc.cleared, x.1 ≠ 0)) := by decide

theorem witness_FaultCollector_image :
    (let s : State := { atMode .measure with flt := Flt.init }
     (imageIn s imageCells).loadImage.1 = true ∧ (imageIn s [(0x8024, 0), (0x8025, 0)]).loadImage.1 = false) :=
  ⟨image_loads _ rfl, image_empty _⟩

theorem witness_LedgerEntries :
    (let x : LedgEnt := ⟨1, 0xFFFF, 5, List.replicate 12 0⟩
     (State.nvm { atMode .measure with nvm := { Nvm.init with ledgDue := [x] } }).ledgDue = x :: [] ∧ x.data.length = 12) ∧
    (atMode .measure).stw = true ∧ (atMode .measure).mramHeld = false ∧ (atMode .measure).nvm.ledgDue = [] ∧
    (atMode .measure).nvm.lostSeen < (State.flt { atMode .measure with flt := { Flt.init with lost := 1 } }).lost ∧
    (State.flt { atMode .measure with flt := { Flt.init with queue := [⟨.first, 159, 1, 1, false, 1, 5, 5⟩] } }).queue ≠ [] ∧
    Memory.wf (atMode .measure).nvm.mram = true := by decide

/-- A device in MEASURE whose throttle controller is in state `t` with TMAX at `m`. -/
def thrAt (t : ThrSt) (m : Int) : State := { atMode .measure with thm := { Thm.init with thr := t, tmax := m, shutDue := true } }

theorem witness_ThermalControl :
    (State.reset.pwr.mode = .reset) ∧ ((thrAt .requested 0).thm.thr = .requested ∧ (thrAt .requested 0).coreOn = true) ∧
    ((thrAt .requested 0).thm.tmax < (thrAt .requested 0).thrLow ∧ (thrAt .requested 8960).thrLow ≤ (thrAt .requested 8960).thm.tmax) ∧
    (thrAt .idle 0).thm.shutDue = true ∧ ((lockedAt .measure).elapse 0).accepts .chain 0x1C04 (put 63 8 6) ∧ Nat.testBit 63 5 = true ∧
    Nat.testBit 0 5 = false ∧ ((thrAt .idle 0).thm.tmax < (thrAt .idle 0).thrT ∧ (thrAt .idle 8960).thrT ≤ (thrAt .idle 8960).thm.tmax) ∧
    (thrAt .idle 0).fld 0x1C00 16 16 ≠ 0 ∧ State.fld { atMode .measure with regs := [(0x1C00, some 0)] } 0x1C00 16 16 = 0 ∧
    (thrAt .requested 8960).thm.graceEnd ≤ (thrAt .requested 8960).tbn ∧
    (let s := thrAt .requested 8960
     State.tbn { s with thm := { s.thm with graceEnd := 1 } } < 1) ∧ (atMode .reset).coreOn = true ∧
    ((thrAt .idle 8960).thm.tmax ≤ 8960 ∧ (thrAt .idle 10000).shutT ≤ (thrAt .idle 10000).thm.tmax ∧ (thrAt .idle 0).thm.tmax < (thrAt .idle 0).shutLow) ∧
    (thrAt .idle 0).thm.shutOver = false ∧ (thrAt .idle 0).thm.started = false ∧
    (let s := thrAt .idle 0
     let u : State := { s with thm := { s.thm with started := true, bandAt := some 0 } }
     u.thm.started = true ∧ u.thm.bandAt = some 0 ∧ u.clk - 0 < 20000000 ∧ 0 ≤ u.clk) := by decide

/-- A device in mode `m` in which the slice of unit `n` runs. -/
def sliceAt (m : Mode) (n : Nat) : State := { atMode m with bst := { Bst.init with slices := [⟨n, 0, .back⟩] } }

theorem witness_SelfTest :
    (let c := State.campNext 420 (sliceAt .measure 52)
     c.sliceOf 52 = some ⟨52, 0, .back⟩ ∧ c.mustCut ⟨52, 0, .back⟩ = none ∧ c.sliceClash 52 = false ∧ c.clk ≤ 0 + sliceBudget 52) ∧
    (let c := State.campNext 420 { sliceAt .spectrum 52 with flt := Flt.init }
     c.sliceOf 52 = some ⟨52, 0, .back⟩ ∧ (c.mustCut ⟨52, 0, .back⟩).any (fun k => decide (2 ≤ k)) = true) ∧
    ((atMode .spectrum).bgOn = false ∧ (atMode .measure).bgOn = true ∧ (atMode .measure).bgBusy = false ∧ (atMode .measure).bst.bgUnit = none) ∧
    ((atMode .measure).bgNext.isSome = true) ∧
    (let s : State := { atMode .measure with bst := { Bst.init with units := [(64, { UnitRes.none with first := true })] } }
     let h := (s.elapse 0).handsDue
     let v := ((List.range 52).filter (fun n => h.confDue n && !h.confReady n)).foldl State.confAsk h
     h.stw = true ∧ h.sliceMode = true ∧ h.bst.camp = none ∧
       (List.range 368).find? (fun n => v.confDue n && v.confReady n) = some 64) ∧
    (atMode .measure).noFeed ∧
    (State.bst { atMode .measure with bst := { Bst.init with mapPend := true } }).mapPend = true ∧ (atMode .measure).mramHeld = false ∧
    ((atMode .selftest).elapse 0).accepts .chain 0x1D00 (putb true 31) ∧ ((lockedAt .measure).elapse 0).accepts .chain 0x1D00 (putb true 30 ||| put 511 0 9) ∧
    ((lockedAt .measure).elapse 0).accepts .chain 0x1D00 (putb true 29) ∧
    ((atMode .measure).pwr.mode ≠ .selftest ∧ (operAt .selftest 2 .running).pwr.mode = .selftest ∧
      ((operAt .selftest 2 .running).oper 2).isSome = true) ∧ kindOf 64 = 4 ∧ kindOf 52 ≠ 4 ∧ kindOf 52 = 3 ∧ kindOf 368 = 7 := by decide

/-- A slice of check-value channel 0, which a requester has claimed meanwhile. -/
theorem witness_SelfTest_clash :
    (let s : State := { sliceAt .measure 352 with chk := (chkAt .chain none).chk }
     let c := State.campNext 420 s
     c.sliceOf 352 = some ⟨352, 0, .back⟩ ∧ c.sliceClash 352 = true) := by decide

/-- A device in MEASURE whose memory state is changed by `f`, with the lock held by the chain-interface requester. -/
def nvmAt (f : Nvm → Nvm) : State := { lockedAt .measure with nvm := f Nvm.init }

theorem witness_StoredMemory :
    ((nvmAt fun n => { n with wq := [.bytes 0x50000 [1]] }).nvm.wq = .bytes 0x50000 [1] :: [] ∧ (nvmAt id).mramHeld = false ∧
      State.mramHeld { nvmAt id with thm := { Thm.init with nvmHold := true } } = true) ∧
    ((nvmAt fun n => { n with rowDue := [1023] }).nvm.rowDue.contains 1023 = true ∧ (nvmAt id).nvm.rows = []) ∧
    ((nvmAt id).stw = true ∧ State.bit { nvmAt id with regs := [(0x1E02, some 0x80000000)] } 0x1E02 31 = true) ∧
    (let s : State := { operAt .measure 5 .running with nvm := { Nvm.init with scrub := some (5, 4095, false) } }
     s.nvm.scrub = some (5, 4095, false) ∧ (s.oper 5).any (fun o => decide (o.st = .running) && !o.pend) = true ∧ s.stw = true) ∧
    (nvmAt fun n => { n with bindBusy := some ⟨true, 5, 1, 1⟩ }).nvm.bindBusy = some ⟨true, 5, 1, 1⟩ ∧
    ((nvmAt id).elapse 0).accepts .chain 0x1E02 (((nvmAt id).elapse 0).keep 0x1E02 ||| putb true 30) ∧
    (((nvmAt id).elapse 0).accepts .chain 0x1E15 0xB1D5 ∧ ((nvmAt id).elapse 0).accepts .chain 0x1E15 0x0B1D ∧ (nvmAt id).nvm.bindBusy = none ∧
      (nvmAt id).bound.cnt ≠ 0xFFFFFFFF) ∧
    (let s : State := { nvmAt id with banks := .replicate 11 { Bank.init with caddr := 0x40000000 } }
     (s.elapse 0).accepts .chain 0x1E21 5) ∧
    Memory.wf (nvmAt id).nvm.mram = true ∧ (nvmAt id).nvm.scrub = none ∧ State.modeIn State.reset 4 10 = false ∧
    (nvmAt id).eccOf .mram 5 = none ∧ (nvmAt id).noFeed ∧ (nvmAt id).stageOff 0x50001 = none ∧
    (∀ w ∈ partWords 0x50001 1, (nvmAt id).eccOf .mram w = none) ∧ partWords 0x50001 1 = [0xA000] ∧
    (Jrn.use (nvmAt id).nvm.jrnA (nvmAt id).nvm.jrnB).any (fun k => decide (k.gen < 5)) = true := by decide

/-- A request of the service port with session 9. -/
def svcQ : SvcReq := ⟨true, 1, 9, 0, .north⟩

/-- A session in state `st`, opened over the service port for target `t`. -/
def sessOf (st : SessSt) (t : Nat) : Sess :=
  { st := st, srv := true, target := t, sid := 9, tag := 5, chunks := [], good := [], hdr := [], stage := [], tact := 0, now := true
    goAt := 0, begun := false, lastPkt := 0 }

/-- A device in SERVICE with that session. -/
def sessAt (st : SessSt) (t : Nat) : State := { operAt .service 4 .running with nvm := { Nvm.init with sess := some (sessOf st t) } }

theorem witness_UpdateSessions :
    ((atMode .service).svcOn true = true ∧ (∀ op ∈ [1, 2, 3, 4, 5, 6, 7, 8, 0x10, 0x11], (atMode .service).svcBusy op = none) ∧ (atMode .service).pwr.mode ≠ .lockout ∧ (atMode .service).pwr.mode = .service) ∧
    ((sessAt .open_ 1).nvm.sess.isSome = true ∧ (atMode .service).nvm.sess = none ∧ (atMode .service).nvm.act ≠ 1 ∧
      (nvmAt fun n => { n with act := 1 }).nvm.act = 1 ∧ 1 ≤ 6 ∧ 6 < 7 ∧ (atMode .service).nvm.noImg = false) ∧
    (1 ≤ 248 ∧ 0xFFF08 + 248 ≤ 0x100000 ∧ 0x100000 < 0xFFF09 + 248) ∧
    ((atMode .service).pwr.lockOwner ≠ some (svcRq svcQ) ∧ (atMode .service).keyGiven = false ∧ (nvmAt fun n => { n with keySet := true }).keyGiven = true ∧
      (withPwr .service fun p => { p with lockOwner := some .service }).pwr.lockOwner = some (svcRq svcQ)) ∧
    ((sessAt .open_ 1).svcOn true = true ∧ (∀ op ∈ [2, 4, 5, 6, 8], (sessAt .open_ 1).svcBusy op = none) ∧ (sessAt .open_ 1).nvm.sess = some (sessOf .open_ 1) ∧
      (sessOf .open_ 1).sid = svcQ.sid ∧ (sessOf .open_ 1).srv = svcQ.srv ∧ (sessAt .open_ 1).opIs 4 .running = true) ∧
    ((List.replicate 128 (0 : Byte)).length = 128 ∧ 7 ≤ 7 ∧ blockMax 1 ≤ blockMax 1 ∧ (sessOf .open_ 1).block 0 = none ∧
      (Sess.block { sessOf .open_ 1 with chunks := (List.range 8).map (fun i => (i, List.replicate 128 (0 : Byte))) } 0).isSome = true) ∧
    ((sessOf .verified 1).st = .verified ∧ (sessOf .scheduled 1).st ≠ .verified ∧ (sessOf .scheduled 1).st ≠ .activating) ∧
    State.stw { atMode .service with flt := Flt.init } = false ∧ pointOk (beBytes 32 0x6B17D1F2E12C4247F8BCE6E563A440F277037D812DEB33A0F4A13945D898C296)
      (beBytes 32 0x4FE342E2FE1A7F9B8EE7EB4A7C0F9E162BCE33576B315ECECBB6406837BF51F5) = true := by decide +kernel

theorem witness_UpdateActivation :
    ((sessAt .open_ 1).nvm.sess = some (sessOf .open_ 1) ∧ (sessAt .open_ 1).stw = true) ∧
    (∀ t ∈ [1, 2, 3, 4, 5, 6], (sessAt .scheduled t).nvm.sess = some (sessOf .scheduled t) ∧ (sessAt .scheduled t).opIs 4 .running = true ∧
      (sessAt .scheduled t).mramHeld = false) ∧
    (let s : State := { nvmAt (fun n => { n with act := 1, launchOk := true, confirm := true }) with
       ecp := ⟨{ Port.init false with st := .up }, { Port.init true with st := .up }, false, false, none⟩
       net := { Net.init with sync := .locked } }
     s.nvm.act = 1 ∧ s.stw = true ∧ s.nvm.launchOk = true ∧ s.linkSince = some 0 ∧ s.mramHeld = false ∧ s.stwSramBad = false ∧
       (s.until_ 1000000000).clk ≤ (s.until_ 1000000000).nvm.actAt + (s.until_ 1000000000).confirmTicks) ∧
    State.reset.pwr.mode = .reset ∧ 4 ≤ (srvFrame [1, 2, 3, 4]).length ∧ (srvPackets 3 (srvFrame [1, 2, 3, 4] ++ srvFrame [5, 6, 7, 8])) = [[1, 2, 3, 4], [5, 6, 7, 8]] := by
  decide +kernel

/-- A stored image without an error is read whole. -/
theorem witness_UpdateActivation_read (t : Nat) : ((sessAt .activating t).imageRead (sessOf .activating t)).1 = true := by
  unfold State.imageRead; split <;> rw [mramRead_clean _ _ _ rfl rfl]

/-- A calibration payload that holds nothing is not taken; a loader image is. -/
theorem witness_UpdateActivation_payload :
    (sessAt .scheduled 5).activated (sessOf .scheduled 5) = none ∧ ((sessAt .scheduled 2).activated (sessOf .scheduled 2)).isSome = true :=
  ⟨by decide +kernel, rfl⟩

/-! ### Expected results from the manual -/

/-- The words of the worked example on encoding in chapter 06. -/
theorem test_decode_example :
    Balrax.decode 0x084041A0 = some (.lui 1 0x41A0) ∧ Balrax.decode 0x04440AF0 = some (.addi 1 1 2800) ∧
    Balrax.decode 0x4A0C00A0 = some (.getr 8 3 0 true true false) ∧ Balrax.decode 0x019A0009 = some (.alu .min 6 6 8) ∧
    Balrax.decode 0x2083FFFC = some (.loop 2 (-4)) := by decide

/-- The same words from the instructions. -/
theorem test_encode_example :
    Balrax.encode (.lui 1 0x41A0) = 0x084041A0 ∧ Balrax.encode (.addi 1 1 2800) = 0x04440AF0 ∧
    Balrax.encode (.getr 8 3 0 true true false) = 0x4A0C00A0 ∧ Balrax.encode (.alu .min 6 6 8) = 0x019A0009 ∧
    Balrax.encode (.loop 2 (-4)) = 0x2083FFFC := by decide

/-- LUI and ADDI of that example load 0x1068_0AF0. -/
theorem test_load_constant : BitVec.ofNat 32 (0x41A0 * 2 ^ 14) + (2800 : Imm18).signExtend 32 = (0x10680AF0 : Word) := by decide

/-- "123456789" under the four algorithms of Table 12.1. -/
theorem test_check_values :
    (List.range 4).map (fun k => crcOf (crcAlg k) [0x31, 0x32, 0x33, 0x34, 0x35, 0x36, 0x37, 0x38, 0x39]) =
      [0x29B1, 0xE3069283, 0xCBF43926, 0x4B] := by decide +kernel

/-- The interleaved cell word of chapter 04: both corrected samples, their mean and the word with sequence number 6. -/
theorem test_cell_word :
    correct (-5000000, 5000000) 1234 4193801 237627710 false = (237597978, false) ∧
    correct (-5000000, 5000000) (-2048) 4194723 237572135 false = (237597916, false) ∧ average 475195894 1 = 3712468 ∧
    resultWord 3712468 false 0 6 = 0x38A5D406 := by decide

/-- The broken C9 wire of chapter 03: tap 9 is open, its neighbours are not. -/
theorem test_open_wire :
    (let r : OwRun :=
      ⟨0, .check, 0, 0x00012C00, [(9, 3652000), (10, 3648000)], [(9, 2578000), (10, 4712000)], false, none⟩
     r.tapOpen 24 9 = true) ∧
    (let r : OwRun := ⟨0, .check, 0, 0x00012C00, [(9, 3652000), (10, 3648000)], [(9, 3632000), (10, 3658000)], false, none⟩
     r.tapOpen 24 9 = false) := by decide

/-- SHL by 32 is a shift by 0, SAR copies the sign, MUL keeps the low word (Table 6.3). -/
theorem test_alu_corners :
    aluOp .shl 1 32 = 1 ∧ aluOp .sar 0x80000000 31 = 0xFFFFFFFF ∧ aluOp .shr 0x80000000 31 = 1 ∧
    aluOp .mul 0xFFFFFFFF 0xFFFFFFFF = 1 ∧ aluOp .min 0x80000000 1 = 0x80000000 ∧ aluOp .max 0x80000000 1 = 1 ∧
    aluOp .sub 0 1 = 0xFFFFFFFF := by decide +kernel

/-- R169: a LOOP entered with ra = 1 falls through, one entered with ra = 0 wraps and branches. -/
theorem test_loop :
    (nextOf (exec (.loop 0 0 1 5) (jetRegs 1 (.loop 1 5)))).map (fun t => ((t.jet 0).pc, t.greg 0 1)) = some (1, 0) ∧
    (nextOf (exec (.loop 0 0 1 5) (jetRegs 0 (.loop 1 5)))).map (fun t => ((t.jet 0).pc, t.greg 0 1)) = some (5, 0xFFFFFFFF) := by decide

/-- R158: a result for g0 is discarded. -/
theorem test_g0 : (nextOf (exec (.addi 0 0 0 0 5) (jetAt (.addi 0 0 5)))).map (fun t => t.greg 0 0) = some 0 := by decide +kernel

/-- R188, Table 6.9: HALT 7 stops the jet with cause 15 and leaves its word. -/
theorem test_halt :
    (nextOf (exec (.halt 0 0 7) (jetAt (.halt 7)))).map (fun t => ((t.jet 0).st, (t.jet 0).cause, (t.jet 0).word)) =
      some (.stopped, 15, 0x94000007) := by decide +kernel

/-- R13: a write that would change NCELLS while the lock is closed is refused; R460: a write to a reserved address does nothing. -/
theorem test_refused :
    (nextOf (exec (.registerWrite 0 .chain 0x400 12) (atMode .measure))).map (fun t => (t.answer.st, t.ncells)) = some (.denied, 24) ∧
    (nextOf (exec (.registerWrite 0 .chain 0xFFFF 12) (atMode .measure))).map (fun t => (t.answer.st, t.regs)) = some (.ok, []) := by decide

/-- R356: a source whose effective class is above its base class reacts at least at that class's floor of Table 14.2. -/
theorem test_class_floor : (List.range 4).map classFloor = [0, 1, 3, 4] := by decide

/-- Table 2.7: the routes by request from SAFE, and none from RESET. -/
theorem test_routes : (List.range 12).filter (routeOk 10) = [1, 2, 4, 10] ∧ (List.range 12).filter (routeOk 0) = [] := by decide

end Sys2Proof.Machine
end

/-! SUPPORT. Proofs of the statements of chapters 00 to 02 and of the jets' loads and stores: what a write leaves behind, what stays in its core
cycle, what a reset leaves, and the theorems that settle O2, O9, O16, O20 and O22. -/

section
namespace Sys2Proof.Machine

/-! ## The record of a write in its cycle (R26, R27) -/

theorem onlyIn_cycMod (s : State) (f : Cyc → Cyc) : OnlyIn [.cyc] s (s.cycMod f) := by
  intro p hp; cases p <;> simp_all [Part.same, State.cycMod]

theorem onlyIn_noteOld (s : State) (a k : Nat) (w : Word) : OnlyIn [.cyc] s (s.noteOld a k w) := by
  unfold State.noteOld; split
  · exact OnlyIn.refl
  · exact onlyIn_cycMod _ _

theorem onlyIn_noteWrite (s : State) (rq : Requester) (a : Nat) : OnlyIn [.cyc] s (s.noteWrite rq a) := by
  unfold State.noteWrite; simp only []
  split
  · exact OnlyIn.refl
  split
  · exact onlyIn_noteOld _ _ _ _
  · exact (onlyIn_noteOld _ _ _ _).trans (onlyIn_cycMod _ _)

theorem oldWord_of_same {s t : State} (hc : t.cyc = s.cyc) (ht : t.time = s.time) (a k : Nat) : t.oldWord a k = s.oldWord a k := by
  unfold State.oldWord State.nowCyc State.clk; rw [hc, ht]

/-- The first note of a part in a cycle stands. -/
theorem oldWord_noteOld (s : State) (a k : Nat) (w : Word) : (s.noteOld a k w).oldWord a k = some ((s.oldWord a k).getD w) := by
  unfold State.noteOld
  split
  next h => obtain ⟨x, hx⟩ := Option.isSome_iff_exists.mp h; rw [hx]; rfl
  next h =>
    have hn : s.oldWord a k = none := by simpa using h
    have hc : (s.cycMod (fun c => { c with before := (a, k, w) :: c.before })).nowCyc =
        { s.nowCyc with before := (a, k, w) :: s.nowCyc.before } := State.cycMod_nowCyc s _ (fun _ => rfl)
    rw [hn]
    unfold State.oldWord
    rw [hc]
    simp

theorem oldWord_noteRank (s : State) (rq : Requester) (a k b l : Nat) : (s.noteRank rq a k).oldWord b l = s.oldWord b l := by
  have hc : (s.noteRank rq a k).nowCyc = { s.nowCyc with ranks := (a, k, writeRank rq) :: s.nowCyc.ranks } :=
    State.cycMod_nowCyc s _ (fun _ => rfl)
  unfold State.oldWord; rw [hc]

/-- After a write is noted, its part's word from before the cycle is known (R27). -/
theorem oldWord_noteWrite {s : State} {rq : Requester} {a : Nat} (h : a ≠ 0x1604) :
    (s.noteWrite rq a).oldWord (s.partOf rq a).1 (s.partOf rq a).2 =
      some ((s.oldWord (s.partOf rq a).1 (s.partOf rq a).2).getD (s.readNow rq false a).1) := by
  unfold State.noteWrite
  simp only [if_neg h]
  split
  · exact oldWord_noteOld ..
  · rw [oldWord_noteRank, oldWord_noteOld]

/-! ## Stored bits (R11, R59) -/

theorem under_of_regs {s t : State} (h : t.regs = s.regs) (a : Nat) : t.under a = s.under a := by unfold State.under; rw [h]

theorem under_of_onlyIn {ps : List Part} {s t : State} (h : OnlyIn ps s t) (hp : Part.regs ∉ ps) (a : Nat) : t.under a = s.under a :=
  under_of_regs (h .regs hp) a

theorem under_setUnder (s : State) (a b : Nat) (w : Word) : (s.setUnder a w).under b = if b = a then w else s.under b := by
  unfold State.under State.setUnder
  simp only [Sparse.get_set_of_ne none s.regs a (some w) b (Option.some_ne_none w)]
  by_cases h : b = a <;> simp [h]

@[simp] theorem taken_nothing (c e v : Word) : taken 0#32 c e v = 0#32 := BitVec.zero_and

@[simp] theorem merged_nothing (w v : Word) : merged w 0#32 v = w := by
  unfold merged; rw [BitVec.and_zero, BitVec.or_zero, BitVec.not_zero, BitVec.and_allOnes]

/-- The underlying values after a register's bits are stored. -/
theorem under_storeReg (s : State) (a b : Nat) (v : Word) :
    (s.storeReg a v).under b =
      if b = a then merged (s.under a) (taken (BitVec.ofNat 32 ((regRow a).rw + (regRow a).rwl)) (s.covered a) (s.eff a) v) v
      else s.under b := by
  have hregs : (s.storeReg a v).under b = (if (regRow a).rw + (regRow a).rwl = 0 then s else s.setUnder a (merged (s.under a)
      (taken (BitVec.ofNat 32 ((regRow a).rw + (regRow a).rwl)) (s.covered a) (s.eff a) v) v)).under b := by
    unfold State.storeReg; simp only []
    split
    · rfl
    · exact under_of_regs rfl b
  rw [hregs]
  by_cases hz : (regRow a).rw + (regRow a).rwl = 0
  · rw [hz, if_pos rfl]
    split
    next e => subst e; rw [taken_nothing, merged_nothing]
    next => rfl
  · rw [if_neg hz, under_setUnder]

theorem covered_of_snap_nil {s : State} (h : s.ovl.snap = []) (a : Nat) : s.covered a = 0 := by simp [State.covered, h]

/-- Without an overlay every bit under the mask is taken. -/
theorem taken_uncovered (m e v : Word) : taken m 0 e v = m := by
  show m &&& ~~~(0#32 &&& ~~~(v ^^^ e)) = m
  rw [BitVec.zero_and, BitVec.not_zero, BitVec.and_allOnes]

theorem ownerActs_regs (s : State) (rq : Requester) (a : Nat) : (s.ownerActs rq a).regs = s.regs := by
  unfold State.ownerActs; split <;> rfl

theorem ownerActs_ovl (s : State) (rq : Requester) (a : Nat) : (s.ownerActs rq a).ovl = s.ovl := by
  unfold State.ownerActs; split <;> rfl

theorem ownerActs_lockLast (s : State) (rq : Requester) (a : Nat) :
    (s.ownerActs rq a).pwr.lockLast = if s.pwr.lockOwner = some rq ∧ protectedReg a = true then s.clk else s.pwr.lockLast := by
  unfold State.ownerActs State.owns
  split <;> simp_all

theorem stored_pwr (s : State) (rq : Requester) (a : Nat) (v : Word) : (s.stored rq a v).pwr = (s.ownerActs rq a).pwr := by
  unfold State.stored; split
  · exact onlyIn_storeReg _ a v .pwr (by simp)
  · rfl

/-- A written register keeps the underlying value of every other. -/
theorem under_stored_ne (s : State) (rq : Requester) {a b : Nat} (v : Word) (h : b ≠ a) : (s.stored rq a v).under b = s.under b := by
  unfold State.stored
  split
  · rw [under_storeReg, if_neg h]; exact under_of_regs (ownerActs_regs ..) b
  · exact under_of_regs (ownerActs_regs ..) b

/-- Without an overlay in effect a write takes the RW and RWL bits of its register (R11). -/
theorem under_stored_self {s : State} {a : Nat} (rq : Requester) (v : Word) (hs : s.ovl.snap = []) (hr : storesReg a = true) :
    (s.stored rq a v).under a = merged (s.under a) (BitVec.ofNat 32 ((regRow a).rw + (regRow a).rwl)) v := by
  have hs' : (s.ownerActs rq a).ovl.snap = [] := by rw [ownerActs_ovl, hs]
  unfold State.stored
  rw [if_pos hr, under_storeReg, if_pos rfl, covered_of_snap_nil hs', taken_uncovered, under_of_regs (ownerActs_regs ..)]

/-! ## What an accepted write has stored -/

section Wrote
variable (s : State) (rq : Requester) (a : Nat) (v : Word)

theorem onlyIn_wrote : OnlyIn [.cyc, .pwr, .regs, .rwo] (s.upTo rq a) (s.wrote rq a v) :=
  ((onlyIn_noteWrite _ rq a).mono (by simp)).trans ((onlyIn_stored _ rq a v).mono (by simp))

theorem under_wrote_ne {b : Nat} (h : b ≠ a) : (s.wrote rq a v).under b = (s.upTo rq a).under b := by
  unfold State.wrote
  rw [under_stored_ne _ _ _ h]
  exact under_of_onlyIn (onlyIn_noteWrite _ rq a) (by simp) b

theorem under_wrote_self (hs : (s.upTo rq a).ovl.snap = []) (hr : storesReg a = true) :
    (s.wrote rq a v).under a = merged ((s.upTo rq a).under a) (BitVec.ofNat 32 ((regRow a).rw + (regRow a).rwl)) v := by
  have ho : ((s.upTo rq a).noteWrite rq a).ovl = (s.upTo rq a).ovl := onlyIn_noteWrite _ rq a .ovl (by simp)
  unfold State.wrote
  rw [under_stored_self rq v (by rw [ho, hs]) hr, under_of_onlyIn (onlyIn_noteWrite _ rq a) (by simp) a]

/-- The last access of the lock's owner to a protected register (R57). -/
theorem lockLast_wrote : (s.wrote rq a v).pwr.lockLast =
    if (s.upTo rq a).pwr.lockOwner = some rq ∧ protectedReg a = true then (s.upTo rq a).clk else (s.upTo rq a).pwr.lockLast := by
  have k := onlyIn_noteWrite (s.upTo rq a) rq a
  have hp : ((s.upTo rq a).noteWrite rq a).pwr = (s.upTo rq a).pwr := k .pwr (by simp)
  have ht : ((s.upTo rq a).noteWrite rq a).time = (s.upTo rq a).time := k .time (by simp)
  unfold State.wrote
  rw [stored_pwr, ownerActs_lockLast, hp, State.clk, State.clk, ht]

end Wrote

/-! ## Registers without an effect of their own -/

/-- RES_LIM0 to RES_LIM35 and the configuration of the fault sources: a write of one stores its word and does nothing more. -/
abbrev PlainReg (a : Nat) : Prop := (0x860 ≤ a ∧ a ≤ 0x883) ∨ (0x1B00 ≤ a ∧ a ≤ 0x1B9F)

section Plain
variable {a : Nat} (h : PlainReg a)
include h

theorem plainReg_exists : regExists a = true := by
  rcases h with ⟨h1, h2⟩ | ⟨h1, h2⟩ <;> simp [regExists, regRanges] <;> omega

theorem plainReg_isSelector : isSelector a = false := by
  rcases h with ⟨h1, h2⟩ | ⟨h1, h2⟩ <;> simp [isSelector] <;> omega

theorem plainReg_settles : settles a = false := by
  rcases h with ⟨h1, h2⟩ | ⟨h1, h2⟩ <;> simp [settles] <;> omega

theorem plainReg_inputWrite (u : State) : u.inputWrite a = u := by
  rw [State.inputWrite] <;> omega

theorem plainReg_clearWc (u : State) (v : Word) : u.clearWc a v = u := by
  rw [State.clearWc] <;> omega

theorem plainReg_effect (u : State) (rq : Requester) (armed : Bool) (v : Word) : u.effect rq armed a v = u := by
  unfold State.effect
  rcases id h with ⟨h1, h2⟩ | ⟨h1, h2⟩
  · rw [if_pos (by omega : a < 0xC00)]
    unfold State.effectLow
    rw [if_neg (by omega), if_neg (by omega)]
    split <;> first | omega | exact plainReg_clearWc h _ _
  · rw [if_neg (by omega), if_neg (by omega)]
    unfold State.effectHigh
    rw [if_neg (by omega), if_neg (by omega), if_neg (by omega), if_neg (by omega)]
    split <;> first | omega | exact plainReg_clearWc h _ _

theorem plainReg_upTo (s : State) (rq : Requester) : s.upTo rq a = s.disarm rq := by
  unfold State.upTo State.busNow
  rw [if_neg (by omega)]

theorem plainReg_partOf (u : State) (rq : Requester) : u.partOf rq a = (a, 0) := by
  unfold State.partOf
  rw [plainReg_isSelector h, if_neg Bool.false_ne_true]
  split <;> first | rfl | omega

theorem plainReg_holdsWord : holdsWord a = false := by
  rcases h with ⟨h1, h2⟩ | ⟨h1, h2⟩ <;> simp [holdsWord] <;> omega

/-- A write of such a register that is accepted has stored its word, and nothing follows. -/
theorem plainReg_put {s : State} {dt : Nat} {rq : Requester} {v : Word} (hacc : (s.elapse dt).accepts rq a v) :
    s.put dt rq a v = .next (((s.elapse dt).wrote rq a v).answers .ok []) := by
  rw [put_effect hacc (plainReg_exists h) (plainReg_isSelector h) (plainReg_settles h) (plainReg_inputWrite h), plainReg_effect h]

/-- One whose word another write of its cycle replaces leaves nothing but the owner's access (R26). -/
theorem plainReg_applyWrite_outranked {s : State} {rq : Requester} {v : Word} (armed : Bool) (ho : s.outranked rq a 0 = true) :
    s.applyWrite rq armed a v = (s.noteWrite rq a).ownerActs rq a := by
  have hb : s.busNow a = s := by unfold State.busNow; rw [if_neg (by omega)]
  unfold State.applyWrite State.replaced
  simp only [hb, plainReg_exists h, plainReg_isSelector h, plainReg_settles h, plainReg_partOf h, plainReg_holdsWord h, plainReg_inputWrite h,
    plainReg_effect h, ho, Bool.not_true, Bool.not_false, Bool.false_eq_true, if_false, if_true]

end Plain

/-! ## A read in the cycle of a write (R27) -/

/-- A limit register shows its stored bits and no status. -/
theorem limReg_peek {a : Nat} (h : 0x860 ≤ a ∧ a ≤ 0x883) (u : State) (rq : Requester) : u.peek rq a = u.keep a := by
  have hstat : u.rdStat rq a = 0#32 := by
    unfold State.rdStat State.rdRes
    rw [if_neg (by omega), if_neg (by omega), if_neg (by omega), if_neg (by omega), if_neg (by omega), if_pos (by omega), if_neg (by omega),
      if_neg (by omega)]
    split <;> first | rfl | omega
  unfold State.peek State.rdCfg State.keep
  rw [hstat, if_pos (plainReg_exists (.inl h)), plainReg_isSelector (.inl h), if_neg Bool.false_ne_true, if_neg (by omega), if_neg (by omega),
    BitVec.or_zero]

theorem limReg_readNow {a : Nat} (h : 0x860 ≤ a ∧ a ≤ 0x883) (u : State) (rq : Requester) (host : Bool) :
    (u.readNow rq host a).1 = u.keep a := by
  unfold State.readNow
  rw [if_neg (by omega), if_neg (by omega), if_neg (by omega), if_neg (by omega), if_neg (by omega)]
  exact limReg_peek h u rq

/-- In the cycle of a write a limit register reads as before it (R27). -/
theorem limReg_read_wrote {a : Nat} (h : 0x860 ≤ a ∧ a ≤ 0x883) (s : State) (rq : Requester) (v : Word) :
    ((s.wrote rq a v).readReg rq false a).1 = (s.readReg rq false a).1 := by
  have hpart := fun u : State => plainReg_partOf (.inl h) u rq
  have hnote := oldWord_noteWrite (s := s.disarm rq) (rq := rq) (a := a) (by omega)
  have hst := onlyIn_stored ((s.disarm rq).noteWrite rq a) rq a v
  have hold : (s.wrote rq a v).oldWord a 0 = some ((s.oldWord a 0).getD (s.keep a)) := by
    rw [hpart, limReg_readNow h] at hnote
    unfold State.wrote
    rw [plainReg_upTo (.inl h), oldWord_of_same (hst .cyc (by simp)) (hst .time (by simp))]
    exact hnote
  unfold State.readReg
  rw [hpart, hpart]
  simp only [hold, limReg_readNow h, Option.getD_some]

/-! ## Writes that are held, refused or replaced -/

/-- A write that is not refused, with no commit in progress. -/
theorem writeReg_taken {s : State} {rq : Requester} {a : Nat} {v : Word} (hr : s.refuses rq a v = false) (hc : s.pwr.commit = none) :
    s.writeReg rq a v = (.ok, (s.disarm rq).applyWrite rq (s.pwr.keyArmed.contains rq) a v) := by
  unfold State.writeReg
  simp [hr, hc]

/-- A write during an overlay commit is judged and waits for it (R60). -/
theorem writeReg_held {s : State} {rq : Requester} {a : Nat} {v : Word} {c : Commit} (hc : s.pwr.commit = some c) :
    s.writeReg rq a v = (if s.refuses rq a v then .denied else .ok,
      { s with pwr := { s.pwr with commit := some (c.hold ⟨rq, a, v, !s.refuses rq a v, s.clk⟩) } }) := by
  unfold State.writeReg
  cases s.refuses rq a v <;> simp [hc]

theorem put_served {s : State} {dt : Nat} {rq : Requester} {a : Nat} {v : Word} (h : (s.elapse dt).serves rq = true) :
    s.put dt rq a v = .next (((s.elapse dt).writeReg rq a v).2.answers ((s.elapse dt).writeReg rq a v).1 []) := by
  unfold State.put State.access
  rw [if_pos h]

/-- A write that R26 puts before no waiting write of its cycle waits behind all of them (R60). -/
theorem hold_eq_append {c : Commit} {w : HeldWrite} (h : ∀ x ∈ c.waits, x.at_ = w.at_ → writeRank x.rq ≤ writeRank w.rq) :
    c.hold w = { c with waits := c.waits ++ [w] } := by
  have hafter : ∀ x ∈ c.waits, (decide (x.at_ = w.at_) && decide (writeRank w.rq < writeRank x.rq)) = false := by
    intro x hx
    by_cases ht : x.at_ = w.at_
    · simp [ht, h x hx ht]
    · simp [ht]
  have hbefore : c.waits.filter (fun x => !(decide (x.at_ = w.at_) && decide (writeRank w.rq < writeRank x.rq))) = c.waits :=
    List.filter_eq_self.mpr (fun x hx => by rw [hafter x hx]; rfl)
  have hbehind : c.waits.filter (fun x => decide (x.at_ = w.at_) && decide (writeRank w.rq < writeRank x.rq)) = [] :=
    List.filter_eq_nil_iff.mpr (fun x hx => by rw [hafter x hx]; exact Bool.false_ne_true)
  unfold Commit.hold
  simp only [hbefore, hbehind]

/-- A limit register whose write another of its cycle comes after keeps every underlying value (R26). -/
theorem limReg_replaced {s : State} {dt : Nat} {rq : Requester} {a : Nat} {v : Word} (h : 0x860 ≤ a ∧ a ≤ 0x883)
    (hs : (s.elapse dt).serves rq = true) (hr : (s.elapse dt).refuses rq a v = false) (hc : (s.elapse dt).pwr.commit = none)
    (ho : (s.elapse dt).outranked rq a 0 = true) :
    Completes (.registerWrite dt rq a v) s (fun t => (∀ b, t.under b = (s.elapse dt).under b) ∧ t.answer.st = .ok) := by
  refine ⟨_, put_served hs, ?_⟩
  have ho' : ((s.elapse dt).disarm rq).outranked rq a 0 = true := ho
  rw [writeReg_taken hr hc, plainReg_applyWrite_outranked (.inl h) _ ho']
  refine ⟨fun b => ?_, rfl⟩
  have hn := under_of_onlyIn (onlyIn_noteWrite ((s.elapse dt).disarm rq) rq a) (by simp) b
  exact (under_of_regs (ownerActs_regs ..) b).trans hn

/-- A bit that the device has set in the same cycle is masked once (R12). -/
theorem effect_masked (u : State) (rq : Requester) (armed : Bool) (a : Nat) (v : Word) :
    u.effect rq armed a v = u.effect rq armed a (v &&& ~~~(u.wcFresh a)) := by
  unfold State.effect
  rw [BitVec.and_assoc, BitVec.and_self]

/-- Settles O20: the three ways of `writeReg`, the laws of what `wrote` has stored, and the registers that have no effect of their own. -/
theorem registerWrites : Obligations.RegisterWrites := by
  intro s dt rq a v e f
  refine ⟨?refused, ?held, fun c w => hold_eq_append, ?plain, ?self, fun b => under_wrote_ne e rq a v, lockLast_wrote e rq a v,
    onlyIn_wrote e rq a v, fun h => limReg_read_wrote h e rq v, fun hs hr hc ho h => limReg_replaced h hs hr hc ho,
    fun u armed => effect_masked u rq armed a v⟩
  case refused =>
    intro hs hr hc
    rw [exec_registerWrite, execRegisterWrite, put_served hs, writeReg_refused hr hc]
  case held =>
    intro c hs hc
    rw [exec_registerWrite, execRegisterWrite, put_served hs, writeReg_held hc]
  case plain =>
    exact fun hacc h => plainReg_put h hacc
  case self =>
    exact fun hsnap hreg => under_wrote_self e rq a v hsnap hreg

/-! ## Operations that stay in the core cycle -/

/-- `t` stands in the core cycle of `s`: the time is the same, and so is the source of the core clock. -/
structure SameCycle (s t : State) : Prop where
  time : t.time = s.time
  core : t.pwr.coreSrc = s.pwr.coreSrc

namespace SameCycle

theorem refl (s : State) : SameCycle s s := ⟨rfl, rfl⟩

theorem trans {a b c : State} (h : SameCycle a b) (k : SameCycle b c) : SameCycle a c := ⟨k.time.trans h.time, k.core.trans h.core⟩

theorem ite {s a b : State} {p : Prop} [Decidable p] (ha : SameCycle s a) (hb : SameCycle s b) : SameCycle s (if p then a else b) := by
  split
  · exact ha
  · exact hb

theorem foldl {α : Type} {f : State → α → State} (h : ∀ u x, SameCycle u (f u x)) (l : List α) (s : State) : SameCycle s (l.foldl f s) := by
  induction l generalizing s with
  | nil => exact refl s
  | cons x l ih => exact (h s x).trans (ih _)

theorem of_onlyIn {ps : List Part} {s t : State} (h : OnlyIn ps s t) (ht : Part.time ∉ ps) (hp : Part.pwr ∉ ps) : SameCycle s t :=
  ⟨h .time ht, congrArg Pwr.coreSrc (h .pwr hp)⟩

theorem issuedAt {s t : State} (h : SameCycle s t) : t.issuedAt = s.issuedAt := by
  unfold State.issuedAt State.clk State.cycle
  rw [h.time, h.core]

end SameCycle

/-! ### Flags, frames and records -/

theorem sameCycle_cycMod (s : State) (f : Cyc → Cyc) : SameCycle s (s.cycMod f) := ⟨rfl, rfl⟩
theorem sameCycle_setFsrc (s : State) (i : Nat) (f : FltSrc) : SameCycle s (s.setFsrc i f) := ⟨rfl, rfl⟩
theorem sameCycle_putFlag (s : State) (k : Nat) (b : Bool) : SameCycle s (s.putFlag k b) := ⟨rfl, rfl⟩
theorem sameCycle_srcSet (s : State) (a i : Nat) : SameCycle s (s.srcSet a i) := ⟨rfl, rfl⟩

theorem sameCycle_setBal (s : State) (n : Nat) (f : BalCell → BalCell) : SameCycle s (s.setBal n f) := .ite (.refl s) ⟨rfl, rfl⟩

theorem sameCycle_wakes (s : State) (js : List Nat) : SameCycle s (s.wakes js) := by
  unfold State.wakes
  refine SameCycle.foldl ?_ js s
  exact fun u j => ⟨rfl, rfl⟩

theorem sameCycle_raiseFlag (s : State) (k : Nat) : SameCycle s (s.raiseFlag k) := by
  have hw := sameCycle_wakes s ((List.range 8).filter (waitsOn s k false))
  unfold State.raiseFlag
  simp only []
  split
  · exact (hw.trans (sameCycle_wakes _ _)).trans (sameCycle_putFlag _ k false)
  · exact hw.trans (sameCycle_putFlag _ k true)

theorem sameCycle_setFlag (s : State) (k : Nat) : SameCycle s (s.setFlag k) :=
  .ite (.refl s) ((sameCycle_raiseFlag s k).trans ⟨rfl, rfl⟩)

theorem sameCycle_sendInbound (s : State) (kind : Nat) (f : Frame) : SameCycle s (s.sendInbound kind f) :=
  .ite (.ite ⟨rfl, rfl⟩ ⟨rfl, rfl⟩) (.of_onlyIn (send_port s s.bridgeWard f .north).2 (by simp) (by simp))

theorem sameCycle_record (s : State) (kind : RecKind) (i : Nat) (sec : Bool) : SameCycle s (s.record kind i sec) := .ite ⟨rfl, rfl⟩ ⟨rfl, rfl⟩

theorem sameCycle_notify (s : State) (i : Nat) (sec : Bool) : SameCycle s (s.notify i sec) :=
  .ite (sameCycle_sendInbound s 4 _) (.refl s)

/-! ### Presentations -/

theorem sameCycle_secondary (s : State) (i id : Nat) : SameCycle s (s.secondary i id) :=
  have hset : SameCycle s ((s.srcSet 0x1A20 i).setFsrc i _) := ⟨rfl, rfl⟩
  .ite hset ((hset.trans (sameCycle_record _ .secondary i true)).trans (sameCycle_notify _ i true))

theorem sameCycle_unclear (s : State) (i : Nat) : SameCycle s (s.unclear i) := by
  unfold State.unclear
  split
  · exact ⟨rfl, rfl⟩
  · exact .refl s

/-- An occasion that is recorded and notified. -/
theorem sameCycle_announced (s : State) (kind : RecKind) (i : Nat) : SameCycle s ((s.record kind i false).notify i false) :=
  (sameCycle_record s kind i false).trans (sameCycle_notify _ i false)

theorem sameCycle_primary (s : State) (i : Nat) : SameCycle s (s.primary i) := by
  unfold State.primary
  extract_lets s1 f n f1 f2 fresh f3 s2 s3 s4 src5 s5 src6 s6 src7
  have h2 : SameCycle s s2 := ((sameCycle_unclear s i).trans (sameCycle_srcSet _ 0x1A10 i)).trans (sameCycle_setFsrc s1 i f3)
  have h3 : SameCycle s s3 := .ite (h2.trans (sameCycle_announced s2 .first i)) h2
  have h4 : SameCycle s s4 := .ite (h3.trans (sameCycle_setFlag s3 _)) h3
  have h5 : SameCycle s s5 := h4.trans (sameCycle_setFsrc s4 i _)
  have h6 : SameCycle s s6 := h5.trans (sameCycle_setFsrc s5 i _)
  have escalates : ∀ g : FltSrc, SameCycle s (((s6.setFsrc i g).record .escalated i false).notify i false) :=
    fun g => (h6.trans (sameCycle_setFsrc s6 i g)).trans (sameCycle_announced _ .escalated i)
  exact .ite (.ite (escalates _) (.ite (escalates _) h6)) h5

/-! ### Reactions -/

theorem sameCycle_openOuts (s : State) (l : List Nat) : SameCycle s (l.foldl State.openOut s) := by
  refine SameCycle.foldl ?_ l s
  exact fun u n => sameCycle_setBal u n _

theorem sameCycle_openAll (s : State) : SameCycle s s.openAll := by
  have hopen := sameCycle_openOuts s cellNos
  unfold State.openAll
  generalize cellNos.foldl State.openOut s = u at hopen ⊢
  simp only []
  split
  · exact hopen.trans ⟨rfl, rfl⟩
  · exact hopen

theorem sameCycle_dropLost (s : State) : SameCycle s s.dropLost := by
  unfold State.dropLost
  refine SameCycle.foldl ?_ cellNos s
  exact fun u n => .ite (sameCycle_setBal u n _) (.refl u)

theorem sameCycle_setSlu (s : State) (x : Slu) : SameCycle s { s with slu := x } := ⟨rfl, rfl⟩

theorem sameCycle_allocate (s : State) : SameCycle s s.allocate := by
  unfold State.allocate
  extract_lets c l internal d pDie pBoard
  split
  refine SameCycle.trans (SameCycle.foldl ?_ cellNos s) (sameCycle_setSlu _ _)
  exact fun u n => sameCycle_setBal u n _

theorem sameCycle_recompute (s : State) : SameCycle s s.recompute := by
  unfold State.recompute
  refine .ite ?_ (.refl s)
  refine ((SameCycle.foldl ?_ cellNos s).trans (sameCycle_allocate _)).trans (SameCycle.foldl ?_ cellNos _)
  · exact fun u n => .ite (.refl u) (sameCycle_setBal u n _)
  · exact fun u n => .ite (sameCycle_setBal u n _) (.refl u)

theorem sameCycle_holdAll (s : State) (t : Bool) (l : List Nat) : SameCycle s (s.holdAll t l) := by
  unfold State.holdAll
  refine SameCycle.foldl ?_ l s
  exact fun u i => sameCycle_setFsrc u i _

theorem sameCycle_joinReact (s : State) (code : Nat) (l : List Nat) : SameCycle s (s.joinReact code l) := .ite ⟨rfl, rfl⟩ (.refl s)

theorem sameCycle_reacted (s : State) (code : Nat) (openers : List Nat) : SameCycle s (s.reacted code openers) := by
  unfold State.reacted
  extract_lets src b flt u flt' v
  have hu : SameCycle s u := ⟨rfl, rfl⟩
  have hv : SameCycle s v := .ite (hu.trans ⟨rfl, rfl⟩) hu
  exact hv.trans (sameCycle_record v .reaction src false)

theorem sameCycle_issueThrottle (s : State) (l : List Nat) : SameCycle s (s.issueThrottle l) :=
  have hh := sameCycle_holdAll s true l
  .ite (.refl s) (.ite (hh.trans (sameCycle_joinReact _ 2 l)) ((hh.trans (sameCycle_recompute _)).trans (sameCycle_reacted _ 2 l)))

theorem sameCycle_issueStop (s : State) (l : List Nat) : SameCycle s (s.issueStop l) :=
  have hh := sameCycle_holdAll s false l
  .ite (.refl s) (.ite (hh.trans (sameCycle_joinReact _ 3 l))
    (((hh.trans (sameCycle_openAll _)).trans (sameCycle_dropLost _)).trans (sameCycle_reacted _ 3 l)))

theorem sameCycle_beginCommit (s : State) (m : Mode) (w : CommitWhy) : SameCycle s (s.beginCommit m w) := ⟨rfl, rfl⟩

theorem sameCycle_reactMode (s : State) (m : Mode) : SameCycle s (s.reactMode m) := by
  unfold State.reactMode
  split
  · exact ⟨rfl, rfl⟩
  · exact .ite ⟨rfl, rfl⟩ (sameCycle_beginCommit s m .reaction)

theorem sameCycle_overrule (s : State) : SameCycle s s.overrule := by
  unfold State.overrule
  extract_lets u
  refine .ite ?_ (.refl s)
  split
  · exact .ite ⟨rfl, rfl⟩ ⟨rfl, rfl⟩
  · exact ⟨rfl, rfl⟩

theorem sameCycle_lockNow (s : State) : SameCycle s s.lockNow :=
  .ite (sameCycle_overrule s) ((sameCycle_overrule s).trans (sameCycle_reactMode _ .lockout))

theorem sameCycle_issueMode (s : State) (safe lock : List Nat) : SameCycle s (s.issueMode safe lock) := by
  have hlatch : SameCycle s { s with aon := { s.aon with lockout := true } } := ⟨rfl, rfl⟩
  have hlock : SameCycle s ((({ s with aon := { s.aon with lockout := true } } : State).openAll).lockNow) :=
    (hlatch.trans (sameCycle_openAll _)).trans (sameCycle_lockNow _)
  have hsafe : SameCycle s ((s.openAll).reactMode .safe) := (sameCycle_openAll s).trans (sameCycle_reactMode _ .safe)
  exact .ite (.ite (sameCycle_joinReact s 5 lock) (hlock.trans (sameCycle_reacted _ 5 lock)))
    (.ite (.ite (sameCycle_joinReact s 4 safe) (hsafe.trans (sameCycle_reacted _ 4 safe))) (.refl s))

theorem sameCycle_collect (s : State) (l : List Nat) : SameCycle s (s.collect l) := by
  unfold State.collect
  extract_lets srcs u prim v calls
  have hu : SameCycle s u := sameCycle_cycMod s _
  have hv : SameCycle s v := by
    refine hu.trans (SameCycle.foldl ?_ srcs u)
    intro w i
    split
    · exact sameCycle_secondary w i _
    · exact sameCycle_primary w i
  exact .ite (.refl s) (((hv.trans (sameCycle_issueThrottle v _)).trans (sameCycle_issueStop _ _)).trans (sameCycle_issueMode _ _ _))

/-! ### A presentation with what it brings about for a spectrum run -/

theorem sameCycle_dropConvs (s : State) (f : Conv → Bool) : SameCycle s (s.dropConvs f) := by
  unfold State.dropConvs
  refine SameCycle.trans (SameCycle.foldl ?_ _ s) ⟨rfl, rfl⟩
  exact fun u m => ⟨rfl, rfl⟩

theorem sameCycle_setOp (s : State) (kind : Nat) (f : Oper → Oper) : SameCycle s (s.setOp kind f) := by
  unfold State.setOp
  split
  · exact ⟨rfl, rfl⟩
  · exact .refl s

theorem sameCycle_endOp (s : State) (kind : Nat) (st : OpSt) (cause code : Nat) : SameCycle s (s.endOp kind st cause code) := by
  have hreturn : ∀ u : State, SameCycle u (u.autoReturn kind) := fun u => .ite (sameCycle_beginCommit u _ .auto) (.refl u)
  unfold State.endOp
  split
  · exact .refl s
  · extract_lets u v
    have hu : SameCycle s u := sameCycle_setOp s kind _
    have hv : SameCycle s v := .ite (hu.trans (sameCycle_setFlag u _)) hu
    exact hv.trans (hreturn v)

theorem sameCycle_rotClock (s : State) : SameCycle s s.rotClock := by
  unfold State.rotClock
  split
  · exact .ite (.refl s) ⟨rfl, rfl⟩
  · exact .ite ⟨rfl, rfl⟩ (.refl s)

theorem sameCycle_owDue (s : State) : SameCycle s s.owDue := .ite (.refl s) (.ite ⟨rfl, rfl⟩ ⟨rfl, rfl⟩)

theorem sameCycle_owEnter (s : State) : SameCycle s s.owEnter := by
  unfold State.owEnter
  extract_lets due cfe u
  have hu : SameCycle s u := ⟨rfl, rfl⟩
  exact .ite (.ite (hu.trans (sameCycle_owDue u)) hu) (.refl s)

theorem sameCycle_endSpec (s : State) (st : OpSt) (cause code : Nat) : SameCycle s (s.endSpec st cause code) := by
  unfold State.endSpec State.releaseSpec
  extract_lets u spc v
  have hu : SameCycle s u := (sameCycle_openAll s).trans (sameCycle_dropConvs _ _)
  have hv : SameCycle s v := hu.trans ⟨rfl, rfl⟩
  exact (((hv.trans (sameCycle_endOp v 1 st cause code)).trans (sameCycle_rotClock _)).trans (sameCycle_owEnter _)).trans (sameCycle_collect _ [157])

theorem sameCycle_reactSpec (s : State) (wasT wasS : Bool) : SameCycle s (s.reactSpec wasT wasS) := by
  have hheld : ∀ r : SpcRun, SameCycle s ((s.openAll).setRun r) := fun r => (sameCycle_openAll s).trans ⟨rfl, rfl⟩
  unfold State.reactSpec
  split
  · refine .ite (sameCycle_endSpec s .failed 4 1) (.ite (.ite ?_ (.refl s)) (.refl s))
    split
    · exact hheld _
    · exact hheld _
    · exact hheld _
    · exact sameCycle_openAll s
  · exact .refl s

/-- A presentation stays in its core cycle: its reactions change the mode by a commit of their own, later. -/
theorem sameCycle_present (s : State) (l : List Nat) : SameCycle s (s.present l) :=
  .ite (.refl s) ((sameCycle_collect s l).trans (sameCycle_reactSpec _ _ _))

/-- One source that is presented by an operation of the same cycle. -/
theorem SameCycle.present1 {s u : State} (h : SameCycle s u) (i : Nat) : SameCycle s (u.present1 i) := h.trans (sameCycle_present u [i])

/-! ### Reads -/

theorem sameCycle_setSeq (s : State) (x : Seq) : SameCycle s { s with seq := x } := ⟨rfl, rfl⟩
theorem sameCycle_setBsn (s : State) (x : Bsn) : SameCycle s { s with bsn := x } := ⟨rfl, rfl⟩
theorem sameCycle_setNvm (s : State) (x : Nvm) : SameCycle s { s with nvm := x } := ⟨rfl, rfl⟩
theorem sameCycle_eccClear (s : State) (a : EccArea) (i : Nat) : SameCycle s (s.eccClear a i) := ⟨rfl, rfl⟩
theorem sameCycle_wcSet (s : State) (a : Nat) (w : Word) : SameCycle s (s.wcSet a w) := ⟨rfl, rfl⟩

theorem sameCycle_seqEcc (s : State) (a : EccArea) (i : Nat) : SameCycle s (s.seqEcc a i) := by
  unfold State.seqEcc
  split
  · exact .refl s
  · exact ((sameCycle_setSeq s _).trans (sameCycle_eccClear _ a i)).present1 151
  · exact ((sameCycle_setSeq s _).trans (sameCycle_wcSet _ 0xC4C _)).present1 152

theorem sameCycle_readSram (s : State) (phys i : Nat) : SameCycle s (s.readSram phys i).2 := by
  unfold State.readSram
  split
  · exact .refl s
  · exact ((sameCycle_setBsn s _).trans (sameCycle_eccClear _ .basin _)).present1 151
  · exact ((sameCycle_setBsn s _).trans (sameCycle_wcSet _ 0xA01 _)).present1 152

theorem sameCycle_reportRow (s : State) (r : Nat) : SameCycle s (s.reportRow r) := ⟨rfl, rfl⟩

theorem sameCycle_mramTouch (s : State) (w : Nat) : SameCycle s (s.mramTouch w) := by
  unfold State.mramTouch
  split
  · exact sameCycle_setNvm s _
  · extract_lets n again nvm u
    have hu : SameCycle s u := ((sameCycle_setNvm s _).trans (sameCycle_eccClear _ .mram w)).present1 149
    exact .ite (hu.trans (sameCycle_reportRow u _)) hu
  · exact (((sameCycle_setNvm s _).trans (sameCycle_wcSet _ 0x1E01 _)).trans (sameCycle_reportRow _ _)).present1 150

theorem sameCycle_mramRead (s : State) (a n : Nat) : SameCycle s (s.mramRead a n).2 := by
  unfold State.mramRead
  refine SameCycle.foldl ?_ (wordsOf a n) s
  exact sameCycle_mramTouch

theorem sameCycle_advance (s : State) (rq : Requester) (a n top : Nat) : SameCycle s (s.advance rq a n top) := .ite ⟨rfl, rfl⟩ (.refl s)

theorem sameCycle_pageWord (s : State) (m q i : Nat) : SameCycle s (s.pageWord m q i).2 := by
  unfold State.pageWord
  split
  · exact .refl s
  · split
    · exact .refl s
    · exact sameCycle_readSram s _ i

theorem sameCycle_rdSeqWin (s : State) (rq : Requester) (prog : Bool) : SameCycle s (s.rdSeqWin rq prog).2 := by
  unfold State.rdSeqWin
  split
  · exact (sameCycle_seqEcc s .prog _).trans (sameCycle_advance _ rq 0xC48 14 16383)
  · exact (sameCycle_seqEcc s .scratch _).trans (sameCycle_advance _ rq 0xC4A 10 1023)

theorem sameCycle_rdLedger (s : State) (rq : Requester) (k : Nat) : SameCycle s (s.rdLedger rq k).2 := by
  unfold State.rdLedger
  extract_lets a w
  have hread := sameCycle_mramRead s a 4
  generalize s.mramRead a 4 = r at hread ⊢
  obtain ⟨good, u⟩ := r
  have hfree : SameCycle s u.free.2 := hread.trans ⟨rfl, rfl⟩
  cases good
  · exact .ite (hfree.trans (sameCycle_advance _ rq 0x1E04 11 2047)) hfree
  · exact .ite (hread.trans (sameCycle_advance u rq 0x1E04 11 2047)) hread

theorem sameCycle_custRead (s : State) (rq : Requester) : SameCycle s (s.custRead rq).2 := sameCycle_mramRead s _ 4

theorem sameCycle_takeRead (s : State) (ch : Nat) : SameCycle s (s.takeRead ch) := .ite (.ite ⟨rfl, rfl⟩ (.refl s)) ⟨rfl, rfl⟩

theorem sameCycle_readEffect (s : State) (rq : Requester) (host : Bool) (a : Nat) : SameCycle s (s.readEffect rq host a) := by
  unfold State.readEffect
  refine .ite (sameCycle_takeRead s _) ?_
  split
  · exact ⟨rfl, rfl⟩
  · exact sameCycle_advance s rq 0x120B 13 8191
  · exact sameCycle_advance s rq 0x120D 11 2047
  · exact sameCycle_advance s rq 0x1A04 8 159
  · exact sameCycle_advance s rq 0x1D06 9 416
  · exact .ite ⟨rfl, rfl⟩ (.refl s)
  · exact .refl s

theorem sameCycle_readNow (s : State) (rq : Requester) (host : Bool) (a : Nat) : SameCycle s (s.readNow rq host a).2 := by
  unfold State.readNow
  split
  · exact sameCycle_pageWord s _ _ _
  split
  · exact sameCycle_rdSeqWin s rq true
  split
  · exact sameCycle_rdSeqWin s rq false
  split
  · exact sameCycle_rdLedger s rq _
  split
  · exact (sameCycle_custRead s rq).trans (sameCycle_advance _ rq 0x1E20 17 131071)
  · exact sameCycle_readEffect s rq host a

/-- A register read takes no time (R462). -/
theorem sameCycle_readReg (s : State) (rq : Requester) (host : Bool) (a : Nat) : SameCycle s (s.readReg rq host a).2 :=
  sameCycle_readNow s rq host a

/-! ## Scratch (R170, R194) -/

theorem strmRead_idle (n : Nat) {s : State} {j : Nat} (h : (s.jet j).wait.safe = true ∨ (s.jet j).wait = .none) : s.strmRead n j = s := by
  cases n with
  | zero => rfl
  | succ n =>
    unfold State.strmRead
    split
    next hw => rw [hw] at h; simp [JWait.safe] at h
    next => rfl

/-- Where no jet waits with a STRM, no payload word is read. -/
theorem strmAll_idle {s : State} (h : ∀ m < 8, (s.jet m).wait.safe = true ∨ (s.jet m).wait = .none) : s.strmAll = s := by
  have hfold : ∀ l : List Nat, (∀ m ∈ l, m < 8) → l.foldl (State.strmRead 64) s = s := by
    intro l
    induction l with
    | nil => exact fun _ => rfl
    | cons m l ih =>
      intro hl
      rw [List.foldl_cons, strmRead_idle 64 (h m (hl m List.mem_cons_self))]
      exact ih (fun x hx => hl x (List.mem_cons_of_mem m hx))
  exact hfold (List.range 8) (fun m hm => List.mem_range.mp hm)

theorem scratchWord_of_same {s t : State} (hseq : t.seq = s.seq) (hres : t.resets = s.resets) (k : Nat) : t.scratchWord k = s.scratchWord k := by
  unfold State.scratchWord; rw [hseq, hres]

theorem scratchWord_set (u : State) (i k : Nat) (w : Word) :
    ({ u with seq := { u.seq with scratch := Sparse.set none u.seq.scratch i (some w) } } : State).scratchWord k =
      if k = i then w else u.scratchWord k := by
  unfold State.scratchWord
  simp only [Sparse.get_set_of_ne none u.seq.scratch i (some w) k (Option.some_ne_none w)]
  by_cases hk : k = i <;> simp [hk]

/-- A scratch word after a write of one. -/
theorem scratchWord_putScratch {s : State} (h : ∀ m < 8, (s.jet m).wait.safe = true ∨ (s.jet m).wait = .none) (i k : Nat) (w : Word) :
    (s.putScratch i w).scratchWord k = if k = i then w else s.scratchWord k := by
  have hn := onlyIn_noteOld s 0xC4B (i / 1024 * 65536 + i % 1024) (s.scratchWord i)
  unfold State.putScratch
  rw [strmAll_idle h]
  refine (scratchWord_set _ i k w).trans ?_
  rw [scratchWord_of_same (hn .seq (by simp)) (hn .resets (by simp))]

/-! ## Loads, stores and register accesses of the jets (R170, R171, R177) -/

section Jets
variable {s u : State} {dt j n : Nat}

theorem ld_exec {a b : Reg} {imm : Imm18} (h : (s.elapse dt).issues j (.ld a b imm)) (hu : (s.elapse dt).issueAt j = u)
    (hn : u.jaddr j b imm = n) (hle : n ≤ 4092) (hm : n % 4 = 0) (he : u.eccOf .scratch (j * 1024 + n / 4) = none) :
    exec (.ld dt j a b imm) s =
      .next (u.done j a ((u.oldWord 0xC4B (j * 65536 + n / 4)).getD (u.scratchWord (j * 1024 + n / 4))) u.clk 2) := by
  subst hu hn
  rw [exec_ld, execLd, issue_of_issues h]
  simp only [scratchOk, hle, hm, decide_true, Bool.and_self, if_true, State.seqBad, State.seqEcc, he, reduceCtorEq, decide_false,
    Bool.false_eq_true, if_false, setReg_retire]

theorem st_exec {a b : Reg} {imm : Imm18} (h : (s.elapse dt).issues j (.st a b imm)) (hu : (s.elapse dt).issueAt j = u)
    (hn : u.jaddr j b imm = n) (hle : n ≤ 4092) (hm : n % 4 = 0) :
    exec (.st dt j a b imm) s = .next ((u.putScratch (j * 1024 + n / 4) (u.greg j a)).retire j u.clk 1) := by
  subst hu hn
  rw [exec_st, execSt, issue_of_issues h]
  simp only [scratchOk, hle, hm, decide_true, Bool.and_self, if_true]

/-- The value that RDREG reads, with its cost counted from the issue one cycle before (R171). -/
theorem rdreg_exec {a b : Reg} {imm : Imm18} (h : (s.elapse dt).issues j (.rdreg a b imm)) (hu : (s.elapse dt).issueAt j = u)
    (hn : u.jaddr j b imm = n) (hle : n ≤ 0xFFFF) :
    exec (.rdreg dt j a b imm) s =
      .next (((u.readReg (.jet j) false n).2.setReg j a (u.readReg (.jet j) false n).1).retire j u.issuedAt 3) := by
  subst hu hn
  rw [exec_rdreg, execRdreg, issue_of_issues h]
  simp only [if_neg (Nat.not_le.mpr (Nat.lt_succ_of_le hle)), (sameCycle_readReg _ _ _ _).issuedAt]

theorem wrreg_exec {a b : Reg} {imm : Imm18} (h : (s.elapse dt).issues j (.wrreg a b imm)) (hu : (s.elapse dt).issueAt j = u)
    (hn : u.jaddr j b imm = n) (hle : n ≤ 0xFFFF) : exec (.wrreg dt j a b imm) s = .next (u.jetPut j n (u.greg j a)) := by
  subst hu hn
  rw [exec_wrreg, execWrreg, issue_of_issues h]
  simp only [if_neg (Nat.not_le.mpr (Nat.lt_succ_of_le hle))]

theorem lim_exec {d a : Reg} {ch : BitVec 6} {rsel : Bool} (h : (s.elapse dt).issues j (.lim d a ch rsel))
    (hu : (s.elapse dt).issueAt j = u) (hn : u.rselect j rsel ch a = n) (hle : n ≤ 35) :
    exec (.lim dt j d a ch rsel) s = .next (u.jetPut j (0x860 + n) (u.greg j d)) := by
  subst hu hn
  rw [exec_lim, execLim, issue_of_issues h]
  simp only [if_neg (Nat.not_le.mpr (Nat.lt_succ_of_le hle))]

/-- A refused write is judged, and resets nothing. -/
theorem writeReg_of_refuses {rq : Requester} {a : Nat} {v : Word} (h : u.refuses rq a v = true) :
    (u.writeReg rq a v).1 = .denied ∧ (u.writeReg rq a v).2.resets = u.resets := by
  cases hc : u.pwr.commit with
  | none => rw [writeReg_refused h hc]; exact ⟨rfl, rfl⟩
  | some c => rw [writeReg_held hc, h]; exact ⟨rfl, rfl⟩

/-- A jet's write that is refused faults with cause DENIED. -/
theorem jetPut_refused {a : Nat} {v : Word} (h : u.refuses (.jet j) a v = true) :
    u.jetPut j a v = (u.writeReg (.jet j) a v).2.faultJet j 6 := by
  obtain ⟨hst, hres⟩ := writeReg_of_refuses h
  unfold State.jetPut
  simp only [hst, hres, ne_eq, not_true_eq_false, if_false]

/-- A jet's write that is accepted, and after which the jet still runs, retires. -/
theorem jetPut_accepted {t : State} {a : Nat} {v : Word} (h : u.writeReg (.jet j) a v = (.ok, t)) (hres : t.resets = u.resets)
    (hrun : (t.jet j).st = .running) : u.jetPut j a v = t.retire j u.issuedAt 1 := by
  unfold State.jetPut
  simp only [h, hres, hrun, ne_eq, not_true_eq_false, if_false]

end Jets

/-- Settles O9: each instruction runs at its issue; a scratch write is read back by the law of sparse tables, and a register read stays in
the core cycle from which its cost is counted. -/
theorem loadsAndStores : Obligations.LoadsAndStores := by
  refine ⟨fun s dt j a b imm => ?scratch, fun s dt j d a b imm ch rsel => ?registers⟩
  case scratch =>
    intro e u n i hle hm
    exact ⟨fun h he => ld_exec h rfl rfl hle hm he, fun h => st_exec h rfl rfl hle hm, fun w k hw => scratchWord_putScratch hw i k w⟩
  case registers =>
    intro e u n c q
    refine ⟨fun h hle => rdreg_exec h rfl rfl hle, ?refused, ?accepted, ?limit⟩
    case refused =>
      exact fun h hle hr => (wrreg_exec h rfl rfl hle).trans (congrArg _ (jetPut_refused hr))
    case accepted =>
      exact fun t h hle hw hres hrun => (wrreg_exec h rfl rfl hle).trans (congrArg _ (jetPut_accepted hw hres hrun))
    case limit =>
      exact fun t h hle hw hres hrun => (lim_exec h rfl rfl hle).trans (congrArg _ (jetPut_accepted hw hres hrun))

/-! ## What every reset leaves -/

@[simp] theorem resetWith_aon (s : State) (test : Bool) (a : Aon) (step : Nat) : (s.resetWith test a step).aon = a := rfl
@[simp] theorem resetWith_factory (s : State) (test : Bool) (a : Aon) (step : Nat) : (s.resetWith test a step).pwr.factory = test := rfl

/-- Every reset records the cause that its always-on registers carry and starts at its step (R15, R41). -/
theorem freshFrom_resetWith (s : State) (test : Bool) (a : Aon) (step : Nat) :
    s.freshFrom (s.resetWith test a step) a.resetCause step :=
  ⟨rfl, rfl, rfl, rfl, rfl, rfl, rfl, rfl, rfl, rfl, rfl, rfl, rfl, rfl, rfl, rfl, rfl, rfl, rfl, rfl, rfl, rfl, rfl⟩

/-- The divider of a new LPO is no part of what a reset leaves. -/
theorem freshFrom_lpoStart {s t : State} {cause step : Nat} (h : s.freshFrom t cause step) : s.freshFrom t.lpoStart cause step := h

/-- The record of a dip that ends in a reset leaves the clock, MRAM and the commands that wait. -/
theorem freshFrom_of_dipEndsInReset {s t : State} {cause step : Nat} (h : s.dipEndsInReset.freshFrom t cause step) :
    s.freshFrom t cause step := by
  unfold State.dipEndsInReset at h
  split at h <;> exact h

/-- A dip that is open when the supply falls ends in the reset's record (R37); its other always-on registers stay. -/
theorem dipEndsInReset_aon (s : State) :
    s.dipEndsInReset.aon.dipReset = (s.aon.dipOpen || s.aon.dipReset) ∧ s.dipEndsInReset.aon.chainAddr = s.aon.chainAddr ∧
      s.dipEndsInReset.aon.appliedEpoch = s.aon.appliedEpoch := by
  unfold State.dipEndsInReset
  cases h : s.aon.dipOpen <;> simp [State.free, h]

/-! ## The resets of Table 2.4 -/

section Resets
variable {s : State} {dt : Nat} {test : Bool}

/-- A command that answers `resetWith` completes with what that reset leaves. -/
theorem completes_resetWith {c : Instr} {e : State} {a b : Aon} {cause step : Nat}
    (h : exec c s = .next (e.resetWith test a step)) (hc : a.resetCause = cause) (ha : a = b) :
    Completes c s (fun t => e.freshFrom t cause step ∧ t.pwr.factory = test ∧ t.aon = b) :=
  ⟨_, h, hc ▸ freshFrom_resetWith e test a step, rfl, ha⟩

theorem powerOnReset_completes (s : State) (dt : Nat) (test : Bool) :
    Completes (.powerOnReset dt test) s (fun t => (s.elapse dt).freshFrom t 1 1 ∧ t.pwr.factory = test ∧ t.aon = Aon.init) :=
  ⟨_, rfl, freshFrom_lpoStart (freshFrom_resetWith _ test Aon.init 1), rfl, rfl⟩

/-- The fall of VSTK: TEST is sampled later, the LOCKOUT latch is cleared. -/
theorem supplyFall_completes (s : State) (dt : Nat) (test : Bool) :
    Completes (.supplyReset dt 1 test) s (fun t =>
      (s.elapse dt).freshFrom t 2 0 ∧ t.pwr.factory = false ∧ t.aon.supplySrc = 1 ∧ t.aon.lockout = false ∧
        t.aon.chainAddr = (s.elapse dt).aon.chainAddr ∧ t.aon.appliedEpoch = (s.elapse dt).aon.appliedEpoch ∧
          t.aon.dipReset = ((s.elapse dt).aon.dipOpen || (s.elapse dt).aon.dipReset)) := by
  obtain ⟨hdip, haddr, hepoch⟩ := dipEndsInReset_aon (s.elapse dt)
  refine ⟨_, rfl, freshFrom_of_dipEndsInReset (freshFrom_resetWith ..), rfl, rfl, rfl, ?_, ?_, ?_⟩
  · exact haddr
  · exact hepoch
  · exact hdip

theorem railReset_exec {src at_ : Nat} (h2 : 2 ≤ src) (h4 : src ≤ 4) (ht : (s.elapse dt).pwr.railTrip = some (src, at_)) :
    exec (.supplyReset dt src test) s =
      .next (((s.elapse dt).until_ (at_ + railDelay src)).resetWith test { (s.elapse dt).aon.keep 2 with supplySrc := src } 1) := by
  have h1 : src ≠ 1 := by omega
  simp only [exec_supplyReset, execSupplyReset, if_neg h1, if_pos (And.intro h2 h4), ht, if_true]
  rfl

theorem pllReset_exec (hr : 8 ≤ (s.elapse dt).pwr.retries) (hl : (s.elapse dt).pwr.pllLock = false) :
    exec (.supplyReset dt 5 test) s = .next ((s.elapse dt).resetWith test { (s.elapse dt).aon.keep 2 with supplySrc := 5 } 1) := by
  simp [execSupplyReset, hr, hl]

theorem commandReset_exec {rq : Requester} (ho : (s.elapse dt).pwr.lockOwner.isSome = true) (hc : (s.elapse dt).pwr.commit = none)
    (hm : (s.elapse dt).pwr.mode ≠ .lockout ∨ rq = .steward) :
    exec (.commandReset dt rq test) s = .next ((s.elapse dt).resetWith test ((s.elapse dt).aon.keep 3) 1) := by
  simp [execCommandReset, ho, hc, hm]

/-- A wake from SHIP drops the chain address, one from STILL keeps it and is noted for step 9 (R41). -/
theorem wakeReset_exec {cause : Nat} (hw : (s.elapse dt).pwr.wakeDue = some cause)
    (hm : (s.elapse dt).pwr.mode = .ship ∨ (s.elapse dt).pwr.mode = .still) :
    exec (.wakeReset dt cause test) s = .next ((s.elapse dt).resetWith test
      { (s.elapse dt).aon.keep 4 with
        wakeCause := cause, fromStill := !decide ((s.elapse dt).pwr.mode = .ship)
        chainAddr := if decide ((s.elapse dt).pwr.mode = .ship) then none else (s.elapse dt).aon.chainAddr } 1) := by
  simp only [exec_wakeReset, execWakeReset, if_pos (And.intro hw hm)]

/-! ## The factory test state -/

theorem atStep_factory {e : State} (h : e.pwr.factory = true) (n : Nat) : e.atStep n = false := by simp [State.atStep, h]

/-- In the factory test state start-up goes no further (R442). -/
theorem factory_startUp_stands (h : (s.elapse dt).pwr.factory = true) :
    (∀ a b, exec (.loaderStart dt a b) s = .next (s.elapse dt)) ∧ (∀ ok, exec (.imageCopyDone dt ok) s = .next (s.elapse dt)) ∧
      exec (.configLoad dt) s = .next (s.elapse dt) ∧ exec (.portEnable dt) s = .next (s.elapse dt) ∧
      exec (.startModeEntry dt) s = .next (s.elapse dt) := by
  have k := atStep_factory h
  refine ⟨fun a b => ?_, fun ok => ?_, ?_, ?_, ?_⟩
  · simp [execLoaderStart, k]
  · simp [execImageCopyDone, k]
  · simp [execConfigLoad, k]
  · simp [execPortEnable, k]
  · simp [execStartModeEntry, k]

/-- Before start-up step 5 neither the chain nor the service port is served. -/
theorem serves_early {e : State} (hm : e.pwr.mode = .reset) (hs : e.pwr.step ≤ 1) (hk : e.pwr.stuck = false) :
    e.serves .chain = false ∧ e.serves .service = false := by
  have h5 : ¬5 ≤ e.pwr.step := by omega
  have h8 : ¬8 ≤ e.pwr.step := by omega
  constructor <;> simp [State.serves, State.svcOn, hm, hk, h5, h8]

end Resets

/-- Settles O16: each reset is `resetWith` with its own always-on registers; in the factory test state no step is next. -/
theorem resets : Obligations.Resets := by
  refine ⟨fun s dt test => ⟨powerOnReset_completes s dt test, supplyFall_completes s dt test, ?rail, ?pll, ?command, ?ship, ?still⟩, ?factory⟩
  case rail => exact fun src at_ h2 h4 ht => completes_resetWith (railReset_exec h2 h4 ht) rfl rfl
  case pll => exact fun hr hl => completes_resetWith (pllReset_exec hr hl) rfl rfl
  case command => exact fun rq ho hc hm => completes_resetWith (commandReset_exec ho hc hm) rfl rfl
  case ship =>
    exact fun cause hw hm => completes_resetWith (wakeReset_exec hw (.inl hm)) rfl (by simp [hm, Aon.keep])
  case still =>
    exact fun cause hw hm => completes_resetWith (wakeReset_exec hw (.inr hm)) rfl (by simp [hm, Aon.keep])
  case factory =>
    intro s dt e hm hf hs
    obtain ⟨hloader, himage, hconfig, hport, hentry⟩ := factory_startUp_stands hf
    exact ⟨hloader, himage, hconfig, hport, hentry, fun hk => serves_early hm hs hk⟩

/-! ## Right after a power-on reset (R3, R15, R41) -/

/-- What reads right after a power-on reset give, as the Reset columns of chapter 19 have it. -/
theorem reset_reads : ∀ x ∈ [(0x100, 0x0), (0x105, 0x240), (0x108, 0x1), (0xA00, 0x100), (0xC40, 0x0), (0xC41, 0x0), (0x1402, 0x0),
    (0x1403, 0x8000000), (0x1404, 0x0), (0x1602, 0x0), (0x1606, 0x0), (0x160B, 0x0), (0x1847, 0x0)],
    (State.reset.readReg .chain false x.1).1 = BitVec.ofNat 32 x.2 := by decide +kernel

theorem vget_replicate {α : Type} (n : Nat) (d : α) (i : Nat) : vget (Vector.replicate n d) d i = d := by
  unfold vget; split <;> simp

theorem reset_strm (m : Nat) : State.reset.strm m = Strm.init := vget_replicate ..
theorem reset_jet (j : Nat) : State.reset.jet j = Jet.init := vget_replicate ..
theorem reset_chkOf (n : Nat) : State.reset.chkOf n = Chk.init := vget_replicate ..
theorem reset_free : State.reset.bsn.free = List.range 256 := by simp only [State.reset, Bsn.init]

/-- Settles O2: the fields of `State.reset` are those of its blocks' reset values, and the reads are evaluated. -/
theorem resetValues : Obligations.ResetValues := by
  unfold Obligations.ResetValues
  intro s
  refine ⟨rfl, rfl, rfl, rfl, rfl, rfl, rfl, rfl, rfl, ?free, ?streams, ?jets, rfl, rfl, ?channels, rfl, rfl, rfl, rfl, rfl, rfl, rfl, rfl,
    rfl, rfl, reset_reads⟩
  case free => exact reset_free
  case streams => exact fun m _ => reset_strm m
  case jets => exact fun j _ => reset_jet j
  case channels => exact fun n _ => by rw [reset_chkOf n]; exact ⟨rfl, rfl⟩

/-! ## Local mode requests (R51, R52, R54) -/

theorem Mode.ofNum_num (m : Mode) : Mode.ofNum m.num = some m := by cases m <;> rfl

theorem fld_put_modeNum (m : Mode) : Sys2Proof.fld (put m.num 0 4) 0 4 = m.num := by cases m <;> decide

/-- PWR_MODE_REQ stores nothing: its write is noted in its cycle, and its effect is to come. -/
theorem wrote_modeReq (s : State) (rq : Requester) (v : Word) : s.wrote rq 0x101 v = (s.disarm rq).noteWrite rq 0x101 := by
  have hbits : (regRow 0x101).rw + (regRow 0x101).rwl = 0 ∧ (regRow 0x101).rwo = 0 := by decide
  have hprot : protectedReg 0x101 = false := by decide
  have hstore : ∀ u : State, u.storeReg 0x101 v = u := by
    intro u
    have hp : taken (BitVec.ofNat 32 0) (u.covered 0x101) (u.eff 0x101) v = 0 := BitVec.zero_and
    unfold State.storeReg
    simp only [hbits, hp, if_true]
  have hown : ∀ u : State, u.ownerActs rq 0x101 = u := by intro u; simp [State.ownerActs, hprot]
  unfold State.wrote State.stored
  rw [if_pos (by decide), hown, hstore]
  rfl

/-- A request keeps the sources and their classes. -/
theorem maxClass_of_onlyIn {s t : State} (h : OnlyIn [.cyc, .pwr] s t) : t.maxClass = s.maxClass := by
  have hf : t.flt = s.flt := h .flt (by simp)
  have hc : ∀ i, t.eclass i = s.eclass i := by
    intro i
    unfold State.eclass State.baseClass State.fld State.fsrc
    rw [eff_of_onlyIn h (by simp) (by simp), hf]
  unfold State.maxClass
  simp only [hf, hc]

/-- The write of PWR_MODE_REQ, as its request finds it: mode control stands as before. -/
theorem wrote_modeReq_pwr (s : State) (rq : Requester) (v : Word) :
    (s.wrote rq 0x101 v).pwr = (s.disarm rq).pwr ∧ OnlyIn [.cyc, .pwr] s (s.wrote rq 0x101 v) := by
  rw [wrote_modeReq]
  have hn := onlyIn_noteWrite (s.disarm rq) rq 0x101
  exact ⟨hn .pwr (by simp), ((onlyIn_disarm s rq).mono (by simp)).trans (hn.mono (by simp))⟩

/-- A request whose write is accepted is judged in the state that the write leaves. -/
theorem localModeRequest_exec {s : State} {dt : Nat} {rq : Requester} {m : Mode} (h : (s.elapse dt).accepts rq 0x101 (put m.num 0 4)) :
    exec (.localModeRequest dt rq m.num) s =
      .next ((((s.elapse dt).wrote rq 0x101 (put m.num 0 4)).localRequest m.num).answers .ok []) := by
  rw [exec_localModeRequest, execLocalModeRequest, put_effect h (by decide) (by decide) (by decide), effect_wrote h, if_pos (by decide)]
  show Host.Outcome.next ((State.localRequest _ (Sys2Proof.fld (put m.num 0 4) 0 4)).answers .ok []) = _
  rw [fld_put_modeNum]

/-- A request that nothing refuses begins its overlay commit. -/
theorem localRequest_begins {u : State} {m : Mode} (hp : u.pwr.prepared = none) (hr : routeOk u.pwr.mode.num m.num = true)
    (hs : u.safeHeld m.num = false) (hn : u.pwr.nextReact = none) :
    u.localRequest m.num = (u.reqStatus 1).beginCommit m .request := by
  simp [State.localRequest, hp, hr, hs, Mode.ofNum_num, hn]

/-- The commit of an accepted request begins in the core cycle of its write, not in the next. -/
theorem localModeRequest_starts_now {s : State} {dt : Nat} {rq : Requester} {m : Mode}
    (h : (s.elapse dt).accepts rq 0x101 (put m.num 0 4)) (hp : (s.elapse dt).pwr.prepared = none)
    (hr : routeOk (s.elapse dt).pwr.mode.num m.num = true) (hs : (s.elapse dt).safeHeld m.num = false)
    (hn : (s.elapse dt).pwr.nextReact = none) :
    ∃ t, exec (.localModeRequest dt rq m.num) s = .next t ∧ t.pwr.commit.map (·.start) = some (s.elapse dt).clk := by
  obtain ⟨hpwr, honly⟩ := wrote_modeReq_pwr (s.elapse dt) rq (put m.num 0 4)
  have htime : ((s.elapse dt).wrote rq 0x101 (put m.num 0 4)).time = (s.elapse dt).time := honly .time (by simp)
  refine ⟨_, localModeRequest_exec h, ?_⟩
  rw [localRequest_begins]
  · show some ((s.elapse dt).wrote rq 0x101 (put m.num 0 4)).time.clk = _
    rw [htime]
  · rw [hpwr]; exact hp
  · rw [hpwr]; exact hr
  · unfold State.safeHeld
    rw [hpwr, maxClass_of_onlyIn honly]
    exact hs
  · rw [hpwr]; exact hn

/-- A device in MEASURE at clock 0 that has started up, its core on the PLL. -/
def measuringDevice : State :=
  { State.reset with pwr := { Pwr.init with mode := .measure, step := 9, pllLock := true, refOk := true, coreSrc := .pll } }

/-- Refutes O22: the overlay commit of an accepted request begins in the core cycle of the write itself. On a device in MEASURE at clock 0
a request of BALANCE by the chain begins its commit at clock 0, and the next core cycle is at clock 1. -/
theorem not_localModeChanges : ¬ Obligations.LocalModeChanges := by
  intro h
  obtain ⟨hrequest, _⟩ := h
  obtain ⟨_, _, _, haccepted⟩ := hrequest measuringDevice 0 .chain .balance (by decide)
  obtain ⟨t, ht, _, hcommit, _⟩ := haccepted rfl (by decide) (by decide) rfl
  obtain ⟨t', ht', hstart⟩ := localModeRequest_starts_now (s := measuringDevice) (dt := 0) (rq := .chain) (m := .balance) (by decide) rfl
    (by decide) (by decide) rfl
  obtain rfl : t = t' := by rw [ht'] at ht; injection ht with e; exact e.symm
  rw [hcommit] at hstart
  exact absurd hstart (by decide)

end Sys2Proof.Machine
end

/-! SUPPORT. Proofs of the statements of chapter 01: every command completes, what a port receives and sends, and the theorems that settle O1 and
O47. -/

section
namespace Sys2Proof.Machine

/-! ## Every command completes -/

/-- A branch of a decision, where both sides answer a next state. -/
theorem ite_next {p : Prop} [Decidable p] {a b : Out} (ha : ∃ t, a = .next t) (hb : ∃ t, b = .next t) :
    ∃ t, (if p then a else b) = .next t := by
  split
  · exact ha
  · exact hb

/-- The means of a point are a `let` that its meaning matches on; that, and no value of it, decides. -/
theorem calPointDone_next (s : State) (dt : Nat) (mean : Int) : ∃ t, execCalPointDone dt mean s = .next t := by
  unfold execCalPointDone
  extract_lets u
  split
  · extract_lets means
    clear_value means
    repeat' (first | extract_lets | split)
    all_goals exact ⟨_, rfl⟩
  · exact ⟨_, rfl⟩

theorem broadcastWindowEnd_next (s : State) (dt tag : Nat) : ∃ t, execBroadcastWindowEnd dt tag s = .next t := by
  unfold execBroadcastWindowEnd
  extract_lets u
  split
  · extract_lets v run w
    clear_value run
    repeat' split
    all_goals exact ⟨_, rfl⟩
  · repeat' (first | extract_lets | split)
    all_goals exact ⟨_, rfl⟩

theorem backgroundSlice_next (s : State) (dt : Nat) : ∃ t, execBackgroundSlice dt s = .next t := by
  unfold execBackgroundSlice
  extract_lets u v bst w again
  clear_value again
  repeat' (first | extract_lets | split)
  all_goals exact ⟨_, rfl⟩

theorem autoSearch_next (s : State) (dt : Nat) : ∃ t, execAutoSearch dt s = .next t := by
  unfold execAutoSearch
  extract_lets u go
  have hgo : ∀ v, ∃ t, go v = .next t := by
    intro v
    unfold go
    split
    all_goals exact ⟨_, rfl⟩
  clear_value go
  split
  · exact hgo _
  · split
    · extract_lets v
      exact ite_next (hgo _) (ite_next ⟨_, rfl⟩ ⟨_, rfl⟩)
    · exact ⟨_, rfl⟩

/-- Every row of the table answers a next state. Rows that pass through an operation of Laws/Total.lean answer as it does. -/
theorem exec_next (c : Instr) (s : State) : ∃ t, exec c s = .next t := by
  cases c
  all_goals dsimp only [exec]
  case add | sub | andOp | orOp | xorOp | shl | shr | sar | mul | minOp | maxOp | addi | lui | beq | bne | blt | bge | loop | jmp | callOp |
      retOp | ld | st | rdreg | wrreg | conv | syncv | getr | strm | lim | bal | balq | exc | corr | waitOp | waitt | waittRd | waittRdh | waite
      | sig | yield | halt =>
    exact issue_next ..
  case registerWrite | localModeRequest | lockClose | configSave | configDiscard | ovlEntryWrite | ncellsWrite | owStart | calRunStart | snapshot
      | pageAck | pageCloseRequest | programWindowWrite | programLoad | hostTrigger | opSuspend | opResume | opCancel | xfetWrite | spectrumStart
      | wakeToneSend | counterClear | enumStart | heal | rilSearch | directTransaction | clearAll | sensorRestore | campaign | repair |
      bstCounterClear | bind | unbind | customerWrite =>
    exact put_next ..
  case streamCfgWrite | streamReset | flagSetWrite | flagClearWrite | jetStart | jetStop | jetKill | stickyClear | secondaryClear =>
    exact putAt_next ..
  case balLevelWrite | balQuotaWrite => exact ite_next ⟨_, rfl⟩ (putAt_next ..)
  case groupCfgWrite => exact ite_next (putAt_next ..) ⟨_, rfl⟩
  case chkStart | chkData | chkByte | chkFeed | chkFinish | chkAbort =>
    exact chkPut_next ..
  case modePrepare | modeCommit | cmdFrame | peerFrame | regFrame | regRspFrame | cmdRspFrame | bsnRdFrame | bsnHitFrame | bsnMissFrame |
      syncFrame | notifyFrame | svcRspFrame | netClear | netAssign | netDiscover | netReverse | netNormal | netAssigned | netPresent |
      netReversed | netLinkDown | netHealed | modeAckFrame =>
    refine arrive_next _ _ _ _ _ ?_
    exact fun _ => ⟨_, rfl⟩
  case svcFrame => exact arrive_next _ _ _ _ _ (fun _ => takeSvc_next ..)
  case frameForward => exact ite_next ⟨_, rfl⟩ (arrive_next _ _ _ _ _ (fun _ => ⟨_, rfl⟩))
  case lnkToken => exact ite_next ⟨_, rfl⟩ (ite_next ⟨_, rfl⟩ (ite_next ⟨_, rfl⟩ (answerLnk_next ..)))
  case transmitStart => exact transmitStart_next ..
  case hostNop =>
    refine hostDo_next _ _ _ ?_
    exact fun _ => ⟨_, rfl⟩
  case regRd | regWr =>
    refine hostDo_next _ _ _ ?_
    exact fun _ => ite_next ⟨_, rfl⟩ ⟨_, rfl⟩
  case txqPut =>
    refine hostDo_next _ _ _ ?_
    exact fun _ => ite_next ⟨_, rfl⟩ (hostFrame_next ..)
  case rxqGet =>
    refine hostDo_next _ _ _ ?_
    exact fun _ => ite_next ⟨_, rfl⟩ (by split <;> exact ⟨_, rfl⟩)
  case calPointDone => exact calPointDone_next ..
  case broadcastWindowEnd => exact broadcastWindowEnd_next ..
  case backgroundSlice => exact backgroundSlice_next ..
  case autoSearch => exact autoSearch_next ..
  -- What such a row makes of the state is written out in its arm.
  case powerOnReset | vchnUndervoltage | lpoShipStart | lpoShipStop | lockOpen | resultRead | netTblRead | netRingRead | illegalInstruction |
      trigCmd | jstartCmd | jstopCmd | jkillCmd | flagsCmd | opCmd | loadCmd | aliveKey | svcOpen | svcWrite | svcStatus | svcVerify |
      svcActivate | svcClose | svcConfirm | svcRestart | svcRead | svcKeyslot | vstkResetRising | stackLimitReturn | vchnRestored | lpoRecovery |
      serviceFrameGap =>
    exact ⟨_, rfl⟩
  -- A row that decides: each branch of its meaning ends in a next state.
  all_goals
    delta execSupplyReset execCommandReset execWakeReset execLoaderStart execImageCopyDone execConfigLoad execPortEnable execStartModeEntry
      execAutoload execSupplyDipStart execSupplyDipEnd execRailSupervisorTrip execVregFault execStackOv execPllUnlock execPllRelockRetry
      execClockMonitor execLpoFault execOverlayCommit execStillScan execWakeTimerExpiry execWatchBurstStart execWatchBurstEnd execBuckBurstEnable
      execSupervisorUnmask execWakePin execWakeToneDetected execLockTimeout execConfigSaveDone execChainCommitTime execOwPeriodExpiry
      execOwPhaseStart execOwBaselineStart execOwSinksOn execOwCheckStart execOwEvaluate execOwPhaseEnd execDecimatedSample
      execRotationVisitStart execSpareCalDone execMatchWindowEnd execHandover execModulatorCalDone execHandBack execXmodInPlaceCal
      execCoeffHourlyCopy execCalTrimDone execCalRunCommit execWindowAutoincAccess execPageAgeClose execConvWaitEnd execGetrNWake
      execStrmDecision execWaitEnd execWaittDeadline execWaiteWake execWaiteTimeout execLoadStopTimeout execProgramLoadDone execJetStopTake
      execJetWatchdogExpiry execSyncTickTrigger execSyncPinEdge execIntervalTimerFire execArbiterGrant execOpSuspended execOpCancelled
      execSluiceFrameStart execSlotStart execBalOvercurrent execBalCurrentCheck execBalStuckOn execBalGateCheck execSpectrumRunBegin
      execCurrentTrimDone execPassExcite execExcitationEdge execWindowOpen execWindowClose execPassEnd execPublish execCurrentPhasorSend
      execCurrentTimeout execSpectrumHeldTimeout execF1TrackDone execF1TrackTimeout execTrainingLnk execKeepalive execLinkTimeout execWakeToneEnd
      execWakeToneRelay execEnumAssignTimeout execLinkDownSend execTagTimeout execSyncSend execHopDelayLnk execSyncLossExpiry execRingLossExpiry
      execReverseCollectClose execChkFeedDone execChkIdleRelease execRlvOn execQueryDone execRilEcho execPollRound execPollRead execReplyTimeout
      execRlvCurrentLimit execRlvRetry execBusStuck execShadowEnd execStewardWatchdog execStewardStart execFlowToggle execFlowDrop
      execLedgerWrite execSensorStep execGraceExpiry execThermalShutdown execSliceEnd execSliceBudgetExpiry execSliceCut execConfirmSlice
      execRepairMapStore execMramRowRepair execMramPageWrite execScrubStart execScrubPage execBindingWriteDone execActivation execSessionTimeout
      execImageConfirm execConfirmWindowExpiry execSupplyDipRecovery execVregRecovery execReferenceOscillatorRecovery execReceiveCheckFailure
      execRillReply execFaultWindowExpiry
    repeat' (first | extract_lets | split)
    all_goals exact ⟨_, rfl⟩

/-- Settles O1: `step` read off its definition, and `exec_next`. -/
theorem stepRunsFrontCommand : Obligations.StepRunsFrontCommand := by
  refine ⟨fun s c rest h => ?_, fun s h => ?_, exec_next⟩
  · unfold step; rw [h]
  · unfold step; rw [h]

/-! ## What a presentation does to the ports: frames are given to them, and nothing more (R362) -/

/-- A port without what a frame given to it changes: its buffers, its drops and BEST on the pair (R280, R292). -/
def Port.unsent (q : Port) : Port := { q with buf := [], came := [], drops := 0, wire := none }

/-- From `s` to `t` the ports have been given frames at most. -/
def SendsOnly (s t : State) : Prop := ∀ p, (t.port p).unsent = (s.port p).unsent

namespace SendsOnly

theorem of_ecp {s t : State} (h : t.ecp = s.ecp) : SendsOnly s t := by
  intro p
  unfold State.port
  rw [h]

theorem refl (s : State) : SendsOnly s s := fun _ => rfl

theorem trans {a b c : State} (h : SendsOnly a b) (k : SendsOnly b c) : SendsOnly a c := fun p => (k p).trans (h p)

theorem ite {s a b : State} {p : Prop} [Decidable p] (ha : SendsOnly s a) (hb : SendsOnly s b) : SendsOnly s (if p then a else b) := by
  split
  · exact ha
  · exact hb

theorem rxexp {s t : State} (h : SendsOnly s t) (p : PortId) : (t.port p).rxexp = (s.port p).rxexp :=
  show (t.port p).unsent.rxexp = (s.port p).unsent.rxexp from congrArg Port.rxexp (h p)

end SendsOnly

theorem ecp_foldl {α : Type} {f : State → α → State} (h : ∀ u x, (f u x).ecp = u.ecp) (l : List α) (s : State) : (l.foldl f s).ecp = s.ecp :=
  List.foldlRecOn l f (motive := fun t => t.ecp = s.ecp) rfl (fun u hu x _ => (h u x).trans hu)

theorem sendsOnly_foldl {α : Type} {f : State → α → State} (h : ∀ u x, SendsOnly u (f u x)) (l : List α) (s : State) :
    SendsOnly s (l.foldl f s) :=
  List.foldlRecOn l f (motive := fun t => SendsOnly s t) (.refl s) (fun u hu x _ => hu.trans (h u x))

/-! ### The ports -/

@[simp] theorem port_setPort_self (s : State) (p : PortId) (f : Port → Port) : (s.setPort p f).port p = f (s.port p) := by cases p <;> rfl

@[simp] theorem port_setPort_other (s : State) (p : PortId) (f : Port → Port) : (s.setPort p f).port p.other = s.port p.other := by
  cases p <;> rfl

theorem port_setPort_of_keeps {α : Type} (g : Port → α) {f : Port → Port} (h : ∀ q, g (f q) = g q) (s : State) (p x : PortId) :
    g ((s.setPort p f).port x) = g (s.port x) := by
  cases p <;> cases x
  · exact h s.ecp.north
  · rfl
  · rfl
  · exact h s.ecp.south

theorem waits_unsent (q : Port) (t : Nat) (parked : Bool) (c : Nat) : (q.waits t parked c).unsent = q.unsent := by
  unfold Port.waits
  split <;> rfl

theorem sendsOnly_send (s : State) (p : PortId) (f : Frame) : SendsOnly s (s.send p f) := by
  unfold State.send
  refine .ite (.ite ?_ ?_) (.refl s)
  · refine port_setPort_of_keeps Port.unsent ?_ s p
    exact fun q => waits_unsent q s.clk s.thm.parked f.cls
  · refine port_setPort_of_keeps Port.unsent ?_ s p
    exact fun _ => rfl

theorem sendsOnly_sendInbound (s : State) (kind : Nat) (f : Frame) : SendsOnly s (s.sendInbound kind f) :=
  .ite (.ite (.of_ecp rfl) (.of_ecp rfl)) (sendsOnly_send s _ f)

/-! ### Records, flags and presentations -/

theorem ecp_record (s : State) (kind : RecKind) (i : Nat) (sec : Bool) : (s.record kind i sec).ecp = s.ecp := by
  unfold State.record
  split <;> rfl

theorem ecp_wakes (s : State) (js : List Nat) : (s.wakes js).ecp = s.ecp := by
  refine ecp_foldl ?_ js s
  exact fun _ _ => rfl

theorem ecp_setFlag (s : State) (k : Nat) : (s.setFlag k).ecp = s.ecp := by
  have hraise : (s.raiseFlag k).ecp = s.ecp := by
    unfold State.raiseFlag
    extract_lets free taker u
    have hu : u.ecp = s.ecp := ecp_wakes s _
    cases taker
    · exact hu
    · exact (ecp_wakes u _).trans hu
  unfold State.setFlag
  split
  · rfl
  · exact hraise

theorem ecp_unclear (s : State) (i : Nat) : (s.unclear i).ecp = s.ecp := by
  unfold State.unclear
  split <;> rfl

theorem sendsOnly_notify (s : State) (i : Nat) (sec : Bool) : SendsOnly s (s.notify i sec) := .ite (sendsOnly_sendInbound s 4 _) (.refl s)

/-- An occasion that is recorded and notified. -/
theorem sendsOnly_announced (s : State) (kind : RecKind) (i : Nat) (sec : Bool) : SendsOnly s ((s.record kind i sec).notify i sec) :=
  (SendsOnly.of_ecp (ecp_record s kind i sec)).trans (sendsOnly_notify _ i sec)

theorem sendsOnly_secondary (s : State) (i id : Nat) : SendsOnly s (s.secondary i id) := by
  unfold State.secondary
  extract_lets u f v
  have hv : SendsOnly s v := .of_ecp rfl
  exact .ite hv (hv.trans (sendsOnly_announced v .secondary i true))

theorem sendsOnly_primary (s : State) (i : Nat) : SendsOnly s (s.primary i) := by
  unfold State.primary
  extract_lets u1 f n f1 f2 fresh f3 u2 u3 u4 src5 u5 src6 u6 src7
  have h2 : SendsOnly s u2 := .of_ecp (ecp_unclear s i)
  have h3 : SendsOnly s u3 := .ite (h2.trans (sendsOnly_announced u2 .first i false)) h2
  have h4 : SendsOnly s u4 := .ite (h3.trans (.of_ecp (ecp_setFlag u3 _))) h3
  have h5 : SendsOnly s u5 := h4.trans (.of_ecp rfl)
  have h6 : SendsOnly s u6 := h5.trans (.of_ecp rfl)
  have escalates : ∀ g : FltSrc, SendsOnly s (((u6.setFsrc i g).record .escalated i false).notify i false) := fun g =>
    (h6.trans (.of_ecp rfl)).trans (sendsOnly_announced (u6.setFsrc i g) .escalated i false)
  exact .ite (.ite (escalates _) (.ite (escalates _) h6)) h5

/-! ### Reactions -/

theorem ecp_setBal (s : State) (n : Nat) (f : BalCell → BalCell) : (s.setBal n f).ecp = s.ecp := by
  unfold State.setBal
  split <;> rfl

theorem ecp_openAll (s : State) : s.openAll.ecp = s.ecp := by
  have hopen : (cellNos.foldl State.openOut s).ecp = s.ecp := by
    refine ecp_foldl ?_ cellNos s
    exact fun u n => ecp_setBal u n _
  unfold State.openAll
  generalize cellNos.foldl State.openOut s = u at hopen ⊢
  extract_lets v
  split <;> exact hopen

theorem ecp_dropLost (s : State) : s.dropLost.ecp = s.ecp := by
  refine ecp_foldl (fun u n => ?_) cellNos s
  split
  · exact ecp_setBal u n _
  · rfl

theorem ecp_allocate (s : State) : s.allocate.ecp = s.ecp := by
  unfold State.allocate
  extract_lets c l internal d pDie pBoard
  split
  extract_lets e u slu
  have hu : u.ecp = s.ecp := by
    refine ecp_foldl ?_ cellNos s
    exact fun w n => ecp_setBal w n _
  clear_value u
  exact hu

theorem ecp_recompute (s : State) : s.recompute.ecp = s.ecp := by
  unfold State.recompute
  split
  · extract_lets u v
    have hu : u.ecp = s.ecp := by
      refine ecp_foldl (fun w n => ?_) cellNos s
      split
      · rfl
      · exact ecp_setBal w n _
    refine (ecp_foldl (fun w n => ?_) cellNos v).trans ((ecp_allocate u).trans hu)
    split
    · exact ecp_setBal w n _
    · rfl
  · rfl

theorem ecp_holdAll (s : State) (t : Bool) (l : List Nat) : (s.holdAll t l).ecp = s.ecp := by
  refine ecp_foldl ?_ l s
  exact fun _ _ => rfl

theorem ecp_joinReact (s : State) (code : Nat) (l : List Nat) : (s.joinReact code l).ecp = s.ecp := by
  unfold State.joinReact
  split <;> rfl

theorem ecp_reacted (s : State) (code : Nat) (openers : List Nat) : (s.reacted code openers).ecp = s.ecp := by
  unfold State.reacted
  extract_lets src b flt u flt' v
  have hv : v.ecp = s.ecp := by
    unfold v
    split <;> rfl
  exact (ecp_record v .reaction src false).trans hv

theorem ecp_issueThrottle (s : State) (l : List Nat) : (s.issueThrottle l).ecp = s.ecp := by
  have hh := ecp_holdAll s true l
  unfold State.issueThrottle
  split
  · rfl
  split
  · exact (ecp_joinReact _ 2 l).trans hh
  · exact (ecp_reacted _ 2 l).trans ((ecp_recompute _).trans hh)

theorem ecp_issueStop (s : State) (l : List Nat) : (s.issueStop l).ecp = s.ecp := by
  have hh := ecp_holdAll s false l
  unfold State.issueStop
  split
  · rfl
  split
  · exact (ecp_joinReact _ 3 l).trans hh
  · exact (ecp_reacted _ 3 l).trans ((ecp_dropLost _).trans ((ecp_openAll _).trans hh))

theorem ecp_reactMode (s : State) (m : Mode) : (s.reactMode m).ecp = s.ecp := by
  unfold State.reactMode
  split
  · rfl
  · split <;> rfl

theorem ecp_overrule (s : State) : s.overrule.ecp = s.ecp := by
  unfold State.overrule
  extract_lets u
  split
  · split
    · split <;> rfl
    · rfl
  · rfl

theorem ecp_lockNow (s : State) : s.lockNow.ecp = s.ecp := by
  unfold State.lockNow
  extract_lets u
  split
  · exact ecp_overrule s
  · exact (ecp_reactMode u .lockout).trans (ecp_overrule s)

theorem ecp_issueMode (s : State) (safe lock : List Nat) : (s.issueMode safe lock).ecp = s.ecp := by
  unfold State.issueMode
  split
  · split
    · exact ecp_joinReact s 5 lock
    · exact (ecp_reacted _ 5 lock).trans ((ecp_lockNow _).trans (ecp_openAll _))
  split
  · split
    · exact ecp_joinReact s 4 safe
    · exact (ecp_reacted _ 4 safe).trans ((ecp_reactMode _ .safe).trans (ecp_openAll s))
  · rfl

theorem sendsOnly_collect (s : State) (l : List Nat) : SendsOnly s (s.collect l) := by
  unfold State.collect
  extract_lets srcs u prim v calls
  have hv : SendsOnly s v := by
    refine SendsOnly.trans (b := u) (.of_ecp rfl) (sendsOnly_foldl (fun w i => ?_) srcs u)
    split
    · exact sendsOnly_secondary w i _
    · exact sendsOnly_primary w i
  have hissue : (((v.issueThrottle (calls 2)).issueStop (calls 3)).issueMode (calls 4) (calls 5)).ecp = v.ecp :=
    (ecp_issueMode _ _ _).trans ((ecp_issueStop _ _).trans (ecp_issueThrottle v _))
  exact .ite (.refl s) (hv.trans (.of_ecp hissue))

/-! ### A presentation with what it brings about for a spectrum run -/

theorem ecp_releaseSpec (s : State) : s.releaseSpec.ecp = s.ecp := by
  unfold State.releaseSpec State.dropConvs
  refine Eq.trans (ecp_foldl ?_ _ _) (ecp_openAll s)
  exact fun _ _ => rfl

theorem ecp_setOp (s : State) (kind : Nat) (f : Oper → Oper) : (s.setOp kind f).ecp = s.ecp := by
  unfold State.setOp
  split <;> rfl

theorem ecp_endOp (s : State) (kind : Nat) (st : OpSt) (cause code : Nat) : (s.endOp kind st cause code).ecp = s.ecp := by
  have hreturn : ∀ u : State, (u.autoReturn kind).ecp = u.ecp := by
    intro u
    unfold State.autoReturn
    split <;> rfl
  unfold State.endOp
  split
  · rfl
  extract_lets u v
  have hu : u.ecp = s.ecp := ecp_setOp s kind _
  have hv : v.ecp = s.ecp := by
    unfold v
    split
    · exact (ecp_setFlag u _).trans hu
    · exact hu
  exact (hreturn v).trans hv

theorem ecp_rotClock (s : State) : s.rotClock.ecp = s.ecp := by
  unfold State.rotClock
  repeat' split
  all_goals rfl

theorem ecp_owEnter (s : State) : s.owEnter.ecp = s.ecp := by
  unfold State.owEnter State.owDue
  extract_lets due cfe u
  repeat' split
  all_goals rfl

theorem sendsOnly_endSpec (s : State) (st : OpSt) (cause code : Nat) : SendsOnly s (s.endSpec st cause code) := by
  unfold State.endSpec
  extract_lets u spc v
  have hv : (((v.endOp 1 st cause code).rotClock).owEnter).ecp = s.ecp :=
    (ecp_owEnter _).trans ((ecp_rotClock _).trans ((ecp_endOp v 1 st cause code).trans (ecp_releaseSpec s)))
  exact (SendsOnly.of_ecp hv).trans (sendsOnly_collect _ [157])

theorem sendsOnly_reactSpec (s : State) (wasT wasS : Bool) : SendsOnly s (s.reactSpec wasT wasS) := by
  have hopen : SendsOnly s s.openAll := .of_ecp (ecp_openAll s)
  unfold State.reactSpec
  split
  · refine .ite (sendsOnly_endSpec s .failed 4 1) (.ite (.ite ?_ (.refl s)) (.refl s))
    split <;> exact hopen
  · exact .refl s

/-- A presentation gives the ports its notifications, and nothing more. -/
theorem sendsOnly_present (s : State) (l : List Nat) : SendsOnly s (s.present l) :=
  .ite (.refl s) ((sendsOnly_collect s l).trans (sendsOnly_reactSpec _ _ _))

theorem SendsOnly.present1 {s u : State} (h : SendsOnly s u) (i : Nat) : SendsOnly s (u.present1 i) := h.trans (sendsOnly_present u [i])
/-! ## Receive checks (R280, R291 to R294) -/

/-- The expected counter of every port stands from `s` to `t` (R293). -/
def KeepsRxexp (s t : State) : Prop := ∀ p, (t.port p).rxexp = (s.port p).rxexp

namespace KeepsRxexp

theorem refl (s : State) : KeepsRxexp s s := fun _ => rfl

theorem trans {a b c : State} (h : KeepsRxexp a b) (k : KeepsRxexp b c) : KeepsRxexp a c := fun p => (k p).trans (h p)

theorem ite {s a b : State} {c : Prop} [Decidable c] (ha : KeepsRxexp s a) (hb : KeepsRxexp s b) : KeepsRxexp s (if c then a else b) := by
  split
  · exact ha
  · exact hb

theorem setPort (s : State) (p : PortId) {f : Port → Port} (h : ∀ q, (f q).rxexp = q.rxexp) : KeepsRxexp s (s.setPort p f) :=
  port_setPort_of_keeps Port.rxexp h s p

end KeepsRxexp

theorem keepsRxexp_heardEnd (s : State) (p : PortId) (info : Option Byte) : KeepsRxexp s (s.heardEnd p info) := .setPort s p fun _ => rfl

theorem keepsRxexp_dropCopy (s : State) (p : PortId) (f : Frame) (n : Nat) (busy : Bool) : KeepsRxexp s (s.dropCopy p f n busy) := by
  have habort : ∀ o own, KeepsRxexp s (s.abortCopy o f n own busy) := fun o own => .ite (.setPort s o fun _ => rfl) (.refl s)
  exact .ite (.refl s) (.ite (habort _ true) (habort _ false))

theorem keepsRxexp_crcFail (s : State) (p : PortId) (info : Option Byte) : KeepsRxexp s (s.crcFail p info) := by
  have hcount : KeepsRxexp s ((s.heardEnd p info).setPort p fun q => { q with crcErr := inc 255 q.crcErr }) :=
    (keepsRxexp_heardEnd s p info).trans (.setPort _ p fun _ => rfl)
  exact hcount.trans fun q => ((SendsOnly.refl _).present1 _).rxexp q

theorem keepsRxexp_fmtFail (s : State) (p : PortId) (info : Option Byte) : KeepsRxexp s (s.fmtFail p info) :=
  (keepsRxexp_heardEnd s p info).trans (.setPort _ p fun _ => rfl)

theorem keepsRxexp_trainFrame (s : State) (p : PortId) (info : Byte) : KeepsRxexp s (s.trainFrame p info) := by
  unfold State.trainFrame
  extract_lets n u
  have hu : KeepsRxexp s u := (keepsRxexp_heardEnd s p _).trans (.setPort _ p fun _ => rfl)
  exact .ite (hu.trans (.setPort u p fun _ => rfl)) hu

section RxCheck
variable {s : State} {p : PortId} {f : Frame} {x : Tail}

theorem rxCheck_badInfo (hi : badInfo x.info = true) :
    s.rxCheck p f x = some ((s.dropCopy p f (lineTicks f / 80) x.busy).crcFail p none) := if_pos hi

theorem rxCheck_badCheck (hi : badInfo x.info = false) (hc : x.check ≠ frameCheck f) :
    s.rxCheck p f x = some ((s.dropCopy p f (lineTicks f / 80) x.busy).crcFail p (some x.info)) := by
  unfold State.rxCheck
  rw [hi, if_neg Bool.false_ne_true, if_pos hc]

theorem rxCheck_badHeader (hi : badInfo x.info = false) (hc : x.check = frameCheck f) (hh : headerOk f = false ∨ (s.route p f).wrong = true) :
    s.rxCheck p f x = some ((s.dropCopy p f (lineTicks f / 80) x.busy).fmtFail p (some x.info)) := by
  have hbad : (!headerOk f || (s.route p f).wrong) = true := by
    rcases hh with h | h <;> simp [h]
  unfold State.rxCheck
  rw [hi, if_neg Bool.false_ne_true, if_neg (not_not_intro hc), if_pos hbad]

theorem rxCheck_good (hi : badInfo x.info = false) (hc : x.check = frameCheck f) (hh : headerOk f = true) (hw : (s.route p f).wrong = false) :
    s.rxCheck p f x = none := by
  unfold State.rxCheck
  simp [hi, hc, hh, hw]

/-- A frame that fails a check leaves every expected counter. -/
theorem keepsRxexp_rxCheck {t : State} (h : s.rxCheck p f x = some t) : KeepsRxexp s t := by
  have hdrop := keepsRxexp_dropCopy s p f (lineTicks f / 80) x.busy
  unfold State.rxCheck at h
  split at h
  · cases h; exact hdrop.trans (keepsRxexp_crcFail _ p _)
  split at h
  · cases h; exact hdrop.trans (keepsRxexp_crcFail _ p _)
  split at h
  · cases h; exact hdrop.trans (keepsRxexp_fmtFail _ p _)
  · cases h

theorem rxCheck_isSome (h : badInfo x.info = true ∨ x.check ≠ frameCheck f ∨ headerOk f = false ∨ (s.route p f).wrong = true) :
    ∃ t, s.rxCheck p f x = some t := by
  by_cases hi : badInfo x.info = true
  · exact ⟨_, rxCheck_badInfo hi⟩
  have hi' : badInfo x.info = false := by simpa using hi
  by_cases hc : x.check = frameCheck f
  · exact ⟨_, rxCheck_badHeader hi' hc (by simpa [hi', hc] using h)⟩
  · exact ⟨_, rxCheck_badCheck hi' hc⟩

theorem arrive_failed {t : State} (hst : (s.port p).st = .up) (h : s.rxCheck p f x = some t) (take : State → Out) :
    s.arrive p f x take = .next t := by
  unfold State.arrive
  rw [hst, h]

theorem arrive_passed (hst : (s.port p).st = .up) (h : s.rxCheck p f x = none) (take : State → Out) :
    s.arrive p f x take = if (s.route p f).take then take (s.receive p f x) else .next (s.receive p f x) := by
  unfold State.arrive
  rw [hst, h]

end RxCheck

/-- A frame that fails a check, or that comes where the port is not UP, reaches no type's operation and leaves every expected counter. -/
theorem arrive_untaken {s : State} {p : PortId} {f : Frame} {x : Tail} (take : State → Out)
    (h : badInfo x.info = true ∨ x.check ≠ frameCheck f ∨ headerOk f = false ∨ (s.route p f).wrong = true ∨ (s.port p).st ≠ .up) :
    ∃ t, s.arrive p f x take = .next t ∧ KeepsRxexp s t := by
  unfold State.arrive
  split
  next => exact ⟨s, rfl, .refl s⟩
  next =>
    split
    next t ht => exact ⟨t, rfl, keepsRxexp_rxCheck ht⟩
    next => exact ⟨_, rfl, keepsRxexp_trainFrame s p x.info⟩
  next hst =>
    obtain ⟨t, ht⟩ : ∃ t, s.rxCheck p f x = some t := rxCheck_isSome (by simpa [hst] using h)
    rw [ht]
    exact ⟨t, rfl, keepsRxexp_rxCheck ht⟩

/-! ## Transmissions that fail and frames that pass on (R289 to R291) -/

theorem receiveCheckFailure_exec {s : State} {dt : Nat} {p : PortId} {bad : BadRx} (h : ((s.elapse dt).port p).st ≠ .off) :
    exec (.receiveCheckFailure dt p bad) s =
      let u := (s.elapse dt).dropCopy p (badFrame bad) bad.syms bad.busy
      .next (match bad.kind with
        | .code => u.crcFail p none
        | .header i => u.fmtFail p (goodInfo i)
        | .abt i => (u.heardEnd p (goodInfo i)).setPort p (fun q => { q with aborts := inc 255 q.aborts })) := by
  rw [exec_receiveCheckFailure]
  unfold execReceiveCheckFailure
  simp only [if_neg h]
  cases bad.kind <;> rfl

theorem frameForward_exec {s : State} {dt : Nat} {p : PortId} {f : Frame} {x : Tail}
    (h : ((s.elapse dt).route p f).take = false ∨ spelled f = false) :
    exec (.frameForward dt p f x) s = (s.elapse dt).arrive p f x .next := by
  have hno : ¬(((s.elapse dt).route p f).take && spelled f) = true := by
    rcases h with h | h <;> simp [h]
  rw [exec_frameForward]
  exact if_neg hno

/-! ## LNK tokens (R280, R287, R295) -/

/-- The end of a port's own LNK token that asks for an answer is still awaited (R287). -/
def State.awaitsLnk (s : State) (p : PortId) : Bool := (s.port p).asked && decide (s.clk ≤ (s.port p).busyTo + 384)

theorem lnkToken_exec {s : State} {dt : Nat} {p : PortId} {info : Byte} (hst : ((s.elapse dt).port p).st ≠ .off) :
    exec (.lnkToken dt p info) s =
      if badInfo info then .next ((s.elapse dt).heardEnd p none)
      else if (s.elapse dt).awaitsLnk p then .next ((s.elapse dt).takeLnk p info)
      else ((s.elapse dt).takeLnk p info).answerLnk p := by
  rw [exec_lnkToken]
  exact if_neg hst

section Answer
variable {u : State} {p : PortId}

theorem answerLnk_nothing (h : (u.port p).st ≠ .up ∨ u.nextOut p = none) : u.answerLnk p = .next ((u.elapse 24).putLnk p false) := by
  unfold State.answerLnk
  split
  next hst hn => simp [hst, hn] at h
  next => rfl

theorem answerLnk_waiting {f : Frame} {x : Option TxEnt} (hst : (u.port p).st = .up) (hn : u.nextOut p = some (f, x)) :
    u.answerLnk p =
      if (u.port p).favoured f.cls ∧ (needsTag f x → u.tagNext.isSome) then exec (.transmitStart 0 ⟨p, false⟩) u
      else .next ((u.elapse 24).putLnk p false) := by
  unfold State.answerLnk
  simp only [hst, hn, exec_transmitStart]

theorem answerLnk_withheld {f : Frame} {x : Option TxEnt} (hst : (u.port p).st = .up) (hn : u.nextOut p = some (f, x))
    (h : (u.port p).favoured f.cls = false ∨ (needsTag f x = true ∧ u.tagNext = none)) :
    u.answerLnk p = .next ((u.elapse 24).putLnk p false) := by
  rw [answerLnk_waiting hst hn, if_neg]
  rintro ⟨hfav, htag⟩
  rcases h with h | ⟨hneeds, hnone⟩
  · rw [h] at hfav; cases hfav
  · have hsome := htag hneeds
    rw [hnone] at hsome; cases hsome

theorem answerLnk_frame {f : Frame} {x : Option TxEnt} (hst : (u.port p).st = .up) (hn : u.nextOut p = some (f, x))
    (hfav : (u.port p).favoured f.cls = true) (htag : needsTag f x = true → u.tagNext ≠ none) :
    u.answerLnk p = exec (.transmitStart 0 ⟨p, false⟩) u := by
  rw [answerLnk_waiting hst hn, if_pos ⟨hfav, fun h => Option.isSome_iff_ne_none.mpr (htag h)⟩]

end Answer

/-! ### A valid token -/

/-- A valid token is noted at its port: the end of the far end's transmission, and the tokens with RDY in a row (R295, R296). -/
def State.noteLnk (s : State) (p : PortId) (info : Byte) : State :=
  (s.heardEnd p (some info)).setPort p (fun q =>
    { q with rdy := true, lastRx := s.clk, tokens := if infoRdy info then (s.port p).tokens + 1 else 0 })

theorem takeLnk_eq (s : State) (p : PortId) (info : Byte) :
    s.takeLnk p info =
      let u := s.noteLnk p info
      match (s.port p).st with
      | .training => if 2 ≤ (u.port p).tokens then u.portUp p else u
      | .up => if infoRdy info then u else (u.setPort p (fun q => { q with retrains := inc 65535 q.retrains })).portTrain p
      | .off => u := by
  cases p <;> rfl

@[simp] theorem noteLnk_st (s : State) (p : PortId) (info : Byte) : ((s.noteLnk p info).port p).st = (s.port p).st := by cases p <;> rfl

@[simp] theorem noteLnk_tokens (s : State) (p : PortId) (info : Byte) :
    ((s.noteLnk p info).port p).tokens = if infoRdy info then (s.port p).tokens + 1 else 0 := by cases p <;> rfl

@[simp] theorem noteLnk_retrains (s : State) (p : PortId) (info : Byte) : ((s.noteLnk p info).port p).retrains = (s.port p).retrains := by
  cases p <;> rfl

theorem onlyIn_noteLnk (s : State) (p : PortId) (info : Byte) : OnlyIn [.ecp] s (s.noteLnk p info) :=
  (onlyIn_setPort s p _).trans (onlyIn_setPort _ p _)

@[simp] theorem portUp_st (s : State) (p : PortId) : ((s.portUp p).port p).st = .up := by cases p <;> rfl

theorem retrains_portLost (s : State) (p : PortId) : ((s.portLost p).port p).retrains = (s.port p).retrains := by
  have hrecover : ∀ x, ((s.recover x).port p).retrains = (s.port p).retrains := fun x =>
    show (((s.recover x).port p).unsent).retrains = ((s.port p).unsent).retrains from
      congrArg Port.retrains (sendsOnly_send _ .south _ p)
  unfold State.portLost
  split
  · split
    · exact hrecover _
    · rfl
  · exact port_setPort_of_keeps Port.retrains (by intro q; rfl) s p p

theorem retrains_portTrain (s : State) (p : PortId) : ((s.portTrain p).port p).retrains = (s.port p).retrains := by
  have hset : ∀ f : Port → Port, (∀ q, (f q).retrains = q.retrains) → ((s.setPort p f).port p).retrains = (s.port p).retrains :=
    fun f h => port_setPort_of_keeps Port.retrains h s p p
  unfold State.portTrain
  extract_lets was u
  have hu : (u.port p).retrains = (s.port p).retrains := by
    refine hset _ ?_
    exact fun _ => rfl
  split
  · exact (retrains_portLost u p).trans hu
  · exact hu

theorem takeLnk_training_up {s : State} {p : PortId} {info : Byte} (hst : (s.port p).st = .training) (hr : infoRdy info = true)
    (ht : 1 ≤ (s.port p).tokens) : ((s.takeLnk p info).port p).st = .up := by
  have h2 : 2 ≤ ((s.noteLnk p info).port p).tokens := by rw [noteLnk_tokens, if_pos hr]; omega
  rw [takeLnk_eq]
  simp only [hst, if_pos h2, portUp_st]

theorem takeLnk_training_stays {s : State} {p : PortId} {info : Byte} (hst : (s.port p).st = .training) (hr : infoRdy info = false) :
    ((s.takeLnk p info).port p).st = .training ∧ ((s.takeLnk p info).port p).tokens = 0 := by
  have h0 : ((s.noteLnk p info).port p).tokens = 0 := by rw [noteLnk_tokens, hr]; rfl
  have hnot : ¬ 2 ≤ ((s.noteLnk p info).port p).tokens := by omega
  rw [takeLnk_eq]
  simp only [hst, if_neg hnot]
  exact ⟨(noteLnk_st s p info).trans hst, h0⟩

theorem takeLnk_up_stays {s : State} {p : PortId} {info : Byte} (hst : (s.port p).st = .up) (hr : infoRdy info = true) :
    ((s.takeLnk p info).port p).st = .up ∧ OnlyIn [.ecp] s (s.takeLnk p info) := by
  rw [takeLnk_eq]
  simp only [hst, if_pos hr]
  exact ⟨(noteLnk_st s p info).trans hst, onlyIn_noteLnk s p info⟩

theorem takeLnk_up_lost {s : State} {p : PortId} {info : Byte} (hst : (s.port p).st = .up) (hr : infoRdy info = false) :
    ((s.takeLnk p info).port p).st = .training ∧ ((s.takeLnk p info).port p).retrains = inc 65535 (s.port p).retrains := by
  rw [takeLnk_eq]
  simp only [hst, hr, Bool.false_eq_true, if_false]
  refine ⟨?_, ?_⟩
  · rw [(portTrain_port _ p p).1, if_pos rfl]
  · rw [retrains_portTrain, port_setPort_self, noteLnk_retrains]

/-! ## The frame that starts (R20, R287, R292, R308, R310) -/

/-- The frame that goes next is a first choice among those that came before it. -/
def firstOfClass (b : Option (Frame × Option TxEnt)) (x : Frame × Option TxEnt) : Option (Frame × Option TxEnt) :=
  match b with
  | none => some x
  | some y => if x.1.cls < y.1.cls then some x else some y

theorem nextOut_eq (s : State) (p : PortId) : s.nextOut p = (s.waiting p).foldl firstOfClass none := rfl

/-- The choice among `l`, with `b` chosen before, has a class as low as any of them. -/
theorem foldl_firstOfClass_le (l : List (Frame × Option TxEnt)) (b : Option (Frame × Option TxEnt)) {c : Frame × Option TxEnt}
    (h : l.foldl firstOfClass b = some c) : (∀ y, b = some y → c.1.cls ≤ y.1.cls) ∧ ∀ y ∈ l, c.1.cls ≤ y.1.cls := by
  induction l generalizing b with
  | nil => exact ⟨fun y hy => by rw [show b = some c from h] at hy; cases hy; exact le_rfl, by simp⟩
  | cons x l ih =>
    obtain ⟨hfirst, hrest⟩ := ih (firstOfClass b x) h
    cases b with
    | none => exact ⟨by simp, List.forall_mem_cons.mpr ⟨hfirst x rfl, hrest⟩⟩
    | some z =>
      by_cases hlt : x.1.cls < z.1.cls
      · have hx := hfirst x (if_pos hlt)
        exact ⟨fun y hy => by cases hy; omega, List.forall_mem_cons.mpr ⟨hx, hrest⟩⟩
      · have hz := hfirst z (if_neg hlt)
        exact ⟨fun y hy => by cases hy; exact hz, List.forall_mem_cons.mpr ⟨by omega, hrest⟩⟩

theorem nextOut_cls_le {s : State} {p : PortId} {f : Frame} {x : Option TxEnt} (h : s.nextOut p = some (f, x)) :
    ∀ y ∈ s.waiting p, f.cls ≤ y.1.cls :=
  (foldl_firstOfClass_le _ none (by rwa [nextOut_eq] at h)).2

section Start
variable {s : State} {dt : Nat} {p : PortId} {f : Frame} {x : Option TxEnt}

/-- The state at the instant at which the next frame may start. -/
def State.startsAt (s : State) (p : PortId) (f : Frame) : State := s.until_ (s.startAt p f.cls)

/-- A frame that needs no tag starts, and is given to the other ports by which it leaves. -/
def State.startPlain (u : State) (p : PortId) (f : Frame) (x : Option TxEnt) : State :=
  (u.twins p f x).foldl (fun v o => v.send o f) ((u.dequeue p f x).putFrame p f)

/-- A frame starts under the tag `t`, and is given to the other ports by which it leaves. -/
def State.startTagged (u : State) (p : PortId) (f : Frame) (x : Option TxEnt) (t : Nat) : State :=
  (u.twins p f x).foldl (fun v o => v.send o { f with tag := t })
    (((u.dequeue p f x).tagAt t ((x.map (·.handle)).getD 0) f.addr (u.clk + lineTicks f)).putFrame p { f with tag := t })

variable (hst : ((s.elapse dt).port p).st = .up) (hn : (s.elapse dt).nextOut p = some (f, x))
include hst hn

theorem transmitStart_exec (sq : Bool) :
    exec (.transmitStart dt ⟨p, sq⟩) s =
      let u := (s.elapse dt).startsAt p f
      if sq then .next u
      else if needsTag f x then
        match u.tagNext with
        | none => .next u
        | some t =>
          let v := u.startTagged p f x t
          if x.isNone then .next (v.enumSent f t (u.clk + lineTicks f)) else if f.addr = 63 then v.execLocal { f with tag := t } t else .next v
      else .next (u.startPlain p f x) := by
  rw [exec_transmitStart]
  unfold execTransmitStart
  simp only [hst, hn]
  rfl

theorem transmitStart_squelched :
    exec (.transmitStart dt ⟨p, true⟩) s = .next ((s.elapse dt).startsAt p f) := by
  rw [transmitStart_exec hst hn true]
  rfl

theorem transmitStart_plain (ht : needsTag f x = false) :
    exec (.transmitStart dt ⟨p, false⟩) s = .next (((s.elapse dt).startsAt p f).startPlain p f x) := by
  rw [transmitStart_exec hst hn false]
  simp only [ht, Bool.false_eq_true, if_false]

theorem transmitStart_noTag (ht : needsTag f x = true) (hnone : ((s.elapse dt).startsAt p f).tagNext = none) :
    exec (.transmitStart dt ⟨p, false⟩) s = .next ((s.elapse dt).startsAt p f) := by
  rw [transmitStart_exec hst hn false]
  simp only [ht, hnone, Bool.false_eq_true, if_false, if_true]

theorem transmitStart_tagged {t : Nat} (ht : needsTag f x = true) (htag : ((s.elapse dt).startsAt p f).tagNext = some t) :
    exec (.transmitStart dt ⟨p, false⟩) s =
      let u := (s.elapse dt).startsAt p f
      let v := u.startTagged p f x t
      if x.isNone then .next (v.enumSent f t (u.clk + lineTicks f)) else if f.addr = 63 then v.execLocal { f with tag := t } t else .next v := by
  rw [transmitStart_exec hst hn false]
  simp only [ht, htag, Bool.false_eq_true, if_false, if_true]

end Start

/-! ## The frame on the pair and the frame in a buffer (R291 to R293) -/

theorem stampSync_keeps (s : State) (p : PortId) (sof : Nat) (f : Frame) :
    (s.stampSync p sof f).typ = f.typ ∧ (s.stampSync p sof f).addr = f.addr ∧ (s.stampSync p sof f).tag = f.tag ∧
      (f.typ ≠ 8 → (s.stampSync p sof f).payload = f.payload) := by
  unfold State.stampSync
  split
  next h => split <;> exact ⟨rfl, rfl, rfl, fun hne => absurd h.1 hne⟩
  next => exact ⟨rfl, rfl, rfl, fun _ => rfl⟩

/-- A frame that starts on the pair carries the hop's counter and a check value of its own. -/
theorem putFrame_port (u : State) (p : PortId) (f : Frame) :
    ((u.putFrame p f).port p).txcnt = ((u.port p).txcnt + 1) % 16 ∧ ((u.putFrame p f).port p).busyTo = u.clk + lineTicks f ∧
      ∃ g, ((u.putFrame p f).port p).wire = some (.frame g (frameCheck g) (u.bestOut p)) ∧ g.cnt = (u.port p).txcnt ∧ g.typ = f.typ ∧
        g.addr = f.addr ∧ g.tag = f.tag ∧ (f.typ ≠ 8 → g.payload = f.payload) := by
  obtain ⟨htyp, haddr, htag, hpay⟩ := stampSync_keeps u p (u.tbn + 160) f
  unfold State.putFrame State.putFrom
  simp only [port_setPort_self, Port.sends]
  exact ⟨trivial, trivial, _, rfl, rfl, htyp, haddr, htag, hpay⟩

theorem send_notUp {u : State} {p : PortId} (h : (u.port p).st ≠ .up) (f : Frame) : u.send p f = u := if_neg h

theorem send_held {u : State} {p : PortId} {f : Frame} (h : (u.port p).st = .up) (hb : bufferFree (u.port p).buf f.cls = true) :
    ((u.send p f).port p).buf = (u.port p).buf ++ [f] := by
  unfold State.send
  rw [if_pos h, if_pos hb, port_setPort_self]

theorem send_dropped {u : State} {p : PortId} {f : Frame} (h : (u.port p).st = .up) (hb : bufferFree (u.port p).buf f.cls = false) :
    ((u.send p f).port p).buf = (u.port p).buf ∧ ((u.send p f).port p).drops = inc 255 (u.port p).drops := by
  unfold State.send
  rw [if_pos h, hb, if_neg Bool.false_ne_true, port_setPort_self]
  exact ⟨rfl, rfl⟩

theorem send_other (u : State) (p : PortId) (f : Frame) : (u.send p f).port p.other = u.port p.other := by
  unfold State.send
  split
  · split
    · exact port_setPort_other u p _
    · exact port_setPort_other u p _
  · rfl

/-! ## The statement -/

/-- Settles O47: what each command finds at the port decides, and the laws of the port's operations say what it leaves. -/
theorem portTraffic : Obligations.PortTraffic := by
  unfold Obligations.PortTraffic
  refine ⟨fun s dt p => ⟨?failure, ?forward, ?token, ?start⟩, ?untaken, ?frame, ?lnk, ?given⟩
  case failure =>
    intro syms head busy kind hst
    rw [receiveCheckFailure_exec hst]
    cases kind <;> rfl
  case forward =>
    intro f x hst htake
    rw [frameForward_exec htake]
    refine ⟨fun hi => ?_, fun hi hc => ?_, fun hi hc hh => ?_, fun hi hc hh hw => ?_⟩
    · exact arrive_failed hst (rxCheck_badInfo hi) _
    · exact arrive_failed hst (rxCheck_badCheck hi hc) _
    · exact arrive_failed hst (rxCheck_badHeader hi hc hh) _
    · rw [arrive_passed hst (rxCheck_good hi hc hh hw), ite_self]
  case token =>
    intro info hst
    rw [lnkToken_exec hst]
    refine ⟨fun hi => if_pos hi, fun hi ha => ?_, fun hi ha => ?_⟩
    · rw [hi, if_neg Bool.false_ne_true]
      exact if_pos ha
    · have hnot : (s.elapse dt).awaitsLnk p = false := ha
      rw [hi, if_neg Bool.false_ne_true, hnot, if_neg Bool.false_ne_true]
      exact ⟨answerLnk_nothing, fun f x hup hn => ⟨answerLnk_withheld hup hn, answerLnk_frame hup hn⟩⟩
  case start =>
    intro f x hst hn
    refine ⟨nextOut_cls_le hn, transmitStart_squelched hst hn, transmitStart_plain hst hn, transmitStart_noTag hst hn, fun t ht htag => ?_⟩
    have hrun := transmitStart_tagged hst hn ht htag
    refine ⟨fun hx => ?_, fun y hx haddr => ?_, fun y hx haddr => ?_⟩ <;> subst hx
    · exact hrun
    · exact hrun.trans (if_neg haddr)
    · exact hrun.trans (if_pos haddr)
  case untaken =>
    intro u p f x take h
    obtain ⟨t, ht, hkeeps⟩ := arrive_untaken take h
    exact ⟨t, ht, hkeeps p⟩
  case frame =>
    intro u p f
    obtain ⟨hcnt, hbusy, hwire⟩ := putFrame_port u p f
    exact ⟨hcnt, hbusy, hwire, port_setPort_other u p _, onlyIn_setPort u p _⟩
  case lnk =>
    intro u p info
    exact ⟨takeLnk_training_up, takeLnk_training_stays, takeLnk_up_stays, takeLnk_up_lost⟩
  case given =>
    intro u p f
    exact ⟨fun h => send_notUp h f, send_held, send_dropped, (send_port u p f p).2, send_other u p f⟩

end Sys2Proof.Machine
end

/-! SUPPORT. Proofs of the statements of chapter 02: supplies and clocks, start-up, STILL and WATCH, the configuration lock, chain-wide mode
changes and the command queue; and the theorems that settle O17, O18, O19, O21, O23 and O34. -/

section

namespace Sys2Proof.Machine

/-! ## Time, tables and registers that read alike -/

theorem until_clk (s : State) (t : Nat) : (s.until_ t).clk = max s.clk t := by
  unfold State.until_
  rw [State.elapse_clk]
  omega

theorem onlyIn_until (s : State) (t : Nat) : OnlyIn [.time] s (s.until_ t) := onlyIn_elapse s _

theorem vget_map {α : Type} {n : Nat} (v : Vector α n) (d : α) (f : α → α) {i : Nat} (h : i < n) :
    vget (v.map f) d i = f (vget v d i) := by
  simp [vget, h]

section Configured
variable {ps : List Part} {s t : State} (h : OnlyIn ps s t) (hr : Part.regs ∉ ps) (ho : Part.ovl ∉ ps)
include h hr ho

theorem bit_of_onlyIn (a i : Nat) : t.bit a i = s.bit a i := by
  unfold State.bit
  rw [eff_of_onlyIn h hr ho]

theorem used_of_onlyIn (n : Nat) : t.used n = s.used n := by
  unfold State.used State.ncells State.fld
  rw [eff_of_onlyIn h hr ho]

theorem busbar_of_onlyIn (n : Nat) : t.busbar n = s.busbar n := by
  unfold State.busbar
  rw [used_of_onlyIn h hr ho, bit_of_onlyIn h hr ho]

end Configured

/-! ## The supplies (R34, R36) -/

theorem isSome_of_closeSpans (clk : Nat) (l : List Span) : (closeSpans clk l).all (fun p => p.to_.isSome) = true := by
  unfold closeSpans
  rw [List.all_map]
  refine List.all_eq_true.mpr (fun p _ => ?_)
  show (if p.to_ = none then { p with to_ := some clk } else p).to_.isSome = true
  split
  · rfl
  · exact Option.isSome_iff_ne_none.mpr ‹_›

/-- What VSTK's return above its threshold leaves: the hold of MRAM stands until the end of the dip (R36). -/
def State.dipOver (e : State) : State :=
  { e.setSupply 0 true with
    pwr := { (e.setSupply 0 true).pwr with dipRec := some e.clk }
    res := { e.res with dipSpans := closeSpans e.clk e.res.dipSpans } }

/-- VREG is back (R34). -/
def State.vregBack (e : State) : State :=
  { e.setSupply 2 true with
    pwr := { (e.setSupply 2 true).pwr with vregLimit := false }
    res := { e.res with vrgSpans := closeSpans e.clk e.res.vrgSpans } }

/-- The record of a dip that has ended, its duration given in both units of the manual (R36, Table 17.3). -/
def State.dipRecorded (u : State) (vmin dur us : Nat) : State :=
  let v := { u with
    pwr := { u.pwr with mramHold := false, dipRec := none }
    aon := { u.aon with dipOpen := false, dipVmin := min 65535 vmin, dipDuration := dur } }
  v.ledger (v.dipEntry us false)

theorem onlyIn_dipRecorded (u : State) (vmin dur us : Nat) : OnlyIn [.pwr, .aon, .nvm] u (u.dipRecorded vmin dur us) := by
  intro p hp
  cases p <;> simp_all [Part.same, State.dipRecorded, State.ledger]

/-- The ports while VCHN is too low, or back: their conditions are judged anew (R34, R295). -/
def State.vchn (e : State) (low : Bool) : State := (e.setSupply 5 (!low)).holdPorts low

theorem onlyIn_vchn (e : State) (low : Bool) : OnlyIn [.pwr] e (e.vchn low) := by
  intro p hp
  cases p <;> simp_all [Part.same, State.vchn, State.holdPorts, State.setSupply]

theorem onlyIn_vchn_portCheck (e : State) (low : Bool) : OnlyIn [.pwr, .ecp, .net] e (e.vchn low).portCheck :=
  ((onlyIn_vchn e low).mono (by simp)).trans ((onlyIn_portCheck _).mono (by simp))

theorem portCheck_off {s : State} {p : PortId} (h : s.portOn p = false) : (s.portCheck.port p).st = .off := by
  rw [(portCheck_port s p).1, h]
  rfl

theorem portCheck_trains {s : State} {p : PortId} (h : s.portCheck.portOn p = true) (ho : (s.port p).st = .off) :
    (s.portCheck.port p).st = .training := by
  rw [portOn_of_onlyIn (onlyIn_portCheck s)] at h
  rw [(portCheck_port s p).1, h, ho]
  rfl

theorem portOn_of_portsOff {s : State} (h : s.pwr.portsOff = true) (p : PortId) : s.portOn p = false := by
  unfold State.portOn
  simp [h]

theorem portOn_of_unlocked {s : State} (h : s.pwr.pllLock = false) (p : PortId) : s.portOn p = false := by
  unfold State.portOn
  simp [h]

section
variable {s e : State} {dt : Nat} (he : s.elapse dt = e)
include he

theorem supplyDipRecovery_exec {mv : Nat} (hs : e.supplied = true) (hb : e.pwr.supplyOk.testBit 0 = false) (hv : e.warnMv + 500 < mv) :
    exec (.supplyDipRecovery ⟨dt, mv⟩) s = .next e.dipOver := by
  rw [exec_supplyDipRecovery]
  unfold execSupplyDipRecovery
  rw [he]
  exact if_pos (by simp [hs, hb, hv])

theorem supplyDipRecovery_completes {mv : Nat} (hs : e.supplied = true) (hb : e.pwr.supplyOk.testBit 0 = false)
    (hv : e.warnMv + 500 < mv) :
    Completes (.supplyDipRecovery ⟨dt, mv⟩) s (fun t =>
      t.pwr.dipRec = some e.clk ∧ t.pwr.mramHold = e.pwr.mramHold ∧ t.res.dipSpans.all (fun p => p.to_.isSome) = true ∧
        OnlyIn [.pwr, .res] e t) := by
  refine ⟨e.dipOver, supplyDipRecovery_exec he hs hb hv, rfl, rfl, isSome_of_closeSpans _ _, ?_⟩
  intro p hp
  cases p <;> simp_all [Part.same, State.dipOver, State.setSupply]

theorem vregRecovery_completes (hs : e.supplied = true) (hb : e.pwr.supplyOk.testBit 2 = false) :
    Completes (.vregRecovery dt) s (fun t =>
      t.pwr.vregLimit = false ∧ t.res.vrgSpans.all (fun p => p.to_.isSome) = true ∧ OnlyIn [.pwr, .res] e t) := by
  have hrun : exec (.vregRecovery dt) s = .next e.vregBack := by
    rw [exec_vregRecovery]
    unfold execVregRecovery
    rw [he]
    exact if_pos (by simp [hs, hb])
  refine ⟨e.vregBack, hrun, rfl, isSome_of_closeSpans _ _, ?_⟩
  intro p hp
  cases p <;> simp_all [Part.same, State.vregBack, State.setSupply]

theorem supplyDipEnd_exec {t0 : Nat} (hr : e.pwr.dipRec = some t0) (ho : e.aon.dipOpen = true) (vmin : Nat) :
    ∃ dur us, exec (.supplyDipEnd dt vmin) s = .next ((e.until_ (t0 + 200000)).dipRecorded vmin dur us) := by
  rw [exec_supplyDipEnd]
  unfold execSupplyDipEnd
  rw [he]
  simp only [hr, if_pos ho]
  exact ⟨_, _, rfl⟩

theorem supplyDipEnd_completes {t0 : Nat} (hr : e.pwr.dipRec = some t0) (ho : e.aon.dipOpen = true) (vmin : Nat) :
    Completes (.supplyDipEnd dt vmin) s (fun t =>
      t.clk = max e.clk (t0 + 200000) ∧ t.pwr = { e.pwr with mramHold := false, dipRec := none } ∧ t.aon.dipOpen = false ∧
        t.aon.dipVmin = min 65535 vmin ∧
        (∃ x, t.nvm.ledgDue = e.nvm.ledgDue ++ [x] ∧ x.kind = 2 ∧ x.time = e.aon.dipStart) ∧
        OnlyIn [.time, .pwr, .aon, .nvm] e t) := by
  obtain ⟨dur, us, hrun⟩ := supplyDipEnd_exec he hr ho vmin
  have hclk := until_clk e (t0 + 200000)
  have honly := onlyIn_until e (t0 + 200000)
  refine ⟨_, hrun, ?_⟩
  generalize e.until_ (t0 + 200000) = u at hclk honly ⊢
  have hpwr : u.pwr = e.pwr := honly .pwr (by simp)
  have haon : u.aon = e.aon := honly .aon (by simp)
  have hnvm : u.nvm = e.nvm := honly .nvm (by simp)
  rw [← hpwr, ← haon, ← hnvm]
  exact ⟨hclk, rfl, rfl, rfl, ⟨_, rfl, rfl, rfl⟩, (honly.mono (by simp)).trans ((onlyIn_dipRecorded u vmin dur us).mono (by simp))⟩

theorem vchnUndervoltage_exec : exec (.vchnUndervoltage dt) s = .next (e.vchn true).portCheck := by
  rw [exec_vchnUndervoltage]
  unfold execVchnUndervoltage
  rw [he]
  rfl

theorem vchnRestored_exec : exec (.vchnRestored dt) s = .next (e.vchn false).portCheck := by
  rw [exec_vchnRestored]
  unfold execVchnRestored
  rw [he]
  rfl

theorem vchnUndervoltage_completes :
    Completes (.vchnUndervoltage dt) s (fun t =>
      t.pwr.portsOff = true ∧ t.ecp.north.st = .off ∧ t.ecp.south.st = .off ∧ OnlyIn [.pwr, .ecp, .net] e t) := by
  have hoff : ∀ p, (e.vchn true).portOn p = false := portOn_of_portsOff rfl
  have hpwr : (e.vchn true).portCheck.pwr = (e.vchn true).pwr := onlyIn_portCheck _ .pwr (by simp)
  exact ⟨_, vchnUndervoltage_exec he, congrArg Pwr.portsOff hpwr, portCheck_off (hoff .north), portCheck_off (hoff .south),
    onlyIn_vchn_portCheck e true⟩

theorem vchnRestored_completes :
    Completes (.vchnRestored dt) s (fun t =>
      t.pwr.portsOff = false ∧ (t.portOn .north = true → e.ecp.north.st = .off → t.ecp.north.st = .training) ∧
        (t.portOn .south = true → e.ecp.south.st = .off → t.ecp.south.st = .training) ∧ OnlyIn [.pwr, .ecp, .net] e t) := by
  have hpwr : (e.vchn false).portCheck.pwr = (e.vchn false).pwr := onlyIn_portCheck _ .pwr (by simp)
  exact ⟨_, vchnRestored_exec he, congrArg Pwr.portsOff hpwr, fun h ho => portCheck_trains (p := .north) h ho,
    fun h ho => portCheck_trains (p := .south) h ho, onlyIn_vchn_portCheck e false⟩

end

/-! ## The clocks (R40) -/

theorem reclockJets_jet {e : State} {old j : Nat} (hj : j < 8) (h : e.cycle ≠ old) :
    let q := (e.reclockJets old).jet j
    q.wdFrom = e.clk ∧ q.wdCyc = (e.jet j).wdCyc + (e.clk - (e.jet j).wdFrom) / old ∧ q.pc = (e.jet j).pc ∧
      q.busyTo = e.clk + ((e.jet j).busyTo - e.clk + old - 1) / old * e.cycle := by
  unfold State.reclockJets
  rw [if_neg h]
  unfold State.jet
  simp [vget_map _ _ _ hj]

theorem onlyIn_reclockJets (e : State) (old : Nat) : OnlyIn [.seq] e (e.reclockJets old) := by
  unfold State.reclockJets
  intro p hp
  split <;> cases p <;> simp_all [Part.same]

/-- Modulators and ports stop with the PLL (R40, R98). -/
def State.pllStops (u : State) : State := u.clearDecims.portCheck

theorem pllStops_decim (u : State) {m : Nat} (h : m < 64) : (vget u.pllStops.mod.mods default m).decim = none := by
  have hmod : u.pllStops.mod = u.clearDecims.mod := onlyIn_portCheck _ .mod (by simp)
  rw [hmod]
  unfold State.clearDecims
  simp [vget_map _ _ _ h]

/-- The state in which the PLL is no longer locked, before the jets, the modulators and the ports follow (R40). -/
def State.unlocked (r : State) (src : CoreSrc) : State :=
  { r with pwr := { r.pwr with pllLock := false, coreSrc := src, retries := 0, pllAt := r.clk } }

theorem losePll_eq (e : State) (src : CoreSrc) :
    e.losePll src = ((e.readsNow.unlocked src).reclockJets e.readsNow.cycle).pllStops := rfl

/-- What a lost lock brings about, `r` being the state in which the reads that go on are done (R40). -/
theorem unlocked_pllStops (r : State) (src : CoreSrc) (old : Nat) :
    let t := ((r.unlocked src).reclockJets old).pllStops
    t.pwr.pllLock = false ∧ t.pwr.coreSrc = src ∧ t.ecp.north.st = .off ∧ t.ecp.south.st = .off ∧
      (∀ m < 64, (vget t.mod.mods default m).decim = none) ∧ OnlyIn [.pwr, .mod, .ecp, .net, .seq] r t := by
  intro t
  have hclocked := onlyIn_reclockJets (r.unlocked src) old
  have hclear : OnlyIn [.mod] ((r.unlocked src).reclockJets old) ((r.unlocked src).reclockJets old).clearDecims := by
    intro p hp
    cases p <;> simp_all [Part.same, State.clearDecims]
  have hunlocked : OnlyIn [.pwr] r (r.unlocked src) := by
    intro p hp
    cases p <;> simp_all [Part.same, State.unlocked]
  have hfrom : OnlyIn [.seq, .mod] (r.unlocked src) ((r.unlocked src).reclockJets old).clearDecims :=
    (hclocked.mono (by simp)).trans (hclear.mono (by simp))
  have hports := onlyIn_portCheck ((r.unlocked src).reclockJets old).clearDecims
  have hpwr : ((r.unlocked src).reclockJets old).clearDecims.pwr = (r.unlocked src).pwr := hfrom .pwr (by simp)
  have htpwr : t.pwr = (r.unlocked src).pwr := (hports .pwr (by simp)).trans hpwr
  have hoff : ∀ p, ((r.unlocked src).reclockJets old).clearDecims.portOn p = false :=
    portOn_of_unlocked (congrArg Pwr.pllLock hpwr)
  exact ⟨congrArg Pwr.pllLock htpwr, congrArg Pwr.coreSrc htpwr, portCheck_off (hoff .north), portCheck_off (hoff .south),
    fun m hm => pllStops_decim _ hm,
    (hunlocked.mono (by simp)).trans ((hfrom.mono (by simp)).trans (hports.mono (by simp)))⟩

section
variable {s e : State} {dt : Nat} (he : s.elapse dt = e)
include he

theorem supplyDipStart_exec {mv : Nat} (hs : e.supplied = true) (hb : e.pwr.supplyOk.testBit 0 = true) (hv : mv < e.warnMv) :
    exec (.supplyDipStart ⟨dt, mv⟩) s =
      .next (({ e.setSupply 0 false with
        pwr := { (e.setSupply 0 false).pwr with mramHold := true, dipRec := none }
        aon :=
          { e.aon with
            dipOpen := true, dipReset := false, dipStart := if e.aon.dipOpen then e.aon.dipStart else e.tb
            dipClk := if e.aon.dipOpen then e.aon.dipClk else e.clk }
        res := { e.res with dipSpans := ⟨e.clk, none⟩ :: e.res.dipSpans } }).present1 125) := by
  rw [exec_supplyDipStart]
  unfold execSupplyDipStart
  rw [he]
  exact if_pos (by simp [hs, hb, hv])

theorem railSupervisorTrip_exec {rail : Nat} (hlo : 2 ≤ rail) (hhi : rail ≤ 4) (hs : e.supplied = true)
    (hw : ¬(e.pwr.mode = .watch ∧ e.pwr.supMask = true)) (ht : e.pwr.railTrip = none) :
    exec (.railSupervisorTrip dt rail) s =
      .next (({ e.setSupply (railBit rail) false with
        pwr := { (e.setSupply (railBit rail) false).pwr with railTrip := some (rail, e.clk) } }).present1 125) := by
  have hnot : ¬(e.setSupply (railBit rail) false).pwr.railTrip.isSome = true := by
    show ¬e.pwr.railTrip.isSome = true
    rw [ht]
    decide
  rw [exec_railSupervisorTrip]
  unfold execRailSupervisorTrip
  rw [he]
  exact (if_pos ⟨hlo, hhi, hs, hw⟩).trans (congrArg (fun u : State => Host.Outcome.next (u.present1 125)) (if_neg hnot))

theorem vregFault_exec (hs : e.supplied = true) (hb : e.pwr.supplyOk.testBit 2 = true) :
    exec (.vregFault dt) s =
      .next (({ e.setSupply 2 false with
        pwr := { (e.setSupply 2 false).pwr with vregLimit := true }
        res := { e.res with vrgSpans := ⟨e.clk, none⟩ :: e.res.vrgSpans } }).present1 127) := by
  rw [exec_vregFault]
  unfold execVregFault
  rw [he]
  exact if_pos (by simp [hs, hb])

theorem stackOv_exec (h : e.res.stackHi = false) :
    exec (.stackOv dt) s = .next (({ e with res := { e.res with stackHi := true } }).present1 123) := by
  rw [exec_stackOv]
  unfold execStackOv
  rw [he]
  exact if_neg (by simp [h])

theorem stackLimitReturn_exec : exec (.stackLimitReturn dt) s = .next { e with res := { e.res with stackHi := false } } := by
  rw [exec_stackLimitReturn]
  unfold execStackLimitReturn
  rw [he]

theorem pllUnlock_exec (h : e.pwr.pllLock = true) :
    exec (.pllUnlock dt) s = .next ((e.losePll (if e.pwr.refOk = true then .ref else .lpo)).present1 130) := by
  rw [exec_pllUnlock]
  unfold execPllUnlock
  rw [he]
  exact if_pos h

theorem pllRelockRetry_locks (hl : e.pwr.pllLock = false) (hm : e.pllMode = true) (hr : e.pwr.retries < 8) :
    exec (.pllRelockRetry dt true) s =
      (let u := (e.until_ (e.pwr.pllAt + (e.pwr.retries + 1) * 200000)).readsNow
      .next (({ u with
        pwr := { u.pwr with pllLock := true, coreSrc := .pll, relocks := inc 255 u.pwr.relocks, retries := 0 }
        res := { u.res with relock := 2 ^ 36 - 1 } }).reclockJets u.cycle).restartConvs.portCheck) := by
  rw [exec_pllRelockRetry]
  unfold execPllRelockRetry
  rw [he]
  refine (if_pos (by simp [hl, hm, hr])).trans ((if_pos rfl).trans ?_)
  rw [show msTicks = 200000 from rfl]

theorem pllRelockRetry_fails (hl : e.pwr.pllLock = false) (hm : e.pllMode = true) (hr : e.pwr.retries < 8) :
    exec (.pllRelockRetry dt false) s =
      (let u := e.until_ (e.pwr.pllAt + (e.pwr.retries + 1) * 200000)
      .next { u with pwr := { u.pwr with retries := e.pwr.retries + 1 } }) := by
  have hpwr : (e.until_ (e.pwr.pllAt + (e.pwr.retries + 1) * 200000)).pwr.retries = e.pwr.retries :=
    congrArg Pwr.retries (onlyIn_until e _ .pwr (by simp))
  have hrun : exec (.pllRelockRetry dt false) s =
      (let u := e.until_ (e.pwr.pllAt + (e.pwr.retries + 1) * 200000)
      .next { u with pwr := { u.pwr with retries := u.pwr.retries + 1 } }) := by
    rw [exec_pllRelockRetry]
    unfold execPllRelockRetry
    rw [he]
    exact if_pos (by simp [hl, hm, hr])
  rw [hrun]
  simp only [hpwr]

theorem clockMonitor_exec (hs : e.supplied = true) (hr : e.pwr.refOk = true) :
    exec (.clockMonitor dt) s =
      .next (let r := e.readsNow
        let u := ({ r with pwr := { r.pwr with refOk := false, coreSrc := .lpo } }).reclockJets r.cycle
        if e.pwr.pllLock = true then (u.losePll .lpo).present [130, 131] else u.present1 131) := by
  rw [exec_clockMonitor]
  unfold execClockMonitor
  rw [he]
  exact if_pos (by simp [hs, hr])

theorem referenceOscillatorRecovery_exec (hs : e.supplied = true) (hr : e.pwr.refOk = false) :
    exec (.referenceOscillatorRecovery dt) s =
      .next (let r := e.readsNow
        ({ r with
          pwr := { r.pwr with refOk := true, coreSrc := if r.pwr.pllLock = true then r.pwr.coreSrc else .ref } }).reclockJets r.cycle) := by
  rw [exec_referenceOscillatorRecovery]
  unfold execReferenceOscillatorRecovery
  rw [he]
  exact if_pos (by simp [hs, hr])

theorem lpoFault_exec (hs : e.supplied = true) (hl : e.pwr.lpoOk = true) :
    exec (.lpoFault dt) s =
      .next (({ e with
        pwr := { e.pwr with lpoOk := false }, flt := { e.flt with flow := false, flowRun := false } }).present1 129) := by
  rw [exec_lpoFault]
  unfold execLpoFault
  rw [he]
  exact if_pos (by simp [hs, hl])

theorem lpoRecovery_exec (hs : e.supplied = true) :
    exec (.lpoRecovery dt) s = .next { e with pwr := { e.pwr with lpoOk := true } } := by
  rw [exec_lpoRecovery]
  unfold execLpoRecovery
  rw [he]
  exact congrArg _ (if_pos hs)

end

/-- Settles O18: each command decides by what supplies and clocks stand at, and the laws of the ports and of the clock of the jets say
what follows. -/
theorem suppliesAndClocks : Obligations.SuppliesAndClocks := by
  refine ⟨fun s dt => ?_, fun s dt => ?_⟩
  · intro e
    have he : s.elapse dt = e := rfl
    clear_value e
    exact ⟨rfl, fun mv => supplyDipStart_exec he, fun mv => supplyDipRecovery_completes he,
      fun vmin t0 hr ho => supplyDipEnd_completes he hr ho vmin, fun rail => railSupervisorTrip_exec he, vregFault_exec he,
      vregRecovery_completes he, stackOv_exec he, stackLimitReturn_exec he,
      ⟨vchnUndervoltage_exec he, vchnUndervoltage_completes he⟩, vchnRestored_completes he⟩
  · intro e
    have he : s.elapse dt = e := rfl
    clear_value e
    refine ⟨pllUnlock_exec he, fun src => ?lost, fun old j hj hne => ?clock, fun hl hm hr => ⟨?locks, ?fails⟩, clockMonitor_exec he,
      referenceOscillatorRecovery_exec he, lpoFault_exec he, lpoRecovery_exec he⟩
    case lost =>
      rw [losePll_eq]
      exact unlocked_pllStops e.readsNow src _
    case clock =>
      obtain ⟨hfrom, hcyc, hpc, hbusy⟩ := reclockJets_jet hj hne
      exact ⟨hfrom, hcyc, hpc, hbusy, onlyIn_reclockJets e old⟩
    case locks => exact pllRelockRetry_locks he hl hm hr
    case fails => exact pllRelockRetry_fails he hl hm hr

/-! ## Start-up (R43, R44, R63, R64, R198, R466) -/

section StartUp
variable {s e : State} {dt : Nat} (he : s.elapse dt = e)

include he in
theorem vstkResetRising_exec (hm : e.pwr.mode = .reset) (hs : e.pwr.step = 0) (test : Bool) :
    exec (.vstkResetRising ⟨dt, test⟩) s = .next { e with pwr := { e.pwr with step := 1, factory := test, modeAt := e.clk } } := by
  subst he
  rw [exec_vstkResetRising]
  exact congrArg _ (if_pos ⟨hm, hs⟩)

/-- A loader copy runs: start-up step 5, with the copy noted. -/
def State.loaderRuns (t : State) (b : Bool) : State := { t with pwr := { t.pwr with step := 5 }, nvm := { t.nvm with ldrB := b } }

/-- No loader copy runs: start-up goes no further than step 4. -/
def State.loaderFails (t : State) : State := { t with pwr := { t.pwr with step := 4 } }

/-- The image is in steward SRAM: start-up step 6 is done (R43). -/
def State.imageIn (t : State) : State := { t with pwr := { t.pwr with step := 6 } }

/-- The copy of the image fails: start-up stays in RESET with its ports enabled (R44). -/
def State.noImage (t : State) : State :=
  { t with pwr := { t.pwr with step := 6, stuck := true }, nvm := { t.nvm with noImg := true, act := 0 } }

/-- What the reads `a` of copy A and `b` of copy B decide, `x` and `y` being the copies' own checks (R43). -/
def loaderPick (a b : Bool × State) (x y : Bool) : State :=
  if x && a.1 then a.2.loaderRuns false else if y && b.1 then b.2.loaderRuns true else b.2.loaderFails

theorem loaderPick_copyA {a : Bool × State} (h : a.1 = true) (b : Bool × State) (y : Bool) :
    loaderPick a b true y = a.2.loaderRuns false := by
  simp [loaderPick, h]

theorem loaderPick_copyB {a b : Bool × State} {x : Bool} (ha : x = false ∨ a.1 = false) (hb : b.1 = true) :
    loaderPick a b x true = b.2.loaderRuns true := by
  rcases ha with h | h <;> simp [loaderPick, h, hb]

theorem loaderPick_none {a b : Bool × State} {x y : Bool} (ha : x = false ∨ a.1 = false) (hb : y = false ∨ b.1 = false) :
    loaderPick a b x y = b.2.loaderFails := by
  rcases ha with h | h <;> rcases hb with k | k <;> simp [loaderPick, h, k]

include he in
/-- Copy A is read, and copy B after it (R43). -/
theorem loaderStart_copies (h : e.atStep 1 = true) :
    let u := e.until_ (e.pwr.modeAt + e.startAfter 4)
    let v := { u with pwr := { u.pwr with pllLock := true, refOk := true, coreSrc := .pll } }
    let a := v.mramRead 0 0x4000
    let w := fun (t : State) (b : Bool) => { t with pwr := { t.pwr with step := 5 }, nvm := { t.nvm with ldrB := b } }
    (∀ b, a.1 = true → exec (.loaderStart dt true b) s = .next (w a.2 false)) ∧
      (∀ x, x = false ∨ a.1 = false →
        let b := a.2.mramRead 0x4000 0x4000
        (b.1 = true → exec (.loaderStart dt x true) s = .next (w b.2 true)) ∧
          (∀ y, y = false ∨ b.1 = false →
            exec (.loaderStart dt x y) s = .next { b.2 with pwr := { b.2.pwr with step := 4 } })) := by
  subst he
  intro u v a w
  have hrun : ∀ x y, exec (.loaderStart dt x y) s = .next (loaderPick a (a.2.mramRead 0x4000 0x4000) x y) := by
    intro x y
    rw [exec_loaderStart]
    unfold execLoaderStart
    extract_lets _ _ _ v'
    rw [if_pos h, show v'.mramRead 0 0x4000 = a from rfl]
    clear_value a
    obtain ⟨good, t⟩ := a
    cases hA : x && good
    · cases hB : y && (t.mramRead 0x4000 0x4000).1
      · simp [hA, hB, loaderPick]
        rfl
      · simp [hA, hB, loaderPick]
        rfl
    · simp [hA, loaderPick]
      rfl
  clear_value a
  refine ⟨fun b ha => ?_, fun x hx => ?_⟩
  · rw [hrun, loaderPick_copyA ha]
    rfl
  · intro b
    have hrun : ∀ y, exec (.loaderStart dt x y) s = .next (loaderPick a b x y) := hrun x
    clear_value b
    refine ⟨fun hb => ?_, fun y hy => ?_⟩
    · rw [hrun, loaderPick_copyB hx hb]
      rfl
    · rw [hrun, loaderPick_none hx hy]
      rfl

include he in
theorem imageCopyDone_exec (h : e.atStep 5 = true) (ok : Bool) :
    exec (.imageCopyDone dt ok) s =
      .next (if (ok && e.loadImage.1) = true then e.loadImage.2.imageIn else e.loadImage.2.noImage.portCheck) := by
  subst he
  rw [exec_imageCopyDone]
  unfold execImageCopyDone
  extract_lets e
  rw [if_pos h]
  generalize (s.elapse dt).loadImage = r
  rfl

include he in
theorem imageCopyDone_completes (h : e.atStep 5 = true) {ok : Bool} (hr : ok = false ∨ e.loadImage.1 = false) :
    Completes (.imageCopyDone dt ok) s (fun t =>
      t.pwr = { e.loadImage.2.pwr with step := 6, stuck := true } ∧ t.nvm = { e.loadImage.2.nvm with noImg := true, act := 0 } ∧
        OnlyIn [.pwr, .nvm, .ecp, .net] e.loadImage.2 t) := by
  have hrun := imageCopyDone_exec he h ok
  generalize e.loadImage = r at hrun hr ⊢
  have hnot : ¬(ok && r.1) = true := by
    rcases hr with hr | hr <;> simp [hr]
  rw [if_neg hnot] at hrun
  have hcheck := onlyIn_portCheck r.2.noImage
  have hno : OnlyIn [.pwr, .nvm, .ecp, .net] r.2 r.2.noImage := by
    intro p hp
    cases p <;> simp_all [Part.same, State.noImage]
  exact ⟨_, hrun, hcheck .pwr (by simp), hcheck .nvm (by simp), hno.trans (hcheck.mono (by simp))⟩

include he in
theorem configLoad_exec (h : e.atStep 6 = true) (hs : e.stw = true) :
    exec (.configLoad dt) s =
      (let u := e.configIn.startLedger
      .next (({ u with nvm := { u.nvm with fbDue := false } }).present u.startSources)) := by
  subst he
  rw [exec_configLoad]
  exact if_pos (by rw [h, hs]; rfl)

/-- The copy with the higher generation among the valid ones is loaded; where both have one generation, copy A (R63). -/
theorem loadConfig_eq (e : State) :
    e.loadConfig =
      if e.cfgValid e.ovl.copyA = true ∧ (e.cfgValid e.ovl.copyB_ = true → e.ovl.copyB_.gen ≤ e.ovl.copyA.gen) then
        ({ e with ovl := { e.ovl with copyB := false } }).loadCfg e.ovl.copyA
      else if e.cfgValid e.ovl.copyB_ = true then ({ e with ovl := { e.ovl with copyB := true } }).loadCfg e.ovl.copyB_
      else { e with ovl := { e.ovl with cfgLost := true } } := by
  unfold State.loadConfig
  cases hA : e.cfgValid e.ovl.copyA <;> cases hB : e.cfgValid e.ovl.copyB_
  · simp [hA, hB]
  · simp [hA, hB]
  · simp [hA, hB]
  · by_cases hgen : e.ovl.copyB_.gen ≤ e.ovl.copyA.gen
    · simp [hA, hB, hgen, Nat.not_lt.mpr hgen]
    · simp [hA, hB, hgen, Nat.not_le.mp hgen]

/-! ### The ledger entries of a start-up -/

/-- MRAM is read where no word of it has an error: only what it holds beside its words may differ, and no ledger entry falls due. -/
structure ReadsClean (s t : State) : Prop where
  onlyIn : OnlyIn [.nvm] s t
  due : t.nvm.ledgDue = s.nvm.ledgDue

theorem ReadsClean.refl (s : State) : ReadsClean s s := ⟨.refl, rfl⟩

theorem ReadsClean.trans {a b c : State} (h : ReadsClean a b) (k : ReadsClean b c) : ReadsClean a c :=
  ⟨h.onlyIn.trans k.onlyIn, k.due.trans h.due⟩

theorem ReadsClean.eccOf {a b : State} (h : ReadsClean a b) (x : EccArea) (w : Nat) : b.eccOf x w = a.eccOf x w := by
  unfold State.eccOf
  rw [show b.ecc = a.ecc from h.onlyIn .ecc (by simp)]

theorem readsClean_mramTouch {s : State} {w : Nat} (h : s.eccOf .mram w = none) : ReadsClean s (s.mramTouch w) := by
  unfold State.mramTouch
  rw [h]
  refine ⟨?_, rfl⟩
  intro p hp
  cases p <;> simp_all [Part.same]

theorem readsClean_foldl {α : Type} {f : State → α → State} {s : State}
    (h : ∀ u x, ReadsClean s u → ReadsClean u (f u x)) (l : List α) : ReadsClean s (l.foldl f s) :=
  List.foldlRecOn l f (motive := fun t => ReadsClean s t) (.refl s) (fun u hu x _ => hu.trans (h u x hu))

theorem readsClean_mramRead {s : State} (h : ∀ w, s.eccOf .mram w = none) (a n : Nat) : ReadsClean s (s.mramRead a n).2 := by
  refine readsClean_foldl ?_ (wordsOf a n)
  intro u w hu
  exact readsClean_mramTouch ((hu.eccOf .mram w).trans (h w))

/-- One slot of the ledger in the search for the newest entry: the newest so far, and the state after its read (R415). -/
def State.ledgTry (r : (Nat × Nat) × State) (i : Nat) : (Nat × Nat) × State :=
  match r.2.ledgSeq i with
  | (some q, s) => (if r.1.2 < q then (i, q) else r.1, s)
  | (none, s) => (r.1, s)

theorem ledgTry_state (r : (Nat × Nat) × State) (i : Nat) : (State.ledgTry r i).2 = (r.2.mramRead (ledgAddr i) 32).2 := by
  have h : (r.2.ledgSeq i).2 = (r.2.mramRead (ledgAddr i) 32).2 := rfl
  rw [← h]
  unfold State.ledgTry
  generalize r.2.ledgSeq i = p
  obtain ⟨q, t⟩ := p
  cases q <;> rfl

/-- The search for the newest entry in the slots of a list (R415). -/
def State.ledgOver (s : State) (l : List Nat) : State :=
  let r := l.foldl State.ledgTry ((2047, 0), s)
  { r.2 with nvm := { r.2.nvm with head := r.1.1, lastSeq := r.1.2 } }

/-- What holds of a search whatever its slots holds of the search through all of them. The 2,048 slots are made a list of any length before
the definition is compared, for the kernel would count them out. -/
theorem ledgScan_of_slots {P : State → Prop} {s : State} (h : ∀ l, P (s.ledgOver l)) : P s.ledgScan := by
  have hdef := Eq.refl State.ledgScan
  conv at hdef => rhs; delta State.ledgScan
  obtain ⟨l, hl⟩ : ∃ l, List.range 2048 = l := ⟨_, rfl⟩
  rw [hdef, hl]
  exact h l

theorem readsClean_ledgTry (l : List Nat) (r : (Nat × Nat) × State) (h : ∀ w, r.2.eccOf .mram w = none) :
    ReadsClean r.2 (l.foldl State.ledgTry r).2 := by
  induction l generalizing r with
  | nil => exact .refl r.2
  | cons i l ih =>
    have hone : ReadsClean r.2 (State.ledgTry r i).2 := by
      rw [ledgTry_state]
      exact readsClean_mramRead h _ _
    exact hone.trans (ih _ (fun w => (hone.eccOf .mram w).trans (h w)))

/-- The search for the newest entry reads the ledger, and no more (R415). -/
theorem readsClean_ledgScan {s : State} (h : ∀ w, s.eccOf .mram w = none) : ReadsClean s s.ledgScan := by
  refine ledgScan_of_slots (fun l => ?_)
  have hnoted : OnlyIn [.nvm] (l.foldl State.ledgTry ((2047, 0), s)).2 (s.ledgOver l) := by
    intro p hp
    cases p <;> simp_all [Part.same, State.ledgOver]
  exact (readsClean_ledgTry l ((2047, 0), s) h).trans ⟨hnoted, rfl⟩

/-- An entry falls due, and after it that of a dip where one ended in the reset (R37, R415). -/
def State.ledgerDue (u : State) (x : LedgEnt) (dip : Bool) : State :=
  let u := u.ledger x
  if dip then
    ({ u with aon := { u.aon with dipReset := false } }).ledger (u.dipEntry (min 4294967295 (10 * u.aon.dipDuration)) true)
  else u

theorem startLedger_eq (e : State) : e.startLedger = e.ledgScan.ledgerDue e.startEntry e.aon.dipReset := by
  unfold State.startLedger
  obtain ⟨u, hu⟩ : ∃ u, e.ledgScan = u := ⟨_, rfl⟩
  rw [hu]
  rfl

theorem ledgerDue_clean {e u : State} (h : ReadsClean e u) (x : LedgEnt) :
    (u.ledgerDue x e.aon.dipReset).nvm.ledgDue =
        e.nvm.ledgDue ++ [x] ++
          (if e.aon.dipReset = true then [e.dipEntry (min 4294967295 (10 * e.aon.dipDuration)) true] else []) ∧
      (u.ledgerDue x e.aon.dipReset).aon.dipReset = false ∧ OnlyIn [.nvm, .aon] e (u.ledgerDue x e.aon.dipReset) := by
  have haon : u.aon = e.aon := h.onlyIn .aon (by simp)
  have honly : OnlyIn [.nvm, .aon] e u := h.onlyIn.mono (by simp)
  unfold State.ledgerDue State.ledger State.dipEntry
  cases hdip : e.aon.dipReset
  · simp only [haon, hdip, h.due, Bool.false_eq_true, if_false, List.append_nil, true_and]
    refine honly.trans ?_
    intro p hp
    cases p <;> simp_all [Part.same]
  · simp only [haon, h.due, if_true, true_and]
    refine honly.trans ?_
    intro p hp
    cases p <;> simp_all [Part.same]

/-- The entries that a start-up makes due, and the record of the dip that its reset ended (R37, R415). -/
theorem startLedger_clean {e : State} (h : ∀ w, e.eccOf .mram w = none) :
    e.startLedger.nvm.ledgDue =
        e.nvm.ledgDue ++ [e.startEntry] ++
          (if e.aon.dipReset = true then [e.dipEntry (min 4294967295 (10 * e.aon.dipDuration)) true] else []) ∧
      e.startLedger.aon.dipReset = false ∧ OnlyIn [.nvm, .aon] e e.startLedger := by
  rw [startLedger_eq]
  exact ledgerDue_clean (readsClean_ledgScan h) e.startEntry

/-! ### The ports and the mode that a start-up ends in -/

theorem relayAt_setPort (s : State) (p : PortId) (f : Port → Port) : (s.setPort p f).ecp.relayAt = s.ecp.relayAt := by cases p <;> rfl

theorem relayAt_send (s : State) (p : PortId) (f : Frame) : (s.send p f).ecp.relayAt = s.ecp.relayAt := by
  unfold State.send
  split
  · split <;> exact relayAt_setPort ..
  · rfl

theorem relayAt_portLost (s : State) (p : PortId) : (s.portLost p).ecp.relayAt = s.ecp.relayAt := by
  unfold State.portLost
  split
  · split
    · exact relayAt_send ..
    · rfl
  · exact relayAt_setPort ..

theorem relayAt_portTrain (s : State) (p : PortId) : (s.portTrain p).ecp.relayAt = s.ecp.relayAt := by
  unfold State.portTrain
  extract_lets was u
  split
  · exact (relayAt_portLost u p).trans (relayAt_setPort ..)
  · exact relayAt_setPort ..

theorem relayAt_portOff (s : State) (p : PortId) : (s.portOff p).ecp.relayAt = s.ecp.relayAt := by
  unfold State.portOff
  extract_lets was u
  split
  · exact (relayAt_portLost u p).trans (relayAt_setPort ..)
  · exact relayAt_setPort ..

/-- The instant at which wake tones follow does not hang on the states of the ports (R299). -/
theorem relayAt_portCheck (s : State) : s.portCheck.ecp.relayAt = s.ecp.relayAt := by
  have hone : ∀ (u : State) (p : PortId),
      (if u.portOn p then (if (u.port p).st = .off then u.portTrain p else u)
        else (if (u.port p).st = .off then u else u.portOff p)).ecp.relayAt = u.ecp.relayAt := by
    intro u p
    split <;> split
    · exact relayAt_portTrain u p
    · rfl
    · rfl
    · exact relayAt_portOff u p
  exact (hone _ .south).trans (hone s .north)

/-- Start-up step 8, before the ports are turned on (R43, R299). -/
def State.portsDue (e : State) : State :=
  { e with
    pwr := { e.pwr with step := 8 }
    ecp := { e.ecp with relayAt := if e.aon.resetCause = 4 ∧ e.aon.wakeCause = 2 then some (e.clk + 40000) else none } }

include he in
theorem portEnable_exec (h : e.atStep 7 = true) : exec (.portEnable dt) s = .next e.portsDue.portCheck := by
  subst he
  rw [exec_portEnable]
  simp [execPortEnable, State.portsDue, h, usTicks]

include he in
theorem portEnable_completes (h : e.atStep 7 = true) :
    Completes (.portEnable dt) s (fun t =>
      t.pwr = { e.pwr with step := 8 } ∧
        t.ecp.relayAt =
          (if e.aon.resetCause = 4 ∧ e.aon.wakeCause = 2 then some (e.clk + 40000) else none) ∧
        OnlyIn [.pwr, .ecp, .net] e t) := by
  have hcheck := onlyIn_portCheck e.portsDue
  have hdue : OnlyIn [.pwr, .ecp, .net] e e.portsDue := by
    intro p hp
    cases p <;> simp_all [Part.same, State.portsDue]
  exact ⟨_, portEnable_exec he h, hcheck .pwr (by simp), relayAt_portCheck _, hdue.trans (hcheck.mono (by simp))⟩

/-- The mode that start-up step 9 enters: a reaction held or latched comes before START_MODE (R466). -/
def State.startTarget (e : State) : Mode :=
  if e.pwr.heldReact = some .lockout ∨ e.aon.lockout = true then .lockout
  else if e.pwr.heldReact.isSome = true ∨ e.ovl.cfgLost = true then .safe else e.startMode

/-- Start-up is done, and what RESET held is taken up (R198, R466). -/
def State.startedUp (e : State) : State := { e with pwr := { e.pwr with step := 9, heldReact := none, autoDue := true } }

include he in
theorem startModeEntry_exec (h : e.atStep 8 = true) (hc : e.pwr.commit = none) :
    exec (.startModeEntry dt) s =
      .next (e.startedUp.beginCommit e.startTarget
        (if e.pwr.heldReact.isSome then .reaction else .auto)) := by
  subst he
  rw [exec_startModeEntry]
  exact if_pos (by rw [h, hc]; rfl)

include he in
theorem startModeEntry_completes (h : e.atStep 8 = true) (hc : e.pwr.commit = none) :
    Completes (.startModeEntry dt) s (fun t =>
      t.pwr.step = 9 ∧ t.pwr.heldReact = none ∧ t.pwr.commit.map (·.target) = some e.startTarget ∧
        OnlyIn [.pwr, .seq] e t) := by
  have hstarted : OnlyIn [.pwr, .seq] e e.startedUp := by
    intro p hp
    cases p <;> simp_all [Part.same, State.startedUp]
  exact ⟨_, startModeEntry_exec he h hc, rfl, rfl, rfl, hstarted.trans (onlyIn_beginCommit _ _ _)⟩

include he in
theorem autoload_exec (hd : e.pwr.autoDue = true) (hc : e.pwr.commit = none)
    (hm : e.modeIn 3 11 = true) :
    exec (.autoload dt) s =
      (let u := { e with pwr := { e.pwr with autoDue := false } }
      .next (if e.bit 0xC60 31 = true then u.loadStart 0 else u)) := by
  subst he
  rw [exec_autoload]
  exact if_pos (by rw [hd, hc, hm]; rfl)

end StartUp

/-- Settles O17: each step of start-up decides by the step before it, and the laws of the search for the newest entry, of the ports and
of the commit say what it leaves. -/
theorem startUp : Obligations.StartUp := by
  intro s dt e
  have he : s.elapse dt = e := rfl
  clear_value e
  refine ⟨vstkResetRising_exec he, loaderStart_copies he, fun h => ?image, configLoad_exec he, startLedger_clean, loadConfig_eq e,
    portEnable_completes he, startModeEntry_completes he, autoload_exec he⟩
  case image => exact ⟨fun hr => (imageCopyDone_exec he h true).trans (congrArg _ (if_pos hr)), fun ok => imageCopyDone_completes he h⟩

/-! ## STILL, the wakes and WATCH (R41, R47 to R49, R298, R443, R444, R453) -/

/-! ### Wakes -/

theorem wake_ship {s : State} (h : s.pwr.mode = .ship) (cause : Nat) :
    s.wake cause = { s with pwr := { s.pwr with wakeDue := some cause } } := by
  unfold State.wake
  rw [h]

theorem wake_still {s : State} (h : s.pwr.mode = .still) (cause : Nat) :
    s.wake cause = { s with pwr := { s.pwr with wakeDue := some cause } } := by
  unfold State.wake
  rw [h]

/-- A wake from WATCH takes the route to MEASURE (Table 2.7). -/
theorem wake_watch {s : State} (h : s.pwr.mode = .watch) (hc : s.pwr.commit = none) (cause : Nat) :
    (s.wake cause).aon.wakeCause = cause ∧ (s.wake cause).pwr.commit.map (·.target) = some .measure ∧
      OnlyIn [.aon, .pwr, .seq, .ecp] s (s.wake cause) := by
  have hwake : s.wake cause =
      ({ s with
        aon := { s.aon with wakeCause := cause }, ecp := { s.ecp with relayDue := decide (cause = 2) } }).beginCommit .measure .auto := by
    unfold State.wake
    rw [h, hc]
    rfl
  rw [hwake]
  refine ⟨rfl, rfl, OnlyIn.trans ?_ ((onlyIn_beginCommit _ _ _).mono (by simp))⟩
  intro p hp
  cases p <;> simp_all [Part.same]

theorem lpoTicks_supplied {e : State} (h : e.pwr.mode ≠ .ship) (len : Nat) : e.lpoTicks len = len := if_pos h

theorem lpoTicks_ship {e : State} (h : e.pwr.mode = .ship) (len : Nat) :
    e.lpoTicks len = if e.pwr.lpoRun = true then min len (e.clk - e.pwr.lpoAt) else 0 := if_neg (not_not_intro h)

theorem filtered_short {s : State} {lo len : Nat} (h : len < lo) (pin hi : Nat) : s.filtered pin lo hi len = (false, s) := if_pos h

theorem filtered_long {s : State} {lo hi len : Nat} (hl : lo ≤ hi) (h : hi < len) (pin : Nat) : s.filtered pin lo hi len = (true, s) :=
  (if_neg (by omega)).trans (if_pos h)

section
variable {s e : State} {dt : Nat} (he : s.elapse dt = e)
include he

/-- The next cell of the scan is compared, and a cell outside its limits wakes the device (R47). -/
theorem stillScan_exec {cell : Nat} (hm : e.pwr.mode = .still) (hc : cell = e.pwr.scanCell) (mv : Int) :
    let u := e.until_ (e.pwr.scanAt + 800000)
    let v := { u with pwr := { u.pwr with scanAt := u.clk, scanCell := if cell = 24 then 1 else cell + 1 } }
    exec (.stillScan dt cell mv) s =
      .next (if (mv < ((e.eff 0x10C).extractLsb' 16 16).toInt ∨ ((e.eff 0x10C).extractLsb' 0 16).toInt < mv) ∧
          e.used cell = true ∧ e.busbar cell = false ∧ e.bit 0x10B 2 = true then
        { v with pwr := { v.pwr with wakeDue := some 3 } }
      else v) := by
  intro u v
  have honly : OnlyIn [.time, .pwr] e v := by
    refine ((onlyIn_until e _).mono (by simp)).trans (?_ : OnlyIn [.time, .pwr] u v)
    intro p hp
    cases p <;> simp_all [Part.same, v]
  have hmode : v.pwr.mode = .still := by
    rw [show v.pwr.mode = u.pwr.mode from rfl, show u.pwr = e.pwr from onlyIn_until e _ .pwr (by simp)]
    exact hm
  have hrun : exec (.stillScan dt cell mv) s =
      .next (if ((decide (((v.eff 0x10C).extractLsb' 0 16).toInt < mv) || decide (mv < ((v.eff 0x10C).extractLsb' 16 16).toInt)) &&
          v.used cell && !v.busbar cell && v.bit 0x10B 2) = true then v.wake 3 else v) := by
    rw [exec_stillScan]
    unfold execStillScan
    rw [he]
    exact if_pos ⟨hm, hc⟩
  rw [hrun, wake_still hmode, eff_of_onlyIn honly (by simp) (by simp), used_of_onlyIn honly (by simp) (by simp),
    busbar_of_onlyIn honly (by simp) (by simp), bit_of_onlyIn honly (by simp) (by simp)]
  refine congrArg _ (if_congr ?_ rfl rfl)
  simp [or_comm, and_assoc]

/-- The wake timer of STILL expires (R41). -/
theorem wakeTimerExpiry_exec (hm : e.pwr.mode = .still) (ht : e.fld 0x10B 16 16 ≠ 0) :
    let u := e.until_ (e.pwr.modeAt + e.fld 0x10B 16 16 * 200000000)
    exec (.wakeTimerExpiry dt) s = .next { u with pwr := { u.pwr with wakeDue := some 4 } } := by
  intro u
  have hmode : u.pwr.mode = .still := by
    rw [show u.pwr = e.pwr from onlyIn_until e _ .pwr (by simp)]
    exact hm
  have hrun : exec (.wakeTimerExpiry dt) s = .next ((e.until_ (e.pwr.modeAt + e.fld 0x10B 16 16 * 1000 * msTicks)).wake 4) := by
    rw [exec_wakeTimerExpiry]
    unfold execWakeTimerExpiry
    rw [he]
    exact if_pos ⟨hm, ht⟩
  have hticks : e.fld 0x10B 16 16 * 1000 * msTicks = e.fld 0x10B 16 16 * 200000000 := by rw [Nat.mul_assoc]; rfl
  rw [hrun, hticks]
  exact congrArg _ (wake_still hmode 4)

theorem wakePin_short {len : Nat} (h : e.lpoTicks len < 9400) : exec (.wakePin ⟨dt, len⟩) s = .next e := by
  rw [exec_wakePin]
  unfold execWakePin
  rw [he]
  simp [filtered_short h]

theorem wakePin_long {len : Nat} (h : 10400 < e.lpoTicks len) (hb : e.bit 0x10B 0 = true) :
    exec (.wakePin ⟨dt, len⟩) s = .next (e.wake 1) := by
  rw [exec_wakePin]
  unfold execWakePin
  rw [he]
  simp [filtered_long (lo := 9400) (by decide) h, hb]

theorem wakeTone_exec (hb : e.bit 0x10B 1 = true) (hp : e.pwr.portsOff = false)
    (hm : e.pwr.mode ≠ .ship ∨ (e.pwr.lpoRun = true ∧ e.pwr.lpoAt + 38000 ≤ e.clk)) (p : PortId) :
    exec (.wakeToneDetected dt p) s = .next (e.wake 2) := by
  have hsince : e.pwr.mode ≠ .ship ∨ (e.pwr.lpoRun = true ∧ e.since e.pwr.lpoAt 38000 = true) := by
    simpa [State.since] using hm
  rw [exec_wakeToneDetected]
  unfold execWakeToneDetected
  rw [he]
  exact if_pos ⟨hb, by simp [hp], hsince⟩

end

/-! ### Bursts -/

theorem onlyIn_notePower (s : State) : OnlyIn [.thm] s s.notePower := by
  intro p hp
  cases p <;> simp_all [Part.same, State.notePower]

theorem onlyIn_owDue (s : State) : OnlyIn [.cfe] s s.owDue := by
  unfold State.owDue
  intro p hp
  split
  · exact OnlyIn.refl (ps := [.cfe]) p hp
  · split <;> cases p <;> simp_all [Part.same, State.owBegin]

theorem onlyIn_owEnter (s : State) : OnlyIn [.cfe] s s.owEnter := by
  have hfirst : OnlyIn [.cfe] s { s with cfe := { s.cfe with first := false } } := by
    intro p hp
    cases p <;> simp_all [Part.same]
  unfold State.owEnter
  split
  · extract_lets due _ u
    split
    · exact hfirst.trans (onlyIn_owDue u)
    · exact hfirst
  · exact .refl

/-- The core is clocked again, at the start of a burst: the gated time counts for no watchdog (R48, R204). -/
def State.clocked (u : State) : State :=
  let w := u.jetsAfterGap (u.clk - u.pwr.gateAt)
  { w with
    pwr := { w.pwr with burst := true, burstAt := w.clk, buckBurst := true, supMask := false }
    flt := { w.flt with stwKey := w.flt.stwKey + (u.clk - u.pwr.gateAt) } }

theorem clocked_jet (u : State) {j : Nat} (h : j < 8) :
    (u.clocked.jet j).wdFrom = (u.jet j).wdFrom + (u.clk - u.pwr.gateAt) ∧
      (u.clocked.jet j).busyTo = (u.jet j).busyTo + (u.clk - u.pwr.gateAt) := by
  unfold State.jet State.clocked State.jetsAfterGap
  simp [vget_map _ _ _ h]

/-- What holds of a state that keeps all but the powers and the open-wire checks of one in which the core is clocked again. -/
theorem clocked_begins {e u t : State} (hu : OnlyIn [.time] e u) (ht : OnlyIn [.thm, .cfe] u.clocked t) :
    t.clk = u.clk ∧ t.pwr.burst = true ∧ t.pwr.burstAt = t.clk ∧ t.pwr.supMask = false ∧
      (∀ j < 8, (t.jet j).wdFrom = (e.jet j).wdFrom + (t.clk - e.pwr.gateAt) ∧
        (t.jet j).busyTo = (e.jet j).busyTo + (t.clk - e.pwr.gateAt)) ∧
      t.flt.stwKey = e.flt.stwKey + (t.clk - e.pwr.gateAt) := by
  have hgate : u.pwr.gateAt = e.pwr.gateAt := congrArg Pwr.gateAt (hu .pwr (by simp))
  have hkey : u.flt.stwKey = e.flt.stwKey := congrArg Flt.stwKey (hu .flt (by simp))
  have hjet : ∀ j, u.jet j = e.jet j := fun j => congrArg (vget · Jet.init j) (congrArg Seq.jets (hu .seq (by simp)))
  have htime : t.clk = u.clk := congrArg Time.clk (ht .time (by simp))
  have hpwr : t.pwr = u.clocked.pwr := ht .pwr (by simp)
  have hflt : t.flt = u.clocked.flt := ht .flt (by simp)
  have htjet : ∀ j, t.jet j = u.clocked.jet j := fun j => congrArg (vget · Jet.init j) (congrArg Seq.jets (ht .seq (by simp)))
  rw [htime, hpwr, hflt, ← hgate, ← hkey]
  refine ⟨rfl, rfl, rfl, rfl, fun j hj => ?_, rfl⟩
  rw [htjet, ← hjet]
  exact clocked_jet u hj

section
variable {s e : State} {dt : Nat} (he : s.elapse dt = e)
include he

theorem buckBurstEnable_exec (hm : e.pwr.mode = .watch) (hb : e.pwr.burst = false) (hk : e.pwr.buckBurst = false) :
    let u := e.until_ (e.pwr.burstAt + e.watchTicks - 40000)
    exec (.buckBurstEnable dt) s = .next { u with pwr := { u.pwr with buckBurst := true, buckAt := u.clk } } := by
  rw [exec_buckBurstEnable]
  unfold execBuckBurstEnable
  rw [he]
  exact if_pos ⟨hm, by simp [hb], by simp [hk]⟩

theorem supervisorUnmask_exec (hm : e.pwr.mode = .watch) (hk : e.pwr.buckBurst = true) (hs : e.pwr.supMask = true) :
    let u := e.until_ (e.pwr.buckAt + 30000)
    exec (.supervisorUnmask dt) s = .next { u with pwr := { u.pwr with supMask := false } } := by
  rw [exec_supervisorUnmask]
  unfold execSupervisorUnmask
  rw [he]
  exact if_pos ⟨hm, hk, hs⟩

theorem watchBurstStart_exec (hm : e.pwr.mode = .watch) (hb : e.pwr.burst = false) :
    exec (.watchBurstStart dt) s = .next (e.until_ (e.pwr.burstAt + e.watchTicks)).clocked.notePower.owEnter := by
  rw [exec_watchBurstStart]
  unfold execWatchBurstStart
  rw [he]
  exact if_pos ⟨hm, by simp [hb]⟩

/-- A burst begins at its instant, and shifts what counts core cycles by the gated time (R48, R204, R367). -/
theorem watchBurstStart_completes (hm : e.pwr.mode = .watch) (hb : e.pwr.burst = false) :
    Completes (.watchBurstStart dt) s (fun t =>
      t.clk = max e.clk (e.pwr.burstAt + e.watchTicks) ∧ t.pwr.burst = true ∧ t.pwr.burstAt = t.clk ∧ t.pwr.supMask = false ∧
        (∀ j < 8, (t.jet j).wdFrom = (e.jet j).wdFrom + (t.clk - e.pwr.gateAt) ∧
          (t.jet j).busyTo = (e.jet j).busyTo + (t.clk - e.pwr.gateAt)) ∧
        t.flt.stwKey = e.flt.stwKey + (t.clk - e.pwr.gateAt)) := by
  have hend : ∀ u : State, OnlyIn [.thm, .cfe] u.clocked u.clocked.notePower.owEnter := fun u =>
    ((onlyIn_notePower _).mono (by simp)).trans ((onlyIn_owEnter _).mono (by simp))
  obtain ⟨hclk, hrest⟩ := clocked_begins (onlyIn_until e (e.pwr.burstAt + e.watchTicks)) (hend _)
  exact ⟨_, watchBurstStart_exec he hm hb, hclk.trans (until_clk e _), hrest⟩

theorem watchBurstEnd_exec (hm : e.pwr.mode = .watch) (hb : e.pwr.burst = true) (hc : e.convs = []) (hr : e.cfe.run = none) :
    exec (.watchBurstEnd dt) s =
      .next (let r := e.readsNow
        State.notePower { r with pwr := { r.pwr with burst := false, buckBurst := false, supMask := true, gateAt := r.clk } }) := by
  rw [exec_watchBurstEnd]
  unfold execWatchBurstEnd
  rw [he]
  exact if_pos ⟨hm, hb, hc, hr⟩

end

/-! ### Pins (Table 18.2) -/

theorem pinCol_sleep {u : State} (h : u.pwr.mode = .ship ∨ u.pwr.mode = .still) : u.pinCol = .sleep := by
  unfold State.pinCol
  rcases h with h | h <;> rw [h]

theorem pinCol_watch {u : State} (h : u.pwr.mode = .watch) : u.pinCol = .watch := by
  unfold State.pinCol
  rw [h]

theorem pinCol_lockout {u : State} (h : u.pwr.mode = .lockout) : u.pinCol = .run := by
  unfold State.pinCol
  rw [h]

/-- Settles O19: each command decides by the mode, the clock and the pulse, and the pins are read off the column of Table 18.2. -/
theorem stillAndWatch : Obligations.StillAndWatch := by
  refine ⟨fun s dt => ?_, fun s dt => ?_, fun u => ?pins⟩
  · intro e
    have he : s.elapse dt = e := rfl
    clear_value e
    refine ⟨fun cell mv hm hc => stillScan_exec he hm hc mv, wakeTimerExpiry_exec he, fun len => ?pulse, fun p hb hp hm => ?tone,
      fun len hl hm hc hb => ?watch, fun hm => ⟨?start, fun hw => ?stop⟩⟩
    case pulse =>
      refine ⟨fun hm => lpoTicks_supplied hm len, fun hm => lpoTicks_ship hm len, wakePin_short he, fun hl hb hm => ?_⟩
      rw [wakePin_long he hl hb]
      rcases hm with hm | hm
      · rw [wake_still hm]
      · rw [wake_ship hm]
    case tone =>
      rcases hm with hm | ⟨hm, hlpo⟩
      · rw [wakeTone_exec he hb hp (Or.inl (by simp [hm])), wake_still hm]
      · rw [wakeTone_exec he hb hp (Or.inr hlpo), wake_ship hm]
    case watch =>
      have hnot : e.pwr.mode ≠ .ship := by simp [hm]
      exact ⟨_, wakePin_long he (by rw [lpoTicks_supplied hnot]; exact hl) hb, wake_watch hm hc 1⟩
    case start =>
      rw [exec_lpoShipStart]
      unfold execLpoShipStart
      rw [he]
      exact congrArg _ (if_pos hm)
    case stop =>
      rw [exec_lpoShipStop]
      unfold execLpoShipStop
      rw [he]
      exact congrArg _ (if_pos ⟨hm, hw⟩)
  · intro e
    have he : s.elapse dt = e := rfl
    clear_value e
    exact fun hm => ⟨buckBurstEnable_exec he hm, supervisorUnmask_exec he hm, watchBurstStart_completes he hm, watchBurstEnd_exec he hm⟩
  case pins =>
    refine ⟨fun hm => ?_, fun hm => ?_, fun hm => ?_⟩
    · have hcol := pinCol_sleep hm
      simp [State.pin, State.balPin, hcol]
    · have hcol := pinCol_watch hm
      refine ⟨fun k => ?_, fun n => ?_, fun hb => ?_, fun hk hb => ?_, ?_, fun p => ?_⟩
      · simp [State.pin, hcol]
      · simp [State.pin, State.balPin, hcol]
      · simp [State.pin, hcol, hb]
      · simp [State.pin, hcol, hk, hb]
      · simp [State.pin, hcol]
      · simp [State.pin, hcol]
    · have hcol := pinCol_lockout hm
      simp [State.pin, State.flowPin, hcol, hm]

/-! ## The configuration lock (R57) -/

/-- The measuring device, with a record of the core cycle after the present one in which the device itself set every bit of 0x10A. -/
def keyRegisterSet : State := { measuringDevice with cyc := [{ Cyc.fresh 1 with wc := [(0x10A, 0xFFFFFFFF)] }] }

/-- The two keys as they are written, one core cycle apart: the second loses its bits to those that the device set (R12). -/
def keyRegisterSetKeyed : State :=
  let s := (keyRegisterSet.elapse 0).access .chain 0x10A 0x1F2E
  (s.elapse s.cycle).access .chain 0x10A 0x3D4C

theorem keyRegisterSet_lockOpen : exec (.lockOpen 0 .chain) keyRegisterSet = .next keyRegisterSetKeyed := rfl

theorem keyRegisterSet_stays_closed : keyRegisterSetKeyed.pwr.lockOwner = none := by decide

/-- Refutes O21: nothing is asked of the record of the core cycle in which the second key is written, and there the write loses the bits
that the device set in that cycle (R12). With such a record the chain's LOCK_OPEN leaves the lock closed. The
statement is about every state, and so is its refutation: that a run from reset comes to such a record is not claimed. -/
theorem not_lockAndConfiguration : ¬ Obligations.LockAndConfiguration := by
  intro h
  obtain ⟨hopen, _⟩ := h keyRegisterSet 0 .chain
  obtain ⟨t, ht, howner, _⟩ := hopen (by decide) rfl (Or.inl rfl)
  obtain rfl : keyRegisterSetKeyed = t := by
    rw [keyRegisterSet_lockOpen] at ht
    injection ht
  rw [keyRegisterSet_stays_closed] at howner
  cases howner

/-! ## Chain-wide mode changes (R65, R66, R68) -/

theorem onlyIn_rxPut (s : State) (x : RxEnt) : OnlyIn [.net] s (s.rxPut x) := by
  unfold State.rxPut
  intro p hp
  split <;> cases p <;> simp_all [Part.same]

theorem onlyIn_tagAnswer (s : State) (f : Frame) : OnlyIn [.net] s (s.tagAnswer f) := by
  have hnet : ∀ n : Net, OnlyIn [.net] s { s with net := n } := by
    intro n p hp
    cases p <;> simp_all [Part.same]
  unfold State.tagAnswer
  split
  · exact hnet _
  · extract_lets x
    split
    · exact (hnet _).trans (onlyIn_rxPut _ _)
    · split
      · exact (hnet _).trans (onlyIn_rxPut _ _)
      · exact hnet _

/-- An answer leaves by a port, or enters the bridge's own receive queue (R286, R308). -/
theorem onlyIn_respond (s : State) (typ cls tag : Nat) (payload : Bytes) : OnlyIn [.ecp, .net] s (s.respond typ cls tag payload) := by
  unfold State.respond
  extract_lets f
  split
  · split
    · exact (onlyIn_rxPut _ _).mono (by simp)
    · exact (onlyIn_tagAnswer _ _).mono (by simp)
  · exact (send_port _ _ _ .north).2.mono (by simp)

theorem onlyIn_modeAck (s : State) (tag st cause epoch : Nat) : OnlyIn [.ecp, .net] s (s.modeAck tag st cause epoch) :=
  onlyIn_respond s 12 1 tag _

/-- Where the judgement of a PREPARE finds no cause to refuse it, the change is PREPARED and answered (R65). -/
theorem takePrepare_accepted {u : State} {tag target epoch : Nat} {tc : Tick} (hd : u.prepDeaf = false)
    (hj : u.prepJudge epoch target tc = none) :
    (u.takePrepare tag target epoch tc).pwr.prepared = some ⟨epoch, target, tc⟩ ∧
      (u.takePrepare tag target epoch tc).pwr.prepState = 1 ∧ (u.takePrepare tag target epoch tc).pwr.prepEpoch = epoch ∧
        (u.takePrepare tag target epoch tc).pwr.prepTarget = target ∧
          OnlyIn [.pwr, .ecp, .net] u (u.takePrepare tag target epoch tc) := by
  have hprep : OnlyIn [.pwr] u (u.prepare epoch target tc) := by
    unfold State.prepare
    rw [hj]
    intro p hp
    cases p <;> simp_all [Part.same]
  have hack := onlyIn_modeAck (u.prepare epoch target tc) tag 1 0 epoch
  have htake : u.takePrepare tag target epoch tc = (u.prepare epoch target tc).modeAck tag 1 0 epoch := by
    unfold State.takePrepare
    simp [hd, hj]
  have hpwr : (u.takePrepare tag target epoch tc).pwr = (u.prepare epoch target tc).pwr := by
    rw [htake]
    exact hack .pwr (by simp)
  rw [hpwr, htake]
  refine ⟨?_, ?_, ?_, ?_, (hprep.mono (by simp)).trans (hack.mono (by simp))⟩ <;> simp [State.prepare, hj]

theorem reached_false_of_lt {u : State} {tc : Tick} (h : u.tb < tc) : u.reached tc = false :=
  decide_eq_false (BitVec.not_le.mpr h)

/-- A COMMIT that comes before its T is kept for it (R66). -/
theorem commitFrame_kept {u : State} {epoch : Nat} {tc : Tick} (hs : u.staleEpoch epoch = false) (hl : u.lapsedAs epoch ≠ some false)
    (ht : u.tb < tc) (target : Nat) :
    u.commitFrame epoch target tc =
      { u with pwr := { u.pwr with commits := u.pwr.commits ++ [⟨epoch, target, tc, decide (u.tbn + 4000 ≤ tc.toNat)⟩] } } := by
  unfold State.commitFrame
  simp [hs, hl, reached_false_of_lt ht]

theorem takeCommit_kept {u : State} {epoch : Nat} {tc : Tick} (hd : u.prepDeaf = false) (hs : u.staleEpoch epoch = false)
    (hl : u.lapsedAs epoch ≠ some false) (ht : u.tb < tc) (tag target : Nat) :
    (u.takeCommit tag target epoch tc).pwr.commits =
        u.pwr.commits ++ [⟨epoch, target, tc, decide (u.tbn + 4000 ≤ tc.toNat)⟩] ∧
      OnlyIn [.pwr, .ecp, .net] u (u.takeCommit tag target epoch tc) := by
  have hkept := commitFrame_kept hs hl ht target
  have hframe : OnlyIn [.pwr] u (u.commitFrame epoch target tc) := by
    rw [hkept]
    intro p hp
    cases p <;> simp_all [Part.same]
  unfold State.takeCommit
  rw [if_neg (by simp [hd])]
  extract_lets cause
  have hack := onlyIn_modeAck (u.commitFrame epoch target tc) tag u.pwr.prepState cause epoch
  refine ⟨?_, (hframe.mono (by simp)).trans (hack.mono (by simp))⟩
  rw [hack .pwr (by simp), hkept]

/-- A prepared change is the first that is due where every COMMIT held is for its own T. -/
theorem nextT_prepared {u : State} {pr : Prepared} (hp : u.pwr.prepared = some pr) (hmine : ∀ c ∈ u.pwr.commits, c.tc = pr.tc) :
    u.nextT = some pr.tc := by
  have hall : ∀ t ∈ u.pwr.commits.map (·.tc), t = pr.tc := by
    intro t ht
    obtain ⟨c, hc, rfl⟩ := List.mem_map.mp ht
    exact hmine c hc
  unfold State.nextT
  rw [hp]
  generalize u.pwr.commits.map (·.tc) = l at hall
  induction l with
  | nil => rfl
  | cons t l ih =>
    obtain ⟨rfl, hl⟩ := List.forall_mem_cons.mp hall
    simpa using ih hl

/-- Time that passes until the timebase has reached an instant changes no more than the time. -/
theorem onlyIn_untilTb (s : State) (t : Tick) : OnlyIn [.time] s (s.untilTb t) := by
  unfold State.untilTb
  split
  · exact .refl
  · exact onlyIn_elapse _ _

section
variable {s e : State} {dt : Nat} (he : s.elapse dt = e)

include he in
/-- The T of the prepared change is reached, with the COMMITs of the change alone held, all for that T (R66, R68). -/
theorem chainCommitTime_exec {pr : Prepared} {cs : List CommitRec} (hc : e.pwr.commit = none) (hp : e.pwr.prepared = some pr)
    (hcs : e.pwr.commits = cs) (hmine : ∀ c ∈ cs, c.epoch = pr.epoch ∧ c.tc = pr.tc) (hr : (e.untilTb pr.tc).reached pr.tc = true) :
    exec (.chainCommitTime dt) s =
      .next (({ e.untilTb pr.tc with pwr := { (e.untilTb pr.tc).pwr with commits := [] } }).prepDue pr cs) := by
  subst he
  have hnext : (s.elapse dt).nextT = some pr.tc := nextT_prepared hp (by rw [hcs]; exact fun c hin => (hmine c hin).2)
  have hpwr : ((s.elapse dt).untilTb pr.tc).pwr = (s.elapse dt).pwr := onlyIn_untilTb _ pr.tc .pwr (by simp)
  rw [exec_chainCommitTime]
  unfold execChainCommitTime
  simp only [hnext]
  generalize (s.elapse dt).untilTb pr.tc = u at hr hpwr
  rw [hc]
  have hdue : cs.filter (fun c => u.reached c.tc) = cs := List.filter_eq_self.mpr (fun c hin => by rw [(hmine c hin).2]; exact hr)
  have hkept : cs.filter (fun c => !u.reached c.tc) = [] :=
    List.filter_eq_nil_iff.mpr (fun c hin => by rw [(hmine c hin).2, hr]; decide)
  have hown : cs.filter (fun c => decide (c.epoch = pr.epoch) && decide (c.tc = pr.tc)) = cs :=
    List.filter_eq_self.mpr (fun c hin => by simp [hmine c hin])
  have hothers : cs.filter (fun c => !(decide (c.epoch = pr.epoch) && decide (c.tc = pr.tc))) = [] :=
    List.filter_eq_nil_iff.mpr (fun c hin => by simp [hmine c hin])
  rw [← hpwr] at hp hcs
  rw [hp, hcs, hdue, hkept]
  refine (if_neg (by decide)).trans ((if_pos hr).trans ?_)
  rw [hown, hothers]
  rfl

end

/-- A change that a COMMIT came for in time begins at its T (R66). -/
theorem prepDue_begins {u : State} {pr : Prepared} {m : Mode} {cs : List CommitRec} (hc : cs.any (·.early) = true)
    (hm : Mode.ofNum pr.target = some m) (hr : m ≠ .reset) (hn : m ≠ u.pwr.mode) :
    (u.prepDue pr cs).pwr.commit = some ⟨m, .chain pr.epoch, u.snapOf m, u.clk, []⟩ := by
  have ht : pr.target ≠ u.pwr.mode.num := by
    intro h
    rw [h, Mode.ofNum_num] at hm
    exact hn (Option.some.inj hm).symm
  unfold State.prepDue
  rw [if_pos hc, if_neg ht, hm]
  cases m with
  | reset => exact absurd rfl hr
  | _ => rfl

theorem prepDue_missed (u : State) (pr : Prepared) :
    u.prepDue pr [] = (u.dropPrepared pr true).raiseMissed pr.epoch pr.target .noCommit := rfl

/-- Settles O23: the frames are heard by the law of arrival, and T by the law of a prepared change whose COMMITs alone are held. -/
theorem chainModeChanges : Obligations.ChainModeChanges := by
  intro s dt e
  have he : s.elapse dt = e := rfl
  clear_value e
  refine ⟨?prepare, ?commit, ?due, ?missed⟩
  case prepare =>
    intro p h target epoch tc f u hears htarget hepoch hd hj
    refine ⟨u.takePrepare h.tag target epoch tc, ?_, takePrepare_accepted hd hj⟩
    rw [exec_modePrepare]
    unfold execModePrepare
    rw [he, arrive_hears hears, Nat.mod_eq_of_lt htarget, Nat.mod_eq_of_lt hepoch]
  case commit =>
    intro p h target epoch tc f u hears htarget hepoch hd hs hl ht
    refine ⟨u.takeCommit h.tag target epoch tc, ?_, takeCommit_kept hd hs hl ht h.tag target⟩
    rw [exec_modeCommit]
    unfold execModeCommit
    rw [he, arrive_hears hears, Nat.mod_eq_of_lt htarget, Nat.mod_eq_of_lt hepoch]
  case due =>
    intro pr target early hc hp ht hcs u v hr
    refine ⟨chainCommitTime_exec he hc hp hcs (by simp) hr, fun m hearly hm hreset hmode => ?_⟩
    have hpwr : u.pwr = e.pwr := onlyIn_untilTb e pr.tc .pwr (by simp)
    exact prepDue_begins (u := v) (by simp [hearly]) hm hreset (by rw [show v.pwr.mode = u.pwr.mode from rfl, hpwr]; exact hmode)
  case missed =>
    intro pr hc hp ht hcs u hr
    have hpwr : u.pwr.commits = [] := by
      rw [show u.pwr = e.pwr from onlyIn_untilTb e pr.tc .pwr (by simp)]
      exact hcs
    have hsame : ({ u with pwr := { u.pwr with commits := [] } } : State) = u := by
      rw [← hpwr]
    rw [chainCommitTime_exec he hc hp hcs (by simp) hr, prepDue_missed]
    exact congrArg (fun v : State => Host.Outcome.next ((v.dropPrepared pr true).raiseMissed pr.epoch pr.target .noCommit)) hsame

/-! ## The command queue (R50, R173, R219 to R221) -/

/-- A frame with a command body of 8 to 24 bytes, heard by a device that serves the chain (R219). -/
theorem takeCmd_body {u : State} {b : Bytes} (h8 : 8 ≤ b.length) (h24 : b.length ≤ 24) (hs : u.serves .chain = true) (p : Option PortId)
    (tag : Nat) : u.takeCmd p tag b = u.cmdArrive .chain tag b := by
  unfold State.takeCmd
  rw [if_neg (by omega), if_pos hs]

/-- Time passes until the next command of the queue is executed. -/
theorem onlyIn_cmdAt (s : State) : OnlyIn [.time] s s.cmdAt := by
  unfold State.cmdAt State.elapseTb
  exact (onlyIn_elapse _ _).trans (onlyIn_until _ _)

theorem cmdTaken_pwr (s : State) : s.cmdTaken.pwr = s.pwr := by
  have hseq : ∀ (u : State) (q : Seq), ({ u with seq := q }).pwr = u.pwr := fun _ _ => rfl
  exact (hseq s.cmdAt _).trans (onlyIn_cmdAt s .pwr (by simp))

/-- The turn of an entry comes only where one is held. -/
theorem queue_isEmpty_of_cmdTurn {s : State} {x : CqEnt} (h : s.cmdTurn x) : s.seq.queue.isEmpty = false := by
  obtain ⟨_, hfind⟩ := h
  rw [show s.cmdAt.seq = s.seq from onlyIn_cmdAt s .seq (by simp)] at hfind
  cases hq : s.seq.queue with
  | nil => simp [hq] at hfind
  | cons y l => rfl

/-- A command whose turn it is takes effect in the state in which it has left the queue, and is answered (R220, R221). -/
theorem cmdRun_turn {s : State} {x : CqEnt} (h : s.cmdTurn x) {code : Nat} (hcode : x.code = code)
    (run : State → CqEnt → Nat × Nat × State) :
    s.cmdRun code run =
      (run s.cmdTaken x).2.2.cmdAnswer x.rq x.tag x.cmdId (run s.cmdTaken x).1 x.late (run s.cmdTaken x).2.1 := by
  obtain ⟨hcore, hfind⟩ := h
  have hheld := queue_isEmpty_of_cmdTurn ⟨hcore, hfind⟩
  unfold State.cmdRun
  rw [if_neg (by simp [hcore, hheld])]
  have hfind : ((s.elapseTb s.cmdWait).until_ s.seq.cqNext).seq.queue.find? ((s.elapseTb s.cmdWait).until_ s.seq.cqNext).cmdDue = some x :=
    hfind
  simp only [hfind, hcode, if_true]
  rfl

theorem dropDue_of_find? {due : CqEnt → Bool} {l : List CqEnt} {x : CqEnt} (h : l.find? due = some x) :
    ∃ a b, l = a ++ x :: b ∧ dropDue due l = a ++ b ∧ ∀ y ∈ a, due y = false := by
  induction l with
  | nil => cases h
  | cons y l ih =>
    cases hy : due y with
    | true =>
      obtain rfl : y = x := by simpa [List.find?, hy] using h
      exact ⟨[], l, rfl, by simp [dropDue, hy], by simp⟩
    | false =>
      obtain ⟨a, b, hl, hdrop, hnot⟩ := ih (by simpa [List.find?, hy] using h)
      exact ⟨y :: a, b, by rw [hl]; rfl, by simp [dropDue, hy, hdrop], List.forall_mem_cons.mpr ⟨hy, hnot⟩⟩

/-- Settles O34: a body is judged check by check, and a command whose turn it is runs in the state in which it has left the queue. -/
theorem commandQueue : Obligations.CommandQueue := by
  refine ⟨fun s dt => ?_, fun u rq tag b => ?arrive, fun due l x => dropDue_of_find?⟩
  · intro e
    have he : s.elapse dt = e := rfl
    clear_value e
    refine ⟨?frame, ?turn⟩
    case frame =>
      intro p h body f u hears h8 h24 hs
      rw [exec_cmdFrame]
      unfold execCmdFrame
      rw [he, arrive_hears hears, takeCmd_body h8 h24 hs]
    case turn =>
      intro x hx u
      subst he
      refine ⟨fun h => ?_, fun h => ?_, fun h => ?_, fun h => ?_, fun h => ?_, fun h => ?_, fun h => ?_⟩
      · rw [exec_trigCmd]
        unfold execTrigCmd
        rw [cmdRun_turn hx h]
      · rw [exec_jstartCmd]
        unfold execJstartCmd
        rw [cmdRun_turn hx h]
      · rw [exec_jstopCmd]
        unfold execJstopCmd
        rw [cmdRun_turn hx h]
      · rw [exec_jkillCmd]
        unfold execJkillCmd
        rw [cmdRun_turn hx h]
      · rw [exec_flagsCmd]
        unfold execFlagsCmd
        rw [cmdRun_turn hx h]
      · rw [exec_opCmd]
        unfold execOpCmd
        rw [cmdRun_turn hx h]
      · rw [exec_loadCmd]
        unfold execLoadCmd
        rw [cmdRun_turn hx h, cmdTaken_pwr]
        split <;> rfl
  case arrive =>
    intro id due late ahead far
    have hfar : far ↔ due = true ∧ (!late) = true ∧ 2000000000 < ahead := by simp [far]
    have hlength : cmdOk b = true → ¬(!cmdOk b) = true := fun hok => by simp [hok]
    unfold State.cmdArrive
    refine ⟨fun h => if_pos h, fun hm => ⟨fun hok => ?_, fun hok hf => ?_, fun hok hf hq => ?_, fun hok hf hq => ?_⟩⟩
    · exact (if_neg hm).trans (if_pos (by simp [hok]))
    · exact (if_neg hm).trans ((if_neg (hlength hok)).trans (if_pos (hfar.mp hf)))
    · exact (if_neg hm).trans ((if_neg (hlength hok)).trans ((if_neg (mt hfar.mpr hf)).trans (if_pos hq)))
    · exact (if_neg hm).trans ((if_neg (hlength hok)).trans ((if_neg (mt hfar.mpr hf)).trans (if_neg (Nat.not_le.mpr hq))))

end Sys2Proof.Machine
end

/-! SUPPORT. Proofs of the statements of chapter 03 on the cell inputs: the number of cells, the open-wire check, and the theorems that
settle O24 and O25. -/

section
namespace Sys2Proof.Machine

/-! ## Frames and folds -/

theorem onlyIn_setCfe (s : State) (x : Cfe) : OnlyIn [.cfe] s { s with cfe := x } := by
  intro p hp
  cases p <;> simp_all [Part.same]

theorem onlyIn_setSlu (s : State) (x : Slu) : OnlyIn [.slu] s { s with slu := x } := by
  intro p hp
  cases p <;> simp_all [Part.same]

theorem onlyIn_setRes (s : State) (x : Res) : OnlyIn [.res] s { s with res := x } := by
  intro p hp
  cases p <;> simp_all [Part.same]

theorem onlyIn_foldl {α : Type} {ps : List Part} {f : State → α → State} (h : ∀ u x, OnlyIn ps u (f u x)) (l : List α) (s : State) :
    OnlyIn ps s (l.foldl f s) :=
  List.foldlRecOn l f (motive := fun t => OnlyIn ps s t) .refl (fun u hu x _ => hu.trans (h u x))

section Fold
variable {σ ι β : Type} {f : σ → ι → σ} {view : σ → β} {k : ι} (hother : ∀ u i, i ≠ k → view (f u i) = view u)
include hother

/-- What one step alone can change is as before where that step is not taken. -/
theorem view_foldl_of_notMem {l : List ι} (hk : k ∉ l) (s : σ) : view (l.foldl f s) = view s := by
  induction l generalizing s with
  | nil => rfl
  | cons i l ih =>
    obtain ⟨hi, hl⟩ := List.ne_and_not_mem_of_not_mem_cons hk
    exact (ih hl (f s i)).trans (hother s i (Ne.symm hi))

/-- What one step alone can change is, after all the steps, what that step has left. -/
theorem view_foldl_of_mem {P Q : β → Prop} (hself : ∀ u, P (view u) → Q (view (f u k))) {l : List ι} (hl : l.Nodup) (hk : k ∈ l)
    {s : σ} (hs : P (view s)) : Q (view (l.foldl f s)) := by
  induction l generalizing s with
  | nil => cases hk
  | cons i l ih =>
    obtain ⟨hi, hl⟩ := List.nodup_cons.mp hl
    by_cases h : i = k
    · subst h
      rw [List.foldl_cons, view_foldl_of_notMem hother hi]
      exact hself s hs
    · have hkl : k ∈ l := (List.mem_cons.mp hk).resolve_left (Ne.symm h)
      exact ih hl hkl (by rwa [hother s i h])

end Fold

/-! ## The number of cells (R75, R77) -/

theorem clampTo_eq {lo hi : Nat} (h : lo ≤ hi) (n : Nat) : clampTo lo hi n = max lo (min hi n) := by
  unfold clampTo
  split
  · omega
  · split <;> omega

theorem eight_le_ncells (s : State) : 8 ≤ s.ncells := by
  unfold State.ncells
  rw [clampTo_eq (by decide)]
  exact le_max_left ..

theorem merged_and_mask (old m v : Word) : merged old m v &&& m = v &&& m := by
  unfold merged
  apply BitVec.eq_of_getLsbD_eq
  intro i hi
  cases hm : m.getLsbD i <;> simp [hm]

/-- A field at bit 0 is what the bits under its mask spell. -/
theorem fld_zero_eq (w : Word) {len : Nat} (h : len ≤ 32) : fld w 0 len = (w &&& BitVec.ofNat 32 (2 ^ len - 1)).toNat := by
  have hlen : 2 ^ len ≤ 2 ^ 32 := Nat.pow_le_pow_right (by decide) h
  have hpos : 0 < 2 ^ len := Nat.two_pow_pos len
  have hmask : (2 ^ len - 1) % 2 ^ 32 = 2 ^ len - 1 := Nat.mod_eq_of_lt (by omega)
  unfold fld
  rw [BitVec.toNat_and, BitVec.toNat_ofNat, hmask, Nat.and_two_pow_sub_one_eq_mod, pow_zero, Nat.div_one]

theorem fld_put_zero (n : Nat) {len : Nat} (h : len ≤ 32) : fld (put n 0 len) 0 len = n % 2 ^ len := by
  have hlen : 2 ^ len ≤ 2 ^ 32 := Nat.pow_le_pow_right (by decide) h
  have hlt : n % 2 ^ len < 2 ^ len := Nat.mod_lt _ (Nat.two_pow_pos len)
  unfold fld put
  rw [BitVec.toNat_ofNat, pow_zero, Nat.mul_one, Nat.div_one, Nat.mod_eq_of_lt (hlt.trans_le hlen), Nat.mod_mod]

theorem ncells_of_snap_nil {s : State} (h : s.ovl.snap = []) : s.ncells = max 8 (min 24 (fld (s.under 0x400) 0 5)) := by
  have heff : s.eff 0x400 = s.under 0x400 := by
    unfold State.eff
    rw [h]
    rfl
  unfold State.ncells State.fld
  rw [heff]
  exact clampTo_eq (by decide) _

/-- The number of cells that a write of NCELLS selects, where no overlay is in effect (R75). -/
theorem ncells_wrote {e : State} (hs : e.ovl.snap = []) (rq : Requester) (n : Nat) :
    (e.wrote rq 0x400 (put n 0 5)).ncells = max 8 (min 24 (n % 32)) := by
  have hup : OnlyIn [.pwr] e (e.upTo rq 0x400) := onlyIn_disarm e rq
  have hup_ovl : (e.upTo rq 0x400).ovl.snap = [] := by
    rw [hup .ovl (by simp)]
    exact hs
  have hovl : (e.wrote rq 0x400 (put n 0 5)).ovl.snap = [] := by
    rw [onlyIn_wrote e rq 0x400 (put n 0 5) .ovl (by simp)]
    exact hup_ovl
  have hmask : BitVec.ofNat 32 ((regRow 0x400).rw + (regRow 0x400).rwl) = BitVec.ofNat 32 (2 ^ 5 - 1) := by decide
  rw [ncells_of_snap_nil hovl, under_wrote_self e rq 0x400 _ hup_ovl (by decide), hmask, fld_zero_eq _ (by decide), merged_and_mask,
    ← fld_zero_eq _ (by decide), fld_put_zero n (by decide), show 2 ^ 5 = 32 from rfl]

theorem ncellsWrite_exec {s e : State} {dt : Nat} (he : s.elapse dt = e) {rq : Requester} {n : Nat} (h : e.accepts rq 0x400 (put n 0 5)) :
    exec (.ncellsWrite dt rq n) s = .next (((e.wrote rq 0x400 (put n 0 5)).settle e.ncells e.ringOn).answers .ok []) := by
  subst he
  rw [exec_ncellsWrite, execNcellsWrite, put_settle h (by decide) (by decide) (by decide), effect_wrote h, if_pos (by decide)]
  rfl

/-! ### Cells that become unused -/

/-- The registers and live bits of cell `c`, counted from 0, are cleared where fewer than its number of cells are used (R77). -/
def State.forgetCell (n : Nat) (s : State) (c : Nat) : State :=
  if c < n then s
  else
    { s with res :=
        { s.res with
          latest := vset s.res.latest c 0, unread := vset s.res.unread c false, had := maskSet s.res.had c false
          ovMask := maskSet s.res.ovMask c false, uvMask := maskSet s.res.uvMask c false } }

theorem onlyIn_forgetCell (n : Nat) (s : State) (c : Nat) : OnlyIn [.res] s (s.forgetCell n c) := by
  unfold State.forgetCell
  split
  · exact .refl
  · exact onlyIn_setRes s _

/-- The latest result and the unread mark of channel `c`. -/
def State.shown (c : Nat) (s : State) : Word × Bool := (vget s.res.latest 0 c, vget s.res.unread false c)

theorem shown_forgetCell_ne (n : Nat) (s : State) {c i : Nat} (h : i ≠ c) : (s.forgetCell n i).shown c = s.shown c := by
  unfold State.forgetCell State.shown
  split
  · rfl
  · simp [vget_vset, Ne.symm h]

theorem shown_forgetCell_self (n : Nat) (s : State) {c : Nat} (h : c < 36) :
    (s.forgetCell n c).shown c = if c < n then s.shown c else (0, false) := by
  unfold State.forgetCell State.shown
  split
  · rfl
  · simp [vget_vset, h]

theorem shown_forgetCells (n : Nat) (s : State) {c : Nat} (h : c < 24) :
    ((List.range 24).foldl (State.forgetCell n) s).shown c = if c < n then s.shown c else (0, false) :=
  view_foldl_of_mem (view := State.shown c) (P := (· = s.shown c)) (Q := (· = if c < n then s.shown c else (0, false)))
    (fun u i hi => shown_forgetCell_ne n u hi)
    (fun u hu => by rw [shown_forgetCell_self n u (by omega), hu]) List.nodup_range (List.mem_range.mpr h) rfl

theorem cellsChanged_of_le {u : State} {old : Nat} (h : old ≤ u.ncells) : u.cellsChanged old = u := if_pos h

/-- With no conversion in progress, a fall of the number of cells clears what the unused cells show, and the open-tap bits. -/
theorem cellsChanged_idle {u : State} {old : Nat} (h : u.ncells < old) (hc : u.convs = []) :
    u.cellsChanged old =
      (let v := (List.range 24).foldl (State.forgetCell u.ncells) u
      { v with cfe := { v.cfe with openTaps := v.cfe.openTaps % 2 ^ (u.ncells + 1) } }) := by
  have hconvs : ((List.range 24).foldl (State.forgetCell u.ncells) u).convs = [] :=
    (onlyIn_foldl (onlyIn_forgetCell u.ncells) (List.range 24) u .convs (by simp)).trans hc
  have hdef : u.cellsChanged old =
      (let v := (List.range 24).foldl (State.forgetCell u.ncells) u
      let w : State := { v with cfe := { v.cfe with openTaps := v.cfe.openTaps % 2 ^ (u.ncells + 1) } }
      let x : State := { w with convs := w.convs.map (fun (c : Conv) =>
        { c with chans := c.chans.filter (fun (y : ConvCh) => decide (24 ≤ y.ch) || decide (y.ch < u.ncells)) }) }
      let done := x.convs.filter (fun (c : Conv) => c.granted && c.chans.all (fun (y : ConvCh) => y.word.isSome))
      (done.foldl (fun l c => insertByGroup c l) []).foldl State.completeConv x) := if_neg (Nat.not_le.mpr h)
  rw [hdef]
  generalize (List.range 24).foldl (State.forgetCell u.ncells) u = v at hconvs
  simp only [hconvs, List.map_nil, List.filter_nil, List.foldl_nil]

theorem cellsChanged_clears {u : State} {old c : Nat} (h : u.ncells < old) (hc : u.convs = []) (hlt : c < 24) :
    let t := u.cellsChanged old
    vget t.res.latest 0 c = (if c < u.ncells then vget u.res.latest 0 c else 0) ∧
      vget t.res.unread false c = (if c < u.ncells then vget u.res.unread false c else false) ∧
      t.cfe.openTaps = u.cfe.openTaps % 2 ^ (u.ncells + 1) ∧ OnlyIn [.res, .cfe] u t := by
  have hshown := shown_forgetCells u.ncells u hlt
  have honly := onlyIn_foldl (onlyIn_forgetCell u.ncells) (List.range 24) u
  rw [cellsChanged_idle h hc]
  generalize (List.range 24).foldl (State.forgetCell u.ncells) u = v at hshown honly
  have hcfe : v.cfe = u.cfe := honly .cfe (by simp)
  have hlatest := (congrArg Prod.fst hshown).trans (apply_ite Prod.fst ..)
  have hunread := (congrArg Prod.snd hshown).trans (apply_ite Prod.snd ..)
  exact ⟨hlatest, hunread, by rw [← hcfe], (honly.mono (by simp)).trans ((onlyIn_setCfe v _).mono (by simp))⟩


/-- The modulator of a cell that is not used. -/
def State.unusedMod (s : State) (m : Nat) : Bool := decide (m < 48) && !s.used (m / 2 + 1)

/-- A modulator of an unused cell is powered down (R96). -/
def State.powerDown (gone : Nat → Bool) (s : State) (m : Nat) : State :=
  if gone m then
    let t := s.stopDecim m
    if (t.unitOf m).first then t.setUnit m (fun r => { r with first := false }) else t
  else s

/-- A spare stands in for an unused cell, visits one or waits for one. -/
def Spare.atUnused (gone : Nat → Bool) (p : Spare) : Bool :=
  p.stand.any gone || p.visit.any (fun v => gone v.m) || (match p.due with | some (.take m) => gone m | _ => false)

/-- A spare leaves the unused cells; one that the repair map assigns goes to its cell (R93). -/
def State.leaveCell (gone : Nat → Bool) (s : State) (i : Nat) : State :=
  match (s.spare i).used with
  | some m => if (s.spare i).due.isSome && !gone m then s else (s.setSpare i (fun p => { p with due := none })).seatRepair i
  | none => if (s.spare i).atUnused gone then s.parkSpare i else s

/-- The modulators of unused cells are powered down, and the spares leave those cells. -/
def State.cellsLeft (s : State) : State :=
  (List.range 4).foldl (State.leaveCell s.unusedMod) ((List.range 48).foldl (State.powerDown s.unusedMod) s)

/-! ### Powering down -/

theorem powerDown_mod (gone : Nat → Bool) (s : State) (m : Nat) :
    (s.powerDown gone m).mod = if gone m then (s.stopDecim m).mod else s.mod := by
  unfold State.powerDown
  split
  · extract_lets t
    split <;> rfl
  · rfl

/-- The steps over the modulators keep the spares and the calibration run. -/
theorem powerDowns_keep (gone : Nat → Bool) (l : List Nat) (s : State) :
    (l.foldl (State.powerDown gone) s).mod.spares = s.mod.spares ∧ (l.foldl (State.powerDown gone) s).mod.run = s.mod.run := by
  refine List.foldlRecOn l _ (motive := fun t : State => t.mod.spares = s.mod.spares ∧ t.mod.run = s.mod.run) ⟨rfl, rfl⟩ ?_
  intro t ht m _
  rw [powerDown_mod]
  split <;> exact ht

theorem powerDown_modul_ne (gone : Nat → Bool) (s : State) {k m : Nat} (h : m ≠ k) : (s.powerDown gone m).modul k = s.modul k := by
  unfold State.modul
  rw [powerDown_mod]
  split
  · exact vget_vmod_ne _ _ _ (Ne.symm h)
  · rfl

theorem powerDown_decim {gone : Nat → Bool} (s : State) {m : Nat} (h : gone m = true) (hm : m < 64) :
    ((s.powerDown gone m).modul m).decim = none := by
  unfold State.modul
  rw [powerDown_mod, if_pos h]
  simp [State.stopDecim, State.setModul, vget_vmod, hm]

/-! ### Parking -/

/-- Spare `i` with its crossbar switch. -/
def State.seat (i : Nat) (s : State) : Spare × Xbar := (s.spare i, vget s.cfe.xbar default i)

/-- From `s` to `t` of the modulators, the spares, their switches and the calibration run only spare `i` and its switch may differ. -/
structure MovesSpare (i : Nat) (s t : State) : Prop where
  mods : t.mod.mods = s.mod.mods
  run : t.mod.run = s.mod.run
  others : ∀ k, i ≠ k → t.seat k = s.seat k

namespace MovesSpare

theorem refl (i : Nat) (s : State) : MovesSpare i s s := ⟨rfl, rfl, fun _ _ => rfl⟩

theorem trans {i : Nat} {a b c : State} (h : MovesSpare i a b) (k : MovesSpare i b c) : MovesSpare i a c :=
  ⟨k.mods.trans h.mods, k.run.trans h.run, fun j hj => (k.others j hj).trans (h.others j hj)⟩

theorem ite {i : Nat} {s a b : State} {p : Prop} [Decidable p] (ha : MovesSpare i s a) (hb : MovesSpare i s b) :
    MovesSpare i s (if p then a else b) := by
  split
  · exact ha
  · exact hb

end MovesSpare

theorem movesSpare_setSpare (s : State) (i : Nat) (f : Spare → Spare) : MovesSpare i s (s.setSpare i f) := by
  refine ⟨rfl, rfl, fun k hk => ?_⟩
  simp [State.seat, State.spare, State.setSpare, Ne.symm hk]

theorem movesSpare_modXbar (s : State) (i : Nat) (f : Xbar → Xbar) : MovesSpare i s (s.modXbar i f) := by
  refine ⟨rfl, rfl, fun k hk => ?_⟩
  simp [State.seat, State.spare, State.modXbar, Ne.symm hk]

theorem movesSpare_setXbar (s : State) (i : Nat) (st : XbarSt) (side : Bool) (source : Nat) :
    MovesSpare i s (s.setXbar i st side source) := movesSpare_modXbar s i _

theorem movesSpare_seatRepair (s : State) (i : Nat) : MovesSpare i s (s.seatRepair i) := by
  unfold State.seatRepair
  extract_lets u
  have hu : MovesSpare i s u := movesSpare_modXbar s i _
  split
  · exact .ite (hu.trans (movesSpare_setXbar u i _ _ _)) (hu.trans (movesSpare_setXbar u i _ _ _))
  · exact hu

theorem movesSpare_parkSpare (s : State) (i : Nat) : MovesSpare i s (s.parkSpare i) := by
  unfold State.parkSpare
  extract_lets u
  have hu : MovesSpare i s u := (movesSpare_setSpare s i _).trans (movesSpare_setXbar _ i _ _ _)
  exact .ite (hu.trans (movesSpare_seatRepair u i)) hu

theorem movesSpare_leaveCell (gone : Nat → Bool) (s : State) (i : Nat) : MovesSpare i s (s.leaveCell gone i) := by
  unfold State.leaveCell
  split
  · exact .ite (.refl i s) ((movesSpare_setSpare s i _).trans (movesSpare_seatRepair _ i))
  · exact .ite (movesSpare_parkSpare s i) (.refl i s)

/-- The steps over the spares keep the modulators and the calibration run. -/
theorem leaveCells_keep (gone : Nat → Bool) (l : List Nat) (s : State) :
    (l.foldl (State.leaveCell gone) s).mod.mods = s.mod.mods ∧ (l.foldl (State.leaveCell gone) s).mod.run = s.mod.run :=
  List.foldlRecOn l _ (motive := fun t : State => t.mod.mods = s.mod.mods ∧ t.mod.run = s.mod.run) ⟨rfl, rfl⟩ (fun t ht i _ =>
    have hmoved := movesSpare_leaveCell gone t i
    ⟨hmoved.mods.trans ht.1, hmoved.run.trans ht.2⟩)

theorem Xbar.go_source (x : Xbar) (clk source : Nat) : (x.go clk source).source = source := by
  unfold Xbar.go
  split
  next h => exact h.symm
  next => rfl

/-- A spare that neither visits nor stands in and waits for nothing, with its switch at SOURCE 0. -/
def Parked (x : Spare × Xbar) : Prop := x.1.visit = none ∧ x.1.stand = none ∧ x.1.due = none ∧ x.2.source = 0

/-- A spare that the repair map has not assigned parks at SOURCE 0 (R91). -/
theorem parked_parkSpare {s : State} {i : Nat} (h : i < 4) (hu : (s.spare i).used = none) : Parked ((s.parkSpare i).seat i) := by
  have hspare : ∀ f : Spare → Spare, vget (vmod s.mod.spares i f) default i = f (s.spare i) := fun f => by simp [State.spare, vget_vmod, h]
  unfold State.parkSpare
  extract_lets u
  have huspare : u.spare i = { s.spare i with visit := none, stand := none, due := none } := hspare _
  have husource : (vget u.cfe.xbar default i).source = 0 := by
    simp [u, State.setXbar, State.modXbar, vget_vmod, h, Xbar.go_source]
  have hused : ¬(u.spare i).used.isSome = true := by simp [huspare, hu]
  rw [if_neg hused]
  unfold Parked State.seat
  rw [huspare]
  exact ⟨rfl, rfl, rfl, husource⟩

theorem parked_leaveCell {gone : Nat → Bool} {s : State} {i : Nat} (h : i < 4) (hu : (s.spare i).used = none)
    (ha : (s.spare i).atUnused gone = true) : Parked ((s.leaveCell gone i).seat i) := by
  unfold State.leaveCell
  rw [hu]
  exact (congrArg (fun t : State => Parked (t.seat i)) (if_pos ha)).mpr (parked_parkSpare h hu)

/-! ### The modulators and spares of unused cells -/

/-- With no calibration run in progress, a change of the number of cells powers down, parks and takes the powers anew. -/
theorem cellsOff_idle {u : State} (h : u.mod.run = none) : u.cellsOff = u.cellsLeft.notePower := by
  have hrun : u.cellsLeft.mod.run = none := by
    unfold State.cellsLeft
    rw [(leaveCells_keep ..).2, (powerDowns_keep ..).2, h]
  unfold State.cellsOff
  extract_lets gone v w
  have hv : v = (List.range 48).foldl (State.powerDown u.unusedMod) u := rfl
  have hw : w = u.cellsLeft := by
    unfold State.cellsLeft
    rw [← hv]
    rfl
  rw [hw, hrun]

theorem cellsLeft_decim {u : State} {m : Nat} (hm : m < 48) (h : u.unusedMod m = true) : (u.cellsLeft.modul m).decim = none := by
  unfold State.cellsLeft State.modul
  rw [(leaveCells_keep ..).1]
  exact view_foldl_of_mem (f := State.powerDown u.unusedMod) (view := fun t => t.modul m) (P := fun _ => True)
    (Q := fun q => q.decim = none) (fun t k hk => powerDown_modul_ne _ t hk) (fun t _ => powerDown_decim t h (by omega)) List.nodup_range
    (List.mem_range.mpr hm) trivial

theorem cellsLeft_parked {u : State} {i : Nat} (hi : i < 4) (hu : (u.spare i).used = none)
    (ha : (u.spare i).atUnused u.unusedMod = true) : Parked (u.cellsLeft.seat i) := by
  have hspare : ((List.range 48).foldl (State.powerDown u.unusedMod) u).spare i = u.spare i :=
    congrArg (vget · default i) (powerDowns_keep ..).1
  unfold State.cellsLeft
  refine view_foldl_of_mem (f := State.leaveCell u.unusedMod) (view := State.seat i)
    (P := fun x => x.1.used = none ∧ x.1.atUnused u.unusedMod = true) (Q := Parked)
    (fun t k hk => (movesSpare_leaveCell _ t k).others i hk) (fun t ht => parked_leaveCell hi ht.1 ht.2) List.nodup_range
    (List.mem_range.mpr hi) ?_
  unfold State.seat
  rw [hspare]
  exact ⟨hu, ha⟩

theorem unusedMod_iff (s : State) (m : Nat) : s.unusedMod m = true ↔ m < 48 ∧ s.used (m / 2 + 1) = false := by
  simp [State.unusedMod]

theorem atUnused_of_sits {gone : Nat → Bool} {p : Spare} {m : Nat} (hm : gone m = true)
    (h : p.stand = some m ∨ p.due = some (.take m) ∨ ∃ v, p.visit = some v ∧ v.m = m) : p.atUnused gone = true := by
  unfold Spare.atUnused
  rcases h with h | h | ⟨v, h, rfl⟩ <;> simp [h, hm]

theorem modul_notePower (s : State) (m : Nat) : s.notePower.modul m = s.modul m := rfl

theorem seat_notePower (s : State) (i : Nat) : s.notePower.seat i = s.seat i := rfl

/-- With no calibration run in progress the decimators of unused cells stop (R96). -/
theorem cellsOff_decim {u : State} (hrun : u.mod.run = none) {m : Nat} (hm : m < 48) (h : u.used (m / 2 + 1) = false) :
    (u.cellsOff.modul m).decim = none := by
  rw [cellsOff_idle hrun, modul_notePower]
  exact cellsLeft_decim hm ((unusedMod_iff u m).mpr ⟨hm, h⟩)

/-- With no calibration run in progress a spare that is not assigned parks where it has to do with an unused cell (R93). -/
theorem cellsOff_parked {u : State} (hrun : u.mod.run = none) {i m : Nat} (hi : i < 4) (hm : m < 48 ∧ u.used (m / 2 + 1) = false)
    (hu : (u.spare i).used = none)
    (h : (u.spare i).stand = some m ∨ (u.spare i).due = some (.take m) ∨ ∃ v, (u.spare i).visit = some v ∧ v.m = m) :
    Parked (u.cellsOff.seat i) := by
  rw [cellsOff_idle hrun, seat_notePower]
  exact cellsLeft_parked hi hu (atUnused_of_sits ((unusedMod_iff u m).mpr hm) h)

/-- Settles O24: the write is examined at once, and each step over the cells, the modulators and the spares changes its own alone. -/
theorem cellsUsed : Obligations.CellsUsed := by
  refine ⟨fun s dt rq n => ?_, fun u old c => ⟨cellsChanged_of_le, cellsChanged_clears, fun hrun => ?_⟩⟩
  · intro e v hacc
    exact ⟨ncellsWrite_exec rfl hacc, fun hsnap => ncells_wrote hsnap rq n⟩
  · exact ⟨fun m hm => cellsOff_decim hrun hm.1 hm.2, fun i m hi hm hu hsits => cellsOff_parked hrun hi hm hu hsits⟩

/-! ## The open-wire check (R84 to R88) -/

/-! ### What a check begins with -/

/-- A register without stored bits: its write is noted in its cycle, with the owner of the lock. -/
theorem stored_of_noBits {a : Nat} (hbits : (regRow a).rw + (regRow a).rwl = 0) (hrwo : (regRow a).rwo = 0) (s : State) (rq : Requester)
    (v : Word) : s.stored rq a v = s.ownerActs rq a := by
  have hstore : ∀ u : State, u.storeReg a v = u := by
    intro u
    have hp : taken (BitVec.ofNat 32 0) (u.covered a) (u.eff a) v = 0 := BitVec.zero_and
    unfold State.storeReg
    simp only [hbits, hrwo, hp, if_true]
  unfold State.stored
  rw [hstore, ite_self]

theorem ownerActs_of_unprotected {a : Nat} (h : protectedReg a = false) (s : State) (rq : Requester) : s.ownerActs rq a = s := by
  simp [State.ownerActs, h]

/-- CFE_OW_CTRL stores nothing: its write is noted in its cycle, and its effect is to come. -/
theorem wrote_owCtrl (e : State) (rq : Requester) (v : Word) : e.wrote rq 0x404 v = (e.disarm rq).noteWrite rq 0x404 := by
  unfold State.wrote
  rw [stored_of_noBits (by decide) (by decide), ownerActs_of_unprotected (by decide)]
  rfl

theorem onlyIn_wrote_owCtrl (e : State) (rq : Requester) (v : Word) : OnlyIn [.cyc, .pwr] e (e.wrote rq 0x404 v) := by
  rw [wrote_owCtrl]
  exact ((onlyIn_disarm e rq).mono (by simp)).trans ((onlyIn_noteWrite _ rq _).mono (by simp))

theorem owMode_wrote_owCtrl (e : State) (rq : Requester) (v : Word) : (e.wrote rq 0x404 v).owMode = e.owMode := by
  have hnote := onlyIn_noteWrite (e.disarm rq) rq 0x404
  have hpwr : ((e.disarm rq).noteWrite rq 0x404).pwr = (e.disarm rq).pwr := hnote .pwr (by simp)
  have hspc : ((e.disarm rq).noteWrite rq 0x404).spc = e.spc := hnote .spc (by simp)
  rw [wrote_owCtrl]
  unfold State.owMode State.owModeOk
  rw [hpwr, hspc]
  rfl

theorem owDue_begins {u : State} (hr : u.cfe.run = none) (hm : u.owMode = true) : u.owDue = u.owBegin := by
  unfold State.owDue
  rw [if_neg (by simp [hr]), if_pos hm]

theorem owDue_deferred {u : State} (hr : u.cfe.run = none) (hm : u.owMode = false) :
    u.owDue = { u with cfe := { u.cfe with deferred := true } } := by
  unfold State.owDue
  rw [if_neg (by simp [hr]), if_neg (by simp [hm])]

theorem onlyIn_owStart (e : State) (rq : Requester) :
    OnlyIn [.cyc, .pwr, .cfe, .answer] e ((e.wrote rq 0x404 1).owDue.answers .ok []) :=
  (((onlyIn_wrote_owCtrl e rq 1).mono (by simp)).trans ((onlyIn_owDue _).mono (by simp))).trans ((onlyIn_answers _ _ _).mono (by simp))

section Start
variable {s e : State} {dt : Nat} (he : s.elapse dt = e) {rq : Requester} (h : e.accepts rq 0x404 1)
include he h

theorem owStart_exec : exec (.owStart dt rq) s = .next ((e.wrote rq 0x404 1).owDue.answers .ok []) := by
  subst he
  rw [exec_owStart, execOwStart, put_effect h (by decide) (by decide) (by decide), effect_wrote h, if_pos (by decide)]
  rfl

/-- A check begins with its first phase due (R88, R90). -/
theorem owStart_begins (hr : e.cfe.run = none) (hm : e.owMode = true) :
    Completes (.owStart dt rq) s (fun t =>
      t.cfe.run = some ⟨0, .due, e.clk, e.eff 0x403, [], [], false, none⟩ ∧ t.cfe.lastRun = some e.clk ∧
        OnlyIn [.cyc, .pwr, .cfe, .answer] e t) := by
  have honly := onlyIn_wrote_owCtrl e rq 1
  have hcfe : (e.wrote rq 0x404 1).cfe = e.cfe := honly .cfe (by simp)
  have hclk : (e.wrote rq 0x404 1).clk = e.clk := congrArg Time.clk (honly .time (by simp))
  have hbegin := owDue_begins (by rw [hcfe, hr]) ((owMode_wrote_owCtrl e rq 1).trans hm)
  refine ⟨_, owStart_exec he h, ?_, ?_, onlyIn_owStart e rq⟩
  · rw [hbegin, ← hclk, ← eff_of_onlyIn honly (by simp) (by simp)]
    rfl
  · rw [hbegin, ← hclk]
    rfl

/-- Where no check runs now, the start is held (R88). -/
theorem owStart_held (hr : e.cfe.run = none) (hm : e.owMode = false) :
    Completes (.owStart dt rq) s (fun t => t.cfe = { e.cfe with deferred := true } ∧ OnlyIn [.cyc, .pwr, .cfe, .answer] e t) := by
  have hcfe : (e.wrote rq 0x404 1).cfe = e.cfe := onlyIn_wrote_owCtrl e rq 1 .cfe (by simp)
  refine ⟨_, owStart_exec he h, ?_, onlyIn_owStart e rq⟩
  rw [owDue_deferred (by rw [hcfe, hr]) ((owMode_wrote_owCtrl e rq 1).trans hm), ← hcfe]
  rfl

end Start

/-! ### Balance outputs -/

theorem onlyIn_setBal (s : State) (n : Nat) (f : BalCell → BalCell) : OnlyIn [.slu] s (s.setBal n f) := by
  unfold State.setBal
  split
  · exact .refl
  · exact onlyIn_setSlu s _

theorem bal_setBal_ne (s : State) {n k : Nat} (f : BalCell → BalCell) (hn : 1 ≤ n) (h : k ≠ n) : (s.setBal k f).bal n = s.bal n := by
  unfold State.setBal
  split
  · rfl
  · exact vget_vmod_ne _ _ _ (by omega)

theorem bal_setBal_self (s : State) {n : Nat} (f : BalCell → BalCell) (h1 : 1 ≤ n) (h : n ≤ 24) : (s.setBal n f).bal n = f (s.bal n) := by
  unfold State.setBal
  rw [if_neg (by omega)]
  simp only [State.bal, vget_vmod, show n - 1 < 24 by omega, and_self, if_true]

theorem opened_on (t : Nat) (d : Edge) (c : BalCell) : (c.opened t d).on = false := by
  unfold BalCell.opened
  split
  next => rfl
  next h => simpa using h

theorem onlyIn_driveCell (s : State) (i n : Nat) : OnlyIn [.slu] s (s.driveCell i n) := by
  unfold State.driveCell
  split
  · exact onlyIn_setBal s n _
  · exact onlyIn_setBal s n _

theorem onlyIn_redrive (s : State) : OnlyIn [.slu] s s.redrive := by
  unfold State.redrive
  split
  · refine onlyIn_foldl ?_ cellNos s
    exact fun u n => onlyIn_driveCell u _ n
  · exact .refl

theorem redrive_clk (s : State) : s.redrive.clk = s.clk := congrArg Time.clk (onlyIn_redrive s .time (by simp))

theorem redrive_cfe (s : State) : s.redrive.cfe = s.cfe := onlyIn_redrive s .cfe (by simp)

/-- The affected set of a phase names cells from 1 on, each once (R84). -/
theorem owCells_pos {s : State} {phase n : Nat} (h : n ∈ s.owCells phase) : 1 ≤ n := by
  have hcells := eight_le_ncells s
  obtain ⟨_, hany⟩ := List.mem_filter.mp h
  obtain ⟨k, _, hk⟩ := List.any_eq_true.mp hany
  unfold State.tapCells at hk
  split at hk
  · simp at hk
    omega
  · split at hk <;> simp at hk <;> omega

theorem owCells_nodup (s : State) (phase : Nat) : (s.owCells phase).Nodup := List.nodup_range.filter _

theorem onlyIn_openOuts (s : State) (l : List Nat) : OnlyIn [.slu] s (l.foldl State.openOut s) :=
  onlyIn_foldl (fun u n => onlyIn_setBal u n (BalCell.opened u.clk u.edgeNow)) l s

theorem openOuts_on (s : State) {l : List Nat} (hl : l.Nodup) {n : Nat} (hn : n ∈ l) (h1 : 1 ≤ n) (h : n ≤ 24) :
    ((l.foldl State.openOut s).bal n).on = false :=
  view_foldl_of_mem (view := fun t : State => t.bal n) (P := fun _ => True) (Q := fun c => c.on = false)
    (fun u _ hk => bal_setBal_ne u _ h1 hk) (fun u _ => (congrArg BalCell.on (bal_setBal_self u _ h1 h)).trans (opened_on ..)) hl hn trivial

theorem openOuts_bal (s : State) {l : List Nat} {n : Nat} (hn : n ∉ l) (h1 : 1 ≤ n) : (l.foldl State.openOut s).bal n = s.bal n :=
  view_foldl_of_notMem (view := fun t : State => t.bal n) (fun u _ hk => bal_setBal_ne u _ h1 hk) hn s

/-! ### The steps of a phase -/

theorem onlyIn_setOw (s : State) (r : OwRun) : OnlyIn [.cfe] s (s.setOw r) := onlyIn_setCfe s _

/-- The conversion of the affected set of a phase, side A alone (R85). -/
def State.owConv (s : State) (why : ConvFor) (phase : Nat) : Conv :=
  { id := s.nextId, why := why, stand := 0, jet := 8, osrK := 10, s := 0, merge := false, diff := false, grid := false, after := none
    start := none, strm := none, chans := (s.owCells phase).map (fun n => ConvCh.fresh (n - 1) 1) }

theorem owConvert_eq (s : State) (why : ConvFor) (phase : Nat) :
    s.owConvert why phase = { s with convs := s.convs ++ [s.owConv why phase], nextId := s.nextId + 1 } := rfl

theorem owConv_chans (s : State) (why : ConvFor) (phase : Nat) :
    (s.owConv why phase).chans.map (fun x => x.ch) = (s.owCells phase).map (fun n => n - 1) := by
  simp [State.owConv, ConvCh.fresh, Function.comp_def]

theorem onlyIn_owConvert (s : State) (why : ConvFor) (phase : Nat) : OnlyIn [.convs, .nextId] s (s.owConvert why phase) := by
  rw [owConvert_eq]
  intro p hp
  cases p <;> simp_all [Part.same]

/-- A step of a check that waits until an instant and then requests conversions (R84, R85). -/
theorem owRequest_spec (e : State) (at_ : Nat) (q : OwRun) (why : ConvFor) (phase : Nat) :
    let t := ((e.until_ at_).setOw q).owConvert why phase
    t.clk = max e.clk at_ ∧ t.cfe.run = some q ∧
      (∃ c : Conv, t.convs = e.convs ++ [c] ∧ c.why = why ∧ c.stand = 0 ∧
        c.chans.map (fun x => x.ch) = (e.owCells phase).map (fun n => n - 1)) ∧
      OnlyIn [.time, .cfe, .convs, .nextId] e t := by
  have hset : OnlyIn [.time, .cfe] e ((e.until_ at_).setOw q) :=
    ((onlyIn_until e at_).mono (by simp)).trans ((onlyIn_setOw _ q).mono (by simp))
  refine ⟨until_clk e at_, rfl, ⟨_, rfl, rfl, rfl, owConv_chans ..⟩, ?_⟩
  exact (hset.mono (by simp)).trans ((onlyIn_owConvert _ why phase).mono (by simp))

section Phase
variable {s e : State} {dt : Nat} (he : s.elapse dt = e)
include he

theorem owPeriodExpiry_exec {t0 : Nat} (hl : e.cfe.lastRun = some t0) (hp : e.owPeriod ≠ 0) :
    exec (.owPeriodExpiry dt) s = .next (e.until_ (t0 + e.owPeriod * 20000000)).owDue := by
  have hticks : e.owPeriod * 100 * msTicks = e.owPeriod * 20000000 := Nat.mul_assoc ..
  rw [exec_owPeriodExpiry]
  unfold execOwPeriodExpiry
  rw [he]
  simp only [hl, if_neg hp, hticks]

variable {r : OwRun} (hr : e.cfe.run = some r)
include hr

theorem owPhaseStart_exec (h : r.step = .due) :
    exec (.owPhaseStart dt) s =
      .next ((e.owCells r.phase).foldl State.openOut (e.setOw { r with step := .hold, since := e.clk })) := by
  rw [exec_owPhaseStart]
  unfold execOwPhaseStart
  simp only [he, hr]
  exact if_pos h

theorem owPhaseStart_completes (h : r.step = .due) :
    Completes (.owPhaseStart dt) s (fun t =>
      t.cfe.run = some { r with step := .hold, since := e.clk } ∧ (∀ n ∈ e.owCells r.phase, n ≤ 24 → (t.bal n).on = false) ∧
        (∀ n, n ∉ e.owCells r.phase → 1 ≤ n → t.bal n = e.bal n) ∧ OnlyIn [.cfe, .slu] e t) := by
  have hopen := onlyIn_openOuts (e.setOw { r with step := .hold, since := e.clk }) (e.owCells r.phase)
  refine ⟨_, owPhaseStart_exec he hr h, ?_, fun n hn hle => ?_, fun n hn h1 => ?_, ?_⟩
  · exact congrArg Cfe.run (hopen .cfe (by simp))
  · exact openOuts_on _ (owCells_nodup e r.phase) hn (owCells_pos hn) hle
  · exact openOuts_bal _ hn h1
  · exact ((onlyIn_setOw e _).mono (by simp)).trans (hopen.mono (by simp))

theorem owBaselineStart_exec (h : r.step = .hold) :
    exec (.owBaselineStart dt) s =
      .next (((e.until_ (r.since + 10000)).setOw { r with step := .baseline, base := [], chk := [] }).owConvert .owBase r.phase) := by
  rw [exec_owBaselineStart]
  unfold execOwBaselineStart
  simp only [he, hr]
  exact if_pos h

theorem owBaselineStart_completes (h : r.step = .hold) :
    Completes (.owBaselineStart dt) s (fun t =>
      t.clk = max e.clk (r.since + 10000) ∧ t.cfe.run = some { r with step := .baseline, base := [], chk := [] } ∧
        (∃ c : Conv, t.convs = e.convs ++ [c] ∧ c.why = .owBase ∧ c.stand = 0 ∧
          c.chans.map (fun x => x.ch) = (e.owCells r.phase).map (fun n => n - 1)) ∧
        OnlyIn [.time, .cfe, .convs, .nextId] e t) :=
  ⟨_, owBaselineStart_exec he hr h, owRequest_spec e _ _ .owBase r.phase⟩

theorem owSinksOn_exec (h : r.step = .baseline) (hb : e.owBusy .owBase = false) :
    exec (.owSinksOn dt) s =
      (let u := e.setOw { r with step := .settle, since := e.clk, sinks := some e.clk }
      .next { u with res := { u.res with owSpans := (e.owCells r.phase).map (fun n => (n, ⟨e.clk, none⟩)) ++ e.res.owSpans } }) := by
  rw [exec_owSinksOn]
  unfold execOwSinksOn
  simp only [he, hr]
  exact if_pos ⟨h, by simp [hb]⟩

theorem owSinksOn_completes (h : r.step = .baseline) (hb : e.owBusy .owBase = false) :
    Completes (.owSinksOn dt) s (fun t =>
      t.cfe.run = some { r with step := .settle, since := e.clk, sinks := some e.clk } ∧
        t.res.owSpans = (e.owCells r.phase).map (fun n => (n, ⟨e.clk, none⟩)) ++ e.res.owSpans ∧ OnlyIn [.cfe, .res] e t) :=
  ⟨_, owSinksOn_exec he hr h hb, rfl, rfl, ((onlyIn_setOw e _).mono (by simp)).trans ((onlyIn_setRes _ _).mono (by simp))⟩

theorem owCheckStart_exec (h : r.step = .settle) :
    exec (.owCheckStart dt) s =
      .next (((e.until_ (r.since + 50000 * (fld r.cfg 4 4 + 1))).setOw { r with step := .check }).owConvert .owCheck r.phase) := by
  rw [exec_owCheckStart]
  unfold execOwCheckStart
  simp only [he, hr]
  exact if_pos h

theorem owCheckStart_completes (h : r.step = .settle) :
    Completes (.owCheckStart dt) s (fun t =>
      t.clk = max e.clk (r.since + 50000 * (fld r.cfg 4 4 + 1)) ∧ t.cfe.run = some { r with step := .check } ∧
        (∃ c : Conv, t.convs = e.convs ++ [c] ∧ c.why = .owCheck ∧
          c.chans.map (fun x => x.ch) = (e.owCells r.phase).map (fun n => n - 1)) ∧
        OnlyIn [.time, .cfe, .convs, .nextId] e t) := by
  obtain ⟨hclk, hrun, ⟨c, hconvs, hwhy, _, hchans⟩, honly⟩ :=
    owRequest_spec e (r.since + 50000 * (fld r.cfg 4 4 + 1)) { r with step := .check } .owCheck r.phase
  exact ⟨_, owCheckStart_exec he hr h, hclk, hrun, ⟨c, hconvs, hwhy, hchans⟩, honly⟩

/-- The criteria are evaluated, and the open taps are presented (R87). -/
theorem owEvaluate_exec (h : r.step = .check) (hb : e.owBusy .owCheck = false) :
    let opens := (e.owTaps r.phase).filter (r.tapOpen e.ncells)
    let u := e.sinksOff.setOw { r with step := .off, since := e.clk, sinks := none, any := r.any || !opens.isEmpty }
    let m := (e.owTaps r.phase).foldl (fun m k => maskSet m k (opens.contains k)) e.cfe.openTaps
    exec (.owEvaluate dt) s = .next (({ u with cfe := { u.cfe with openTaps := m } }).present (opens.map (48 + ·))) := by
  rw [exec_owEvaluate]
  unfold execOwEvaluate
  simp only [he, hr]
  exact if_pos ⟨h, by simp [hb]⟩

theorem owPhaseEnd_exec (h : r.step = .off) :
    exec (.owPhaseEnd dt) s =
      (let u := e.until_ (r.since + 20000)
      if r.phase < 2 then .next (u.setOw { r with phase := r.phase + 1, step := .due, since := u.clk }).redrive
      else .next ({ u with cfe := { u.cfe with run := none, checks := (e.cfe.checks + 1) % 65536, anyOpen := r.any } }).redrive) := by
  rw [exec_owPhaseEnd]
  unfold execOwPhaseEnd
  simp only [he, hr]
  exact if_pos h

/-- A phase ends, and the next falls due (R84). -/
theorem owPhaseEnd_completes_next (h : r.step = .off) (hp : r.phase < 2) :
    Completes (.owPhaseEnd dt) s (fun t =>
      t.clk = max e.clk (r.since + 20000) ∧ t.cfe.run = some { r with phase := r.phase + 1, step := .due, since := t.clk } ∧
        OnlyIn [.time, .cfe, .slu] e t) := by
  refine ⟨_, (owPhaseEnd_exec he hr h).trans (if_pos hp), ?_, ?_, ?_⟩
  · exact (redrive_clk _).trans (until_clk e _)
  · rw [redrive_cfe, redrive_clk]
    rfl
  · exact (((onlyIn_until e _).mono (by simp)).trans ((onlyIn_setOw _ _).mono (by simp))).trans ((onlyIn_redrive _).mono (by simp))

/-- The last phase ends, and the check with it (R84). -/
theorem owPhaseEnd_completes_last (h : r.step = .off) (hp : 2 ≤ r.phase) :
    Completes (.owPhaseEnd dt) s (fun t =>
      t.clk = max e.clk (r.since + 20000) ∧ t.cfe.run = none ∧ t.cfe.checks = (e.cfe.checks + 1) % 65536 ∧
        t.cfe.anyOpen = r.any ∧ OnlyIn [.time, .cfe, .slu] e t) := by
  refine ⟨_, (owPhaseEnd_exec he hr h).trans (if_neg (Nat.not_lt.mpr hp)), ?_, ?_, ?_, ?_, ?_⟩
  · exact (redrive_clk _).trans (until_clk e _)
  · rw [redrive_cfe]
  · rw [redrive_cfe]
  · rw [redrive_cfe]
  · exact (((onlyIn_until e _).mono (by simp)).trans ((onlyIn_setCfe _ _).mono (by simp))).trans ((onlyIn_redrive _).mono (by simp))

end Phase

/-! ### The criterion of Table 3.3 -/

/-- The threshold in µV: the field in mV, between 50 and 1000 (Table 3.3). -/
def OwRun.threshold (r : OwRun) : Int := ((max 50 (min 1000 (fld r.cfg 8 10)) : Nat) : Int) * 1000

theorem tapOpen_eq (r : OwRun) (n k : Nat) :
    r.tapOpen n k =
      if k = 0 then decide (r.change 1 < -r.threshold)
      else if k < n then decide (r.change k < -r.threshold) && decide (r.threshold < r.change (k + 1))
      else decide (r.change n < -r.threshold) && !decide (r.threshold < r.change (n - 1)) := by
  unfold OwRun.tapOpen OwRun.threshold
  rw [clampTo_eq (by decide)]

theorem tapOpen_bottom (r : OwRun) (n : Nat) : r.tapOpen n 0 = true ↔ r.change 1 < -r.threshold := by
  rw [tapOpen_eq, if_pos rfl, decide_eq_true_iff]

theorem tapOpen_between (r : OwRun) {n k : Nat} (h1 : 1 ≤ k) (h : k < n) :
    r.tapOpen n k = true ↔ r.change k < -r.threshold ∧ r.threshold < r.change (k + 1) := by
  rw [tapOpen_eq, if_neg (by omega), if_pos h, Bool.and_eq_true, decide_eq_true_iff, decide_eq_true_iff]

theorem tapOpen_top (r : OwRun) {n : Nat} (h : 1 ≤ n) :
    r.tapOpen n n = true ↔ r.change n < -r.threshold ∧ ¬r.threshold < r.change (n - 1) := by
  rw [tapOpen_eq, if_neg (by omega), if_neg (by omega), Bool.and_eq_true, decide_eq_true_iff, Bool.not_eq_true', decide_eq_false_iff_not]

/-- Settles O25: each command decides by the step that the check stands at, and the criterion of a tap by where the tap stands. -/
theorem openWire : Obligations.OpenWire := by
  refine ⟨fun s dt => ?steps, fun r n k => ?criterion⟩
  case steps =>
    intro e
    have he : s.elapse dt = e := rfl
    clear_value e
    exact ⟨fun rq => owStart_begins he, fun rq => owStart_held he, fun t0 => owPeriodExpiry_exec he, fun r hr =>
      ⟨owPhaseStart_completes he hr, owBaselineStart_completes he hr, owSinksOn_completes he hr, owCheckStart_completes he hr,
        owEvaluate_exec he hr, fun h => ⟨owPhaseEnd_completes_next he hr h, owPhaseEnd_completes_last he hr h⟩⟩⟩
  case criterion =>
    intro t hn
    exact ⟨tapOpen_bottom r n, tapOpen_between r, tapOpen_top r (by omega)⟩

end Sys2Proof.Machine
end

/-! SUPPORT. Proofs of the statements of chapter 04: result words, the rotation of the modulators, the calibration run, the result registers, and
the theorems that settle O13 and O26 to O29. -/

section
namespace Sys2Proof.Machine

/-! ## GETR.N (R160, R175) -/

theorem await_safe (u : State) (j cost : Nat) (w : JWait) : u.await j cost w true = u.inWait j w cost := by
  simp only [State.await, State.inWait, Bool.true_and, decide_eq_true_eq, if_true]

/-- GETR.N waits at a safe point from the next core cycle on; its three cycles count from the word that it waits for. -/
theorem getrN_exec {s u : State} {dt j c : Nat} {d a : Reg} {ch : BitVec 6} {rsel v : Bool}
    (h : (s.elapse dt).issues j (.getr d a ch rsel v true)) (hu : (s.elapse dt).issueAt j = u) (hc : u.rselect j rsel ch a = c)
    (hlt : c < 36) (hused : 24 ≤ c ∨ u.used (c + 1) = true) :
    exec (.getr dt j d a ch rsel v true) s = .next (u.inWait j (.getr d.toNat c v none) 1) := by
  have hchan : ¬(36 ≤ c ∨ true = true ∧ c < 24 ∧ ¬u.used (c + 1) = true) := by
    rintro (h36 | ⟨_, h24, hno⟩)
    · omega
    · exact hused.elim (fun h => absurd h24 (Nat.not_lt.mpr h)) hno
  subst hu hc
  rw [exec_getr, execGetr, issue_of_issues h]
  exact congrArg _ ((if_neg hchan).trans (await_safe ..))

/-- The measuring device, its jets running with GETR.N of the channel of cell 24 as word 0 of the program. -/
def getrNDevice : State :=
  { measuringDevice with
    seq :=
      { Seq.init with
        prog := [(0, some (Balrax.getr 1 0 23 false true true).encode)]
        jets := .replicate 8 { Jet.init with st := .running } } }

theorem getrNDevice_issues : (getrNDevice.elapse 0).issues 0 (.getr 1 0 23 false true true) := by decide

theorem inWait_busyTo {u : State} {j : Nat} (h : j < 8) (w : JWait) (cost : Nat) :
    ((u.inWait j w cost).jet j).busyTo = u.clk + cost * u.cycle := by
  unfold State.inWait
  rw [State.jet_setJet, if_pos ⟨rfl, h⟩]

/-- Refutes O13: the wait of GETR.N begins one core cycle after its issue, not three. On the measuring device at clock 0, with a core cycle
of one tick, GETR.N of the channel of cell 24 leaves jet 0 waiting from clock 1 on, and the statement has it wait from clock 3 on. -/
theorem not_resultsAndStreams : ¬ Obligations.ResultsAndStreams := by
  intro h
  obtain ⟨_, hgetrN, _⟩ := h getrNDevice 0 0 1 0 0 23 0 false true 0
  have hclaim := hgetrN getrNDevice_issues (by decide) (Or.inr (by decide))
  rw [getrN_exec getrNDevice_issues rfl rfl (by decide) (Or.inr (by decide))] at hclaim
  have hbusy := congrArg (fun t : State => (t.jet 0).busyTo) (Host.Outcome.next.inj hclaim)
  simp only [inWait_busyTo (by decide : 0 < 8)] at hbusy
  exact absurd hbusy (by decide)

end Sys2Proof.Machine
end

section
namespace Sys2Proof.Machine

/-! ## The rotation of the modulators (Table 4.6, R91, R92, R110 to R119) -/

/-! ### Frames -/

theorem onlyIn_setMod (s : State) (x : Mod) : OnlyIn [.mod] s { s with mod := x } := by
  intro p hp
  cases p <;> simp_all [Part.same]

theorem onlyIn_modXbar (s : State) (sp : Nat) (f : Xbar → Xbar) : OnlyIn [.cfe] s (s.modXbar sp f) := onlyIn_setCfe s _

theorem modul_setModul (s : State) (m k : Nat) (f : Modul → Modul) :
    (s.setModul m f).modul k = if k = m ∧ m < 64 then f (s.modul m) else s.modul k := vget_vmod ..

theorem modul_until (s : State) (t m : Nat) : (s.until_ t).modul m = s.modul m := rfl

theorem spare_setSpare (s : State) (i k : Nat) (f : Spare → Spare) :
    (s.setSpare i f).spare k = if k = i ∧ i < 4 then f (s.spare i) else s.spare k := vget_vmod ..

theorem rotSlices_of_onlyIn {ps : List Part} {s t : State} (h : OnlyIn ps s t) (h1 : Part.regs ∉ ps) (h2 : Part.ovl ∉ ps)
    (h3 : Part.pwr ∉ ps) (h4 : Part.flt ∉ ps) (h5 : Part.bst ∉ ps) : t.rotSlices = s.rotSlices := by
  have hpwr : t.pwr = s.pwr := h .pwr h3
  have hflt : t.flt = s.flt := h .flt h4
  have hbst : t.bst = s.bst := h .bst h5
  unfold State.rotSlices State.bgOn State.sliceMode State.stw State.bit
  simp only [hpwr, hflt, hbst, eff_of_onlyIn h h1 h2]

theorem onlyIn_rotClock (s : State) : OnlyIn [.mod] s s.rotClock := by
  unfold State.rotClock
  split
  · split
    · exact .refl
    · exact onlyIn_setMod s _
  · split
    · exact onlyIn_setMod s _
    · exact .refl

/-! ### The start of a visit (R111, R112) -/

/-- Modulator `m` is the next that the rotation has taken up, in a new round where `wrap` says so. -/
def State.visitCounted (w : State) (m : Nat) (wrap : Bool) : State :=
  { w with mod := { w.mod with next := m + 1, rounds := if wrap then (w.mod.rounds + 1) % 65536 else w.mod.rounds } }

/-- Spare `sp` begins its visit to modulator `m` when it is due, at the points of its own calibration. -/
def State.visitBegun (u : State) (sp m : Nat) (wrap : Bool) : State :=
  let x := (u.until_ (u.visitDue sp)).visitCounted m wrap
  (x.setSpare sp (fun p => { p with visit := some ⟨m, .calSpare, 0, x.clk⟩, startAt := some x.clk })).sweepXbar sp pointTicks

theorem onlyIn_visitCounted (w : State) (m : Nat) (wrap : Bool) : OnlyIn [.mod] w (w.visitCounted m wrap) := onlyIn_setMod w _

theorem onlyIn_visitBegun (u : State) (sp m : Nat) (wrap : Bool) : OnlyIn [.time, .mod, .cfe] u (u.visitBegun sp m wrap) := by
  unfold State.visitBegun
  extract_lets x
  have hx : OnlyIn [.time, .mod] u x := ((onlyIn_until u _).mono (by simp)).trans ((onlyIn_visitCounted _ m wrap).mono (by simp))
  exact ((hx.mono (by simp)).trans ((onlyIn_setMod x _).mono (by simp))).trans ((onlyIn_modXbar _ sp _).mono (by simp))

theorem sweepXbar_switch (s : State) {sp : Nat} (h : sp < 4) (d : Nat) :
    (vget (s.sweepXbar sp d).cfe.xbar default sp).source = 25 ∧ (vget (s.sweepXbar sp d).cfe.xbar default sp).sweep = d := by
  unfold State.sweepXbar State.modXbar
  simp only [vget_vmod, h, and_self, if_true, Xbar.go_source]

/-- A free spare starts its visit. -/
theorem rotationVisitStart_exec {s u : State} {dt sp m : Nat} {wrap : Bool} (hu : (s.elapse dt).pauseCheck = u) (hsp : sp < 4)
    (hp : u.pauseCause = 0) (hc : u.coreOn = true) (hidle : (u.spare sp).idle = true) (hb : (u.spare sp).bad = false)
    (hn : u.nextVisit = some (m, wrap)) (hr : u.rotSlices = false) :
    exec (.rotationVisitStart dt sp) s = .next (u.visitBegun sp m wrap) := by
  have hgo : sp < 4 ∧ u.pauseCause = 0 ∧ u.coreOn = true ∧ (u.spare sp).idle = true ∧ ¬(u.spare sp).bad = true :=
    ⟨hsp, hp, hc, hidle, by simp [hb]⟩
  rw [exec_rotationVisitStart]
  unfold execRotationVisitStart
  extract_lets s1 p w _
  have hs1 : s1 = u := hu
  clear_value s1
  subst hs1
  rw [if_pos hgo]
  simp -zeta only [hn]
  extract_lets x step y z
  have hx : x.rotSlices = false := (rotSlices_of_onlyIn (onlyIn_visitCounted w m wrap) (by simp) (by simp) (by simp) (by simp) (by simp)).trans
    ((rotSlices_of_onlyIn (onlyIn_until s1 _) (by simp) (by simp) (by simp) (by simp) (by simp)).trans hr)
  have hy : y.rotSlices = false :=
    (rotSlices_of_onlyIn (onlyIn_setMod x _ : OnlyIn [.mod] x y) (by simp) (by simp) (by simp) (by simp) (by simp)).trans hx
  have hstep : step = .calSpare := if_neg (by simp [hx])
  have hz : z = y := if_neg (by simp [hy])
  rw [hz, hstep]
  unfold y
  rw [hstep]
  rfl

theorem rotationVisitStart_completes {s u : State} {dt sp m : Nat} {wrap : Bool} (hu : (s.elapse dt).pauseCheck = u) (hsp : sp < 4)
    (hp : u.pauseCause = 0) (hc : u.coreOn = true) (hidle : (u.spare sp).idle = true) (hb : (u.spare sp).bad = false)
    (hn : u.nextVisit = some (m, wrap)) (hr : u.rotSlices = false) :
    Completes (.rotationVisitStart dt sp) s (fun t =>
      t.clk = max u.clk (u.visitDue sp) ∧ t.mod.next = m + 1 ∧
        t.mod.rounds = (if wrap then (u.mod.rounds + 1) % 65536 else u.mod.rounds) ∧
        t.spare sp = { u.spare sp with visit := some ⟨m, .calSpare, 0, t.clk⟩, startAt := some t.clk } ∧
        (vget t.cfe.xbar default sp).source = 25 ∧ (vget t.cfe.xbar default sp).sweep = pointTicks ∧ OnlyIn [.time, .mod, .cfe] u t) := by
  obtain ⟨hsource, hsweep⟩ := sweepXbar_switch (((u.until_ (u.visitDue sp)).visitCounted m wrap).setSpare sp _) hsp pointTicks
  exact ⟨_, rotationVisitStart_exec hu hsp hp hc hidle hb hn hr, until_clk u _, rfl, rfl, (spare_setSpare ..).trans (if_pos ⟨rfl, hsp⟩),
    hsource, hsweep, onlyIn_visitBegun u sp m wrap⟩

/-! ### The steps of a visit -/

section Visit
variable {s u : State} {dt sp : Nat} (hu : (s.elapse dt).pauseCheck = u) {v : Visit} (hv : (u.spare sp).visit = some v)
include hu hv

section CalSpare
variable (hstep : v.step = .calSpare) {off : Int} {gain : Nat}
include hstep

/-- The spare has passed, and runs beside the modulator (R112 step 4). -/
theorem spareCalDone_exec_passed (hok : coefOk (48 + sp) off gain = true) :
    let w := (u.setLive (48 + sp) off gain).setSpare sp (fun p => { p with failed := false })
    exec (.spareCalDone dt sp off gain) s =
      .next (if u.used (v.m / 2 + 1) = true then
          (w.setVisit sp { v with step := .match1, tries := 0, since := u.clk }).setXbar sp .parallel false (v.m / 2 + 1)
        else w.parkSpare sp) := by
  rw [exec_spareCalDone]
  unfold execSpareCalDone
  simp only [hu, hv, hstep, hok, if_true]
  exact (apply_ite Host.Outcome.next ..).symm

/-- It has failed, and is not used again (R114). -/
theorem spareCalDone_exec_failed (hok : coefOk (48 + sp) off gain = false) :
    exec (.spareCalDone dt sp off gain) s =
      .next (((u.setSpare sp (fun p => { p with bad := true, failed := true })).parkSpare sp).firstFail (48 + sp) 4) := by
  rw [exec_spareCalDone]
  unfold execSpareCalDone
  simp only [hu, hv, hstep, hok, if_true, Bool.false_eq_true, if_false]

end CalSpare

section Match
variable (hstep : v.step = .match1 ∨ v.step = .match2) (diff : Int)
include hstep

theorem matchWindowEnd_exec_within (h1 : -u.matchTol ≤ diff) (h2 : diff ≤ u.matchTol) :
    exec (.matchWindowEnd dt sp diff) s =
      .next ((u.until_ (v.since + u.matchTicks v.m)).setVisit sp { v with step := if v.step = .match1 then .handDue else .backDue }) := by
  rw [exec_matchWindowEnd]
  unfold execMatchWindowEnd
  simp only [hu, hv, if_pos hstep]
  exact if_pos ⟨h2, h1⟩

theorem matchWindowEnd_exec_outside (h : diff < -u.matchTol ∨ u.matchTol < diff) :
    let w := u.until_ (v.since + u.matchTicks v.m)
    exec (.matchWindowEnd dt sp diff) s =
      .next (if v.tries < 2 then w.setVisit sp { v with tries := v.tries + 1, since := w.clk }
        else if v.step = .match1 then (w.parkSpare sp).rotFail (w.visited v.m) sp
        else (w.setSpare sp (fun p => { p with visit := none, stand := some v.m })).rotFail (w.visited v.m) sp) := by
  intro w
  have hout : ¬(diff ≤ w.matchTol ∧ -w.matchTol ≤ diff) := by
    rintro ⟨h1, h2⟩
    exact h.elim (fun h => absurd h2 (Int.not_le.mpr h)) (fun h => absurd h1 (Int.not_le.mpr h))
  rw [exec_matchWindowEnd]
  unfold execMatchWindowEnd
  simp only [hu, hv, if_pos hstep]
  refine (if_neg hout).trans ?_
  rw [apply_ite Host.Outcome.next, apply_ite Host.Outcome.next]

end Match

theorem handover_exec (hstep : v.step = .handDue) (hb : u.atBoundary v.m = true) (hused : u.used (v.m / 2 + 1) = true)
    (how : u.res.owSpans.any (fun x => decide (x.1 = v.m / 2 + 1) && u.inSpan x.2) = false) :
    exec (.handover dt sp) s =
      .next (((u.setVisit sp { v with step := .calMod, since := u.clk }).standSpare sp v.m).detach v.m) := by
  rw [exec_handover]
  unfold execHandover
  simp only [hu, hv]
  exact if_pos ⟨hstep, hb, hused, by rw [how]; exact Bool.false_ne_true⟩

section CalMod
variable (hstep : v.step = .calMod) (hp : u.pauseCause = 0) {off : Int} {gain : Nat}
include hstep hp

/-- The modulator has passed: its slice follows where visits carry slices, else the second match (R112 step 7, R393). -/
theorem modulatorCalDone_exec_passed (hok : coefOk (u.visited v.m) off gain = true) :
    let m := u.visited v.m
    exec (.modulatorCalDone dt sp off gain) s =
      .next (if (u.setLive m off gain).rotSlices = true then
          ((u.setLive m off gain).setVisit sp { v with step := .sliceMod, tries := 0, since := u.clk }).startSlice m (.visit sp)
        else ((u.setLive m off gain).setVisit sp { v with step := .match2, tries := 0, since := u.clk }).rejoinCell v.m) := by
  rw [exec_modulatorCalDone]
  unfold execModulatorCalDone
  simp only [hu, hv, if_pos (And.intro hstep hp), hok, if_true]
  exact (apply_ite Host.Outcome.next ..).symm

/-- It has failed, and the spare stands in for it (R114). -/
theorem modulatorCalDone_exec_failed (hok : coefOk (u.visited v.m) off gain = false) :
    exec (.modulatorCalDone dt sp off gain) s =
      .next ((u.setSpare sp (fun p => { p with visit := none, stand := some v.m })).rotFail (u.visited v.m) sp) := by
  rw [exec_modulatorCalDone]
  unfold execModulatorCalDone
  simp only [hu, hv, if_pos (And.intro hstep hp), hok, Bool.false_eq_true, if_false]

end CalMod

theorem handBack_exec (hstep : v.step = .backDue) (hb : u.atBoundary v.m = true) :
    exec (.handBack dt sp) s = .next ((u.parkSpare sp).reseat v.m) := by
  rw [exec_handBack]
  unfold execHandBack
  simp only [hu, hv]
  exact if_pos ⟨hstep, hb⟩

end Visit

/-! ### Calibration in place (R119) -/

/-- The wait for a modulator that was calibrated in place at `c` (R119). -/
def State.restFrom (s : State) : Option Nat → State
  | some c => s.until_ (c + 2000000000)
  | none => s

theorem onlyIn_restFrom (s : State) (c : Option Nat) : OnlyIn [.time] s (s.restFrom c) := by
  cases c
  · exact .refl
  · exact onlyIn_until s _

theorem restFrom_clk (s : State) (c : Option Nat) :
    (s.restFrom c).clk = max s.clk (match c with | some c => c + 2000000000 | none => 0) := by
  cases c
  · exact (max_eq_left (Nat.zero_le _)).symm
  · exact until_clk s _

/-- The state in which the coefficients of modulator `m` are judged: its decimator stands, the time is noted. -/
def State.inPlace (w : State) (m : Nat) : State := (w.stopDecim m).setModul m (fun q => { q with calAt := some w.clk })

theorem modul_inPlace (w : State) {m : Nat} (h : m < 64) (k : Nat) :
    (w.inPlace m).modul k = if k = m then { w.modul m with decim := none, calAt := some w.clk } else w.modul k := by
  unfold State.inPlace State.stopDecim
  rw [modul_setModul, modul_setModul, modul_setModul]
  by_cases hk : k = m
  · rw [if_pos ⟨hk, h⟩, if_pos ⟨rfl, h⟩, if_pos hk]
  · rw [if_neg (fun h => hk h.1), if_neg (fun h => hk h.1), if_neg hk]

theorem onlyIn_inPlace (w : State) (m : Nat) : OnlyIn [.mod] w (w.inPlace m) := (onlyIn_setMod w _).trans (onlyIn_setMod _ _)

section InPlace
variable {s e : State} {dt : Nat} (he : s.elapse dt = e) {m : Nat} (off : Int) (gain : Nat) (h1 : 52 ≤ m) (h2 : m < 64)
  (hs : e.stw = true) (hc : e.coreOn = true) (hh : e.modHeld m = false) (ho : e.calOther ≠ some m)
include he h1 h2 hs hc hh ho

theorem xmodInPlaceCal_exec :
    let w := ((e.until_ ((e.modul m).busyAt + 6000000)).restFrom (e.modul m).calAt).inPlace m
    exec (.xmodInPlaceCal dt m off gain) s = .next (if coefOk m off gain = true then w.setLive m off gain else w) := by
  have hgo : 52 ≤ m ∧ m < 64 ∧ e.stw = true ∧ e.coreOn = true ∧ ¬e.modHeld m = true ∧ e.calOther ≠ some m :=
    ⟨h1, h2, hs, hc, by simp [hh], ho⟩
  have h30 : 30 * msTicks = 6000000 := rfl
  have h10000 : 10000 * msTicks = 2000000000 := rfl
  rw [exec_xmodInPlaceCal]
  unfold execXmodInPlaceCal
  rw [he, h30, h10000]
  extract_lets w e1 x y z
  have hmodul : x.modul m = e.modul m := modul_until e _ m
  have hy : y = x.restFrom (e.modul m).calAt := by
    unfold y
    rw [hmodul]
    cases (e.modul m).calAt
    · rfl
    · rfl
  have hz : z = w := congrArg (fun t : State => t.inPlace m) hy
  rw [if_pos hgo, hz]

theorem xmodInPlaceCal_completes :
    Completes (.xmodInPlaceCal dt m off gain) s (fun t =>
      t.clk = max (max e.clk ((e.modul m).busyAt + 6000000)) (match (e.modul m).calAt with | some c => c + 2000000000 | none => 0) ∧
        t.modul m =
          { e.modul m with
            decim := none, calAt := some t.clk
            live := if coefOk m off gain = true then some ⟨off, gain, t.clk⟩ else (e.modul m).live } ∧
        (∀ k, k ≠ m → t.modul k = e.modul k) ∧ OnlyIn [.time, .mod] e t) := by
  have hexec := xmodInPlaceCal_exec he off gain h1 h2 hs hc hh ho
  have hclk : ((e.until_ ((e.modul m).busyAt + 6000000)).restFrom (e.modul m).calAt).clk =
      max (max e.clk ((e.modul m).busyAt + 6000000)) (match (e.modul m).calAt with | some c => c + 2000000000 | none => 0) := by
    rw [restFrom_clk, until_clk]
  have honly : OnlyIn [.time] e ((e.until_ ((e.modul m).busyAt + 6000000)).restFrom (e.modul m).calAt) :=
    (onlyIn_until e _).trans (onlyIn_restFrom _ _)
  generalize (e.until_ ((e.modul m).busyAt + 6000000)).restFrom (e.modul m).calAt = w at hexec hclk honly
  have hmods : ∀ k, w.modul k = e.modul k := fun k => congrArg (fun x : Mod => vget x.mods default k) (honly .mod (by simp))
  have hmodul : ∀ k, (w.inPlace m).modul k = if k = m then { e.modul m with decim := none, calAt := some w.clk } else e.modul k :=
    fun k => (modul_inPlace w h2 k).trans (by rw [hmods, hmods])
  refine ⟨_, hexec, ?_⟩
  cases hok : coefOk m off gain
  case false =>
    rw [if_neg Bool.false_ne_true, if_neg Bool.false_ne_true]
    exact ⟨hclk, (hmodul m).trans (if_pos rfl), fun k hk => (hmodul k).trans (if_neg hk),
      (honly.mono (by simp)).trans ((onlyIn_inPlace w m).mono (by simp))⟩
  case true =>
    rw [if_pos rfl, if_pos rfl]
    refine ⟨hclk, ?self, fun k hk => ?others, ?frame⟩
    case self =>
      unfold State.setLive
      rw [modul_setModul, if_pos ⟨rfl, h2⟩, hmodul m, if_pos rfl]
      rfl
    case others =>
      unfold State.setLive
      rw [modul_setModul, if_neg (fun h => hk h.1), hmodul k, if_neg hk]
    case frame => exact ((honly.mono (by simp)).trans ((onlyIn_inPlace w m).mono (by simp))).trans ((onlyIn_setMod _ _).mono (by simp))

end InPlace

/-! ### The copy after each hour of rotation (R110) -/

/-- Live coefficients written over a set of stored ones: each modulator of the list that has live coefficients has those. -/
theorem get_liveCoefs (live : Nat → Option Coef) (base m : Nat) (l : List Nat) (t : Sparse (Int × Nat))
    (h : Sparse.wf (0, 0x400000) t = true) :
    Sparse.get (0, 0x400000)
        (l.foldl (fun t m => match live m with | some x => Sparse.set (0, 0x400000) t (base + m) (x.off, x.gain) | none => t) t) (base + m) =
      if m ∈ l then (match live m with | some x => (x.off, x.gain) | none => Sparse.get (0, 0x400000) t (base + m))
      else Sparse.get (0, 0x400000) t (base + m) := by
  induction l generalizing t with
  | nil => rfl
  | cons k l ih =>
    rw [List.foldl_cons]
    cases hk : live k with
    | none =>
      rw [ih t h]
      by_cases hm : m = k
      · subst hm
        simp [hk]
      · simp [hm]
    | some x =>
      rw [ih _ (Sparse.wf_set _ t _ _ h), Sparse.get_set_wf _ t _ _ _ h]
      by_cases hm : m = k
      · subst hm
        simp [hk]
      · simp [hm]

/-- The calibration copy in use with the live coefficients of every modulator for the band in effect. -/
def State.liveCopy (d : State) : CalCopy :=
  { d.calCopy with coefs :=
      (List.range 64).foldl (fun t m =>
        match (d.modul m).live with
        | some l => Sparse.set (0, 0x400000) t (d.thm.band * 64 + m) (l.off, l.gain)
        | none => t) d.calCopy.coefs }

/-- An hour of rotation begins anew at `d`, whose live coefficients are copied. -/
def State.hourCopied (d : State) : State :=
  { d with mod := { d.mod with hourAt := d.clk, rotRun := 0, rotFrom := some d.clk } }.setCalCopy d.liveCopy

theorem calCopy_setCalCopy (s : State) (c : CalCopy) : (s.setCalCopy c).calCopy = c := by
  unfold State.setCalCopy
  by_cases h : s.mod.useB = true
  · rw [if_pos h]
    exact if_pos h
  · rw [if_neg h]
    exact if_neg h

/-- Nothing but the copies changes. -/
theorem setCalCopy_keeps (s : State) (c : CalCopy) :
    (s.setCalCopy c).mod.hourAt = s.mod.hourAt ∧ (s.setCalCopy c).mod.rotRun = s.mod.rotRun ∧
      (s.setCalCopy c).mod.rotFrom = s.mod.rotFrom ∧ OnlyIn [.mod] s (s.setCalCopy c) := by
  unfold State.setCalCopy
  split
  · exact ⟨rfl, rfl, rfl, onlyIn_setMod s _⟩
  · exact ⟨rfl, rfl, rfl, onlyIn_setMod s _⟩

theorem onlyIn_hourCopied (d : State) : OnlyIn [.mod] d d.hourCopied := by
  obtain ⟨_, _, _, honly⟩ := setCalCopy_keeps { d with mod := { d.mod with hourAt := d.clk, rotRun := 0, rotFrom := some d.clk } } d.liveCopy
  exact (onlyIn_setMod d _).trans honly

/-- The hour counts from the copy on. -/
theorem hourCopied_counts (d : State) :
    d.hourCopied.mod.hourAt = d.clk ∧ d.hourCopied.mod.rotRun = 0 ∧ d.hourCopied.mod.rotFrom = some d.clk := by
  obtain ⟨hhour, hrun, hfrom, _⟩ :=
    setCalCopy_keeps { d with mod := { d.mod with hourAt := d.clk, rotRun := 0, rotFrom := some d.clk } } d.liveCopy
  exact ⟨hhour, hrun, hfrom⟩

theorem storedCoef_hourCopied (d : State) (h : Sparse.wf (0, 0x400000) d.calCopy.coefs = true) {m : Nat} (hm : m < 64) :
    d.hourCopied.storedCoef m = match (d.modul m).live with | some l => (l.off, l.gain) | none => d.storedCoef m := by
  have hthm : d.hourCopied.thm = d.thm := onlyIn_hourCopied d .thm (by simp)
  have hcopy : d.hourCopied.calCopy = d.liveCopy := calCopy_setCalCopy _ _
  have hget := get_liveCoefs (fun m => (d.modul m).live) (d.thm.band * 64) m (List.range 64) d.calCopy.coefs h
  rw [if_pos (List.mem_range.mpr hm)] at hget
  unfold State.storedCoef
  rw [hcopy, hthm]
  exact hget

theorem noFeed_until {s : State} (h : s.noFeed) (t : Nat) : (s.until_ t).noFeed := h

theorem onlyIn_wordsDone (s : State) (a n : Nat) : OnlyIn [.nvm, .ecc] s (s.wordsDone a n) := by
  intro p hp
  cases p <;> simp_all [Part.same, State.wordsDone]

section Hourly
variable {s h : State} {dt : Nat} (hh : (s.elapse dt).rotClock = h) (hs : h.stw = true) (hp : h.pauseCause = 0) (hm : h.mramHeld = false)
  (hf : h.noFeed)
include hh hs hp hm hf

theorem coeffHourlyCopy_exec :
    let w := h.until_ (h.mod.rotFrom.getD h.clk + (720000000000 - h.mod.rotRun))
    exec (.coeffHourlyCopy dt) s = .next (w.wordsDone (calArea w.mod.useB) 0x4000).hourCopied := by
  have hgo : h.stw = true ∧ h.pauseCause = 0 ∧ ¬h.mramHeld = true := ⟨hs, hp, by simp [hm]⟩
  have hhour : 3600000 * msTicks = 720000000000 := rfl
  rw [exec_coeffHourlyCopy]
  unfold execCoeffHourlyCopy
  rw [hh, hhour]
  extract_lets w _ _ d
  have hwf : w.noFeed := noFeed_until hf (h.mod.rotFrom.getD h.clk + (720000000000 - h.mod.rotRun))
  have hd : d = w.wordsDone (calArea w.mod.useB) 0x4000 :=
    congrArg (fun x : State => x.wordsDone (calArea w.mod.useB) 0x4000) (feedsMram_id hwf)
  rw [if_pos hgo]
  exact congrArg (fun x : State => Host.Outcome.next x.hourCopied) hd

theorem coeffHourlyCopy_completes (hwf : Sparse.wf (0, 0x400000) h.calCopy.coefs = true) :
    Completes (.coeffHourlyCopy dt) s (fun t =>
      t.clk = max h.clk (h.mod.rotFrom.getD h.clk + (720000000000 - h.mod.rotRun)) ∧ t.mod.hourAt = t.clk ∧
        t.mod.rotRun = 0 ∧ t.mod.rotFrom = some t.clk ∧
        (∀ m < 64, t.storedCoef m = match (h.modul m).live with | some l => (l.off, l.gain) | none => h.storedCoef m) ∧
        t.nvm.pulse = pulseOf h.thm.band ∧ OnlyIn [.time, .mod, .nvm, .ecc] h t) := by
  have hexec := coeffHourlyCopy_exec hh hs hp hm hf
  have hclk := until_clk h (h.mod.rotFrom.getD h.clk + (720000000000 - h.mod.rotRun))
  have hw := onlyIn_until h (h.mod.rotFrom.getD h.clk + (720000000000 - h.mod.rotRun))
  dsimp only at hexec
  generalize h.until_ (h.mod.rotFrom.getD h.clk + (720000000000 - h.mod.rotRun)) = w at hexec hclk hw
  have hd : OnlyIn [.time, .nvm, .ecc] h (w.wordsDone (calArea w.mod.useB) 0x4000) :=
    (hw.mono (by simp)).trans ((onlyIn_wordsDone w _ _).mono (by simp))
  have hpulse : (w.wordsDone (calArea w.mod.useB) 0x4000).nvm.pulse = pulseOf w.thm.band := rfl
  have hdclk : (w.wordsDone (calArea w.mod.useB) 0x4000).clk = w.clk := rfl
  generalize w.wordsDone (calArea w.mod.useB) 0x4000 = d at hexec hd hpulse hdclk
  have hmod : d.mod = h.mod := hd .mod (by simp)
  have hcopy : d.calCopy = h.calCopy := by
    unfold State.calCopy
    rw [hmod]
  have honly := onlyIn_hourCopied d
  have hclk' : d.hourCopied.clk = d.clk := congrArg Time.clk (honly .time (by simp))
  obtain ⟨hhour, hrun, hfrom⟩ := hourCopied_counts d
  refine ⟨_, hexec, hclk'.trans (hdclk.trans hclk), hhour.trans hclk'.symm, hrun, hfrom.trans (congrArg some hclk'.symm),
    fun m hm => ?stored, ?pulse, ?frame⟩
  case stored =>
    rw [storedCoef_hourCopied d (by rw [hcopy]; exact hwf) hm]
    have hstored : d.storedCoef m = h.storedCoef m := by
      unfold State.storedCoef
      rw [hcopy, hd .thm (by simp)]
    unfold State.modul
    rw [hmod, hstored]
  case pulse => rw [honly .nvm (by simp), hpulse, hw .thm (by simp)]
  case frame => exact (hd.mono (by simp)).trans (honly.mono (by simp))

end Hourly

/-! ### The judgement of coefficients, and the crossbar (R91, R92, R114) -/

theorem coefOk_iff (m : Nat) (off : Int) (gain : Nat) :
    let lim : Int := if m = 63 then 1280 else 128000
    coefOk m off gain = true ↔ (-lim ≤ off ∧ off ≤ lim) ∧ 4194304 * 995 ≤ gain * 1000 ∧ gain * 1000 ≤ 4194304 * 1005 := by
  intro lim
  unfold coefOk offLimit
  rw [Bool.and_eq_true, Bool.and_eq_true, Bool.and_eq_true, decide_eq_true_iff, decide_eq_true_iff, decide_eq_true_iff, decide_eq_true_iff,
    and_assoc]

/-- A switch stays at SOURCE 0 for 1 µs or more between two sources (R92). -/
theorem Xbar.go_parks (x : Xbar) (clk : Nat) {a : Nat} (h : a ≠ x.source) (h0 : a ≠ 0) :
    (if x.source = 0 then x.parkAt else clk) + 200 ≤ (x.go clk a).leftAt := by
  have hleft : (x.go clk a).leftAt = max clk ((if x.source = 0 then x.parkAt else clk) + parkTicks) := by
    unfold Xbar.go
    rw [if_neg h]
    exact if_neg h0
  have hpark : 200 ≤ parkTicks := Nat.le_add_right 200 _
  rw [hleft]
  exact (Nat.add_le_add_left hpark _).trans (le_max_right _ _)

section Shown
variable {s : State} {sp : Nat} {x : Xbar} (hx : x = vget s.cfe.xbar default sp) (h0 : x.source ≠ 0)
include hx h0

theorem xbarNow_of_break (h : s.clk < x.leftAt) : (s.xbarNow sp).source = 0 ∧ (s.xbarNow sp).st = .parked := by
  subst hx
  unfold State.xbarNow
  simp only [if_neg h0, if_pos h, and_self]

theorem xbarNow_of_made (hc : x.source ≤ 24) (h : x.leftAt + 1000 ≤ s.clk) : s.xbarNow sp = x := by
  have hpre : min (5 * usTicks) Config.xbarPre ≤ 1000 := min_le_left _ _
  subst hx
  unfold State.xbarNow
  simp only [if_neg h0, if_neg (by omega : ¬s.clk < (vget s.cfe.xbar default sp).leftAt), if_pos hc,
    if_neg (by omega : ¬s.clk < (vget s.cfe.xbar default sp).leftAt + min (5 * usTicks) Config.xbarPre)]

end Shown

/-- Settles O26: each command of a visit decides by the step at which the visit stands, after the check for a pause. -/
theorem rotation : Obligations.Rotation := by
  intro s dt sp e u
  have hu : (s.elapse dt).pauseCheck = u := rfl
  have he : s.elapse dt = e := rfl
  clear_value u e
  refine ⟨fun m wrap hsp hp hc hused hstand hvisit hdue hb hn hr => ?start,
    fun v hv => ⟨?calSpare, ?compare, ?hand, ?calMod, ?back⟩, fun m => ?visited,
    fun m off gain h1 h2 hs hc hh ho => xmodInPlaceCal_completes he off gain h1 h2 hs hc hh ho, ?hourly, coefOk_iff,
    fun x clk a h h0 => ⟨Xbar.go_source x clk a, Xbar.go_parks x clk h h0⟩, fun x hx h0 => ⟨xbarNow_of_break hx h0, xbarNow_of_made hx h0⟩⟩
  case start =>
    have hidle : (u.spare sp).idle = true := by
      unfold Spare.idle
      rw [hused, hstand, hvisit, hdue]
      rfl
    exact rotationVisitStart_completes hu hsp hp hc hidle hb hn hr
  case calSpare =>
    exact fun hstep off gain => ⟨spareCalDone_exec_passed hu hv hstep, spareCalDone_exec_failed hu hv hstep⟩
  case compare =>
    exact fun hstep diff => ⟨matchWindowEnd_exec_within hu hv hstep diff, matchWindowEnd_exec_outside hu hv hstep diff⟩
  case hand => exact handover_exec hu hv
  case calMod =>
    exact fun hstep hp off gain => ⟨modulatorCalDone_exec_passed hu hv hstep hp, modulatorCalDone_exec_failed hu hv hstep hp⟩
  case back => exact handBack_exec hu hv
  case visited => rfl
  case hourly =>
    intro h hs hp hm hf hwf
    have hh : (s.elapse dt).rotClock = h := by rw [he]
    have hstw : h.stw = true := (congrArg Flt.stwRun (onlyIn_rotClock e .flt (by simp))).trans hs
    clear_value h
    exact coeffHourlyCopy_completes hh hstw hp hm hf hwf

end Sys2Proof.Machine
end

section
namespace Sys2Proof.Machine

/-! ## The calibration run (R120 to R123) -/

theorem getLsbD_or_putb (v : Word) {i : Nat} (h : i < 32) : (v ||| putb true i).getLsbD i = true := by
  have hbit : (BitVec.ofNat 32 (2 ^ i)).getLsbD i = true := by
    rw [BitVec.getLsbD_ofNat, Nat.testBit_two_pow_self, decide_eq_true h]
    rfl
  rw [BitVec.getLsbD_or, putb, if_pos rfl, hbit, Bool.or_true]

section CalRun
variable {s e : State} {dt : Nat} (he : s.elapse dt = e)
include he

theorem calRunStart_exec {rq : Requester} {v : Word} (h : e.accepts rq 0x609 (v ||| putb true 31)) :
    exec (.calRunStart dt rq v) s = .next (((e.wrote rq 0x609 (v ||| putb true 31)).calStart rq).answers .ok []) := by
  subst he
  rw [exec_calRunStart, execCalRunStart, put_effect h (by decide) (by decide) (by decide), effect_wrote h, if_pos (by decide)]
  exact congrArg (fun t : State => Host.Outcome.next (t.answers .ok [])) (if_pos (getLsbD_or_putb v (by decide)))

theorem calTrimDone_exec {r : CalRun} {cell : Nat} (mean : Int) (hr : e.mod.run = some r) (ht : r.trim = some cell)
    (ho : e.opIs 3 .running = true) :
    let q : Rat := ((e.eff 0x60A).toInt : Rat) * 64 / mean
    exec (.calTrimDone dt mean) s =
      .next (if mean ≠ 0 ∧ 995 / 1000 ≤ q ∧ q ≤ 1005 / 1000 then
        (e.setCal { r with trim := none, scale := (freeRound 1 (q * 2 ^ 30)).toNat }).handsDue
      else e.calEnd .failed 4 2) := by
  have htrim : (r.trim.isSome && e.opIs 3 .running) = true := by rw [ht, ho]; rfl
  rw [exec_calTrimDone]
  unfold execCalTrimDone
  simp only [he, hr, htrim, if_true]
  exact (apply_ite Host.Outcome.next ..).symm

end CalRun

/-! ### Refusals of a start -/

section Refusals
variable {u : State} (rq : Requester)

theorem calStart_of_mode (h : u.pwr.mode ≠ .calibrate) : u.calStart rq = { u with mod := { u.mod with startRes := 2 } } := if_pos h

theorem calStart_of_running (hm : u.pwr.mode = .calibrate) (h : (u.oper 3).isSome = true) :
    u.calStart rq = { u with mod := { u.mod with startRes := 3 } } :=
  (if_neg (not_not.mpr hm)).trans (if_pos h)

/-- No modulator in the scope, or an external reference at a cell that is not used or is a bus bar. -/
theorem calStart_of_scope (hm : u.pwr.mode = .calibrate) (ho : u.oper 3 = none)
    (h : u.calScope = [] ∨ u.bit 0x609 8 = true ∧ (u.used (u.fld 0x609 16 5) = false ∨ u.busbar (u.fld 0x609 16 5) = true)) :
    u.calStart rq = { u with mod := { u.mod with startRes := 4 } } := by
  have hidle : ¬(u.oper 3).isSome = true := by rw [ho]; exact Bool.false_ne_true
  rw [← Bool.not_eq_true] at h
  exact (if_neg (not_not.mpr hm)).trans ((if_neg hidle).trans (if_pos h))

end Refusals

/-! ### The copy that a run writes -/

/-- The copy not in use replaced, and in use from now on where it has verified (R123). -/
def State.copied (d : State) (new : CalCopy) (ok : Bool) : State :=
  if d.mod.useB = true then { d with mod := { d.mod with copyA := new, useB := if ok = true then false else true } }
  else { d with mod := { d.mod with copyB := new, useB := ok } }

theorem copied_unverified (d : State) (new : CalCopy) :
    d.copied new false =
      { d with mod := if (!d.mod.useB) = true then { d.mod with copyB := new } else { d.mod with copyA := new } } := by
  unfold State.copied
  cases hb : d.mod.useB
  · exact congrArg (fun b => ({ d with mod := { d.mod with copyB := new, useB := b } } : State)) hb.symm
  · exact congrArg (fun b => ({ d with mod := { d.mod with copyA := new, useB := b } } : State)) hb.symm

theorem copied_verified (d : State) (new : CalCopy) :
    let v := d.copied new false
    d.copied new true = { v with mod := { v.mod with useB := !d.mod.useB } } := by
  unfold State.copied
  cases d.mod.useB
  · rfl
  · rfl

/-! ### Points and the commit -/

theorem point_goes {h : State} {r : CalRun} {m : Nat} (ht : r.trim = none) (ho : h.opIs 3 .running = true) (htaken : r.taken = true)
    (hready : h.calReady m = true) : (h.opIs 3 .running && r.trim.isNone && r.taken && h.calReady m) = true := by
  rw [ho, ht, htaken, hready]
  rfl

theorem commit_goes {h : State} {r : CalRun} (ht : r.trim = none) (ho : h.opIs 3 .running = true) (htodo : r.todo = [])
    (hheld : h.mramHeld = false) : r.todo = [] ∧ r.trim = none ∧ h.opIs 3 .running = true ∧ ¬h.mramHeld = true :=
  ⟨htodo, ht, ho, by simp [hheld]⟩

section Points
variable {s h : State} {dt : Nat} (hh : (s.elapse dt).handsDue = h) {r : CalRun} (hr : h.mod.run = some r) (ht : r.trim = none)
  (ho : h.opIs 3 .running = true)
include hh hr ht ho

section Point
variable {m : Nat} {rest : List Nat} (mean : Int) (htodo : r.todo = m :: rest) (htaken : r.taken = true) (hready : h.calReady m = true)
include htodo htaken hready

/-- The first two points of a modulator are kept. -/
theorem calPointDone_exec_kept (hlen : r.means.length < 2) :
    let k := if 52 ≤ m then h.stopDecim m else h
    exec (.calPointDone dt mean) s =
      .next ((if 48 ≤ m ∧ m < 52 then k.setXbar (m - 48) .parked false (26 + r.point) else k).setCal
        { r with means := r.means ++ [mean], point := r.point + 1, cuts := 0 }) := by
  rw [exec_calPointDone]
  unfold execCalPointDone
  simp only [hh, hr, htodo, point_goes ht ho htaken hready, if_true]
  match hmeans : r.means, hlen with
  | [], _ => rfl
  | [_], _ => rfl

/-- The third point gives the coefficients, which are judged. -/
theorem calPointDone_exec_last {z p : Int} (hmeans : r.means = [z, p]) :
    let k := if 52 ≤ m then h.stopDecim m else h
    let (off, gain) := Config.calCoef r.scale z p mean
    let u := k.noteCal m (coefOk m off gain)
    exec (.calPointDone dt mean) s =
      .next (if coefOk m off gain = true then u.calNext { r with fresh := r.fresh ++ [(m, off, gain)] }
        else (({ u with mod := { u.mod with calFail := m } }).calNext { r with failed := true }).present1 145) := by
  rw [exec_calPointDone]
  unfold execCalPointDone
  simp only [hh, hr, htodo, point_goes ht ho htaken hready, if_true, hmeans, List.cons_append, List.nil_append]
  generalize Config.calCoef r.scale z p mean = c
  obtain ⟨off, gain⟩ := c
  cases hok : coefOk m off gain
  · rfl
  · rfl

end Point

section Commit
variable (ok : Bool) (htodo : r.todo = []) (hheld : h.mramHeld = false)
include htodo hheld

/-- The copy in use cannot be read whole. -/
theorem calRunCommit_exec_unread (hread : (h.mramRead (calArea h.mod.useB) 0x4000).1 = false) :
    exec (.calRunCommit dt ok) s = .next ((h.mramRead (calArea h.mod.useB) 0x4000).2.calEnd .failed 4 4) := by
  rw [exec_calRunCommit]
  unfold execCalRunCommit
  simp only [hh, hr]
  rw [if_pos (commit_goes ht ho htodo hheld)]
  exact if_pos (by rw [hread]; rfl)

/-- The copy in use has been read whole: the other is written and, where it verifies, is in use from now on. -/
theorem calRunCommit_exec_written {d : State} (hd : h.pageDone (calArea (!h.mod.useB)) 0x4000 = d)
    (hread : h.mramRead (calArea h.mod.useB) 0x4000 = (true, h)) :
    let new : CalCopy :=
      ⟨ok, d.calCopy.gen + 1, r.scale,
        r.fresh.foldl (fun t x => Sparse.set (0, 0x400000) t (d.thm.band * 64 + x.1) (x.2.1, x.2.2)) d.calCopy.coefs⟩
    let u := d.copied new ok
    exec (.calRunCommit dt ok) s =
      .next (if ok = true then (u.ledger (u.calibEntry (!d.mod.useB) new.gen)).calEnd .done 1 (b2n r.failed)
        else u.calEnd .failed 4 3) := by
  rw [exec_calRunCommit]
  unfold execCalRunCommit
  intro new u
  extract_lets s1
  have hs1 : s1 = h := hh
  clear_value s1
  subst hs1
  simp -zeta only [hr]
  rw [if_pos (commit_goes ht ho htodo hheld), hread]
  simp -zeta only [hd, Bool.not_true, Bool.false_eq_true, if_false]
  extract_lets _ _ _ _ _ _ v _ w
  cases ok
  case false =>
    have hu : u = v := copied_unverified d new
    clear_value u v
    subst hu
    rfl
  case true =>
    have hv : d.copied new false = v := copied_unverified d new
    have hu : u = w := (copied_verified d new).trans (by rw [hv])
    clear_value u w
    subst hu
    exact (if_pos rfl).trans (congrArg Host.Outcome.next (if_pos rfl).symm)

end Commit
end Points

/-- Settles O27: each command decides by the run in progress and by what stands at the front of it. -/
theorem calibrationRuns : Obligations.CalibrationRuns := by
  intro s dt e
  have he : s.elapse dt = e := rfl
  clear_value e
  refine ⟨fun rq v => calRunStart_exec he, fun rq => ⟨calStart_of_mode rq, calStart_of_running rq, calStart_of_scope rq⟩,
    fun r hr cell mean ht ho => calTrimDone_exec he mean hr ht ho, ?_⟩
  intro h r hr ht ho
  have hh : (s.elapse dt).handsDue = h := by rw [he]
  clear_value h
  refine ⟨fun m rest mean htodo htaken hready => ⟨fun hlen => calPointDone_exec_kept hh hr ht ho mean htodo htaken hready hlen,
    fun z p hmeans => calPointDone_exec_last hh hr ht ho mean htodo htaken hready hmeans⟩, fun ok htodo hheld => ?_⟩
  exact ⟨calRunCommit_exec_unread hh hr ht ho ok htodo hheld, calRunCommit_exec_written hh hr ht ho ok htodo hheld rfl⟩

end Sys2Proof.Machine
end

section
namespace Sys2Proof.Machine

/-! ## Samples (R100 to R109) -/

theorem decimatedSample_exec {s e : State} {dt : Nat} (he : (s.elapse dt).handsDue = e) (h : e.modsOn = true) (m : Nat) (xs : List Int)
    (ov : Bool) : exec (.decimatedSample dt m xs ov) s = .next (e.deliver m xs ov).handsDue := by
  rw [exec_decimatedSample]
  unfold execDecimatedSample
  rw [he]
  exact if_pos h

/-- With no conversion in progress a sample comes at the next output that is not discarded, and nothing takes it. -/
theorem deliver_idle {e : State} {m r : Nat} {dec : Decim} (xs : List Int) (ov : Bool) (hs : e.sliceOf m = none) (ha : e.calAway m = false)
    (hr : e.roleOf m = some r) (hd : (e.modul r).decim = some dec) (hc : e.convs = []) :
    let per := e.modP * 2 ^ dec.osrK
    let k := max (max 6 (dec.last + 1)) ((e.tbNext - dec.start.toNat + per - 1) / per)
    e.deliver m xs ov =
      (e.untilTb (BitVec.ofNat 64 (dec.start.toNat + k * per))).setModul r (fun q => { q with decim := some { dec with last := k } }) := by
  intro per k
  have hconvs : ((e.untilTb (BitVec.ofNat 64 (dec.start.toNat + k * per))).setModul r
      (fun q => { q with decim := some { dec with last := k } })).convs = [] :=
    (onlyIn_untilTb e _ .convs (by simp)).trans hc
  unfold State.deliver
  simp only [hs, ha, hr, hd, Option.isSome_none, Bool.or_self, Bool.false_eq_true, if_false]
  rw [hconvs]
  rfl

/-! ### The decimation chain at a constant input -/

theorem sum_foldl_eq (f : Nat → Int) (l : List Nat) (a : Int) : l.foldl (fun w i => w + f i) a = a + (l.map f).sum := by
  induction l generalizing a with
  | nil => exact (add_zero a).symm
  | cons i l ih => rw [List.foldl_cons, ih, List.map_cons, List.sum_cons, add_assoc]

/-- The weights of the sinc⁴ stage at decimation 32 sum to 32⁴: its DC gain is 1. -/
theorem sincWeight_sum : ((List.range 125).map (sincWeight 32)).sum = 32 ^ 4 := by decide +kernel

/-- A sinc⁴ output over a stretch of constant input. -/
theorem sincAt_const {xs : List Int} {c : Int} (h : ∀ i < 125, xs.getD i 0 = c) : sincAt 32 xs = 32 ^ 4 * c := by
  have hmap : (List.range 125).map (fun i => sincWeight 32 i * xs.getD i 0) = (List.range 125).map (fun i => sincWeight 32 i * c) :=
    List.map_congr_left (fun i hi => by rw [h i (List.mem_range.mp hi)])
  calc sincAt 32 xs = 0 + ((List.range 125).map (fun i => sincWeight 32 i * xs.getD i 0)).sum := sum_foldl_eq _ _ 0
    _ = ((List.range 125).map (sincWeight 32)).sum * c := by rw [zero_add, hmap, List.sum_map_mul_right]
    _ = 32 ^ 4 * c := by rw [sincWeight_sum]

/-- A half-band output over a constant input, times 32: its DC gain is 1. -/
theorem halfBand_const {a : List Int} {c : Int} (h : ∀ i < 7, a.getD i 0 = c) : halfBand a = 32 * c := by
  unfold halfBand
  rw [h 0 (by decide), h 2 (by decide), h 3 (by decide), h 4 (by decide), h 6 (by decide)]
  ring

theorem getD_map_range (f : Nat → Int) {n i : Nat} (h : i < n) : ((List.range n).map f).getD i 0 = f i := by
  simp [h]

theorem getD_drop (l : List Int) (k i : Nat) : (l.drop k).getD i 0 = l.getD (k + i) 0 := by
  rw [List.getD_eq_getElem?_getD, List.getD_eq_getElem?_getD, List.getElem?_drop]

theorem freeRound_intCast (k : Nat) (c : Int) : freeRound k (c : Rat) = c := if_pos rfl

/-- A constant input comes out of the decimation chain as it went in (R100). -/
theorem rawSample_const (c : Int) : rawSample 7 (.replicate (chainSpan 7) c) = c := by
  have hspan : chainSpan 7 = 701 := rfl
  have hsinc : ∀ j < 19, sincAt 32 ((List.replicate 701 c).drop (j * 32)) = 32 ^ 4 * c := fun j hj =>
    sincAt_const (fun i hi => by rw [List.drop_replicate, List.getD_replicate _ (by omega)])
  have hstage1 : ∀ i < 19, ((List.range 19).map (fun j => sincAt 32 ((List.replicate 701 c).drop (j * 32)))).getD i 0 = 32 ^ 4 * c :=
    fun i hi => (getD_map_range _ hi).trans (hsinc i hi)
  generalize hs1 : (List.range 19).map (fun j => sincAt 32 ((List.replicate 701 c).drop (j * 32))) = s1 at hstage1
  have hstage2 : ∀ j < 7, ((List.range 7).map (fun j => halfBand (s1.drop (2 * j)))).getD j 0 = 32 * (32 ^ 4 * c) :=
    fun j hj => (getD_map_range _ hj).trans
      (halfBand_const (fun i hi => by rw [getD_drop]; exact hstage1 _ (by omega)))
  unfold rawSample
  rw [hspan]
  simp only [Nat.reduceSub, Nat.reducePow, hs1]
  rw [halfBand_const hstage2]
  have hq : (((32 * (32 * (32 ^ 4 * c)) : Int) : Rat) / ((1048576 * 1024 : Nat) : Rat)) = (c : Rat) := by
    push_cast
    ring
  rw [hq]
  exact freeRound_intCast 0 c

/-! ### Correction, windows and averages (R105, R109, R110) -/

theorem correct_within {clip : Int × Int} {o d : Int} {g : Nat} (h1 : clip.1 * 64 ≤ (d - o) * g / 4194304)
    (h2 : (d - o) * g / 4194304 ≤ clip.2 * 64) : correct clip o g d false = ((d - o) * g / 4194304, false) := by
  refine if_neg ?_
  rintro (h | h | h)
  · omega
  · omega
  · cases h

theorem correct_above {clip : Int × Int} {o d : Int} {g : Nat} (hclip : clip.1 ≤ clip.2) (h : clip.2 * 64 < (d - o) * g / 4194304) :
    correct clip o g d false = (clip.2 * 64, true) := by
  refine (if_pos (Or.inr (Or.inl h))).trans (congrArg (·, true) ?_)
  rw [min_eq_left h.le, max_eq_right (by omega)]

theorem correct_below {clip : Int × Int} {o d : Int} {g : Nat} (hclip : clip.1 ≤ clip.2) (h : (d - o) * g / 4194304 < clip.1 * 64) :
    correct clip o g d false = (clip.1 * 64, true) := by
  refine (if_pos (Or.inl h)).trans (congrArg (·, true) ?_)
  rw [min_eq_right (by omega), max_eq_left h.le]

/-- A sample of a window that has begun, one side to a word (R105, R108 to R110). -/
theorem takeSample_counts (u : State) (lim : Int × Int) {c : ConvCh} (m : Nat) (d : Int) (ov : Bool) (h : c.n ≠ 0) :
    let co := (if m < 48 ∧ m % 2 = 1 then c.coB else c.coA).getD (false, 0, 0x400000)
    let t := u.takeSample false lim c m d ov
    t.n = c.n + 1 ∧ t.acc = c.acc + (correct lim co.2.1 co.2.2 d ov).1 ∧ t.tSum = c.tSum + u.tbn ∧ t.tFrom = c.tFrom := by
  have hside : (decide (m < 48) && decide (m % 2 = 1)) = decide (m < 48 ∧ m % 2 = 1) := (Bool.decide_and ..).symm
  unfold State.takeSample
  simp only [h, false_and, if_false, hside, decide_eq_true_eq, Bool.false_and, Bool.false_eq_true, and_self]

/-! ### The word of a window (R126, R128) -/

theorem maskSet_testBit (m i : Nat) : (maskSet m i true).testBit i = true := by
  unfold maskSet
  by_cases h : m.testBit i = true
  · rw [if_pos h]
    exact h
  · rw [if_neg h, if_pos rfl, Nat.add_comm, Nat.testBit_two_pow_add_eq]
    simpa using h

theorem diagJudge_cell (u : State) {ch : Nat} (h : ch < 24) (a : Nat) (out : Bool) : u.diagJudge ch a out = u := if_neg (by omega)

theorem limSources_within (u : State) {ch : Nat} (h : ch < 24) : u.limSources ch false false = [] := by
  unfold State.limSources
  rw [if_pos h]
  exact ite_self _

theorem limFlags_within (u : State) {ch : Nat} (h : ch < 24) : u.limFlags ch false false = u := if_pos h

theorem limLive_cell (u : State) {ch : Nat} (h : ch < 24) (ov under : Bool) :
    u.limLive ch ov under =
      { u with res := { u.res with ovMask := maskSet u.res.ovMask ch ov, uvMask := maskSet u.res.uvMask ch under } } :=
  congrArg (fun x => ({ u with res := x } : State)) (if_pos h)

theorem onlyIn_setSeq (s : State) (x : Seq) : OnlyIn [.seq] s { s with seq := x } := by
  intro p hp
  cases p <;> simp_all [Part.same]

/-- A word of a cell within limits that nothing exceeds, whose overrun is not presented: it stands in its register, counts as unread,
and one that was unread before it sets the overrun bit (R126, R128). -/
theorem writeResult_within (u : State) {ch : Nat} (v : Int) (fl a : Nat) (hch : ch < 24)
    (hhi : (u.effHeld (0x860 + ch)).extractLsb' 16 16 = 0x7FFF) (hlo : (u.effHeld (0x860 + ch)).extractLsb' 0 16 = 0x8000)
    (hmin : -32768000 ≤ v) (hmax : v ≤ 32767000) (hovr : u.bit 0x826 ch = false) :
    let r := u.writeResult ch v fl a
    r.1 = resultWord v (u.suspect ch a) fl ((vget u.res.seq 0 ch + 1) % 16) ∧ vget r.2.res.latest 0 ch = r.1 ∧
      vget r.2.res.unread false ch = true ∧
      (r.2.res.ovr0.testBit ch = (u.res.ovr0.testBit ch || vget u.res.unread false ch)) ∧
      (∀ k, k ≠ ch → vget r.2.res.latest 0 k = vget u.res.latest 0 k) ∧ OnlyIn [.cyc, .res, .seq] u r.2 := by
  unfold State.writeResult
  extract_lets seq lim unit ov under s1 w lost i s2 bit s3 _ s4 _ s5 ovr s6 r
  have hunit : unit = 1000 := if_neg (by omega)
  have hov : ov = false := decide_eq_false (by
    rw [hhi, hunit]
    exact Int.not_lt.mpr hmax)
  have hunder : under = false := decide_eq_false (by
    rw [hlo, hunit]
    exact Int.not_lt.mpr hmin)
  have hs1 : s1 = u := diagJudge_cell u hch a _
  clear_value s1
  subst hs1
  have hs2 : OnlyIn [.cyc] s1 s2 := by
    unfold s2
    split
    · exact onlyIn_cycMod s1 _
    · exact .refl
  have hs3 : OnlyIn [.cyc] s1 s3 := hs2.trans ((onlyIn_noteOld s2 _ _ _).trans (onlyIn_cycMod _ _))
  have hres : s3.res = s1.res := hs3 .res (by simp)
  clear_value s2 s3
  have hs5 : OnlyIn [.cyc, .res, .seq] s1 s5 :=
    ((hs3.mono (by simp)).trans ((onlyIn_setRes s3 _).mono (by simp))).trans ((onlyIn_setSeq s4 _).mono (by simp))
  have hi : i = ch := if_pos hch
  have hovr_nil : ovr = [] := by
    have hbit : s5.bit 0x826 ch = false := by
      unfold State.bit
      rw [eff_of_onlyIn hs5 (by simp) (by simp)]
      exact hovr
    refine if_neg ?_
    rw [if_pos hch, hi, hbit, Bool.and_false]
    exact Bool.false_ne_true
  have hs6 : s6 = s5.limLive ch false false := by
    unfold s6
    rw [hov, hunder, limFlags_within _ hch]
  have hr : r = (w, s6) := by
    have hnone : s6.limSources ch ov under ++ ovr = [] := by rw [hov, hunder, limSources_within s6 hch, hovr_nil, List.append_nil]
    unfold r
    rw [hnone]
    rfl
  rw [limLive_cell s5 hch] at hs6
  have hlatest : s6.res.latest = vset s1.res.latest ch w := by
    rw [hs6, ← hres]
  have hunread : s6.res.unread = vset s1.res.unread ch true := by
    rw [hs6, ← hres]
  have hovr0 : s6.res.ovr0 = if lost = true then maskSet s1.res.ovr0 ch true else s1.res.ovr0 := by
    have hs4 : s4.res.ovr0 = if (lost && decide (ch < 24)) = true then maskSet s3.res.ovr0 i true else s3.res.ovr0 := rfl
    rw [hs6, ← hres]
    show s4.res.ovr0 = _
    rw [hs4, decide_eq_true hch, Bool.and_true, hi]
  rw [hr]
  refine ⟨rfl, ?latest, ?unread, ?overrun, fun k hk => ?others, ?frame⟩
  case latest => rw [hlatest, vget_vset, if_pos ⟨rfl, by omega⟩]
  case unread => rw [hunread, vget_vset, if_pos ⟨rfl, by omega⟩]
  case overrun =>
    have hlost : lost = vget s1.res.unread false ch := rfl
    rw [hovr0, ← hlost]
    cases lost
    · exact (Bool.or_false _).symm
    · exact (maskSet_testBit _ ch).trans (Bool.or_true _).symm
  case others => rw [hlatest, vget_vset, if_neg (fun h => hk h.1)]
  case frame =>
    rw [hs6]
    exact hs5.trans ((onlyIn_setRes s5 _).mono (by simp))

/-- Settles O28: each part by the law of its operation. -/
theorem samplesAndWords : Obligations.SamplesAndWords := by
  refine ⟨fun s dt m xs ov => ?sample, rawSample_const, fun clip o g d => ?correction, fun u lim c m d ov h => takeSample_counts u lim m d ov h,
    fun acc k => rfl, fun u ch v fl a hch hhi hlo hmin hmax hovr => writeResult_within u v fl a hch hhi hlo hmin hmax hovr⟩
  case sample =>
    intro e h
    exact ⟨decimatedSample_exec rfl h m xs ov, fun r dec hs ha hr _ hd hc => deliver_idle xs ov hs ha hr hd hc⟩
  case correction => exact ⟨correct_within, correct_above, correct_below⟩

end Sys2Proof.Machine
end

section
namespace Sys2Proof.Machine

/-! ## The result registers and reads with effects (R27, R128, R130, R307, R312, R460) -/

/-! ### The record of the cycle -/

theorem oldWord_noteOld_ne (s : State) {a k b l : Nat} (w : Word) (h : ¬(a = b ∧ k = l)) :
    (s.noteOld a k w).oldWord b l = s.oldWord b l := by
  unfold State.noteOld
  split
  · rfl
  · have hc : (s.cycMod (fun c => { c with before := (a, k, w) :: c.before })).nowCyc =
        { s.nowCyc with before := (a, k, w) :: s.nowCyc.before } := State.cycMod_nowCyc s _ (fun _ => rfl)
    have hkey : (decide (a = b) && decide (k = l)) = false := by simpa using h
    unfold State.oldWord
    rw [hc]
    simp only [List.find?_cons, hkey]

theorem words_cycMod (s : State) {f : Cyc → Cyc} (h : ∀ c, (f c).at_ = c.at_ ∧ (f c).words = c.words) :
    (s.cycMod f).nowCyc.words = s.nowCyc.words := by
  rw [State.cycMod_nowCyc s f (fun c => (h c).1), (h _).2]

theorem nowCyc_setRes (s : State) (x : Res) : ({ s with res := x } : State).nowCyc = s.nowCyc := rfl

theorem words_noteOld (s : State) (a k : Nat) (w : Word) : (s.noteOld a k w).nowCyc.words = s.nowCyc.words := by
  unfold State.noteOld
  split
  · rfl
  · exact words_cycMod s (fun _ => ⟨rfl, rfl⟩)

/-- A write leaves what the other parts showed before the cycle (R27). -/
theorem oldWord_noteWrite_ne (s : State) (rq : Requester) (a : Nat) {b l : Nat} (h : ¬((s.partOf rq a).1 = b ∧ (s.partOf rq a).2 = l)) :
    (s.noteWrite rq a).oldWord b l = s.oldWord b l := by
  unfold State.noteWrite
  split
  · rfl
  · extract_lets k u
    have hu : u.oldWord b l = s.oldWord b l := oldWord_noteOld_ne s _ h
    split
    · exact hu
    · exact (oldWord_noteRank u rq _ _ b l).trans hu

theorem words_noteWrite (s : State) (rq : Requester) (a : Nat) : (s.noteWrite rq a).nowCyc.words = s.nowCyc.words := by
  unfold State.noteWrite
  split
  · rfl
  · extract_lets k u
    have hu : u.nowCyc.words = s.nowCyc.words := words_noteOld s _ _ _
    split
    · exact hu
    · refine Eq.trans ?_ hu
      unfold State.noteRank
      exact words_cycMod u (fun _ => ⟨rfl, rfl⟩)

/-! ### Words that count as read (R128) -/

theorem onlyIn_markRead (s : State) (ch : Nat) : OnlyIn [.res] s (s.markRead ch) := onlyIn_setRes s _

theorem onlyIn_takeRead (s : State) (ch : Nat) : OnlyIn [.cyc, .res] s (s.takeRead ch) := by
  unfold State.takeRead State.unlap
  split
  · split
    · exact ((onlyIn_cycMod s _).mono (by simp)).trans ((onlyIn_setRes (s.cycMod _) _).mono (by simp))
    · exact .refl
  · exact (onlyIn_markRead s ch).mono (by simp)

/-- A read keeps the words, and what the snapshot holds. -/
theorem takeRead_res (s : State) (ch : Nat) :
    (s.takeRead ch).res.latest = s.res.latest ∧ (s.takeRead ch).res.snap = s.res.snap ∧ (s.takeRead ch).res.snaps = s.res.snaps := by
  unfold State.takeRead State.unlap
  split
  · split <;> exact ⟨rfl, rfl, rfl⟩
  · exact ⟨rfl, rfl, rfl⟩

theorem words_takeRead (s : State) (ch : Nat) : (s.takeRead ch).nowCyc.words = s.nowCyc.words := by
  unfold State.takeRead State.unlap
  split
  · split
    · exact Eq.trans (b := (s.cycMod (fun c => { c with lapped := c.lapped.filter (fun x => decide (x ≠ ch)) })).nowCyc.words) rfl
        (words_cycMod s (fun _ => ⟨rfl, rfl⟩))
    · rfl
  · rfl

theorem unread_takeRead (s : State) (ch : Nat) :
    (s.takeRead ch).res.unread = if s.nowCyc.words.contains ch = true then s.res.unread else vset s.res.unread ch false := by
  unfold State.takeRead State.unlap
  split
  · split <;> rfl
  · rfl

/-- Whether channel `ch` has a word that counts as unread, and whether it was written in this cycle. -/
def State.unreadNow (ch : Nat) (s : State) : Bool × Bool := (vget s.res.unread true ch, s.nowCyc.words.contains ch)

theorem unreadNow_takeRead_ne (s : State) {ch k : Nat} (h : k ≠ ch) : (s.takeRead k).unreadNow ch = s.unreadNow ch := by
  unfold State.unreadNow
  rw [words_takeRead, unread_takeRead]
  split
  · rfl
  · rw [vget_vset, if_neg (fun e => h e.1.symm)]

/-- A word written in the cycle of its read stays unread. -/
theorem unreadNow_takeRead_self (s : State) {ch : Nat} (h : ch < 36) :
    (s.takeRead ch).unreadNow ch = (s.nowCyc.words.contains ch && vget s.res.unread true ch, s.nowCyc.words.contains ch) := by
  unfold State.unreadNow
  rw [words_takeRead, unread_takeRead]
  cases s.nowCyc.words.contains ch
  · exact Prod.ext ((vget_vset ..).trans (if_pos ⟨rfl, h⟩)) rfl
  · rfl

/-! ### The snapshot (R130) -/

theorem onlyIn_takeSnap (s : State) : OnlyIn [.cyc, .res] s s.takeSnap :=
  ((onlyIn_setRes s _).mono (by simp)).trans (onlyIn_foldl onlyIn_takeRead _ _)

theorem takeSnap_res (s : State) :
    s.takeSnap.res.latest = s.res.latest ∧ s.takeSnap.res.snap = Vector.ofFn (fun i : Fin 36 => s.latestRead i.val) ∧
      s.takeSnap.res.snaps = (s.res.snaps + 1) % 65536 := by
  unfold State.takeSnap
  refine List.foldlRecOn (List.range 36) State.takeRead (motive := fun t : State => t.res.latest = s.res.latest ∧
    t.res.snap = Vector.ofFn (fun i : Fin 36 => s.latestRead i.val) ∧ t.res.snaps = (s.res.snaps + 1) % 65536) ⟨rfl, rfl, rfl⟩ ?_
  intro t ht ch _
  obtain ⟨hlatest, hsnap, hsnaps⟩ := takeRead_res t ch
  rw [hlatest, hsnap, hsnaps]
  exact ht

theorem unread_takeReads (s : State) {ch : Nat} (h : ch < 36) :
    vget ((List.range 36).foldl State.takeRead s).res.unread true ch = (s.nowCyc.words.contains ch && vget s.res.unread true ch) := by
  show (((List.range 36).foldl State.takeRead s).unreadNow ch).1 = _
  refine view_foldl_of_mem (view := State.unreadNow ch) (P := (· = s.unreadNow ch))
    (Q := fun x => x.1 = (s.nowCyc.words.contains ch && vget s.res.unread true ch)) (fun v i hi => unreadNow_takeRead_ne v hi)
    (fun v hv => ?_) List.nodup_range (List.mem_range.mpr h) rfl
  obtain ⟨hunread, hwords⟩ := Prod.mk.inj hv
  rw [unreadNow_takeRead_self v h, hunread, hwords]

theorem unread_takeSnap (s : State) {ch : Nat} (h : ch < 36) :
    vget s.takeSnap.res.unread true ch = (s.nowCyc.words.contains ch && vget s.res.unread true ch) := by
  unfold State.takeSnap
  rw [unread_takeReads _ h, nowCyc_setRes]

theorem vget_ofFn {α : Type} {n : Nat} (f : Fin n → α) (d : α) {i : Nat} (h : i < n) : vget (Vector.ofFn f) d i = f ⟨i, h⟩ := by
  simp [vget, h]

/-- RES_SNAP_CTRL stores nothing: its write is noted in its cycle, and the snapshot is to come. -/
theorem wrote_snapCtrl (e : State) (rq : Requester) (v : Word) : e.wrote rq 0x828 v = (e.disarm rq).noteWrite rq 0x828 := by
  unfold State.wrote
  rw [stored_of_noBits (by decide) (by decide), ownerActs_of_unprotected (by decide)]
  rfl

theorem onlyIn_wrote_snapCtrl (e : State) (rq : Requester) (v : Word) : OnlyIn [.cyc, .pwr] e (e.wrote rq 0x828 v) := by
  rw [wrote_snapCtrl]
  exact ((onlyIn_disarm e rq).mono (by simp)).trans ((onlyIn_noteWrite _ rq _).mono (by simp))

theorem words_wrote_snapCtrl (e : State) (rq : Requester) (v : Word) : (e.wrote rq 0x828 v).nowCyc.words = e.nowCyc.words := by
  rw [wrote_snapCtrl]
  exact words_noteWrite (e.disarm rq) rq 0x828

theorem latest_of_onlyIn {ps : List Part} {s t : State} (h : OnlyIn ps s t) (h1 : Part.regs ∉ ps) (h2 : Part.ovl ∉ ps)
    (h3 : Part.res ∉ ps) (ch : Nat) : t.latest ch = s.latest ch := by
  have hres : t.res = s.res := h .res h3
  unfold State.latest State.used State.ncells State.fld
  rw [hres, eff_of_onlyIn h h1 h2]

/-- The write that takes a snapshot leaves what the result registers show in its cycle. -/
theorem latestRead_wrote_snapCtrl (e : State) (rq : Requester) (v : Word) {ch : Nat} (h : ch < 36) :
    (e.wrote rq 0x828 v).latestRead ch = e.latestRead ch := by
  have hpart : (e.disarm rq).partOf rq 0x828 = (0x828, 0) := rfl
  have hold : (e.wrote rq 0x828 v).oldWord (0x800 + ch) 0 = e.oldWord (0x800 + ch) 0 := by
    rw [wrote_snapCtrl]
    exact oldWord_noteWrite_ne (e.disarm rq) rq 0x828 (by rw [hpart]; omega)
  unfold State.latestRead
  rw [hold, latest_of_onlyIn (onlyIn_wrote_snapCtrl e rq v) (by simp) (by simp) (by simp)]

theorem snapshot_exec {s e : State} {dt : Nat} (he : s.elapse dt = e) {rq : Requester} (h : e.accepts rq 0x828 1) :
    exec (.snapshot dt rq) s = .next ((e.wrote rq 0x828 1).takeSnap.answers .ok []) := by
  subst he
  rw [exec_snapshot, execSnapshot, put_effect h (by decide) (by decide) (by decide), effect_wrote h, if_pos (by decide)]
  rfl

theorem snapshot_completes {s e : State} {dt : Nat} (he : s.elapse dt = e) {rq : Requester} (h : e.accepts rq 0x828 1) :
    Completes (.snapshot dt rq) s (fun t =>
      (∀ ch < 36, vget t.res.snap 0 ch = e.latestRead ch ∧
        vget t.res.unread true ch = (e.nowCyc.words.contains ch && vget e.res.unread true ch)) ∧
        t.res.snaps = (e.res.snaps + 1) % 65536 ∧ t.res.latest = e.res.latest ∧ OnlyIn [.cyc, .pwr, .res, .answer] e t) := by
  have honly := onlyIn_wrote_snapCtrl e rq 1
  have hres : (e.wrote rq 0x828 1).res = e.res := honly .res (by simp)
  have hframe : OnlyIn [.cyc, .pwr, .res, .answer] e (e.wrote rq 0x828 1).takeSnap :=
    (honly.mono (by simp)).trans ((onlyIn_takeSnap _).mono (by simp))
  have hunread := fun ch => unread_takeSnap (e.wrote rq 0x828 1) (ch := ch)
  obtain ⟨hlatest, hsnap, hsnaps⟩ := takeSnap_res (e.wrote rq 0x828 1)
  refine ⟨_, snapshot_exec he h, ?_⟩
  generalize (e.wrote rq 0x828 1).takeSnap = t at hlatest hsnap hsnaps hunread hframe
  refine ⟨fun ch hch => ⟨?snap, ?unread⟩, hsnaps.trans (by rw [hres]), hlatest.trans (by rw [hres]), ?frame⟩
  case snap =>
    show vget t.res.snap 0 ch = _
    rw [hsnap, vget_ofFn _ _ hch, latestRead_wrote_snapCtrl e rq 1 hch]
  case unread =>
    show vget t.res.unread true ch = _
    rw [hunread ch hch, words_wrote_snapCtrl, hres]
  case frame => exact hframe.trans ((onlyIn_answers t _ _).mono (by simp))

/-! ### Reads -/

theorem readAccess_served {s : State} {rq : Requester} (h : s.serves rq = true) (host : Bool) (a : Nat) :
    s.readAccess rq host a = (s.readReg rq host a).2.answers .ok [(s.readReg rq host a).1] := if_pos h

/-- The registers whose reads give what `peek` shows: all but the windows onto SECDED words. -/
theorem readNow_eq {a : Nat} (h1 : ¬(0xB00 ≤ a ∧ a ≤ 0xBFF)) (h2 : a ≠ 0xC49 ∧ a ≠ 0xC4B) (h3 : ¬(0x1E08 ≤ a ∧ a ≤ 0x1E0F))
    (h4 : a ≠ 0x1E21) (s : State) (rq : Requester) (host : Bool) : s.readNow rq host a = (s.peek rq a, s.readEffect rq host a) := by
  unfold State.readNow
  rw [if_neg h1, if_neg h2.1, if_neg h2.2, if_neg h3, if_neg h4]

/-- A register without stored bits shows its status. -/
theorem peek_of_noCfg {a : Nat} (h1 : regExists a = true) (h2 : isSelector a = false) (h3 : (regRow a).cfg = 0) (h4 : a ≠ 0x104)
    (s : State) (rq : Requester) : s.peek rq a = s.rdStat rq a := by
  have hcfg : s.rdCfg rq a = 0 := by
    unfold State.rdCfg
    rw [h2, if_neg Bool.false_ne_true, if_neg (fun h : a = 0x104 ∧ _ => h4 h.1), h3]
    split
    · rfl
    · exact BitVec.and_zero
  unfold State.peek
  rw [if_pos h1, hcfg]
  exact BitVec.zero_or

theorem resReg_partOf {ch : Nat} (h : ch < 36) (s : State) (rq : Requester) : s.partOf rq (0x800 + ch) = (0x800 + ch, 0) := by
  have hsel : isSelector (0x800 + ch) = false := by
    simp [isSelector]
    omega
  unfold State.partOf
  rw [hsel, if_neg Bool.false_ne_true]
  split <;> first | rfl | omega

theorem resReg_peek {ch : Nat} (h : ch < 36) (s : State) (rq : Requester) : s.peek rq (0x800 + ch) = s.latest ch := by
  have hrow : ∀ k < 36, regExists (0x800 + k) = true ∧ isSelector (0x800 + k) = false ∧ (regRow (0x800 + k)).cfg = 0 := by decide
  obtain ⟨hexists, hsel, hcfg⟩ := hrow ch h
  rw [peek_of_noCfg hexists hsel hcfg (by omega)]
  unfold State.rdStat State.rdRes
  rw [if_neg (by omega), if_neg (by omega), if_neg (by omega), if_neg (by omega), if_neg (by omega), if_pos (by omega), if_pos (by omega),
    Nat.add_sub_cancel_left]

/-- A read of a latest-result register (R27, R128). -/
theorem resReg_readReg {ch : Nat} (h : ch < 36) (s : State) (rq : Requester) (host : Bool) :
    s.readReg rq host (0x800 + ch) = (s.latestRead ch, s.takeRead ch) := by
  have heffect : s.readEffect rq host (0x800 + ch) = s.takeRead ch := by
    unfold State.readEffect
    rw [if_pos (by omega), Nat.add_sub_cancel_left]
  unfold State.readReg
  simp only [resReg_partOf h, readNow_eq (by omega : ¬(0xB00 ≤ 0x800 + ch ∧ 0x800 + ch ≤ 0xBFF)) (by omega) (by omega) (by omega),
    resReg_peek h, heffect]
  rfl

theorem onlyIn_setBank (s : State) (rq : Requester) (f : Bank → Bank) : OnlyIn [.banks] s (s.setBank rq f) := by
  intro p hp
  cases p <;> simp_all [Part.same, State.setBank]

theorem onlyIn_setNet (s : State) (x : Net) : OnlyIn [.net] s { s with net := x } := by
  intro p hp
  cases p <;> simp_all [Part.same]

section Reads
variable {s e : State} {dt : Nat} (he : s.elapse dt = e)
include he

theorem resultRead_exec {rq : Requester} {ch : Nat} (h : ch < 36) (hs : e.serves rq = true) :
    exec (.resultRead dt rq ch) s = .next ((e.takeRead ch).answers .ok [e.latestRead ch]) := by
  rw [exec_resultRead]
  unfold execResultRead
  rw [he]
  simp only [if_pos h, readAccess_served hs, resReg_readReg h]

/-- NET_TBL is read, and NET_TBH is latched for the requester (R312). -/
theorem netTblRead_exec {rq : Requester} (hs : e.serves rq = true) :
    exec (.netTblRead dt rq) s =
      .next ((e.setBank rq (fun b => { b with tbh := e.tb.extractLsb' 32 32 })).answers .ok
        [(e.oldWord 0x1604 0).getD (e.tb.setWidth 32)]) := by
  have hpeek : e.peek rq 0x1604 = e.tb.setWidth 32 :=
    (peek_of_noCfg (by decide) (by decide) (by decide) (by decide) e rq).trans (BitVec.setWidth_eq_extractLsb' (by decide)).symm
  rw [exec_netTblRead, execNetTblRead, he, readAccess_served hs]
  unfold State.readReg
  rw [readNow_eq (by decide) (by decide) (by decide) (by decide), hpeek]
  rfl

/-- The host's read of NET_RING at the bridge (R307). -/
theorem netRingRead_exec (hs : e.serves .chain = true) (hb : e.bridge = true) :
    exec (.netRingRead dt) s =
      .next ({ e with net := { e.net with attn := false } }.answers .ok [(e.oldWord 0x160A 0).getD (e.peek .chain 0x160A)]) := by
  have heffect : e.readEffect .chain true 0x160A = { e with net := { e.net with attn := false } } := if_pos hb
  rw [exec_netRingRead, execNetRingRead, he, readAccess_served hs]
  unfold State.readReg
  rw [readNow_eq (by decide) (by decide) (by decide) (by decide), heffect]
  rfl

end Reads

theorem sel_of_onlyIn {ps : List Part} {s t : State} (h : OnlyIn ps s t) (h1 : Part.ovl ∉ ps) (h2 : Part.banks ∉ ps) (rq : Requester)
    (a : Nat) : t.sel rq a = s.sel rq a := by
  have hovl : t.ovl = s.ovl := h .ovl h1
  have hbanks : t.banks = s.banks := h .banks h2
  unfold State.sel State.bank
  rw [hovl, hbanks]

/-- The word of scratch that a requester's selector names (R194). -/
def State.scratchAt (s : State) (rq : Requester) : Nat := Sys2Proof.fld (s.sel rq 0xC4A) 16 3 * 1024 + Sys2Proof.fld (s.sel rq 0xC4A) 0 10

section Window
variable {s e : State} {dt : Nat} (he : s.elapse dt = e) {rq : Requester}
include he

theorem scratchWindow_write_exec {v : Word} (h : e.accepts rq 0xC4B v) :
    exec (.windowAutoincAccess dt rq 0xC4B (some v)) s =
      .next ((((e.wrote rq 0xC4B v).putScratch (e.scratchAt rq) v).advance rq 0xC4A 10 1023).answers .ok []) := by
  have hup : e.upTo rq 0xC4B = e.disarm rq := rfl
  have honly := onlyIn_wrote e rq 0xC4B v
  rw [hup] at honly
  have hsel : (e.wrote rq 0xC4B v).sel rq 0xC4A = e.sel rq 0xC4A := sel_of_onlyIn honly (by simp) (by simp) rq 0xC4A
  subst he
  rw [exec_windowAutoincAccess]
  unfold execWindowAutoincAccess
  dsimp only
  rw [put_effect h (by decide) (by decide) (by decide), effect_wrote h, if_neg (by decide), if_pos (by decide)]
  unfold State.scratchAt
  rw [← hsel]
  rfl

theorem scratchWindow_read_exec (hs : e.serves rq = true) (hecc : e.eccOf .scratch (e.scratchAt rq) = none) :
    exec (.windowAutoincAccess dt rq 0xC4B none) s =
      .next ((e.advance rq 0xC4A 10 1023).answers .ok
        [(e.oldWord 0xC4B (fld (e.sel rq 0xC4A) 0 19)).getD (e.scratchWord (e.scratchAt rq))]) := by
  have hread : e.readNow rq false 0xC4B = (e.scratchWord (e.scratchAt rq), e.advance rq 0xC4A 10 1023) := by
    have hgood : e.seqBad .scratch (e.scratchAt rq) = false := by
      unfold State.seqBad
      rw [hecc]
      rfl
    have htake : e.seqEcc .scratch (e.scratchAt rq) = e := by
      unfold State.seqEcc
      rw [hecc]
    show ((if e.seqBad .scratch (e.scratchAt rq) = true then 0xFFFFFFFF else e.scratchWord (e.scratchAt rq)),
      (e.seqEcc .scratch (e.scratchAt rq)).advance rq 0xC4A 10 1023) = _
    rw [hgood, htake, if_neg Bool.false_ne_true]
  rw [exec_windowAutoincAccess]
  unfold execWindowAutoincAccess
  dsimp only
  rw [he, readAccess_served hs]
  unfold State.readReg
  rw [hread]
  rfl

end Window

/-- Settles O29: a read answers the word from before the writes of its cycle, and what it does beyond that is the effect of its register. -/
theorem resultRegisters : Obligations.ResultRegisters := by
  intro s dt rq e
  have he : s.elapse dt = e := rfl
  clear_value e
  refine ⟨snapshot_completes he, fun ch hch hs => resultRead_exec he hch hs, fun hs => ?table, fun hs hb => ?ring,
    fun v h => scratchWindow_write_exec he h, fun hs hecc => scratchWindow_read_exec he hs hecc⟩
  case table =>
    refine ⟨_, netTblRead_exec he hs, rfl, fun hbank => ?_, ?_⟩
    · exact congrArg Bank.tbh ((vget_vmod ..).trans (if_pos ⟨rfl, hbank⟩))
    · exact ((onlyIn_setBank e rq _).mono (by simp)).trans ((onlyIn_answers _ _ _).mono (by simp))
  case ring =>
    refine ⟨_, netRingRead_exec he hs hb, rfl, rfl, ?_⟩
    exact ((onlyIn_setNet e _).mono (by simp)).trans ((onlyIn_answers _ _ _).mono (by simp))

end Sys2Proof.Machine
end

section
namespace Sys2Proof.Machine

/-! ## What a presentation can change (R354, R357, R358) -/

/-- The parts that a presentation, with the reactions it calls for and their effect on a spectrum run, can change. -/
def presentParts : List Part := [.cyc, .aon, .pwr, .cfe, .mod, .convs, .seq, .slu, .spc, .ecp, .net, .flt]

/-- What changes no more than some of these parts. -/
theorem OnlyIn.presents {ps : List Part} {s t : State} (h : OnlyIn ps s t) (hps : ps ⊆ presentParts := by decide) :
    OnlyIn presentParts s t := h.mono hps

theorem OnlyIn.ite {ps : List Part} {s a b : State} {c : Prop} [Decidable c] (ha : OnlyIn ps s a) (hb : OnlyIn ps s b) :
    OnlyIn ps s (if c then a else b) := by
  split
  · exact ha
  · exact hb

theorem onlyIn_setFlt (s : State) (x : Flt) : OnlyIn [.flt] s { s with flt := x } := by
  intro p hp
  cases p <;> simp_all [Part.same]

theorem onlyIn_setPwr (s : State) (x : Pwr) : OnlyIn [.pwr] s { s with pwr := x } := by
  intro p hp
  cases p <;> simp_all [Part.same]

theorem onlyIn_setAon (s : State) (x : Aon) : OnlyIn [.aon] s { s with aon := x } := by
  intro p hp
  cases p <;> simp_all [Part.same]

theorem onlyIn_setSpc (s : State) (x : Spc) : OnlyIn [.spc] s { s with spc := x } := by
  intro p hp
  cases p <;> simp_all [Part.same]

theorem onlyIn_setConvs (s : State) (x : List Conv) : OnlyIn [.convs] s { s with convs := x } := by
  intro p hp
  cases p <;> simp_all [Part.same]

/-! ### Flags, records and notifications -/

theorem onlyIn_setFsrc (s : State) (i : Nat) (f : FltSrc) : OnlyIn [.flt] s (s.setFsrc i f) := onlyIn_setFlt s _

theorem onlyIn_srcSet (s : State) (a i : Nat) : OnlyIn [.cyc] s (s.srcSet a i) := onlyIn_cycMod s _

theorem onlyIn_wakes (s : State) (js : List Nat) : OnlyIn [.seq] s (s.wakes js) := onlyIn_foldl (fun u j => onlyIn_setJet u j _) js s

theorem onlyIn_setFlag (s : State) (k : Nat) : OnlyIn [.seq] s (s.setFlag k) := by
  have hraise : OnlyIn [.seq] s (s.raiseFlag k) := by
    unfold State.raiseFlag
    extract_lets free taker u
    have hu : OnlyIn [.seq] s u := onlyIn_wakes s _
    cases taker
    · exact hu.trans (onlyIn_setSeq u _)
    · exact (hu.trans (onlyIn_wakes u _)).trans (onlyIn_setSeq _ _)
  exact .ite .refl (hraise.trans (onlyIn_setSeq _ _))

theorem onlyIn_record (s : State) (kind : RecKind) (i : Nat) (sec : Bool) : OnlyIn [.flt] s (s.record kind i sec) :=
  .ite (onlyIn_setFlt s _) (onlyIn_setFlt s _)

theorem onlyIn_notify (s : State) (i : Nat) (sec : Bool) : OnlyIn [.ecp, .net] s (s.notify i sec) :=
  .ite (.ite ((onlyIn_rxPut s _).mono (by simp)) ((send_port s _ _ .north).2.mono (by simp))) .refl

/-- An occasion is recorded and notified. -/
theorem onlyIn_announced (s : State) (kind : RecKind) (i : Nat) (sec : Bool) :
    OnlyIn presentParts s ((s.record kind i sec).notify i sec) :=
  (onlyIn_record s kind i sec).presents.trans (onlyIn_notify _ i sec).presents

/-! ### Presentations -/

theorem onlyIn_secondary (s : State) (i id : Nat) : OnlyIn presentParts s (s.secondary i id) := by
  unfold State.secondary
  extract_lets u f v
  have hv : OnlyIn presentParts s v := (onlyIn_srcSet s 0x1A20 i).presents.trans (onlyIn_setFsrc u i _).presents
  exact .ite hv (hv.trans (onlyIn_announced v .secondary i true))

theorem onlyIn_unclear (s : State) (i : Nat) : OnlyIn presentParts s (s.unclear i) := by
  unfold State.unclear
  split
  · exact ((onlyIn_setFsrc s i _).presents.trans (onlyIn_cycMod _ _).presents).trans (onlyIn_setFlt _ _).presents
  · exact .refl

theorem onlyIn_primary (s : State) (i : Nat) : OnlyIn presentParts s (s.primary i) := by
  unfold State.primary
  extract_lets u1 f n f1 f2 fresh f3 u2 u3 u4 src5 u5 src6 u6 src7
  have h2 : OnlyIn presentParts s u2 :=
    ((onlyIn_unclear s i).trans (onlyIn_srcSet _ 0x1A10 i).presents).trans (onlyIn_setFsrc u1 i f3).presents
  have h3 : OnlyIn presentParts s u3 := .ite (h2.trans (onlyIn_announced u2 .first i false)) h2
  have h4 : OnlyIn presentParts s u4 := .ite (h3.trans (onlyIn_setFlag u3 _).presents) h3
  have h5 : OnlyIn presentParts s u5 := h4.trans (onlyIn_setFsrc u4 i _).presents
  have h6 : OnlyIn presentParts s u6 := h5.trans (onlyIn_setFsrc u5 i _).presents
  have escalates : ∀ g : FltSrc, OnlyIn presentParts s (((u6.setFsrc i g).record .escalated i false).notify i false) := fun g =>
    (h6.trans (onlyIn_setFsrc u6 i g).presents).trans (onlyIn_announced _ .escalated i false)
  exact .ite (.ite (escalates _) (.ite (escalates _) h6)) h5

/-! ### Reactions -/

theorem onlyIn_openAll (s : State) : OnlyIn [.slu, .spc] s s.openAll := by
  have hopen : OnlyIn [.slu, .spc] s (cellNos.foldl State.openOut s) := (onlyIn_openOuts s cellNos).mono (by simp)
  unfold State.openAll
  extract_lets u
  split
  · exact hopen.trans ((onlyIn_setSpc u _).mono (by simp))
  · exact hopen

theorem onlyIn_dropLost (s : State) : OnlyIn [.slu] s s.dropLost :=
  onlyIn_foldl (fun u n => .ite (onlyIn_setBal u n _) .refl) cellNos s

theorem onlyIn_allocate (s : State) : OnlyIn [.slu] s s.allocate := by
  unfold State.allocate
  extract_lets c l internal d pDie pBoard
  split
  exact (onlyIn_foldl (fun u n => onlyIn_setBal u n _) cellNos s).trans (onlyIn_setSlu _ _)

theorem onlyIn_recompute (s : State) : OnlyIn [.slu] s s.recompute := by
  have hlost : OnlyIn [.slu] s _ :=
    onlyIn_foldl (f := fun u n => if u.eligible n then u else u.setBal n (fun b => { b with l := 0 }))
      (fun u n => .ite .refl (onlyIn_setBal u n _)) cellNos s
  refine .ite ((hlost.trans (onlyIn_allocate _)).trans (onlyIn_foldl (fun u n => ?_) cellNos _)) .refl
  exact .ite (onlyIn_setBal u n _) .refl

theorem onlyIn_holdAll (s : State) (t : Bool) (l : List Nat) : OnlyIn [.flt] s (s.holdAll t l) :=
  onlyIn_foldl (fun u i => onlyIn_setFsrc u i _) l s

theorem onlyIn_noteReact (s : State) (code src : Nat) : OnlyIn [.cyc, .flt] s (s.noteReact code src) :=
  ((onlyIn_cycMod s _).mono (by simp)).trans ((onlyIn_setFlt _ _).mono (by simp))

theorem onlyIn_joinReact (s : State) (code : Nat) (l : List Nat) : OnlyIn [.cyc, .flt] s (s.joinReact code l) :=
  .ite ((onlyIn_noteReact s code _).trans ((onlyIn_setFlt _ _).mono (by simp))) .refl

theorem onlyIn_reacted (s : State) (code : Nat) (openers : List Nat) : OnlyIn [.cyc, .flt] s (s.reacted code openers) := by
  unfold State.reacted
  extract_lets src b flt u flt' v
  have hu : OnlyIn [.cyc, .flt] s u := ((onlyIn_setFlt s _).mono (by simp)).trans (onlyIn_noteReact _ code src)
  have hv : OnlyIn [.cyc, .flt] s v := .ite (hu.trans ((onlyIn_setFlt u _).mono (by simp))) hu
  exact hv.trans ((onlyIn_record v .reaction src false).mono (by simp))

theorem onlyIn_issueThrottle (s : State) (l : List Nat) : OnlyIn presentParts s (s.issueThrottle l) :=
  have hh := (onlyIn_holdAll s true l).presents
  .ite .refl (.ite (hh.trans (onlyIn_joinReact _ 2 l).presents)
    ((hh.trans (onlyIn_recompute _).presents).trans (onlyIn_reacted _ 2 l).presents))

theorem onlyIn_issueStop (s : State) (l : List Nat) : OnlyIn presentParts s (s.issueStop l) :=
  have hh := (onlyIn_holdAll s false l).presents
  .ite .refl (.ite (hh.trans (onlyIn_joinReact _ 3 l).presents)
    (((hh.trans (onlyIn_openAll _).presents).trans (onlyIn_dropLost _).presents).trans (onlyIn_reacted _ 3 l).presents))

theorem onlyIn_reactMode (s : State) (m : Mode) : OnlyIn [.pwr, .seq] s (s.reactMode m) := by
  unfold State.reactMode
  split
  · exact (onlyIn_setPwr s _).mono (by simp)
  · exact .ite ((onlyIn_setPwr s _).mono (by simp)) (onlyIn_beginCommit s m .reaction)

theorem onlyIn_overrule (s : State) : OnlyIn presentParts s s.overrule := by
  unfold State.overrule
  extract_lets flt u pwr
  have hu : OnlyIn presentParts s u := (onlyIn_setFlt s _).presents
  refine .ite ?_ .refl
  split
  · exact .ite (hu.trans (onlyIn_setPwr u _).presents) hu
  · exact hu

theorem onlyIn_lockNow (s : State) : OnlyIn presentParts s s.lockNow :=
  .ite (onlyIn_overrule s) ((onlyIn_overrule s).trans (onlyIn_reactMode _ .lockout).presents)

theorem onlyIn_issueMode (s : State) (safe lock : List Nat) : OnlyIn presentParts s (s.issueMode safe lock) := by
  have hlatch : OnlyIn presentParts s { s with aon := { s.aon with lockout := true } } := (onlyIn_setAon s _).presents
  have hlock := (hlatch.trans (onlyIn_openAll _).presents).trans (onlyIn_lockNow _)
  have hsafe := (onlyIn_openAll s).presents.trans (onlyIn_reactMode _ .safe).presents
  exact .ite (.ite (onlyIn_joinReact s 5 lock).presents (hlock.trans (onlyIn_reacted _ 5 lock).presents))
    (.ite (.ite (onlyIn_joinReact s 4 safe).presents (hsafe.trans (onlyIn_reacted _ 4 safe).presents)) .refl)

theorem onlyIn_collect (s : State) (l : List Nat) : OnlyIn presentParts s (s.collect l) := by
  unfold State.collect
  extract_lets srcs u prim v calls
  have hv : OnlyIn presentParts s v := by
    refine (onlyIn_cycMod s _).presents.trans (onlyIn_foldl (fun w i => ?_) srcs u)
    split
    · exact onlyIn_secondary w i _
    · exact onlyIn_primary w i
  exact .ite .refl (((hv.trans (onlyIn_issueThrottle v _)).trans (onlyIn_issueStop _ _)).trans (onlyIn_issueMode _ _ _))

/-! ### The effect on a spectrum run (R260, R271) -/

theorem onlyIn_dropConvs (s : State) (f : Conv → Bool) : OnlyIn [.mod, .convs] s (s.dropConvs f) := by
  unfold State.dropConvs
  extract_lets held u
  have hu : OnlyIn [.mod, .convs] s u := (onlyIn_foldl (fun w m => onlyIn_setMod w _) held s).mono (by simp)
  exact hu.trans ((onlyIn_setConvs u _).mono (by simp))

theorem onlyIn_setOp (s : State) (kind : Nat) (f : Oper → Oper) : OnlyIn [.seq] s (s.setOp kind f) := by
  unfold State.setOp
  split
  · exact onlyIn_setSeq s _
  · exact .refl

theorem onlyIn_endOp (s : State) (kind : Nat) (st : OpSt) (cause code : Nat) : OnlyIn [.pwr, .seq] s (s.endOp kind st cause code) := by
  have hreturn : ∀ u : State, OnlyIn [.pwr, .seq] u (u.autoReturn kind) := fun u => .ite (onlyIn_beginCommit u _ .auto) .refl
  unfold State.endOp
  split
  · exact .refl
  · extract_lets u v
    have hu : OnlyIn [.seq] s u := onlyIn_setOp s kind _
    have hv : OnlyIn [.seq] s v := .ite (hu.trans (onlyIn_setFlag u _)) hu
    exact (hv.mono (by simp)).trans (hreturn v)

theorem onlyIn_endSpec (s : State) (st : OpSt) (cause code : Nat) : OnlyIn presentParts s (s.endSpec st cause code) := by
  unfold State.endSpec State.releaseSpec
  extract_lets u spc v
  have hu : OnlyIn presentParts s u := (onlyIn_openAll s).presents.trans (onlyIn_dropConvs _ _).presents
  have hv : OnlyIn presentParts s v := hu.trans (onlyIn_setSpc u _).presents
  exact (((hv.trans (onlyIn_endOp v 1 st cause code).presents).trans (onlyIn_rotClock _).presents).trans
    (onlyIn_owEnter _).presents).trans (onlyIn_collect _ [157])

theorem onlyIn_reactSpec (s : State) (wasT wasS : Bool) : OnlyIn presentParts s (s.reactSpec wasT wasS) := by
  have hopen : OnlyIn presentParts s s.openAll := (onlyIn_openAll s).presents
  have hheld : ∀ r : SpcRun, OnlyIn presentParts s ((s.openAll).setRun r) := fun r => hopen.trans (onlyIn_setSpc _ _).presents
  unfold State.reactSpec
  split
  · refine .ite (onlyIn_endSpec s .failed 4 1) (.ite (.ite ?_ .refl) .refl)
    split
    · exact hheld _
    · exact hheld _
    · exact hheld _
    · exact hopen
  · exact .refl

/-- A presentation changes the collector, its notifications, the outputs, the mode's commit, the flags and the spectrum run at most. -/
theorem onlyIn_present (s : State) (l : List Nat) : OnlyIn presentParts s (s.present l) :=
  .ite .refl ((onlyIn_collect s l).trans (onlyIn_reactSpec _ _ _))

end Sys2Proof.Machine
end

section
namespace Sys2Proof.Machine

/-! ## Streams and pages (R139, R144, R145, R147, R148, R150, R152) -/

/-! ### A stream, a word of result SRAM -/

theorem onlyIn_setBsn (s : State) (x : Bsn) : OnlyIn [.bsn] s { s with bsn := x } := by
  intro p hp
  cases p <;> simp_all [Part.same]

theorem onlyIn_setStrm (s : State) (m : Nat) (f : Strm → Strm) : OnlyIn [.bsn] s (s.setStrm m f) := onlyIn_setBsn s _

theorem strm_setStrm_self (s : State) {m : Nat} (hm : m < 16) (f : Strm → Strm) : (s.setStrm m f).strm m = f (s.strm m) := by
  unfold State.strm State.setStrm
  rw [vget_vmod, if_pos ⟨rfl, hm⟩]

theorem strm_of_streams {s t : State} (h : t.bsn.streams = s.bsn.streams) (m : Nat) : t.strm m = s.strm m := by
  unfold State.strm
  rw [h]

theorem onlyIn_eccClear (s : State) (a : EccArea) (i : Nat) : OnlyIn [.ecc] s (s.eccClear a i) := by
  intro p hp
  cases p <;> simp_all [Part.same, State.eccClear]

theorem onlyIn_putSram (s : State) (i : Nat) (w : Word) : OnlyIn [.bsn, .ecc] s (s.putSram i w) :=
  ((onlyIn_setBsn s _).mono (by simp)).trans ((onlyIn_eccClear _ .basin i).mono (by simp))

theorem sramWord_eq (s : State) (k : Nat) : s.sramWord k = (Sparse.get none s.bsn.sram k).getD (Config.sramWord 0 s.resets k) := by
  unfold State.sramWord
  cases Sparse.get none s.bsn.sram k <;> rfl

theorem sramWord_putSram (s : State) (i k : Nat) (w : Word) : (s.putSram i w).sramWord k = if k = i then w else s.sramWord k := by
  have hget : Sparse.get none (s.putSram i w).bsn.sram k = if k = i then some w else Sparse.get none s.bsn.sram k :=
    Sparse.get_set_of_ne none s.bsn.sram i (some w) k (by simp)
  rw [sramWord_eq, sramWord_eq, hget]
  split
  · rfl
  · rfl

theorem sramWord_putSram_self (s : State) (i : Nat) (w : Word) : (s.putSram i w).sramWord i = w := by
  rw [sramWord_putSram, if_pos rfl]

theorem sramWord_putSram_ne (s : State) {i k : Nat} (w : Word) (h : k ≠ i) : (s.putSram i w).sramWord k = s.sramWord k := by
  rw [sramWord_putSram, if_neg h]

/-- The check word of a page is no part of what it checks. -/
theorem pageCheck_putSram_check (s : State) (phys fill : Nat) (w : Word) :
    (s.putSram (phys * 256 + 3) w).pageCheck phys fill = s.pageCheck phys fill := by
  unfold State.pageCheck
  refine congrArg crc32c (List.flatMap_congr fun i hi => ?_)
  have hne : i ≠ 3 := by
    rcases List.mem_append.mp hi with h | h
    · exact Nat.ne_of_lt (List.mem_range.mp h)
    · obtain ⟨k, _, rfl⟩ := List.mem_map.mp h
      omega
  rw [sramWord_putSram_ne s w (by omega)]

/-! ### Pages that return to the pool (R137, R148, R403) -/

theorem mem_insertAsc (n k : Nat) (l : List Nat) : k ∈ insertAsc n l ↔ k = n ∨ k ∈ l := by
  induction l with
  | nil => simp [insertAsc]
  | cons a l ih =>
    unfold insertAsc
    split
    · simp
    · split
      · next h => simp [h]
      · simp only [List.mem_cons, ih]
        tauto

theorem freePage_out {s : State} {p : BPage} (h : s.pageOut p.phys = true) : s.freePage p = s := if_pos h

theorem freePage_good {s : State} {p : BPage} (h : s.pageOut p.phys = false) (hb : p.bad = false) :
    s.freePage p = { s with bsn := { s.bsn with free := insertAsc p.phys s.bsn.free } } := by
  unfold State.freePage
  rw [h, hb]
  rfl

theorem onlyIn_freePage_good (s : State) {p : BPage} (hb : p.bad = false) : OnlyIn [.bsn] s (s.freePage p) := by
  cases h : s.pageOut p.phys
  · rw [freePage_good h hb]
    exact onlyIn_setBsn s _
  · rw [freePage_out h]
    exact .refl

/-- A page is among the free ones after it or another is freed. -/
theorem mem_free_freePage {s : State} {p : BPage} (hb : p.bad = false) {k : Nat}
    (h : k ∈ s.bsn.free ∨ k = p.phys ∧ s.pageOut p.phys = false) : k ∈ (s.freePage p).bsn.free := by
  cases hout : s.pageOut p.phys
  · rw [freePage_good hout hb]
    exact (mem_insertAsc ..).mpr (h.elim .inr (fun hk => .inl hk.1))
  · rw [freePage_out hout]
    exact h.resolve_right (fun hk => by simp [hout] at hk)

theorem present_streams (s : State) (l : List Nat) : (s.present l).bsn.streams = s.bsn.streams :=
  congrArg Bsn.streams (onlyIn_present s l .bsn (by simp [presentParts]))

/-- A repair takes nothing from a stream: the pages that it holds stay its own. -/
theorem repairPage_streams (s : State) (p cause : Nat) : (s.repairPage p cause).bsn.streams = s.bsn.streams := by
  unfold State.repairPage
  extract_lets u out was v bsn w
  have hw : w.bsn.streams = s.bsn.streams := by
    unfold w
    split <;> rfl
  split
  · exact (present_streams _ _).trans hw
  · split
    · rfl
    · split
      · exact present_streams _ _
      · exact present_streams _ _

/-- What a page returns to is the pool, not a stream. -/
theorem freePage_streams (s : State) (p : BPage) : (s.freePage p).bsn.streams = s.bsn.streams := by
  unfold State.freePage
  split
  · rfl
  · split
    · extract_lets bsn u
      split
      · exact repairPage_streams u _ _
      · rfl
    · rfl

theorem freePages_streams (l : List BPage) (s : State) : (l.foldl State.freePage s).bsn.streams = s.bsn.streams :=
  List.foldlRecOn l State.freePage (motive := fun t => t.bsn.streams = s.bsn.streams) rfl (fun u hu p _ => (freePage_streams u p).trans hu)

section Good
variable {l : List BPage} (hl : ∀ p ∈ l, p.bad = false) (s : State)
include hl

theorem onlyIn_freePages : OnlyIn [.bsn] s (l.foldl State.freePage s) :=
  List.foldlRecOn l State.freePage (motive := fun t => OnlyIn [.bsn] s t) .refl
    (fun u hu p hp => hu.trans (onlyIn_freePage_good u (hl p hp)))

/-- Pages that a repair has not taken out return to the pool (R148, R403). -/
theorem mem_free_freePages {k : Nat} (h : k ∈ s.bsn.free ∨ ∃ p ∈ l, p.phys = k ∧ s.pageOut k = false) :
    k ∈ (l.foldl State.freePage s).bsn.free := by
  induction l generalizing s with
  | nil => simpa using h
  | cons q l ih =>
    obtain ⟨hq, hl⟩ := List.forall_mem_cons.mp hl
    have hout : (s.freePage q).pageOut k = s.pageOut k := by
      unfold State.pageOut
      rw [onlyIn_freePage_good s hq .bst (by simp)]
    refine ih hl (s.freePage q) ?_
    rcases h with h | ⟨p, hp, rfl, hk⟩
    · exact .inl (mem_free_freePage hq (.inl h))
    · rcases List.mem_cons.mp hp with rfl | hp
      · exact .inl (mem_free_freePage hq (.inr ⟨rfl, hk⟩))
      · exact .inr ⟨p, hp, rfl, hout.trans hk⟩

end Good

/-! ### Acknowledgements (R148, R149, R152) -/

/-- The pages of stream `m` that an acknowledgement up to `upto` frees; none in LOCKOUT (R148, R152). -/
def State.ackedPages (u : State) (m upto : Nat) : List BPage :=
  if u.pwr.mode = .lockout then [] else (u.strm m).closed.filter (fun p => decide ((upto + 65536 - p.seq) % 65536 ≤ 63))

/-- What an acknowledgement does: it is noted in its cycle, its pages are freed, ACK_SHORT is set where it falls short, and the stream
holds the pages no longer. -/
theorem ackPages_eq {u : State} (hf : u.noFeed) (m upto : Nat) :
    ∃ (f : Cyc → Cyc) (short : Bool),
      let v := (u.ackedPages m upto).foldl State.freePage (u.cycMod f)
      u.ackPages m upto = (if short then v.wcSet (0xA20 + m) (putb true 25) else v).setStrm m (fun t =>
        { t with pages := t.pages.filter (fun p => !((u.ackedPages m upto).any (fun q => decide (q.seq = p.seq))))
                 ackShort := t.ackShort || short }) := by
  unfold State.ackPages
  rw [feedsPage_id hf]
  exact ⟨_, _, rfl⟩

section Ack
variable {u : State} {m : Nat} (hm : m < 16) (hf : u.noFeed) (hgood : ∀ p ∈ (u.strm m).closed, p.bad = false) (upto : Nat)

theorem ackedPages_lockout (h : u.pwr.mode = .lockout) : u.ackedPages m upto = [] := if_pos h

theorem ackedPages_open (h : u.pwr.mode ≠ .lockout) :
    u.ackedPages m upto = (u.strm m).closed.filter (fun p => decide ((upto + 65536 - p.seq) % 65536 ≤ 63)) := if_neg h

include hgood in
theorem ackedPages_good : ∀ p ∈ u.ackedPages m upto, p.bad = false := by
  intro p hp
  unfold State.ackedPages at hp
  split at hp
  · cases hp
  · exact hgood p (List.mem_filter.mp hp).1

include hm hf in
theorem ackPages_pages :
    ((u.ackPages m upto).strm m).pages =
      (u.strm m).pages.filter (fun p => !((u.ackedPages m upto).any (fun q => decide (q.seq = p.seq)))) := by
  obtain ⟨f, short, h⟩ := ackPages_eq hf m upto
  have hpages : ∀ w : State, w.bsn.streams = u.bsn.streams → (w.strm m).pages = (u.strm m).pages :=
    fun w hw => congrArg Strm.pages (strm_of_streams hw m)
  rw [h, strm_setStrm_self _ hm]
  exact congrArg _ (hpages _ (by split <;> exact freePages_streams _ _))

include hf in
/-- Beside the stream's own pages an acknowledgement gives the pool what it frees. -/
theorem ackPages_free :
    ∃ f : Cyc → Cyc, (u.ackPages m upto).bsn.free = ((u.ackedPages m upto).foldl State.freePage (u.cycMod f)).bsn.free := by
  obtain ⟨f, short, h⟩ := ackPages_eq hf m upto
  refine ⟨f, ?_⟩
  rw [h]
  cases short <;> rfl

include hf hgood in
theorem onlyIn_ackPages : OnlyIn [.cyc, .bsn] u (u.ackPages m upto) := by
  obtain ⟨f, short, h⟩ := ackPages_eq hf m upto
  have hnote : OnlyIn [.cyc, .bsn] u (u.cycMod f) := (onlyIn_cycMod u f).mono (by simp)
  have hfree := hnote.trans ((onlyIn_freePages (ackedPages_good hgood upto) (u.cycMod f)).mono (by simp))
  rw [h]
  refine OnlyIn.trans (.ite (hfree.trans ((onlyIn_cycMod _ _).mono (by simp))) hfree) ((onlyIn_setStrm _ m _).mono (by simp))

include hm hf in
theorem ackPages_lockout (h : u.pwr.mode = .lockout) :
    ((u.ackPages m upto).strm m).pages = (u.strm m).pages ∧ (u.ackPages m upto).bsn.free = u.bsn.free := by
  constructor
  · rw [ackPages_pages hm hf, ackedPages_lockout upto h]
    exact List.filter_eq_self.mpr (fun _ _ => rfl)
  · obtain ⟨f, hfree⟩ := ackPages_free (m := m) hf upto
    rw [hfree, ackedPages_lockout upto h]
    rfl

include hm hf hgood in
theorem ackPages_frees (h : u.pwr.mode ≠ .lockout) :
    ((u.ackPages m upto).strm m).pages = (u.strm m).pages.filter (fun p =>
        !((u.strm m).closed.any (fun q => decide ((upto + 65536 - q.seq) % 65536 ≤ 63) && decide (q.seq = p.seq)))) ∧
      (∀ p ∈ (u.strm m).closed, (upto + 65536 - p.seq) % 65536 ≤ 63 → u.pageOut p.phys = false →
        p.phys ∈ (u.ackPages m upto).bsn.free) := by
  constructor
  · rw [ackPages_pages hm hf, ackedPages_open upto h]
    simp only [List.any_filter]
  · intro p hp hseq hout
    obtain ⟨f, hfree⟩ := ackPages_free (m := m) hf upto
    have hmem : p ∈ u.ackedPages m upto := by
      rw [ackedPages_open upto h]
      exact List.mem_filter.mpr ⟨hp, decide_eq_true hseq⟩
    rw [hfree]
    exact mem_free_freePages (ackedPages_good hgood upto) (u.cycMod f) (.inr ⟨p, hmem, rfl, hout⟩)

end Ack

/-! ### The reset of a stream (R150, R152) -/

/-- A stream whose counters a reset has cleared. -/
def Strm.cleared (t : Strm) : Strm := { t with dropped := 0, lostPages := 0, exhausted := false, gap := true }

section Reset
variable {u : State} (hf : u.noFeed) (m : Nat)
include hf

theorem resetStrm_lockout (h : u.pwr.mode = .lockout) : u.resetStrm m = u.setStrm m Strm.cleared := by
  unfold State.resetStrm
  rw [feedsPage_id hf]
  exact if_pos h

theorem resetStrm_open (h : u.pwr.mode ≠ .lockout) :
    u.resetStrm m = (((u.strm m).pages.foldl State.freePage u).setStrm m (fun t => { t with pages := [] })).setStrm m Strm.cleared := by
  unfold State.resetStrm
  rw [feedsPage_id hf]
  exact if_neg h

/-- A reset leaves the stream without pages, but in LOCKOUT; its counters are cleared in each case. -/
theorem resetStrm_strm {m : Nat} (hm : m < 16) :
    ∃ t : Strm, (u.resetStrm m).strm m = t.cleared ∧ t.pages = if u.pwr.mode = .lockout then (u.strm m).pages else [] := by
  by_cases h : u.pwr.mode = .lockout
  · rw [resetStrm_lockout hf m h, strm_setStrm_self _ hm]
    exact ⟨_, rfl, (if_pos h).symm⟩
  · rw [resetStrm_open hf m h, strm_setStrm_self _ hm, strm_setStrm_self _ hm]
    exact ⟨_, rfl, (if_neg h).symm⟩

theorem onlyIn_resetStrm (hgood : ∀ p ∈ (u.strm m).pages, p.bad = false) : OnlyIn [.bsn] u (u.resetStrm m) := by
  by_cases h : u.pwr.mode = .lockout
  · rw [resetStrm_lockout hf m h]
    exact onlyIn_setStrm u m _
  · rw [resetStrm_open hf m h]
    exact ((onlyIn_freePages hgood u).trans (onlyIn_setStrm _ m _)).trans (onlyIn_setStrm _ m _)

end Reset

/-! ### The end of a page (R147, R152) -/

/-- The stream without its open page. -/
def Strm.dropOpen (t : Strm) : Strm := { t with pages := t.pages.filter (fun x => !x.isOpen) }

/-- The stream with its open page closed. -/
def Strm.shut (t : Strm) : Strm := { t with pages := t.pages.map (fun x => if x.isOpen then { x with isOpen := false } else x) }

theorem openPage_dropOpen (t : Strm) : t.dropOpen.openPage = none := by
  unfold Strm.openPage Strm.dropOpen
  simp

theorem openPage_shut (t : Strm) : t.shut.openPage = none := by
  unfold Strm.openPage Strm.shut
  rw [List.find?_eq_none]
  intro x hx
  obtain ⟨y, _, rfl⟩ := List.mem_map.mp hx
  cases hy : y.isOpen <;> simp [hy]

/-- The head of a page that is closed (Table 5.1): CLOSED with the fill, and the check word. -/
def State.sealPage (s : State) (p : BPage) : State :=
  let v := s.putSram (p.phys * 256 + 2) (putb true 31 ||| Sys2Proof.put p.fill 0 10)
  v.putSram (p.phys * 256 + 3) (BitVec.ofNat 32 (v.pageCheck p.phys p.fill))

theorem onlyIn_sealPage (s : State) (p : BPage) : OnlyIn [.bsn, .ecc] s (s.sealPage p) := (onlyIn_putSram s _ _).trans (onlyIn_putSram _ _ _)

theorem sealPage_word2 (s : State) (p : BPage) : (s.sealPage p).sramWord (p.phys * 256 + 2) = (putb true 31 ||| put p.fill 0 10) := by
  unfold State.sealPage
  rw [sramWord_putSram_ne _ _ (by omega), sramWord_putSram_self]

/-- The check word that a closed page holds is the one of its words as they stand. -/
theorem sealPage_word3 (s : State) (p : BPage) :
    (s.sealPage p).sramWord (p.phys * 256 + 3) = BitVec.ofNat 32 ((s.sealPage p).pageCheck p.phys p.fill) := by
  unfold State.sealPage
  rw [sramWord_putSram_self, pageCheck_putSram_check]

section Close
variable {u : State} (hf : u.noFeed) {m : Nat} {p : BPage} (hp : (u.strm m).openPage = some p)
include hf hp

theorem closePage_lockout (h : u.pwr.mode = .lockout) : u.closePage m = u := by
  unfold State.closePage
  simp only [feedsPage_id hf, hp, if_pos h]

/-- An open page without a record is freed. -/
theorem closePage_empty (h : u.pwr.mode ≠ .lockout) (h0 : p.recs = 0) : u.closePage m = (u.setStrm m Strm.dropOpen).freePage p := by
  unfold State.closePage
  simp only [feedsPage_id hf, hp, if_neg h, if_pos h0]
  rfl

/-- An open page with records is closed. -/
theorem closePage_records (h : u.pwr.mode ≠ .lockout) (h0 : p.recs ≠ 0) : u.closePage m = (u.setStrm m Strm.shut).sealPage p := by
  unfold State.closePage
  simp only [feedsPage_id hf, hp, if_neg h, if_neg h0]
  rfl

theorem closePage_strm (hm : m < 16) (h : u.pwr.mode ≠ .lockout) :
    (u.closePage m).strm m = if p.recs = 0 then (u.strm m).dropOpen else (u.strm m).shut := by
  by_cases h0 : p.recs = 0
  · rw [closePage_empty hf hp h h0, strm_of_streams (freePage_streams _ p), strm_setStrm_self u hm, if_pos h0]
  · rw [closePage_records hf hp h h0, if_neg h0]
    exact strm_setStrm_self u hm _

theorem openPage_closePage (hm : m < 16) (h : u.pwr.mode ≠ .lockout) : ((u.closePage m).strm m).openPage = none := by
  rw [closePage_strm hf hp hm h]
  split
  · exact openPage_dropOpen _
  · exact openPage_shut _

end Close

/-! ### Records (R142, R144, R145) -/

@[simp] theorem recordWords_length (src : Bool) (id rseq ts : Nat) (ws : List Word) : (recordWords src id rseq ts ws).length = 3 + ws.length := by
  unfold recordWords
  rw [List.length_append]
  rfl

/-- Words written to result SRAM from `a` on. -/
def State.putWords (s : State) (a : Nat) (ws : List Word) : State :=
  (List.range ws.length).foldl (fun s i => s.putSram (a + i) (ws.getD i 0)) s

theorem onlyIn_putWords (s : State) (a : Nat) (ws : List Word) : OnlyIn [.bsn, .ecc] s (s.putWords a ws) :=
  onlyIn_foldl (fun u i => onlyIn_putSram u (a + i) _) _ s

theorem sramWord_putWords (s : State) (a : Nat) {ws : List Word} {i : Nat} (h : i < ws.length) :
    (s.putWords a ws).sramWord (a + i) = ws.getD i 0 :=
  view_foldl_of_mem (f := fun (s : State) i => s.putSram (a + i) (ws.getD i 0)) (view := fun t : State => t.sramWord (a + i)) (k := i)
    (P := fun _ => True) (Q := fun w => w = ws.getD i 0)
    (fun u k hk => sramWord_putSram_ne u _ (by omega)) (fun u _ => sramWord_putSram_self u _ _) List.nodup_range (List.mem_range.mpr h) trivial

/-- Words written take nothing from the streams and the pool. -/
theorem putWords_bsn (s : State) (a : Nat) (ws : List Word) :
    (s.putWords a ws).bsn.streams = s.bsn.streams ∧ (s.putWords a ws).bsn.free = s.bsn.free :=
  List.foldlRecOn (List.range ws.length) (fun (s : State) i => s.putSram (a + i) (ws.getD i 0))
    (motive := fun t => t.bsn.streams = s.bsn.streams ∧ t.bsn.free = s.bsn.free) ⟨rfl, rfl⟩ (fun _ hu _ _ => hu)

/-- The stream whose open page has taken a record of `n` words. -/
def Strm.filled (n : Nat) (t : Strm) : Strm :=
  { t with pages := t.pages.map (fun x => if x.isOpen then { x with fill := x.fill + 4 * n, recs := x.recs + 1 } else x) }

theorem openPage_filled {t : Strm} {p : BPage} (h : t.openPage = some p) (n : Nat) :
    (t.filled n).openPage = some { p with fill := p.fill + 4 * n, recs := p.recs + 1 } := by
  have hopen : p.isOpen = true := List.find?_some (p := BPage.isOpen) h
  have hkeeps : (BPage.isOpen ∘ fun x => if x.isOpen then { x with fill := x.fill + 4 * n, recs := x.recs + 1 } else x) = BPage.isOpen := by
    funext x
    simp only [Function.comp_apply]
    split
    · rfl
    · rfl
  unfold Strm.openPage at h ⊢
  unfold Strm.filled
  rw [List.find?_map, hkeeps, h]
  simp [hopen]

theorem writeRec_eq {s : State} {m : Nat} {p : BPage} (h : (s.strm m).openPage = some p) (ws : List Word) :
    s.writeRec m ws = (s.putWords (p.phys * 256 + 4 + p.fill / 4) ws).setStrm m (Strm.filled ws.length) := by
  unfold State.writeRec
  rw [h]
  rfl

/-- The stream after record sequence `n` has been given. -/
def Strm.numbered (n : Nat) (t : Strm) : Strm := { t with nextRseq := (n + 1) % 65536 }

/-- The stream after a record that has been dropped since it is not accepted. -/
def Strm.refusedRec (t : Strm) : Strm := { t with dropped := inc 65535 t.dropped, lastDrop := 1, gap := true }

/-- Acknowledgements of a cycle that are none of stream `m` do nothing more to it (R149). -/
theorem ackAgain_id {s : State} {m : Nat} (h : ∀ e ∈ s.nowCyc.acked, e.1 ≠ m) : s.ackAgain m = s := by
  have hnone : s.nowCyc.acked.find? (fun e => decide (e.1 = m)) = none := by
    rw [List.find?_eq_none]
    simpa using h
  unfold State.ackAgain
  rw [hnone]

section Offer
variable {u : State} (hf : u.noFeed) {m : Nat} (hm : m < 16) (hack : ∀ e ∈ u.nowCyc.acked, e.1 ≠ m) (src : Bool) (id ts : Nat)
  (ws : List Word)

include hack in
/-- A record that is placed within its core cycle, where no acknowledgement of the stream stands in it. -/
theorem offer_of_place {c : Nat} {t : State} (h : u.place m src id ts ws = (c, t)) (hframe : OnlyIn [.bsn, .ecc] u t) :
    u.offer m src id ts ws = (c, t) := by
  have hcyc : t.nowCyc = u.nowCyc := by
    unfold State.nowCyc State.clk
    rw [hframe .cyc (by simp), hframe .time (by simp)]
  unfold State.offer
  rw [h]
  simp only [ackAgain_id (s := t) (m := m) (by rwa [hcyc]), ite_self]

include hf hm hack in
/-- A record that the open page has room for is written there (R144). -/
theorem offer_room {p : BPage} (ha : (u.strm m).active = true) (hp : (u.strm m).openPage = some p)
    (hroom : 4 * (3 + ws.length) + p.fill ≤ 1008) :
    u.offer m src id ts ws =
      (0, ((u.setStrm m (.numbered (u.strm m).nextRseq)).putWords (p.phys * 256 + 4 + p.fill / 4) (recordWords src id (u.strm m).nextRseq ts ws)).setStrm m
        (Strm.filled (3 + ws.length))) := by
  have hopen : ((u.setStrm m (.numbered (u.strm m).nextRseq)).strm m).openPage = some p := by
    rw [strm_setStrm_self u hm]
    exact hp
  have hplace : u.place m src id ts ws =
      (0, (u.setStrm m (.numbered (u.strm m).nextRseq)).writeRec m (recordWords src id (u.strm m).nextRseq ts ws)) := by
    unfold State.place
    rw [feedsPage_id hf]
    extract_lets e t rseq rec_ v room
    have hfits : (t.openPage.isSome && decide (4 * rec_.length ≤ room)) = true := by
      have hfill : room = 1008 - p.fill := by
        unfold room
        rw [hp]
      rw [hfill, recordWords_length, hp]
      exact decide_eq_true (by omega)
    have hactive : ¬(!t.active) = true := by simp [t, e, ha]
    exact (if_neg hactive).trans (if_pos hfits)
  rw [writeRec_eq hopen, recordWords_length] at hplace
  refine offer_of_place hack src id ts ws hplace ?_
  exact (((onlyIn_setStrm u m _).mono (by simp)).trans (onlyIn_putWords _ _ _)).trans ((onlyIn_setStrm _ m _).mono (by simp))

include hf hack in
/-- A record offered to a stream that is not accepted is dropped (R145). -/
theorem offer_inactive (ha : (u.strm m).active = false) :
    u.offer m src id ts ws = (1, (u.setStrm m (.numbered (u.strm m).nextRseq)).setStrm m Strm.refusedRec) := by
  have hplace : u.place m src id ts ws = (1, (u.setStrm m (.numbered (u.strm m).nextRseq)).setStrm m Strm.refusedRec) := by
    unfold State.place
    rw [feedsPage_id hf]
    extract_lets e t rseq rec_ v room
    have hactive : (!t.active) = true := by simp [t, e, ha]
    exact if_pos hactive
  refine offer_of_place hack src id ts ws hplace ?_
  exact ((onlyIn_setStrm u m _).trans (onlyIn_setStrm _ m _)).mono (by simp)

end Offer

/-! ### The words that the commands write -/

theorem toNat_put (v lo len : Nat) (h : lo + len ≤ 32) : (put v lo len).toNat = v % 2 ^ len * 2 ^ lo := by
  unfold put
  rw [BitVec.toNat_ofNat]
  refine Nat.mod_eq_of_lt ?_
  calc v % 2 ^ len * 2 ^ lo < 2 ^ len * 2 ^ lo := Nat.mul_lt_mul_of_pos_right (Nat.mod_lt _ (Nat.two_pow_pos len)) (Nat.two_pow_pos lo)
    _ = 2 ^ (lo + len) := by rw [pow_add, Nat.mul_comm]
    _ ≤ 2 ^ 32 := Nat.pow_le_pow_right (by decide) h

/-- The word of an acknowledgement: the stream above the page's sequence. -/
theorem toNat_ackWord (m upto : Nat) : (put m 16 4 ||| put upto 0 16).toNat = m % 16 * 65536 + upto % 65536 := by
  rw [BitVec.toNat_or, toNat_put _ _ _ (by decide), toNat_put _ _ _ (by decide), Nat.mul_comm (m % 2 ^ 4), pow_zero, Nat.mul_one,
    ← Nat.two_pow_add_eq_or_of_lt (Nat.mod_lt _ (by decide))]
  omega

theorem fld_ackWord (m upto : Nat) :
    fld (put m 16 4 ||| put upto 0 16) 16 4 = m % 16 ∧ fld (put m 16 4 ||| put upto 0 16) 0 16 = upto % 65536 := by
  unfold fld
  rw [toNat_ackWord]
  omega

/-! ### The commands -/

/-- BSN_CFG0 to BSN_CFG15: a write of one is examined, and nothing is settled at once. -/
abbrev StrmReg (a : Nat) : Prop := 0xA10 ≤ a ∧ a ≤ 0xA1F

section Config
variable {a : Nat} (h : StrmReg a)
include h

theorem strmReg_exists : regExists a = true := by
  obtain ⟨h1, h2⟩ := h
  simp [regExists, regRanges]
  omega

theorem strmReg_isSelector : isSelector a = false := by
  obtain ⟨h1, h2⟩ := h
  simp [isSelector]
  omega

theorem strmReg_settles : settles a = false := by
  obtain ⟨h1, h2⟩ := h
  simp [settles]
  omega

theorem strmReg_inputWrite (u : State) : u.inputWrite a = u := by
  obtain ⟨h1, h2⟩ := h
  rw [State.inputWrite] <;> omega

end Config

section Commands
variable {s e : State} {dt : Nat} (he : s.elapse dt = e) {rq : Requester}
include he

theorem pageAck_exec (m upto : Nat) (h : e.accepts rq 0xA03 (put m 16 4 ||| put upto 0 16)) :
    exec (.pageAck dt rq m upto) s =
      .next (((e.wrote rq 0xA03 (put m 16 4 ||| put upto 0 16)).ackPages (m % 16) (upto % 65536)).answers .ok []) := by
  subst he
  obtain ⟨hm, hupto⟩ := fld_ackWord m upto
  rw [exec_pageAck, execPageAck, put_effect h (by decide) (by decide) (by decide), effect_wrote h, if_pos (by decide), ← hm, ← hupto]
  rfl

theorem pageCloseRequest_exec {mask : Nat} (hmask : mask < 65536) (h : e.accepts rq 0xA04 (put mask 0 16)) :
    exec (.pageCloseRequest dt rq mask) s =
      .next (((bitsOf 16 mask).foldl State.closePage (e.wrote rq 0xA04 (put mask 0 16))).answers .ok []) := by
  subst he
  have hword : (put mask 0 16).toNat = mask := by
    rw [toNat_put _ _ _ (by decide)]
    omega
  rw [exec_pageCloseRequest, execPageCloseRequest, put_effect h (by decide) (by decide) (by decide), effect_wrote h, if_pos (by decide)]
  show Host.Outcome.next (((bitsOf 16 (put mask 0 16).toNat).foldl State.closePage _).answers .ok []) = _
  rw [hword]

/-- A write of BSN_CFGm: the stream is reset where the word says so, and examined (R139, R150). -/
theorem strmReg_put {m : Nat} (hm : m < 16) {v : Word} (h : e.accepts rq (0xA10 + m) v) :
    s.putAt dt rq 0xA10 16 m v =
      .next ((State.examine (if v.getLsbD 29 then (e.wrote rq (0xA10 + m) v).resetStrm m else e.wrote rq (0xA10 + m) v) m).answers .ok []) := by
  subst he
  have hreg : StrmReg (0xA10 + m) := ⟨by omega, by omega⟩
  have hindex : 0xA10 + m - 0xA10 = m := by omega
  unfold State.putAt
  rw [if_pos hm, put_effect h (strmReg_exists hreg) (strmReg_isSelector hreg) (strmReg_settles hreg) (strmReg_inputWrite hreg),
    effect_wrote h, if_pos (by omega)]
  unfold State.effectLow
  rw [if_pos ⟨by omega, by omega⟩, hindex]

theorem streamCfgWrite_exec {m : Nat} (hm : m < 16) {v : Word} (h : e.accepts rq (0xA10 + m) v) (hv : v.getLsbD 29 = false) :
    exec (.streamCfgWrite dt rq m v) s = .next (((e.wrote rq (0xA10 + m) v).examine m).answers .ok []) := by
  rw [exec_streamCfgWrite, execStreamCfgWrite, strmReg_put he hm h, hv, if_neg Bool.false_ne_true]

theorem streamReset_exec {m : Nat} (hm : m < 16) (h : e.accepts rq (0xA10 + m) (e.keep (0xA10 + m) ||| putb true 29)) :
    exec (.streamReset dt rq m) s =
      .next ((((e.wrote rq (0xA10 + m) (e.keep (0xA10 + m) ||| putb true 29)).resetStrm m).examine m).answers .ok []) := by
  have hkeep : s.keep (0xA10 + m) = e.keep (0xA10 + m) := by
    subst he
    rfl
  rw [exec_streamReset, execStreamReset, hkeep, strmReg_put he hm h, if_pos (getLsbD_or_putb _ (by decide))]

theorem pageAgeClose_exec {m : Nat} (hm : m < 16) {p : BPage} (hp : (e.strm m).openPage = some p) (hage : e.fld (0xA10 + m) 0 8 ≠ 0)
    (hmode : e.pwr.mode ≠ .lockout) :
    exec (.pageAgeClose dt m) s = .next ((e.until_ (p.opened + e.fld (0xA10 + m) 0 8 * 2000000)).closePage m) := by
  have hticks : e.fld (0xA10 + m) 0 8 * 10 * msTicks = e.fld (0xA10 + m) 0 8 * 2000000 := by
    rw [Nat.mul_assoc, show 10 * msTicks = 2000000 from rfl]
  rw [exec_pageAgeClose]
  unfold execPageAgeClose
  rw [he]
  simp only [hp]
  rw [if_pos ⟨hm, hage, hmode⟩, hticks]

end Commands

/-- Settles O30: each write has the effect of its register, and each operation on a stream by the law of what it does to its pages. -/
theorem streamsAndPages : Obligations.StreamsAndPages := by
  refine ⟨fun s dt rq => ?commands, fun u m upto hm hf hgood => ?ack, fun u m hm hf hgood => ?reset, fun u m p hm hf hp _ => ?close,
    fun u m id ts src ws p hm hf hack ha hp hroom _ => ?written, fun u m id ts src ws hm hf hack ha => ?dropped⟩
  case commands =>
    intro e
    have he : s.elapse dt = e := rfl
    clear_value e
    exact ⟨fun m upto => pageAck_exec he m upto, fun mask hmask h => pageCloseRequest_exec he hmask h,
      fun m v hm h hv => streamCfgWrite_exec he hm h hv, fun m hm h => streamReset_exec he hm h,
      fun m p hm hp hage hmode => pageAgeClose_exec he hm hp hage hmode⟩
  case ack =>
    exact ⟨ackPages_lockout hm hf upto, ackPages_frees hm hf hgood upto, onlyIn_ackPages hf hgood upto⟩
  case reset =>
    obtain ⟨t, ht, hpages⟩ := resetStrm_strm hf hm
    intro v
    rw [ht]
    exact ⟨hpages, rfl, rfl, rfl, onlyIn_resetStrm hf m hgood⟩
  case close =>
    refine ⟨closePage_lockout hf hp, fun hmode => ⟨openPage_closePage hf hp hm hmode, fun h0 hb => ?_, fun h0 => ?_⟩⟩
    · rw [closePage_empty hf hp hmode h0]
      exact ⟨fun hout => mem_free_freePage hb (.inr ⟨rfl, hout⟩), (onlyIn_setStrm u m _).trans (onlyIn_freePage_good _ hb)⟩
    · rw [closePage_strm hf hp hm hmode, if_neg h0, closePage_records hf hp hmode h0]
      exact ⟨sealPage_word2 _ p, sealPage_word3 _ p, List.length_map _, ((onlyIn_setStrm u m _).mono (by simp)).trans (onlyIn_sealPage _ p)⟩
  case written =>
    intro r rec_
    have hr : r = _ := offer_room hf hm hack src id ts ws ha hp hroom
    rw [hr, strm_setStrm_self _ hm, strm_of_streams (putWords_bsn _ _ _).1, strm_setStrm_self _ hm]
    refine ⟨rfl, rfl, fun i hi => ?_, ⟨_, openPage_filled (t := (u.strm m).numbered (u.strm m).nextRseq) hp _, rfl, rfl, rfl⟩, ?_, ?_⟩
    · exact sramWord_putWords _ _ (by rwa [recordWords_length])
    · exact (putWords_bsn _ _ _).2
    · exact (((onlyIn_setStrm u m _).mono (by simp)).trans (onlyIn_putWords _ _ _)).trans ((onlyIn_setStrm _ m _).mono (by simp))
  case dropped =>
    intro r
    have hr : r = _ := offer_inactive hf hack src id ts ws ha
    rw [hr, strm_setStrm_self _ hm, strm_setStrm_self _ hm]
    exact ⟨rfl, rfl, rfl, rfl, rfl, rfl, (onlyIn_setStrm u m _).trans (onlyIn_setStrm _ m _)⟩

end Sys2Proof.Machine
end

section
namespace Sys2Proof.Machine

/-! ## Frames that this device takes (R155, R285, R286, R289, R311, R319, R362, R423) -/

/-- A service packet is discarded where it is shorter than a packet's head, and else goes to the service of packets (R423). -/
theorem takeSvc_completes (u : State) (p : PortId) (tag : Nat) (b : Bytes) :
    ∃ t, u.takeSvc p tag b = .next t ∧ (b.length < 4 → t = u) ∧
      (4 ≤ b.length → u.packet ⟨false, beField b 1 1, beField b 2 2, tag, p⟩ (beField b 0 1) (b.drop 4) = .next t) := by
  by_cases hshort : b.length < 4
  · exact ⟨u, if_pos hshort, fun _ => rfl, fun hlong => by omega⟩
  · obtain ⟨t, ht⟩ := packet_next u ⟨false, beField b 1 1, beField b 2 2, tag, p⟩ (beField b 0 1) (b.drop 4)
    exact ⟨t, (if_neg hshort).trans ht, fun h => absurd h hshort, fun _ => ht⟩

/-! ### REG requests (R285, Table 10.5) -/

theorem beNat_lt (b : Bytes) : beNat b < 256 ^ b.length := by
  suffices h : ∀ n, b.foldl (fun n x => n * 256 + x.toNat) n < (n + 1) * 256 ^ b.length by simpa [beNat] using h 0
  induction b with
  | nil => simp
  | cons x b ih =>
    intro n
    have hx : x.toNat < 256 := x.isLt
    calc (x :: b).foldl (fun n x => n * 256 + x.toNat) n
        < (n * 256 + x.toNat + 1) * 256 ^ b.length := ih _
      _ ≤ ((n + 1) * 256) * 256 ^ b.length := Nat.mul_le_mul_right _ (by omega)
      _ = (n + 1) * 256 ^ (x :: b).length := by rw [List.length_cons, pow_succ]; ring

theorem beField_lt (b : Bytes) (off len : Nat) : beField b off len < 256 ^ len := by
  refine lt_of_lt_of_le (beNat_lt _) (Nat.pow_le_pow_right (by decide) ?_)
  simp only [List.length_append, List.length_take, List.length_drop, List.length_replicate]
  omega

/-- A field of the bytes from `k` on. -/
theorem beField_drop (b : Bytes) (k off len : Nat) : beField (b.drop k) off len = beField b (k + off) len := by
  unfold beField
  rw [List.drop_drop, List.length_drop, Nat.sub_add_eq]

section Requests
variable {u : State} (hs : u.serves .chain = true) (tag : Nat) {b : Bytes}
include hs

/-- A request that fits no LEN of Table 10.5 is answered with FORMAT. -/
theorem takeReg_format
    (h : beField b 2 1 = 0 ∨ 63 < beField b 2 1 ∨ 65536 < beField b 0 2 + beField b 2 1 ∨ 1 < beField b 3 1 ∨
      (beField b 3 1 = 0 ∧ b.length ≠ 4) ∨ (beField b 3 1 = 1 ∧ b.length ≠ 4 + 4 * beField b 2 1)) :
    u.takeReg tag b = u.respond 2 1 tag [2, 0, 0, 0] := by
  unfold State.takeReg
  extract_lets a n op rsp fits
  have hfits : fits = false := by
    simp only [fits, Bool.and_eq_false_iff, Bool.or_eq_false_iff, decide_eq_false_iff_not]
    omega
  rw [hs, hfits]
  rfl

/-- One register is read. -/
theorem takeReg_read_one (hn : beField b 2 1 = 1) (hop : beField b 3 1 = 0) (hlen : b.length = 4) :
    u.takeReg tag b =
      (u.readReg .chain false (beField b 0 2)).2.respond 2 1 tag
        ([0, 1, 0, 0] ++ wordsBe [(u.readReg .chain false (beField b 0 2)).1]) := by
  have ha := beField_lt b 0 2
  unfold State.takeReg
  rw [hn, hop, hlen, hs]
  have hroom : decide (beField b 0 2 + 1 ≤ 65536) = true := decide_eq_true (by omega)
  simp only [hroom]
  rfl

/-- The write of one register, refused, is answered with DENIED and nothing done. -/
theorem takeReg_write_denied (hn : beField b 2 1 = 1) (hop : beField b 3 1 = 1) (hlen : b.length = 8) (hc : u.pwr.commit = none)
    (hr : u.refuses .chain (beField b 0 2) (BitVec.ofNat 32 (beField b 4 4)) = true) :
    u.takeReg tag b = (u.disarm .chain).respond 2 1 tag [1, 0, 0, 0] := by
  have ha := beField_lt b 0 2
  have hwords : beWords 1 (b.drop 4) = [BitVec.ofNat 32 (beField b 4 4)] := by
    rw [← beField_drop b 4 0 4]
    rfl
  have hwrite : State.writeRegs (beWords 1 (b.drop 4)) u .chain (beField b 0 2) = (0, .denied, u.disarm .chain) := by
    rw [hwords]
    unfold State.writeRegs
    rw [writeReg_refused hr hc]
  have hroom : decide (beField b 0 2 + 1 ≤ 65536) = true := decide_eq_true (by omega)
  have hsame : (u.disarm .chain).resets = u.resets := rfl
  unfold State.takeReg
  rw [hn, hop, hlen, hs]
  simp only [hroom, hwrite, hsame, ne_eq, not_true_eq_false, if_false]
  rfl

/-! ### BSN_RD requests (R155, Table 10.6) -/

/-- A transfer past word 255 of a page is answered with BSN_MISS without payload. -/
theorem takeBsn_past (p : Option PortId) (hlen : b.length = 8) (hm : beField b 0 1 < 16) (h1 : beField b 1 1 = 0) (hn : 1 ≤ beField b 5 1)
    (hn' : beField b 5 1 ≤ 64) (h6 : beField b 6 2 = 0) (hpast : 256 < beField b 4 1 + beField b 5 1) :
    u.takeBsn p tag b = u.respond 7 2 tag [] := by
  unfold State.takeBsn
  rw [if_neg (by omega), hs]
  exact (if_neg (by decide)).trans (if_pos hpast)

end Requests

theorem takeBsn_mismatch (u : State) (p : Option PortId) (tag : Nat) {b : Bytes} (hlen : b.length ≠ 8) :
    u.takeBsn p tag b = u.mismatch p := if_pos (.inl hlen)

/-! ### Answers that come under a held tag (R311) -/

section Answers
variable {u : State} {f : Frame} {x : TagHold}

/-- What an answer under the tag `x` is in the receive queue: a RESPONSE to the host's frame, or NET where the bridge sent the frame (R306). -/
def TagHold.answered (x : TagHold) (f : Frame) : RxEnt := ⟨x.handle, if x.handle = 0 then 5 else 1, 0, some f⟩

/-- An answer to a broadcast is counted under its tag. -/
def State.countTag (u : State) (tag : Nat) : State :=
  { u with net := { u.net with tags := u.net.tags.map (fun y => if y.tag = tag then { y with count := y.count + 1 } else y) } }

theorem tagAnswer_untagged (h : u.net.tags.find? (fun x => decide (x.tag = f.tag)) = none) : u.tagAnswer f = u.lateAnswer := by
  unfold State.tagAnswer
  rw [h]

variable (h : u.net.tags.find? (fun x => decide (x.tag = f.tag)) = some x)
include h

theorem tagAnswer_one (ha : x.addr = f.addr) (hn : x.addr ≠ 63) : u.tagAnswer f = (u.freeTag f.tag).rxPut (x.answered f) := by
  unfold State.tagAnswer
  simp only [h, if_neg hn, if_pos ha]
  rfl

theorem tagAnswer_broadcast (ha : x.addr = 63) :
    u.tagAnswer f =
      (u.countTag f.tag).rxPut (x.answered f) := by
  unfold State.tagAnswer
  simp only [h, if_pos ha]
  rfl

theorem tagAnswer_stranger (hn : x.addr ≠ 63) (ha : x.addr ≠ f.addr) : u.tagAnswer f = u.lateAnswer := by
  unfold State.tagAnswer
  simp only [h, if_neg hn, if_neg ha]

end Answers

@[simp] theorem rxPut_tags (s : State) (x : RxEnt) : (s.rxPut x).net.tags = s.net.tags := by
  unfold State.rxPut
  split <;> rfl

/-- A frame enters the host's receive queue where it has room (R309). -/
theorem rxPut_rxq (s : State) (x : RxEnt) :
    (s.rxPut x).net.rxq = if s.net.rxq.length < 32 then s.net.rxq ++ [x] else s.net.rxq := by
  unfold State.rxPut
  split <;> rfl

/-- Settles O46: a frame is heard by the law of arrival, and each operation decides by the layout of the payload and by the tag. -/
theorem framesTaken : Obligations.FramesTaken := by
  refine ⟨fun s dt p h b => ?arrival, fun u tag b hs => ?requests, fun u f => ?answers⟩
  case arrival =>
    refine ⟨fun hh => ?_, fun hh => ?_, fun hh => ?_, fun hh => ?_, fun hh => ?_, fun hh => ?_, fun hh => ?_, fun hh => ?_, fun hh => ?_,
      fun hh => ?_⟩
    · exact (exec_regFrame ..).trans (arrive_hears hh _)
    · exact (exec_bsnRdFrame ..).trans (arrive_hears hh _)
    · obtain ⟨t, ht, hpacket⟩ := takeSvc_completes ((s.elapse dt).heard p (Header.frame h 14 b) h.tail) p h.tag b
      exact ⟨t, ((exec_svcFrame ..).trans (arrive_hears hh _)).trans ht, hpacket⟩
    · exact (exec_regRspFrame ..).trans (arrive_hears hh _)
    · exact (exec_cmdRspFrame ..).trans (arrive_hears hh _)
    · exact (exec_bsnHitFrame ..).trans (arrive_hears hh _)
    · exact (exec_bsnMissFrame ..).trans (arrive_hears hh _)
    · exact (exec_svcRspFrame ..).trans (arrive_hears hh _)
    · exact (exec_modeAckFrame ..).trans (arrive_hears hh _)
    · exact (exec_notifyFrame ..).trans (arrive_hears hh _)
  case requests =>
    exact ⟨takeReg_format hs tag, takeReg_read_one hs tag, takeReg_write_denied hs tag, takeBsn_past hs tag,
      fun p => takeBsn_mismatch u (some p) tag⟩
  case answers =>
    refine ⟨fun h => tagAnswer_untagged ?_, fun x h ha hn => ?_, fun x h ha => ?_, fun x h hn ha => tagAnswer_stranger h hn ha⟩
    · simpa using h
    · refine ⟨?_, ?_, onlyIn_tagAnswer u f⟩
      · rw [tagAnswer_one h ha hn, rxPut_tags]
        rfl
      · rw [tagAnswer_one h ha hn, rxPut_rxq]
        rfl
    · refine ⟨fun y hy => ?_, ?_, onlyIn_tagAnswer u f⟩
      · rw [tagAnswer_broadcast h ha, rxPut_tags]
        exact List.mem_map_of_mem hy
      · rw [tagAnswer_broadcast h ha, rxPut_rxq]
        rfl

end Sys2Proof.Machine
end

/-! SUPPORT. Proofs of the statements of chapter 06 on the words of the jets: the fields of the formats, encoder and decoder, and the theorems
that settle O5 and O6. -/

section
namespace Sys2Proof

/-! ## Bits and fields -/

@[simp] theorem ofBit1_bit1 (b : Bool) : ofBit1 (bit1 b) = b := by cases b <;> rfl

@[simp] theorem bit1_ofBit1 (b : BitVec 1) : bit1 (ofBit1 b) = b := by
  rcases BitVec.eq_zero_or_eq_one b with rfl | rfl <;> rfl

/-- Two neighbouring fields of a word, joined, are the field that they make up. The widths are left to unification, for a word's width is
a numeral. -/
theorem fields_append {n : Nat} (w : BitVec n) {hi lo k l : Nat} (h : hi = lo + l) :
    @HAppend.hAppend (BitVec k) (BitVec l) (no_index (BitVec (k + l))) _ (w.extractLsb' hi k) (w.extractLsb' lo l) = w.extractLsb' lo (k + l) :=
  BitVec.extractLsb'_append_extractLsb'_eq_extractLsb' (by omega)

theorem guardI_eq_some {c : Bool} {i k : Balrax} : guardI c i = some k ↔ c = true ∧ i = k := by
  cases c <;> simp [guardI]

/-- A field of the upper of two joined words. -/
@[simp] theorem extract_high {k l lo n : Nat} (x : BitVec k) (y : BitVec l) (h : l ≤ lo) :
    (@HAppend.hAppend (BitVec k) (BitVec l) (no_index (BitVec (k + l))) _ x y).extractLsb' lo n = x.extractLsb' (lo - l) n :=
  BitVec.extractLsb'_append_eq_of_le h

/-- A field of the lower of two joined words. -/
@[simp] theorem extract_low {k l lo n : Nat} (x : BitVec k) (y : BitVec l) (h : lo + n ≤ l) :
    (@HAppend.hAppend (BitVec k) (BitVec l) (no_index (BitVec (k + l))) _ x y).extractLsb' lo n = y.extractLsb' lo n :=
  BitVec.extractLsb'_append_eq_of_add_le h

/-! ## The formats (Table 6.1) -/

section Formats
variable (op : BitVec 6) (a b c : Reg) (f : BitVec 14) (imm : Imm18) (far : Imm26)

@[simp] theorem fmtA_op : (fmtA op a b c f).extractLsb' 26 6 = op := by simp [fmtA]
@[simp] theorem fmtA_f1 : (fmtA op a b c f).extractLsb' 22 4 = a := by simp [fmtA]
@[simp] theorem fmtA_f2 : (fmtA op a b c f).extractLsb' 18 4 = b := by simp [fmtA]
@[simp] theorem fmtA_f3 : (fmtA op a b c f).extractLsb' 14 4 = c := by simp [fmtA]
@[simp] theorem fmtA_low {lo n : Nat} (h : lo + n ≤ 14) : (fmtA op a b c f).extractLsb' lo n = f.extractLsb' lo n := by
  simp [fmtA, h]
@[simp] theorem fmtI_op : (fmtI op a b imm).extractLsb' 26 6 = op := by simp [fmtI]
@[simp] theorem fmtI_f1 : (fmtI op a b imm).extractLsb' 22 4 = a := by simp [fmtI]
@[simp] theorem fmtI_f2 : (fmtI op a b imm).extractLsb' 18 4 = b := by simp [fmtI]
@[simp] theorem fmtI_imm : (fmtI op a b imm).extractLsb' 0 18 = imm := by simp [fmtI]
@[simp] theorem fmtJ_op : (fmtJ op far).extractLsb' 26 6 = op := by simp [fmtJ]
@[simp] theorem fmtJ_low {lo n : Nat} (h : lo + n ≤ 26) : (fmtJ op far).extractLsb' lo n = far.extractLsb' lo n := by
  simp [fmtJ, h]

end Formats

section Words
variable {w : Word} {op : BitVec 6} {a b c : Reg} {f : BitVec 14} {imm : Imm18} {far : Imm26}

/-- A word is the word of format A that its fields make up. -/
theorem fmtA_eq (hop : w.extractLsb' 26 6 = op) (ha : w.extractLsb' 22 4 = a) (hb : w.extractLsb' 18 4 = b) (hc : w.extractLsb' 14 4 = c)
    (hf : w.extractLsb' 0 14 = f) : fmtA op a b c f = w := by
  subst hop ha hb hc hf
  simp only [fmtA, fields_append, BitVec.extractLsb'_eq_self]

theorem fmtI_eq (hop : w.extractLsb' 26 6 = op) (ha : w.extractLsb' 22 4 = a) (hb : w.extractLsb' 18 4 = b)
    (himm : w.extractLsb' 0 18 = imm) : fmtI op a b imm = w := by
  subst hop ha hb himm
  simp only [fmtI, fields_append, BitVec.extractLsb'_eq_self]

theorem fmtJ_eq (hop : w.extractLsb' 26 6 = op) (hfar : w.extractLsb' 0 26 = far) : fmtJ op far = w := by
  subst hop hfar
  simp only [fmtJ, fields_append, BitVec.extractLsb'_eq_self]

end Words

/-! ## Function codes (Table 6.3) -/

@[simp] theorem ofCode_code (op : AluOp) : AluOp.ofCode op.code = some op := by cases op <;> rfl

theorem code_of_ofCode {c : BitVec 14} {op : AluOp} (h : AluOp.ofCode c = some op) : op.code = c := by
  apply BitVec.eq_of_toNat_eq
  unfold AluOp.ofCode at h
  split at h <;> simp_all
  all_goals subst h; rfl

theorem ofCode_undefined {c : BitVec 14} (h : 11 ≤ c.toNat) : AluOp.ofCode c = none := by
  cases hop : AluOp.ofCode c with
  | none => rfl
  | some op =>
    have hlt : op.code.toNat < 11 := by cases op <;> decide
    rw [code_of_ofCode hop] at hlt
    omega

/-! ## The decoder of an encoded instruction -/

/-- Every instruction that an encoding admits is what its word decodes to. -/
theorem decode_encode (i : Balrax) (h : i.wf = true) : Balrax.decode i.encode = some i := by
  cases i with
  | br op ra rb imm => cases op <;> simp [Balrax.encode, Balrax.decode, BrOp.code]
  | getr | strm | lim | exc | waite | sig => simpa [Balrax.encode, Balrax.decode, Balrax.wf, guardI] using h
  | _ => simp [Balrax.encode, Balrax.decode, guardI]

/-! ## The encoder of a decoded word -/

/-- Every word that decodes is the word of what it decodes to, which obeys the rules of its fields. -/
theorem encode_of_decode {w : Word} {i : Balrax} (h : Balrax.decode w = some i) : i.encode = w ∧ i.wf = true := by
  have opcode : ∀ {op : BitVec 6}, (w.extractLsb' 26 6).toNat = op.toNat → w.extractLsb' 26 6 = op := BitVec.eq_of_toNat_eq
  unfold Balrax.decode at h
  extract_lets f1 f2 f3 fn imm jimm six rsel b5 b4 low at h
  split at h
  -- ALU
  case h_1 hop =>
    obtain ⟨op, hfn, rfl⟩ := Option.map_eq_some_iff.mp h
    exact ⟨fmtA_eq (opcode hop) rfl rfl rfl (code_of_ofCode hfn).symm, rfl⟩
  -- ADDI, branches, LD, ST, RDREG, WRREG
  case h_2 hop | h_4 hop | h_5 hop | h_6 hop | h_7 hop | h_12 hop | h_13 hop | h_14 hop | h_15 hop =>
    cases h
    exact ⟨fmtI_eq (opcode hop) rfl rfl rfl, rfl⟩
  -- JMP, CALL
  case h_9 hop | h_10 hop =>
    cases h
    exact ⟨fmtJ_eq (opcode hop) rfl, rfl⟩
  -- WAITT and its functions
  case h_26 hop =>
    split at h
    case h_4 => cases h
    all_goals
      obtain ⟨hc, rfl⟩ := guardI_eq_some.mp h
      simp only [Bool.and_eq_true, beq_iff_eq] at hc
    case h_1 hfn => exact ⟨fmtA_eq (opcode hop) rfl rfl hc (BitVec.eq_of_toNat_eq hfn), rfl⟩
    case h_2 hfn | h_3 hfn => exact ⟨fmtA_eq (opcode hop) rfl hc.1 hc.2 (BitVec.eq_of_toNat_eq hfn), rfl⟩
  case h_31 => cases h
  all_goals
    obtain ⟨hc, rfl⟩ := guardI_eq_some.mp h
    simp only [Bool.and_eq_true, beq_iff_eq, bne_iff_ne, BitVec.ofNat_eq_ofNat] at hc
  -- LUI, LOOP
  case h_3 hop | h_8 hop => exact ⟨fmtI_eq (opcode hop) rfl hc rfl, rfl⟩
  -- WAIT
  case h_25 hop => exact ⟨fmtI_eq (opcode hop) hc rfl rfl, rfl⟩
  -- RET, YIELD
  case h_11 hop | h_29 hop => exact ⟨fmtJ_eq (opcode hop) hc, rfl⟩
  -- CONV
  case h_16 hop =>
    obtain ⟨⟨h2, h3⟩, h5⟩ := hc
    refine ⟨fmtA_eq (opcode hop) rfl h2 h3 ?_, rfl⟩
    simp [b4, low, ← h5, fields_append]
  -- SYNCV
  case h_17 hop =>
    obtain ⟨h3, h5⟩ := hc
    refine ⟨fmtA_eq (opcode hop) rfl rfl h3 ?_, rfl⟩
    simp [b4, low, ← h5, fields_append]
  -- GETR
  case h_18 hop =>
    obtain ⟨⟨⟨h3, h6⟩, h0⟩, hr⟩ := hc
    refine ⟨fmtA_eq (opcode hop) rfl rfl h3 ?_, hr⟩
    simp [six, rsel, b5, b4, ← h6, ← h0, low, fields_append]
  -- STRM
  case h_19 hop =>
    obtain ⟨h4, hr⟩ := hc
    refine ⟨fmtA_eq (opcode hop) rfl rfl rfl ?_, hr⟩
    simp [six, rsel, low, ← h4, fields_append]
  -- LIM
  case h_20 hop =>
    obtain ⟨⟨h3, h0⟩, hr⟩ := hc
    refine ⟨fmtA_eq (opcode hop) rfl rfl h3 ?_, hr⟩
    simp [six, rsel, ← h0, fields_append]
  -- BAL
  case h_21 hop => exact ⟨fmtA_eq (opcode hop) hc.1 rfl rfl hc.2, rfl⟩
  -- BALQ
  case h_22 hop => exact ⟨fmtA_eq (opcode hop) rfl rfl rfl hc, rfl⟩
  -- EXC
  case h_23 hop =>
    obtain ⟨⟨⟨h2, h3⟩, h0⟩, hk⟩ := hc
    refine ⟨fmtA_eq (opcode hop) rfl h2 h3 ?_, decide_eq_true hk⟩
    simp [← h0, fields_append]
  -- CORR
  case h_24 hop =>
    obtain ⟨h3, h4⟩ := hc
    refine ⟨fmtA_eq (opcode hop) rfl rfl h3 ?_, rfl⟩
    simp [← h4, fields_append]
  -- WAITE
  case h_27 hop =>
    obtain ⟨⟨h6, h0⟩, hr⟩ := hc
    refine ⟨fmtA_eq (opcode hop) rfl rfl rfl ?_, hr⟩
    simp [six, rsel, b5, ← h6, ← h0, fields_append]
  -- SIG
  case h_28 hop =>
    obtain ⟨⟨⟨⟨h1, h3⟩, h6⟩, h0⟩, hr⟩ := hc
    refine ⟨fmtA_eq (opcode hop) h1 rfl h3 ?_, hr⟩
    simp [six, rsel, b5, ← h6, ← h0, fields_append]
  -- HALT
  case h_30 hop =>
    refine ⟨fmtJ_eq (opcode hop) ?_, rfl⟩
    simp [← hc, fields_append]

/-- Settles O6: each format gives its fields back, and a word is the word of its format that its fields make up. -/
theorem decodeEncodeAgree : Obligations.DecodeEncodeAgree := ⟨decode_encode, fun _ _ h => encode_of_decode h⟩

/-- Settles O5: the words are spelled out bit by bit, and the decoder is run on them. -/
theorem balraxWords : Obligations.BalraxWords := by
  unfold Obligations.BalraxWords
  decide

end Sys2Proof
end

/-! SUPPORT. Proofs of the statements of chapter 06 on the arithmetic and control instructions of the jets, and the theorems that settle O7 and
O8. -/

section
namespace Sys2Proof.Machine

/-! ## A jet that is changed -/

/-- Two changes of a jet that agree on the jet as it stands are one. -/
theorem setJet_congr {u : State} {j : Nat} {f g : Jet → Jet} (h : f (u.jet j) = g (u.jet j)) : u.setJet j f = u.setJet j g := by
  have hmod : vmod u.seq.jets j f = vmod u.seq.jets j g := by
    unfold vmod
    split
    next hj =>
      have hget : u.jet j = u.seq.jets[j] := by simp [State.jet, vget, hj]
      rw [← hget, h]
    next => rfl
  unfold State.setJet
  rw [hmod]

theorem jet_setJet_self (u : State) {j : Nat} (h : j < 8) (f : Jet → Jet) : (u.setJet j f).jet j = f (u.jet j) := by
  rw [State.jet_setJet, if_pos ⟨rfl, h⟩]

@[simp] theorem setJet_cycle (u : State) (j : Nat) (f : Jet → Jet) : (u.setJet j f).cycle = u.cycle := rfl

/-! ## Results (R158, R167, R168) -/

section Results
variable {s : State} {dt j : Nat}

/-- An instruction that writes a register from the state of its issue. -/
theorem issue_done {e : State} {i : Balrax} (h : e.issues j i) (d : Reg) (w : State → Word) (c : Nat) :
    e.issue j i (fun s => (s.setReg j d (w s)).retire j s.clk c) = .next ((e.issueAt j).done j d (w (e.issueAt j)) (e.issueAt j).clk c) := by
  rw [issue_of_issues h, setReg_retire]

/-- An instruction of the ALU group writes its result (Table 6.3). -/
theorem issue_alu {e : State} {op : AluOp} {d a b : Reg} (h : e.issues j (.alu op d a b)) :
    e.issue j (.alu op d a b) (·.aluStep j op d a b) =
      .next ((e.issueAt j).done j d (aluOp op ((e.issueAt j).greg j a) ((e.issueAt j).greg j b)) (e.issueAt j).clk (if op = .mul then 2 else 1)) :=
  issue_done h d (fun s => aluOp op (s.greg j a) (s.greg j b)) _

end Results

/-- MUL gives the low 32 bits of the signed product. -/
theorem aluOp_mul (x y : Word) : aluOp .mul x y = BitVec.ofInt 32 (x.toInt * y.toInt) := by
  rw [BitVec.ofInt_mul, BitVec.ofInt_toInt, BitVec.ofInt_toInt]
  rfl

theorem aluOp_min (x y : Word) : aluOp .min x y = BitVec.ofInt 32 (min x.toInt y.toInt) := by
  show (if x.slt y then x else y) = _
  rw [BitVec.slt_eq_decide]
  by_cases h : x.toInt < y.toInt
  · rw [if_pos (decide_eq_true h), min_eq_left h.le, BitVec.ofInt_toInt]
  · rw [if_neg (by simpa using h), min_eq_right (not_lt.mp h), BitVec.ofInt_toInt]

theorem aluOp_max (x y : Word) : aluOp .max x y = BitVec.ofInt 32 (max x.toInt y.toInt) := by
  show (if x.slt y then y else x) = _
  rw [BitVec.slt_eq_decide]
  by_cases h : x.toInt < y.toInt
  · rw [if_pos (decide_eq_true h), max_eq_right h.le, BitVec.ofInt_toInt]
  · rw [if_neg (by simpa using h), max_eq_left (not_lt.mp h), BitVec.ofInt_toInt]

/-- The result of LUI. -/
theorem lui_eq (imm : Imm18) : imm.setWidth 32 <<< 14 = BitVec.ofNat 32 (imm.toNat * 2 ^ 14) := by
  apply BitVec.eq_of_toNat_eq
  have := imm.isLt
  simp [Nat.shiftLeft_eq]

/-- LUI and ADDI together load any constant: the upper 18 bits, then the lower 14. -/
theorem lui_addi_any (c : Word) : ∃ hi lo : Imm18, lo.toNat ≤ 16383 ∧ BitVec.ofNat 32 (hi.toNat * 2 ^ 14) + lo.signExtend 32 = c := by
  have hc := c.isLt
  refine ⟨BitVec.ofNat 18 (c.toNat / 2 ^ 14), BitVec.ofNat 18 (c.toNat % 2 ^ 14), ?_, ?_⟩
  · rw [BitVec.toNat_ofNat]
    omega
  · have hmsb : (BitVec.ofNat 18 (c.toNat % 2 ^ 14)).msb = false := by
      rw [BitVec.msb_eq_false_iff_two_mul_lt, BitVec.toNat_ofNat]
      omega
    rw [BitVec.signExtend_eq_setWidth_of_msb_false hmsb]
    apply BitVec.eq_of_toNat_eq
    simp only [BitVec.toNat_add, BitVec.toNat_ofNat, BitVec.toNat_setWidth]
    omega

/-! ### Registers -/

/-- A register after a write; g0 takes none and reads as 0. -/
theorem greg_setReg (u : State) {j : Nat} (h : j < 8) (d r : Reg) (w : Word) :
    (u.setReg j d w).greg j r = if r = d ∧ d ≠ 0 then w else u.greg j r := by
  unfold State.setReg State.greg Jet.write
  rw [jet_setJet_self u h]
  by_cases hd : d = 0#4
  · simp [hd]
  · by_cases hr : r = d
    · subst hr
      simp [hd, vget_vset, r.isLt]
    · have hne : r.toNat ≠ d.toNat := fun e => hr (BitVec.eq_of_toNat_eq e)
      simp [hd, hr, vget_vset, hne]

theorem greg_of_regs {u t : State} {j : Nat} (h : (t.jet j).regs = (u.jet j).regs) (r : Reg) : t.greg j r = u.greg j r := by
  unfold State.greg
  rw [h]

section Done
variable (u : State) {j : Nat} (d : Reg) (w : Word) (at_ c : Nat)

theorem onlyIn_done : OnlyIn [.seq] u (u.done j d w at_ c) := onlyIn_setJet u j _

theorem done_jet_ne {m : Nat} (h : m ≠ j) : (u.done j d w at_ c).jet m = u.jet m := State.jet_setJet_ne u _ h

@[simp] theorem done_flagSet (k : Nat) : (u.done j d w at_ c).flagSet k = u.flagSet k := rfl

/-- The jet that has done an instruction with a result. -/
theorem done_jet_self (h : j < 8) :
    (u.done j d w at_ c).jet j =
      { (u.jet j).write d w with
        pc := (u.jet j).pc + 1, busyTo := max u.clk (at_ + c * u.cycle), lastPc := (u.jet j).pc, lastDep := (u.jet j).stack.length } :=
  jet_setJet_self u h _

theorem greg_done (h : j < 8) (r : Reg) : (u.done j d w at_ c).greg j r = if r = d ∧ d ≠ 0 then w else u.greg j r := by
  rw [← greg_setReg u h]
  refine greg_of_regs ?_ r
  unfold State.setReg
  rw [done_jet_self u d w at_ c h, jet_setJet_self u h]

end Done

@[simp] theorem greg_zero (u : State) (j : Nat) : u.greg j 0 = 0 := rfl

/-! ### Words that are no instructions -/

theorem decode_alu_undefined {w : Word} (hop : w.extractLsb' 26 6 = 0) (h : 11 ≤ (w.extractLsb' 0 14).toNat) : Balrax.decode w = none := by
  simp [Balrax.decode, hop, ofCode_undefined h]

theorem decode_lui_reserved {w : Word} (hop : w.extractLsb' 26 6 = 2) (h : w.extractLsb' 18 4 ≠ 0) : Balrax.decode w = none := by
  have hf2 : (w.extractLsb' 18 4 == 0) = false := beq_eq_false_iff_ne.mpr h
  simp only [Balrax.decode, hop, hf2, guardI]
  rfl

/-- Settles O7: one law for the ALU group, the results of its operations, and what a register write leaves. -/
theorem registerResults : Obligations.RegisterResults := by
  refine ⟨fun s dt j d a b => ?alu, fun s dt j a b imm => ?imm, fun u j d r w at_ c hj => ?written,
    fun w => ⟨decode_alu_undefined, decode_lui_reserved⟩, lui_addi_any⟩
  case alu =>
    intro e u x y
    refine ⟨fun h => (exec_add ..).trans (issue_alu h), fun h => (exec_sub ..).trans (issue_alu h), fun h => (exec_andOp ..).trans (issue_alu h),
      fun h => (exec_orOp ..).trans (issue_alu h), fun h => (exec_xorOp ..).trans (issue_alu h), fun h => (exec_shl ..).trans (issue_alu h),
      fun h => (exec_shr ..).trans (issue_alu h), fun h => (exec_sar ..).trans (issue_alu h), fun h => ?mul, fun h => ?min, fun h => ?max⟩
    case mul => rw [← aluOp_mul]; exact (exec_mul ..).trans (issue_alu h)
    case min => rw [← aluOp_min]; exact (exec_minOp ..).trans (issue_alu h)
    case max => rw [← aluOp_max]; exact (exec_maxOp ..).trans (issue_alu h)
  case imm =>
    intro e u
    refine ⟨fun h => (exec_addi ..).trans (issue_done h a (fun s => s.greg j b + imm.signExtend 32) 1), fun h => ?_⟩
    rw [← lui_eq]
    exact (exec_lui ..).trans (issue_done h a (fun _ => imm.setWidth 32 <<< 14) 1)
  case written =>
    intro t
    have ht := done_jet_self u d w at_ c hj
    refine ⟨greg_done u d w at_ c hj r, rfl, ?_, ?_, ?_, fun m hm => done_jet_ne u d w at_ c hm, onlyIn_done u d w at_ c⟩
    · rw [ht]
    · rw [ht]
    · rw [ht]
      exact Jet.write_stack ..

/-! ## Control transfers (R160, R169) -/

section Transfers
variable {s u : State} {dt j t : Nat}

/-- A branch whose target lies in the program is taken where its condition holds. -/
theorem branch_goto {op : BrOp} {a b : Reg} {imm : Imm18} (ht : t < 16384) (hpc : (t : Int) = (u.jet j).pc + imm.toInt) :
    u.branch j op a b imm = if brCond op (u.greg j a) (u.greg j b) = true then u.goto j t else u.pass j := by
  unfold State.branch
  rw [jump_goto u j t ht _ hpc, retire_pass]

theorem issue_branch {e : State} {op : BrOp} {a b : Reg} {imm : Imm18} (h : e.issues j (.br op a b imm)) (ht : t < 16384)
    (hpc : (t : Int) = ((e.issueAt j).jet j).pc + imm.toInt) :
    e.issue j (.br op a b imm) (·.branch j op a b imm) =
      .next (if brCond op ((e.issueAt j).greg j a) ((e.issueAt j).greg j b) = true then (e.issueAt j).goto j t else (e.issueAt j).pass j) := by
  rw [issue_of_issues h, branch_goto ht hpc]

theorem inProgram_of_lt {t : Nat} (h : t < 16384) : inProgram (t : Int) = true := by
  simp [inProgram]
  omega

/-- LOOP ends where the decremented register is 0, and goes round with it otherwise. -/
theorem loop_exec {a : Reg} {imm : Imm18} (h : (s.elapse dt).issues j (.loop a imm)) (hu : (s.elapse dt).issueAt j = u) (ht : t < 16384)
    (hpc : (t : Int) = (u.jet j).pc + imm.toInt) :
    exec (.loop dt j a imm) s =
      .next (if u.greg j a = 1 then (u.setReg j a 0).pass j else (u.setReg j a (u.greg j a - 1)).goto j t) := by
  have hlast : u.greg j a - 1 = 0 ↔ u.greg j a = 1 := sub_eq_zero
  subst hu
  rw [exec_loop, execLoop, issue_of_issues h]
  simp only [← hpc, inProgram_of_lt ht, if_true]
  by_cases hx : ((s.elapse dt).issueAt j).greg j a = 1
  · rw [if_pos (hlast.mpr hx), if_pos hx, hlast.mpr hx, ← retire_pass]
    rfl
  · rw [if_neg (mt hlast.mp hx), if_neg hx, jump_goto _ j t ht _ rfl]

theorem jmp_exec {far : Imm26} (h : (s.elapse dt).issues j (.jmp far)) (hu : (s.elapse dt).issueAt j = u) (ht : t < 16384)
    (hfar : t = far.toNat) : exec (.jmp dt j far) s = .next (u.goto j t) := by
  subst hu hfar
  rw [exec_jmp, execJmp, issue_of_issues h, jump_goto _ j _ ht _ rfl]

/-- CALL with room on the stack pushes the word after it. -/
theorem call_exec {far : Imm26} (h : (s.elapse dt).issues j (.call far)) (hu : (s.elapse dt).issueAt j = u) (ht : t < 16384)
    (hfar : t = far.toNat) (hroom : (u.jet j).stack.length < 8) :
    exec (.callOp dt j far) s = .next ((u.goto j t).setJet j (fun q => { q with stack := ((u.jet j).pc + 1) :: q.stack })) := by
  subst hu hfar
  rw [exec_callOp, execCallOp, issue_of_issues h]
  simp only [if_neg (Nat.not_le.mpr hroom), inProgram_of_lt ht, if_true]
  rw [State.goto, State.setJet_setJet]
  exact congrArg _ (setJet_congr rfl)

/-- RET pops the word that the stack holds on top. -/
theorem ret_exec {r : Nat} {k : List Nat} (h : (s.elapse dt).issues j .ret) (hu : (s.elapse dt).issueAt j = u)
    (hstack : (u.jet j).stack = r :: k) : exec (.retOp dt j) s = .next ((u.goto j r).setJet j (fun q => { q with stack := k })) := by
  subst hu
  rw [exec_retOp, execRetOp, issue_of_issues h]
  simp only [hstack]
  rw [State.goto, State.setJet_setJet]

end Transfers

/-- Settles O8: a transfer is judged at the issue of its instruction, and one into the program goes to its target. -/
theorem controlTransfers : Obligations.ControlTransfers := by
  intro s dt j a b imm far t e u x y ht
  refine ⟨fun hpc => ⟨fun h => ?eq, fun h => ?ne, fun h => ?lt, fun h => ?ge, fun h => loop_exec h rfl ht hpc⟩,
    fun hfar => ⟨fun h => jmp_exec h rfl ht hfar, fun h hroom => call_exec h rfl ht hfar hroom⟩, fun r k h hstack => ret_exec h rfl hstack⟩
  case eq => simpa [brCond] using (exec_beq ..).trans (issue_branch h ht hpc)
  case ne => simpa [brCond] using (exec_bne ..).trans (issue_branch h ht hpc)
  case lt => simpa [brCond, BitVec.slt_eq_decide] using (exec_blt ..).trans (issue_branch h ht hpc)
  case ge => simpa [brCond, BitVec.slt_eq_decide] using (exec_bge ..).trans (issue_branch h ht hpc)

end Sys2Proof.Machine
end

/-! SUPPORT. Proofs of the statements of chapters 06 and 07 on the event flags and the waits of the jets, and the theorem that settles O10. -/

section
namespace Sys2Proof.Machine

/-! ## Parts that read alike -/

theorem jet_of_onlyIn {ps : List Part} {s t : State} (h : OnlyIn ps s t) (hs : Part.seq ∉ ps) (m : Nat) : t.jet m = s.jet m := by
  have hseq : t.seq = s.seq := h .seq hs
  unfold State.jet
  rw [hseq]

theorem cycle_pos (s : State) : 0 < s.cycle := by
  unfold State.cycle
  cases s.pwr.coreSrc <;> decide

theorem lt_of_issues {e : State} {j : Nat} {i : Balrax} (h : e.issues j i) : j < 8 := by
  have hcan := h.1
  simp only [State.canIssue, Bool.and_eq_true, decide_eq_true_eq] at hcan
  exact hcan.1.1.1.1

/-! ## The event flags (R163, R186) -/

theorem getLsbD_twoPow64 {k : Nat} (h : k < 64) (i : Nat) : (BitVec.ofNat 64 (2 ^ k)).getLsbD i = decide (i = k) := by
  rw [BitVec.getLsbD_ofNat, Nat.testBit_two_pow]
  by_cases hi : i = k
  · simp [hi, h]
  · simp [hi, Ne.symm hi]

section Flags
variable (u : State) {k : Nat} (hk : k < 64) (b : Bool)
include hk

theorem flagSet_putFlag (i : Nat) : (u.putFlag k b).flagSet i = if i = k then b else u.flagSet i := by
  have hbit := getLsbD_twoPow64 hk
  unfold State.putFlag State.flagSet
  generalize BitVec.ofNat 64 (2 ^ k) = m at hbit ⊢
  cases b
  · by_cases hi : i = k
    · simp [hbit, hi]
    · by_cases h64 : i < 64
      · have hm : m[i] = false := by simpa [hi] using (BitVec.getLsbD_eq_getElem h64).symm.trans (hbit i)
        simp [hi, h64, hm]
      · simp [hi, BitVec.getLsbD_of_ge _ i (not_lt.mp h64)]
  · by_cases hi : i = k <;> simp [hbit, hi]

theorem flagSet_putFlag_self : (u.putFlag k b).flagSet k = b := by rw [flagSet_putFlag u hk, if_pos rfl]

theorem flagSet_putFlag_ne {i : Nat} (h : i ≠ k) : (u.putFlag k b).flagSet i = u.flagSet i := by rw [flagSet_putFlag u hk, if_neg h]

end Flags

@[simp] theorem putFlag_jet (u : State) (k m : Nat) (b : Bool) : (u.putFlag k b).jet m = u.jet m := rfl
@[simp] theorem putFlag_clk (u : State) (k : Nat) (b : Bool) : (u.putFlag k b).clk = u.clk := rfl
theorem onlyIn_putFlag (u : State) (k : Nat) (b : Bool) : OnlyIn [.seq] u (u.putFlag k b) := onlyIn_setSeq u _

/-! ## The instructions that wait (R184 to R186) -/

section Waits
variable {s u : State} {dt j : Nat} {d a b : Reg} {imm : Imm18}

theorem wait_exec (h : (s.elapse dt).issues j (.wait b imm)) (hu : (s.elapse dt).issueAt j = u) :
    exec (.waitOp dt j b imm) s =
      .next (if u.greg j b + imm.setWidth 32 = 0 then u.pass j
        else u.inWait j (.time (u.tb + (u.greg j b + imm.setWidth 32).setWidth 64)) 1) := by
  subst hu
  rw [exec_waitOp, execWaitOp, issue_of_issues h]
  simp only [retire_pass, await_safe]

/-- A deadline is reached where the signed difference of the timebase and the deadline is 0 or more (R173). -/
theorem reached32_iff (u : State) (r : Word) : u.reached32 r = true ↔ 0 ≤ (u.tb.setWidth 32 - r).toInt := by
  unfold State.reached32
  rw [BitVec.msb_eq_toInt]
  simp

theorem waitt_exec (h : (s.elapse dt).issues j (.waitt d a)) (hu : (s.elapse dt).issueAt j = u) :
    exec (.waitt dt j d a) s =
      .next (if u.reached32 (u.greg j a) = true then u.done j d (u.tb.setWidth 32 - u.greg j a) u.clk 1
        else u.inWait j (.deadline d.toNat (u.greg j a)) 1) := by
  subst hu
  rw [exec_waitt, execWaitt, issue_of_issues h]
  simp only [setReg_retire, await_safe]

theorem waittRd_exec (h : (s.elapse dt).issues j (.waittRd a)) (hu : (s.elapse dt).issueAt j = u) :
    exec (.waittRd dt j a) s =
      .next ((u.setJet j (fun q => { q with tbh := u.tb.extractLsb' 32 32 })).done j a (u.tb.setWidth 32) u.clk 1) := by
  subst hu
  rw [exec_waittRd, execWaittRd, issue_of_issues h, setReg_retire]

theorem waittRdh_exec (h : (s.elapse dt).issues j (.waittRdh a)) (hu : (s.elapse dt).issueAt j = u) :
    exec (.waittRdh dt j a) s = .next (u.done j a (u.jet j).tbh u.clk 1) := by
  subst hu
  rw [exec_waittRdh, execWaittRdh, issue_of_issues h, setReg_retire]

end Waits

/-! ## WAITE (R186) -/

/-- The flag that RSEL and the fields of an instruction name (R172). -/
theorem rselect_flag (u : State) (j : Nat) (rsel : Bool) (flag : BitVec 6) (r : Reg) :
    u.rselect j rsel flag r % 64 = if rsel then (u.greg j r).toNat % 64 else flag.toNat := by
  unfold State.rselect
  cases rsel
  · exact Nat.mod_eq_of_lt flag.isLt
  · rfl

theorem flag_lt (u : State) (j : Nat) (rsel : Bool) (flag : BitVec 6) (r : Reg) :
    (if rsel then (u.greg j r).toNat % 64 else flag.toNat) < 64 := by
  rw [← rselect_flag]
  exact Nat.mod_lt _ (by decide)

/-- The wait of a WAITE for flag `k`: none in field ra is no timeout. -/
def State.flagWait (u : State) (j : Nat) (d a : Reg) (k : Nat) (c : Bool) : JWait :=
  .flag d.toNat k c (if a = 0 then none else some (u.tb + (u.greg j a).setWidth 64)) false

theorem awaitFlag_eq (u : State) (j : Nat) (d a : Reg) (k : Nat) (c : Bool) :
    u.awaitFlag j d a k c = u.inWait j (u.flagWait j d a k c) 1 := await_safe ..

section Waite
variable {s u : State} {dt j k : Nat} {d a b : Reg} {flag : BitVec 6} {rsel : Bool}

theorem waite_exec {c : Bool} (h : (s.elapse dt).issues j (.waite d a b flag rsel c)) (hu : (s.elapse dt).issueAt j = u)
    (hk : (if rsel then (u.greg j b).toNat % 64 else flag.toNat) = k) :
    exec (.waite dt j d a b flag rsel c) s =
      .next (if c = true then u.waiteTake j d a k
        else if (u.flagSet k || (u.taker k).isSome) = true then u.done j d 1 u.clk 1
        else u.inWait j (u.flagWait j d a k false) 1) := by
  subst hu hk
  rw [exec_waite, execWaite, issue_of_issues h]
  simp only [rselect_flag, setReg_retire, awaitFlag_eq]

/-- A flag that is clear and that no jet has taken is waited for. -/
theorem waiteTake_waits (hf : u.flagSet k = false) (ht : u.taker k = none) :
    u.waiteTake j d a k = u.inWait j (u.flagWait j d a k true) 1 := by
  unfold State.waiteTake
  simp only [ht, hf, Bool.false_eq_true, if_false, awaitFlag_eq]

/-- What taking a flag leaves: the flag, where it was set in this very cycle, and every jet. -/
structure TookFlag (u v : State) (k : Nat) : Prop where
  onlySeq : OnlyIn [.seq] u v
  jets : ∀ m, v.jet m = u.jet m
  flag : v.flagSet k = u.flagFresh k

theorem takeFlag_now (hk : k < 64) (hf : u.flagSet k = true) (h : u.flagFresh k = false ∨ u.seq.flagTook.getLsbD k = false) :
    ∃ v, u.takeFlag k = (u.clk, v) ∧ TookFlag u v k := by
  unfold State.takeFlag
  by_cases hfresh : u.flagFresh k = true
  · have htook := h.resolve_left (by simp [hfresh])
    simp only [hfresh, htook, Bool.not_true, Bool.false_eq_true, if_false]
    exact ⟨_, rfl, onlyIn_setSeq u _, fun _ => rfl, hf.trans hfresh.symm⟩
  · have hold : u.flagFresh k = false := by simpa using hfresh
    simp only [hold, Bool.not_false, if_true]
    exact ⟨_, rfl, onlyIn_putFlag u k false, fun _ => rfl, (flagSet_putFlag_self u hk false).trans hold.symm⟩

theorem takeFlag_next (hfresh : u.flagFresh k = true) (htook : u.seq.flagTook.getLsbD k = true) :
    u.takeFlag k = (u.clk + u.cycle, u.putFlag k false) := by
  unfold State.takeFlag
  simp only [hfresh, htook, Bool.not_true, Bool.false_eq_true, if_false, if_true]

/-- A set flag that no jet has taken in this cycle is taken by the jet that comes first. -/
theorem waiteTake_first (hf : u.flagSet k = true) (ht : u.taker k = none) :
    u.waiteTake j d a k =
      (let r := u.takeFlag k
       let w := r.2.done j d 1 r.1 1
       if r.1 = w.clk then w.noteTaker k j ((u.inWait j (u.flagWait j d a k true) 1).jet j) else w) := by
  unfold State.waiteTake
  simp only [ht, hf, if_true, awaitFlag_eq, setReg_retire]

theorem waiteTake_now (hj : j < 8) (hk : k < 64) (hf : u.flagSet k = true) (ht : u.taker k = none)
    (h : u.flagFresh k = false ∨ u.seq.flagTook.getLsbD k = false) :
    let t := u.waiteTake j d a k
    (t.jet j).regs = ((u.jet j).write d 1).regs ∧ (t.jet j).pc = (u.jet j).pc + 1 ∧ t.flagSet k = u.flagFresh k ∧
      (∀ m, m ≠ j → t.jet m = u.jet m) ∧ OnlyIn [.cyc, .seq] u t := by
  intro t
  obtain ⟨v, hv, honly, hjets, hflag⟩ := takeFlag_now hk hf h
  have htime : v.time = u.time := honly .time (by simp)
  have hcyc : OnlyIn [.cyc] (v.done j d 1 u.clk 1) t := by
    have hclk : u.clk = (v.done j d 1 u.clk 1).clk := (congrArg Time.clk htime).symm
    show OnlyIn [.cyc] _ (u.waiteTake j d a k)
    rw [waiteTake_first hf ht]
    simp only [hv]
    rw [if_pos hclk]
    exact onlyIn_cycMod _ _
  have hjet : ∀ m, t.jet m = (v.done j d 1 u.clk 1).jet m := jet_of_onlyIn hcyc (by simp)
  have hseq : t.seq = (v.done j d 1 u.clk 1).seq := hcyc .seq (by simp)
  have hself := done_jet_self v d 1 u.clk 1 hj
  refine ⟨?_, ?_, ?_, fun m hm => ?_, ((honly.trans (onlyIn_done v d 1 u.clk 1)).mono (by simp)).trans (hcyc.mono (by simp))⟩
  · rw [hjet, hself, hjets]
  · rw [hjet, hself, hjets]
  · rw [← hflag]
    unfold State.flagSet
    rw [hseq]
    rfl
  · rw [hjet, done_jet_ne v d 1 u.clk 1 hm, hjets]

theorem waiteTake_later (hf : u.flagSet k = true) (ht : u.taker k = none) (hfresh : u.flagFresh k = true)
    (htook : u.seq.flagTook.getLsbD k = true) : u.waiteTake j d a k = (u.putFlag k false).done j d 1 (u.clk + u.cycle) 1 := by
  have hclk : ¬u.clk + u.cycle = ((u.putFlag k false).done j d 1 (u.clk + u.cycle) 1).clk := by
    have := cycle_pos u
    show ¬u.clk + u.cycle = u.clk
    omega
  rw [waiteTake_first hf ht, takeFlag_next hfresh htook]
  exact if_neg hclk

/-- A jet with a lower number takes the flag from the one that has taken it in this cycle, which goes on waiting. -/
theorem waiteTake_lower {i : Nat} {q : Jet} (hj : j < 8) (ht : u.taker k = some (i, q)) (hji : j < i) (hi : i < 8)
    (hfresh : u.flagFresh k = false) :
    let t := u.waiteTake j d a k
    (t.jet j).regs = ((u.jet j).write d 1).regs ∧ (t.jet j).pc = (u.jet j).pc + 1 ∧ t.jet i = q ∧ t.seq.flags = u.seq.flags ∧
      OnlyIn [.cyc, .seq] u t := by
  intro t
  generalize hw : (u.done j d 1 u.clk 1).noteTaker k j ((u.inWait j (u.flagWait j d a k true) 1).jet j) = w
  have hcyc : OnlyIn [.cyc] (u.done j d 1 u.clk 1) w := hw ▸ onlyIn_cycMod _ _
  have hold : w.flagFresh k = false := by
    subst hw
    exact hfresh
  have htaken : t = w.setJet i (fun _ => q) := by
    show u.waiteTake j d a k = _
    unfold State.waiteTake
    simp only [ht, if_pos hji, awaitFlag_eq, setReg_retire]
    rw [hw, hold]
    exact if_neg Bool.false_ne_true
  have hself : t.jet j = (u.done j d 1 u.clk 1).jet j := by
    rw [htaken, State.jet_setJet_ne w _ (by omega), jet_of_onlyIn hcyc (by simp)]
  rw [hself, done_jet_self u d 1 u.clk 1 hj, htaken]
  refine ⟨rfl, rfl, jet_setJet_self w hi _, ?_, ?_⟩
  · have hseq : w.seq = (u.done j d 1 u.clk 1).seq := hcyc .seq (by simp)
    show w.seq.flags = u.seq.flags
    rw [hseq]
    rfl
  · exact ((onlyIn_done u d 1 u.clk 1).mono (by simp)).trans ((hcyc.mono (by simp)).trans ((onlyIn_setJet w i _).mono (by simp)))

end Waite

/-! ## The ends of the waits (R162, R174, R175) -/

/-- A wait that ends lets its jet run on. -/
theorem endWait_woken {u : State} {j : Nat} (h : (u.jet j).st = .waiting) (d : Reg) (w : Word) (next : Nat) :
    u.endWait j d w next = u.woken j d w next := by
  unfold State.endWait State.woken
  refine setJet_congr ?_
  simp only [h, if_true]

theorem st_of_canWake {u : State} {j : Nat} (h : u.canWake j = true) : (u.jet j).st = .waiting := by
  unfold State.canWake at h
  simpa using (Bool.and_eq_true_iff.mp h).2

/-- What GETR gives of a result word: the word, or its VALUE as a number. -/
theorem getrView_eq (v : Bool) (w : Word) : getrView v w = if v then BitVec.ofInt 32 (valueOf w) else w := by
  cases v
  · rfl
  · show w.sshiftRight 8 = (w.extractLsb' 8 24).signExtend 32
    apply BitVec.eq_of_getLsbD_eq
    intro i hi
    have hmsb : (w.extractLsb' 8 24).msb = w.msb := by simp [BitVec.msb_eq_getMsbD_zero]
    rw [BitVec.getLsbD_sshiftRight, BitVec.getLsbD_signExtend, BitVec.getLsbD_extractLsb', hmsb]
    by_cases h24 : i < 24
    · simp [hi, h24, show 8 + i < 32 by omega]
    · simp [hi, h24, show ¬8 + i < 32 by omega]

section Ends
variable {s e : State} {dt j : Nat} (he : s.elapse dt = e)
include he

theorem waitEnd_exec {t : Tick} (h : e.waits j (.time t)) :
    exec (.waitEnd dt j) s = .next ((e.untilTb t).woken j 0 0 ((e.untilTb t).clk + (e.untilTb t).cycle)) := by
  obtain ⟨hwake, hwait⟩ := h
  have hst : ((e.untilTb t).jet j).st = .waiting := by rw [jet_of_onlyIn (onlyIn_untilTb e t) (by simp), st_of_canWake hwake]
  subst he
  rw [exec_waitEnd, execWaitEnd]
  simp only [hwait, hwake, if_true, endWait_woken hst]

theorem waittDeadline_exec {d : Nat} {r : Word} (h : e.waits j (.deadline d r)) :
    exec (.waittDeadline dt j) s =
      .next (let f := if e.reached32 r then e else e.elapseTb (r - e.tb.setWidth 32).toNat
        f.woken j (BitVec.ofNat 4 d) (f.tb.setWidth 32 - r) (f.clk + f.cycle)) := by
  obtain ⟨hwake, hwait⟩ := h
  have hf : OnlyIn [.time] e (if e.reached32 r then e else e.elapseTb (r - e.tb.setWidth 32).toNat) := .ite .refl (onlyIn_elapse e _)
  have hst : ((if e.reached32 r then e else e.elapseTb (r - e.tb.setWidth 32).toNat).jet j).st = .waiting := by
    rw [jet_of_onlyIn hf (by simp), st_of_canWake hwake]
  subst he
  rw [exec_waittDeadline, execWaittDeadline]
  simp only [hwait, hwake, if_true, endWait_woken hst]

theorem waiteWake_exec {d k : Nat} {c : Bool} {l : Option Tick} (h : e.waits j (.flag d k c l true)) :
    exec (.waiteWake dt j) s = .next (e.woken j (BitVec.ofNat 4 d) 1 (e.clk + e.cycle)) := by
  obtain ⟨hwake, hwait⟩ := h
  subst he
  rw [exec_waiteWake, execWaiteWake]
  simp only [hwait, hwake, if_true, endWait_woken (st_of_canWake hwake)]

theorem waiteTimeout_exec {d k : Nat} {c : Bool} {t : Tick} (h : e.waits j (.flag d k c (some t) false)) :
    exec (.waiteTimeout dt j) s = .next ((e.untilTb t).woken j (BitVec.ofNat 4 d) 0 ((e.untilTb t).clk + (e.untilTb t).cycle)) := by
  obtain ⟨hwake, hwait⟩ := h
  have hst : ((e.untilTb t).jet j).st = .waiting := by rw [jet_of_onlyIn (onlyIn_untilTb e t) (by simp), st_of_canWake hwake]
  subst he
  rw [exec_waiteTimeout, execWaiteTimeout]
  simp only [hwait, hwake, if_true, endWait_woken hst]

theorem convWaitEnd_exec {d g o r : Nat} {i : Option Nat} (h : e.waits j (.conv d g o i (some r))) :
    exec (.convWaitEnd dt j) s = .next (e.woken j (BitVec.ofNat 4 d) (BitVec.ofNat 32 r) (e.clk + 2 * e.cycle)) := by
  obtain ⟨hwake, hwait⟩ := h
  subst he
  rw [exec_convWaitEnd, execConvWaitEnd]
  simp only [hwait, hwake, if_true, endWait_woken (st_of_canWake hwake)]

theorem getrNWake_exec {d ch : Nat} {v : Bool} {w : Word} (h : e.waits j (.getr d ch v (some w))) (hw : e.latest ch = w) :
    exec (.getrNWake dt j) s =
      .next ((e.markRead ch).woken j (BitVec.ofNat 4 d) (if v then BitVec.ofInt 32 (valueOf w) else w) (e.clk + 3 * e.cycle)) := by
  obtain ⟨hwake, hwait⟩ := h
  have hst : ((e.markRead ch).jet j).st = .waiting := st_of_canWake hwake
  subst he
  rw [exec_getrNWake, execGetrNWake, ← getrView_eq]
  simp only [hwait, hwake, hw, if_true, endWait_woken hst]
  rfl

end Ends

/-- Settles O10: each instruction at its issue, and each end of a wait by the law of a jet that runs on. -/
theorem waitsOfTheJets : Obligations.WaitsOfTheJets := by
  refine ⟨fun s dt j d a b imm flag rsel c => ?issue, fun s dt j => ?ends, fun s dt j a => ?timebase⟩
  case issue =>
    intro e u k
    have hu : e.issueAt j = u := rfl
    have hk : (if rsel then (u.greg j b).toNat % 64 else flag.toNat) = k := rfl
    have hlt : k < 64 := flag_lt u j rsel flag b
    clear_value k u
    refine ⟨fun h hz => ?_, fun h hz => ?_, fun h hz => ?_, fun h hz => ?_, fun h hf => ?_, fun h hf ht => ?_,
      fun h hf ht => ⟨fun hnow => ?_, fun hfresh htook => ?_⟩, fun i q h ht hji hi hfresh => ?_⟩
    · rw [wait_exec h hu, if_pos hz]
    · rw [wait_exec h hu, if_neg hz]
    · rw [waitt_exec h hu, if_pos ((reached32_iff _ _).mpr hz)]
    · rw [waitt_exec h hu, if_neg (mt (reached32_iff _ _).mp (not_le.mpr hz))]
    · rw [waite_exec h hu hk, if_neg Bool.false_ne_true, if_pos (by simp [hf])]
    · rw [waite_exec h hu hk]
      cases c
      · rw [if_neg Bool.false_ne_true, if_neg (by simp [hf, ht])]
        rfl
      · rw [if_pos rfl, waiteTake_waits hf ht]
        rfl
    · exact ⟨_, (waite_exec h hu hk).trans (congrArg _ (if_pos rfl)), waiteTake_now (lt_of_issues h) hlt hf ht hnow⟩
    · rw [waite_exec h hu hk, if_pos rfl, waiteTake_later hf ht hfresh htook]
    · exact ⟨_, (waite_exec h hu hk).trans (congrArg _ (if_pos rfl)), waiteTake_lower (hji.trans hi) ht hji hi hfresh⟩
  case ends =>
    intro e
    have he : s.elapse dt = e := rfl
    clear_value e
    refine ⟨fun t h => waitEnd_exec he h, fun d r h hr => ?_, fun d r h hr => ?_, fun d k c l h => waiteWake_exec he h,
      fun d k c t h => waiteTimeout_exec he h, fun d g o i r h => convWaitEnd_exec he h, fun d ch v w h hw => getrNWake_exec he h hw⟩
    · rw [waittDeadline_exec he h, if_pos hr]
    · rw [waittDeadline_exec he h, if_neg (by simp [hr])]
  case timebase =>
    intro e u
    exact ⟨fun h => waittRd_exec h rfl, fun h => waittRdh_exec h rfl⟩

end Sys2Proof.Machine
end

/-! SUPPORT. Proofs of the statements of chapters 06 and 07 on SIG, YIELD and HALT, on faults, and on the control of the jets, and the theorems
that settle O11, O15 and O32. -/

section
namespace Sys2Proof.Machine

/-! ## Flags that are set (R163, R186) -/

@[simp] theorem JWait.found_found (w : JWait) : w.found.found = w.found := by cases w <;> rfl

/-- The jets that find their flag differ in their waits alone. -/
theorem wakes_jet (u : State) (js : List Nat) (m : Nat) :
    (u.wakes js).jet m = if m ∈ js ∧ m < 8 then { u.jet m with wait := (u.jet m).wait.found } else u.jet m := by
  induction js generalizing u with
  | nil => simp [State.wakes]
  | cons i js ih =>
    show ((u.setJet i (fun q => { q with wait := q.wait.found })).wakes js).jet m = _
    rw [ih, State.jet_setJet]
    by_cases hm : m < 8
    · by_cases hi : m = i
      · subst hi
        simp [hm]
      · simp [hm, hi]
    · simp [hm, show ¬(m = i ∧ i < 8) by omega]

theorem wakes_flags (u : State) (js : List Nat) : (u.wakes js).seq.flags = u.seq.flags := by
  unfold State.wakes
  exact List.foldlRecOn js _ (motive := fun t : State => t.seq.flags = u.seq.flags) rfl (fun _ h _ _ => h)

theorem flagSet_wakes (u : State) (js : List Nat) (i : Nat) : (u.wakes js).flagSet i = u.flagSet i := by
  unfold State.flagSet
  rw [wakes_flags]

theorem wakes_append (u : State) (is js : List Nat) : u.wakes (is ++ js) = (u.wakes is).wakes js := List.foldl_append

/-- A flag that is set wakes jets; it stays set where no jet waits to take it, and otherwise the first that does is among those woken and has
taken it. -/
theorem setFlag_eq {u : State} {k : Nat} (h : u.flagFresh k = false) :
    ∃ js b, u.setFlag k = ((u.wakes js).putFlag k b).noteFlag k ∧ ((∀ m < 8, waitsOn u k true m = false) → b = true) ∧
      ∀ j < 8, waitsOn u k true j = true → (∀ i < j, waitsOn u k true i = false) → b = false ∧ j ∈ js := by
  unfold State.setFlag
  rw [h, if_neg Bool.false_ne_true]
  unfold State.raiseFlag
  cases htaker : (List.range 8).find? (waitsOn u k true) with
  | none =>
    have hno : ∀ m < 8, waitsOn u k true m = false := fun m hm => by
      simpa using List.find?_eq_none.mp htaker m (List.mem_range.mpr hm)
    exact ⟨_, true, rfl, fun _ => rfl, fun j hj hw => absurd hw (by simp [hno j hj])⟩
  | some i =>
    obtain ⟨hi, hi8, hbefore⟩ := List.find?_range_eq_some.mp htaker
    refine ⟨(List.range 8).filter (waitsOn u k false) ++ [i], false, by rw [wakes_append], fun hno => ?_, fun j hj hw hfirst => ⟨rfl, ?_⟩⟩
    · exact absurd hi (by simp [hno i (List.mem_range.mp hi8)])
    · have hij : ¬i < j := fun hlt => absurd hi (by simp [hfirst i hlt])
      have hji : ¬j < i := fun hlt => absurd hw (by simpa using hbefore j hlt)
      simp [show j = i by omega]

section SetFlag
variable {u : State} {k : Nat} (h : u.flagFresh k = false)
include h

theorem setFlag_jet (m : Nat) : ∃ w, (u.setFlag k).jet m = { u.jet m with wait := w } := by
  obtain ⟨js, b, hset, _⟩ := setFlag_eq h
  have hjet : (u.setFlag k).jet m = (u.wakes js).jet m := by rw [hset]; rfl
  rw [hjet, wakes_jet]
  split
  · exact ⟨_, rfl⟩
  · exact ⟨_, rfl⟩

theorem setFlag_other (hk : k < 64) {i : Nat} (hi : i ≠ k) : (u.setFlag k).flagSet i = u.flagSet i := by
  obtain ⟨js, b, hset, _⟩ := setFlag_eq h
  rw [hset]
  exact (flagSet_putFlag_ne _ hk b hi).trans (flagSet_wakes u js i)

theorem setFlag_free (hk : k < 64) (hno : ∀ m < 8, waitsOn u k true m = false) : (u.setFlag k).flagSet k = true := by
  obtain ⟨js, b, hset, hfree, _⟩ := setFlag_eq h
  rw [hset, hfree hno]
  exact flagSet_putFlag_self _ hk true

theorem setFlag_taken (hk : k < 64) {j : Nat} (hj : j < 8) (hw : waitsOn u k true j = true) (hfirst : ∀ i < j, waitsOn u k true i = false) :
    (u.setFlag k).flagSet k = false ∧ ((u.setFlag k).jet j).wait = (u.jet j).wait.found := by
  obtain ⟨js, b, hset, _, htaken⟩ := setFlag_eq h
  obtain ⟨rfl, hmem⟩ := htaken j hj hw hfirst
  have hjet : (u.setFlag k).jet j = (u.wakes js).jet j := by rw [hset]; rfl
  constructor
  · rw [hset]
    exact flagSet_putFlag_self _ hk false
  · rw [hjet, wakes_jet, if_pos ⟨hmem, hj⟩]

theorem clearFlag_eq : u.clearFlag k = u.putFlag k false := by
  unfold State.clearFlag
  rw [h, if_neg Bool.false_ne_true]

end SetFlag

/-! ## Stops (R181, R189, R337) -/

/-- A jet that stops at clock `clk`, as Table 6.9 has its record. -/
def Jet.stoppedAt (clk cause : Nat) (word : Word) (q : Jet) : Jet :=
  { q with st := .stopped, wait := .none, cause := cause, exitPc := q.nowPc clk
           depth := if q.inCost clk then q.lastDep else q.stack.length, word := word }

theorem onlyIn_setChk (s : State) (x : Vector Chk 16) : OnlyIn [.chk] s { s with chk := x } := by
  intro p hp
  cases p <;> simp_all [Part.same]

theorem onlyIn_releaseChk {u : State} (h : u.noFeed) (rq : Requester) : OnlyIn [.chk] u (u.releaseChk rq) := by
  unfold State.releaseChk
  rw [feedsPage_id h, feedsMram_id h]
  exact onlyIn_setChk u _

theorem onlyIn_withdrawn (u : State) (n : Nat) (f : BalCell → BalCell) : OnlyIn [.slu] u ((u.setBal n f).withdrawDuty n) :=
  (onlyIn_setBal u n f).trans (onlyIn_setBal _ n _)

theorem onlyIn_withdrawJet (u : State) (j : Nat) : OnlyIn [.slu] u (u.withdrawJet j) :=
  onlyIn_foldl (fun v n => .ite (onlyIn_withdrawn v n _) .refl) cellNos u

/-- A cell whose request has been withdrawn. -/
def BalCell.withdrawn (c : BalCell) : Prop := c.req = .none ∧ c.owner = none ∧ c.duty = 0 ∧ c.on = false

theorem withdrawn_bal (u : State) {n : Nat} (h1 : 1 ≤ n) (h : n ≤ 24) :
    (((u.setBal n (fun c => { c with req := .none, owner := none })).withdrawDuty n).bal n).withdrawn := by
  unfold State.withdrawDuty
  rw [bal_setBal_self _ _ h1 h, bal_setBal_self _ _ h1 h]
  refine ⟨?_, ?_, rfl, opened_on ..⟩
  · unfold BalCell.opened
    split <;> rfl
  · unfold BalCell.opened
    split <;> rfl

theorem withdrawn_bal_ne (u : State) {n k : Nat} (f : BalCell → BalCell) (h1 : 1 ≤ n) (h : k ≠ n) :
    ((u.setBal k f).withdrawDuty k).bal n = u.bal n := by
  unfold State.withdrawDuty
  rw [bal_setBal_ne _ _ h1 h, bal_setBal_ne _ _ h1 h]

/-- The requests that a jet was the last to set are withdrawn. -/
theorem withdrawJet_bal {u : State} {j n : Nat} (h1 : 1 ≤ n) (h : n ≤ 24) (ho : (u.bal n).owner = some (.jet j)) :
    ((u.withdrawJet j).bal n).withdrawn := by
  unfold State.withdrawJet
  refine view_foldl_of_mem (view := fun v : State => v.bal n) (P := fun c => c.owner = some (.jet j)) (Q := BalCell.withdrawn)
    (k := n) ?_ ?_ (by decide) (by simp [cellNos]; exact ⟨n - 1, by omega, by omega⟩) ho
  · intro v i hi
    split
    · exact withdrawn_bal_ne v _ h1 hi
    · rfl
  · intro v hv
    have hstep : ((if (v.bal n).owner = some (.jet j) then (v.setBal n (fun c => { c with req := .none, owner := none })).withdrawDuty n
        else v).bal n).withdrawn := by
      rw [if_pos hv]
      exact withdrawn_bal v h1 h
    exact hstep

/-- The state in which jet `j` has stopped and its claims on check values still stand. -/
def State.stopsJet (u : State) (j cause : Nat) (w : Word) (wd : Bool) : State :=
  if wd then (u.setJet j (Jet.stoppedAt u.clk cause w)).withdrawJet j else u.setJet j (Jet.stoppedAt u.clk cause w)

theorem noFeed_of_onlyIn {ps : List Part} {s t : State} (h : OnlyIn ps s t) (hc : Part.chk ∉ ps) (hf : s.noFeed) : t.noFeed := by
  have hchk : t.chk = s.chk := h .chk hc
  unfold State.noFeed State.chkOf
  rw [hchk]
  exact hf

section Stop
variable {u : State} (hf : u.noFeed) (j cause : Nat) (w : Word) (wd : Bool)

theorem onlyIn_stopsJet : OnlyIn [.seq, .slu] u (u.stopsJet j cause w wd) :=
  have hstop := onlyIn_setJet u j (Jet.stoppedAt u.clk cause w)
  .ite ((hstop.mono (by simp)).trans ((onlyIn_withdrawJet _ j).mono (by simp))) (hstop.mono (by simp))

theorem stopsJet_jet (m : Nat) : (u.stopsJet j cause w wd).jet m = (u.setJet j (Jet.stoppedAt u.clk cause w)).jet m := by
  unfold State.stopsJet
  split
  · exact jet_of_onlyIn (onlyIn_withdrawJet _ j) (by simp) m
  · rfl

include hf

theorem onlyIn_stopJet_release : OnlyIn [.chk] (u.stopsJet j cause w wd) (u.stopJet j cause w wd) :=
  onlyIn_releaseChk (noFeed_of_onlyIn (onlyIn_stopsJet j cause w wd) (by simp) hf) (.jet j)

theorem onlyIn_stopJet : OnlyIn [.seq, .slu, .chk] u (u.stopJet j cause w wd) :=
  ((onlyIn_stopsJet j cause w wd).mono (by simp)).trans ((onlyIn_stopJet_release hf j cause w wd).mono (by simp))

/-- A stop that withdraws no request leaves the balance paths. -/
theorem onlyIn_stopJet_kept : OnlyIn [.seq, .chk] u (u.stopJet j cause w false) :=
  ((onlyIn_setJet u j (Jet.stoppedAt u.clk cause w)).mono (by simp)).trans ((onlyIn_stopJet_release hf j cause w false).mono (by simp))

theorem stopJet_jet_ne {m : Nat} (h : m ≠ j) : (u.stopJet j cause w wd).jet m = u.jet m := by
  rw [jet_of_onlyIn (onlyIn_stopJet_release hf j cause w wd) (by simp), stopsJet_jet, State.jet_setJet_ne u _ h]

theorem stopJet_jet_self (h : j < 8) : (u.stopJet j cause w wd).jet j = (u.jet j).stoppedAt u.clk cause w := by
  rw [jet_of_onlyIn (onlyIn_stopJet_release hf j cause w wd) (by simp), stopsJet_jet, jet_setJet_self u h]

theorem stopJet_bal {n : Nat} (h1 : 1 ≤ n) (h : n ≤ 24) (ho : (u.bal n).owner = some (.jet j)) :
    ((u.stopJet j cause w true).bal n).withdrawn := by
  have hslu : (u.stopJet j cause w true).slu = (u.stopsJet j cause w true).slu := onlyIn_stopJet_release hf j cause w true .slu (by simp)
  have hbal : (u.stopJet j cause w true).bal n = ((u.setJet j (Jet.stoppedAt u.clk cause w)).withdrawJet j).bal n :=
    congrArg (fun x : Slu => vget x.cells BalCell.init (n - 1)) hslu
  have howner : ((u.setJet j (Jet.stoppedAt u.clk cause w)).bal n).owner = some (.jet j) := ho
  rw [hbal]
  exact withdrawJet_bal h1 h howner

end Stop

/-! ## SIG, YIELD and HALT (R187, R188) -/

/-- No instruction is in progress at the issue of the next. -/
theorem inCost_issueAt (e : State) (j : Nat) : ((e.issueAt j).jet j).inCost (e.issueAt j).clk = false := by
  have hjet : (e.issueAt j).jet j = e.jet j := rfl
  have hclk : (e.issueAt j).clk = max e.clk ((e.jet j).busyTo + e.lagOf j * e.cycle) := until_clk ..
  have hdue : (e.jet j).busyTo ≤ (e.issueAt j).clk := hclk ▸ (Nat.le_add_right ..).trans (le_max_right ..)
  unfold Jet.inCost
  rw [hjet, decide_eq_false (Nat.not_lt.mpr hdue), Bool.and_false]

theorem nowPc_issueAt (e : State) (j : Nat) : ((e.issueAt j).jet j).nowPc (e.issueAt j).clk = ((e.issueAt j).jet j).pc := by
  unfold Jet.nowPc
  rw [inCost_issueAt, if_neg Bool.false_ne_true]

section Events
variable {s u : State} {dt j k : Nat} {a : Reg} {flag : BitVec 6} {rsel c : Bool}

theorem sig_exec (h : (s.elapse dt).issues j (.sig a flag rsel c)) (hu : (s.elapse dt).issueAt j = u)
    (hk : (if rsel then (u.greg j a).toNat % 64 else flag.toNat) = k) :
    exec (.sig dt j a flag rsel c) s = .next ((if c = true then u.clearFlag k else u.setFlag k).retire j u.clk 1) := by
  subst hu hk
  rw [exec_sig, execSig, issue_of_issues h]
  simp only [rselect_flag]

/-- SIG of a flag that is not set in this cycle already. -/
theorem sig_sets (h : (s.elapse dt).issues j (.sig a flag rsel false)) (hu : (s.elapse dt).issueAt j = u)
    (hk : (if rsel then (u.greg j a).toNat % 64 else flag.toNat) = k) (hlt : k < 64) (hfresh : u.flagFresh k = false) :
    Completes (.sig dt j a flag rsel false) s (fun t =>
      ((∀ m < 8, ¬ waitsOn u k true m) → t.flagSet k = true) ∧ (∀ i < 64, i ≠ k → t.flagSet i = u.flagSet i) ∧
        (t.jet j).pc = (u.jet j).pc + 1 ∧ OnlyIn [.seq] u t) := by
  refine ⟨_, sig_exec h hu hk, fun hno => ?_, fun i _ hi => ?_, ?_, ?_⟩
  · exact setFlag_free hfresh hlt (fun m hm => by simpa using hno m hm)
  · exact setFlag_other hfresh hlt hi
  · obtain ⟨w, hw⟩ := setFlag_jet hfresh j
    rw [if_neg Bool.false_ne_true]
    unfold State.retire
    rw [jet_setJet_self _ (lt_of_issues h), hw]
  · rw [if_neg Bool.false_ne_true]
    exact (onlyIn_setFlag u k).trans (onlyIn_setJet _ j _)

theorem yield_exec (h : (s.elapse dt).issues j .yield) (hu : (s.elapse dt).issueAt j = u) (hst : (u.jet j).st = .running) :
    exec (.yield dt j) s = .next ((u.setJet j (fun q => { q with wdFrom := u.clk, wdCyc := 0 })).pass j) := by
  subst hu
  rw [exec_yield, execYield, issue_of_issues h, ← retire_pass]
  simp only [hst, reduceCtorEq, if_false]
  rfl

theorem halt_exec {code : BitVec 16} (h : (s.elapse dt).issues j (.halt code)) (hu : (s.elapse dt).issueAt j = u) :
    exec (.halt dt j code) s = .next (u.stopJet j 15 (Balrax.encode (.halt code)) false) := by
  subst hu
  rw [exec_halt, execHalt, issue_of_issues h]

end Events

/-- Settles O11: SIG by the law of a flag that is set, HALT by the record of a stop. -/
theorem flagsYieldHalt : Obligations.FlagsYieldHalt := by
  intro s dt j a flag rsel c code e u k
  have hu : e.issueAt j = u := rfl
  have hk : (if rsel then (u.greg j a).toNat % 64 else flag.toNat) = k := rfl
  have hlt : k < 64 := flag_lt u j rsel flag a
  have hpc := nowPc_issueAt e j
  have hcost := inCost_issueAt e j
  rw [hu] at hpc hcost
  clear_value k u
  refine ⟨fun h hc hfresh => ?_, fun h hc hfresh => ?_, fun h hst => yield_exec h hu hst, fun h => ⟨halt_exec h hu, fun hf => ?_⟩⟩
  · subst hc
    exact sig_sets h hu hk hlt hfresh
  · rw [sig_exec h hu hk, if_pos hc, clearFlag_eq hfresh, ← retire_pass]
    rfl
  · have hself := stopJet_jet_self hf j 15 (Balrax.encode (.halt code)) false (lt_of_issues h)
    rw [hself]
    refine ⟨rfl, rfl, hpc, ?_, rfl, rfl, fun m hm => stopJet_jet_ne hf j _ _ _ hm, onlyIn_stopJet_kept hf j _ _⟩
    show (if (u.jet j).inCost u.clk = true then _ else _) = _
    rw [hcost, if_neg Bool.false_ne_true]

/-! ## Faults (R164, R165, R189) -/

section Faults
variable {s e : State} {dt j : Nat} (he : s.elapse dt = e)
include he

/-- A word that is no instruction faults with cause 1. -/
theorem illegal_exec_undefined (hcan : e.canIssue j = true) (hpc : (e.jet j).pc < 16384) (hecc : e.eccOf .prog (e.jet j).pc = none)
    (hdec : Balrax.decode (e.fetchWord j) = none) :
    exec (.illegalInstruction dt j) s = .next (((e.issueAt j).stopJet j 1 (e.fetchWord j) true).present1 143) := by
  have hu : e.until_ ((e.jet j).busyTo + e.lagOf j * e.cycle) = e.issueAt j := rfl
  have hjet : (e.issueAt j).jet j = e.jet j := rfl
  have hecc' : (e.issueAt j).eccOf .prog (e.jet j).pc = none := hecc
  subst he
  rw [exec_illegalInstruction, execIllegalInstruction]
  unfold State.fetchI
  simp only [hcan, hu, hjet, State.seqBad, State.seqEcc, hecc', hdec, Nat.not_le.mpr hpc, Bool.not_true, Bool.false_eq_true, if_false,
    reduceCtorEq, decide_false]
  rfl

/-- A fetch past the last word of the program faults with cause 2 at that word. -/
theorem illegal_exec_past (hcan : e.canIssue j = true) (hpc : 16384 ≤ (e.jet j).pc) :
    exec (.illegalInstruction dt j) s =
      .next ((((e.issueAt j).setJet j (fun q => { q with pc := 16383 })).stopJet j 2 0 true).present1 143) := by
  have hu : e.until_ ((e.jet j).busyTo + e.lagOf j * e.cycle) = e.issueAt j := rfl
  have hjet : (e.issueAt j).jet j = e.jet j := rfl
  subst he
  rw [exec_illegalInstruction, execIllegalInstruction]
  unfold State.fetchI
  simp only [hcan, hu, hjet, hpc, Bool.not_true, Bool.false_eq_true, if_false, if_true]
  rfl

end Faults

/-- Settles O15: the record of a stop that withdraws, and the two fetches that fault. -/
theorem jetFaults : Obligations.JetFaults := by
  refine ⟨fun s j cause w hj hf => ?_, fun s dt j => illegal_exec_undefined rfl, fun s dt j => illegal_exec_past rfl⟩
  intro t
  have hself := stopJet_jet_self hf j cause w true hj
  rw [show t.jet j = _ from hself]
  refine ⟨rfl, rfl, rfl, rfl, rfl, rfl, fun m hm => stopJet_jet_ne hf j _ _ _ hm, fun n h1 h24 ho => ?_, onlyIn_stopJet hf j _ _ _⟩
  obtain ⟨hreq, _, hduty, hon⟩ := stopJet_bal hf j cause w h1 h24 ho
  exact ⟨hreq, hduty, hon⟩

end Sys2Proof.Machine
end

/-! SUPPORT. Proofs of the statements on the control of the jets (R200 to R202, R204), and the theorem that settles O32. -/

section
namespace Sys2Proof.Machine

/-! ## Writes of the registers of chapters 06 to 08 -/

theorem inputWrite_of_ge {a : Nat} (h : 0xC00 ≤ a) (u : State) : u.inputWrite a = u := by
  rw [State.inputWrite] <;> omega

/-- A write of a register from 0x0C00 to 0x13FF that brings nothing else about at once. -/
theorem put_mid {s e : State} {dt : Nat} (he : s.elapse dt = e) {rq : Requester} {a : Nat} {v : Word} (h : e.accepts rq a v)
    (hlo : 0xC00 ≤ a) (hhi : a < 0x1400) (h1 : regExists a = true) (h2 : isSelector a = false) (h3 : settles a = false) :
    s.put dt rq a v = .next (((e.wrote rq a v).effectMid rq a v).answers .ok []) := by
  subst he
  rw [put_effect h h1 h2 h3 (inputWrite_of_ge hlo), effect_wrote h, if_neg (by omega), if_pos hhi]

theorem getLsbD_put_above (v lo len : Nat) {i : Nat} (h : lo + len ≤ i) (hi : lo + len ≤ 32) : (put v lo len).getLsbD i = false := by
  have hlt : v % 2 ^ len * 2 ^ lo < 2 ^ i :=
    calc v % 2 ^ len * 2 ^ lo < 2 ^ len * 2 ^ lo := Nat.mul_lt_mul_of_pos_right (Nat.mod_lt _ (Nat.two_pow_pos len)) (Nat.two_pow_pos lo)
      _ = 2 ^ (lo + len) := by rw [pow_add, Nat.mul_comm]
      _ ≤ 2 ^ i := Nat.pow_le_pow_right (by decide) h
  rw [BitVec.getLsbD, toNat_put v lo len hi]
  exact Nat.testBit_lt_two_pow hlt

/-! ### SEQ_JCTL0 to SEQ_JCTL7 (R200 to R202) -/

section JetRegs
variable {j : Nat} (hj : j < 8)
include hj

theorem jetReg_put {s e : State} {dt : Nat} (he : s.elapse dt = e) {rq : Requester} {v : Word} (h : e.accepts rq (0xC68 + j) v) :
    s.putAt dt rq 0xC68 8 j v = .next (((e.wrote rq (0xC68 + j) v).jetWrite j v).answers .ok []) := by
  have h1 : regExists (0xC68 + j) = true := by
    simp [regExists, regRanges]
    omega
  have h2 : isSelector (0xC68 + j) = false := by
    simp [isSelector]
    omega
  have h3 : settles (0xC68 + j) = false := by
    simp [settles]
    omega
  unfold State.putAt
  rw [if_pos hj, put_mid he h (by omega) (by omega) h1 h2 h3]
  unfold State.effectMid
  rw [if_neg (by omega), if_pos (by omega), Nat.add_sub_cancel_left]

/-- The stored bits of a jet's register hold none of its actions. -/
theorem keep_jetReg (u : State) {i : Nat} (hi : 14 ≤ i) : (u.keep (0xC68 + j)).getLsbD i = false := by
  have hcfg : (regRow (0xC68 + j)).cfg = put 0x3FFF 0 14 := by
    interval_cases j <;> decide
  unfold State.keep
  rw [hcfg, BitVec.getLsbD_and, getLsbD_put_above _ _ _ hi (by decide), Bool.and_false]

end JetRegs

section JetRows
variable {s e : State} {dt j : Nat} (he : s.elapse dt = e) (hj : j < 8) {rq : Requester}
include he hj

theorem jetStart_exec {a : Nat} (h : e.accepts rq (0xC68 + j) (putb true 31 ||| put a 0 14)) :
    exec (.jetStart dt rq j a) s =
      .next (((e.wrote rq (0xC68 + j) (putb true 31 ||| put a 0 14)).startJet j
        ((e.wrote rq (0xC68 + j) (putb true 31 ||| put a 0 14)).fld (0xC68 + j) 0 14)).answers .ok []) := by
  rw [exec_jetStart, execJetStart, jetReg_put hj he h]
  unfold State.jetWrite
  simp only [BitVec.getLsbD_or, getLsbD_put_above a 0 14 (show 0 + 14 ≤ 29 by decide) (by decide),
    getLsbD_put_above a 0 14 (show 0 + 14 ≤ 30 by decide) (by decide), getLsbD_put_above a 0 14 (show 0 + 14 ≤ 31 by decide) (by decide)]
  rfl

theorem jetStop_exec (h : e.accepts rq (0xC68 + j) (e.keep (0xC68 + j) ||| putb true 30)) :
    exec (.jetStop dt rq j) s = .next (((e.wrote rq (0xC68 + j) (e.keep (0xC68 + j) ||| putb true 30)).stopReq j).answers .ok []) := by
  have hkeep : s.keep (0xC68 + j) = e.keep (0xC68 + j) := by
    subst he
    rfl
  rw [exec_jetStop, execJetStop, hkeep, jetReg_put hj he h]
  unfold State.jetWrite
  simp only [BitVec.getLsbD_or, keep_jetReg hj e (show 14 ≤ 29 by decide), keep_jetReg hj e (show 14 ≤ 30 by decide)]
  rfl

theorem jetKill_exec (h : e.accepts rq (0xC68 + j) (e.keep (0xC68 + j) ||| putb true 29)) :
    exec (.jetKill dt rq j) s = .next (((e.wrote rq (0xC68 + j) (e.keep (0xC68 + j) ||| putb true 29)).killJet j).answers .ok []) := by
  have hkeep : s.keep (0xC68 + j) = e.keep (0xC68 + j) := by
    subst he
    rfl
  rw [exec_jetKill, execJetKill, hkeep, jetReg_put hj he h]
  unfold State.jetWrite
  rw [getLsbD_or_putb _ (by decide), if_pos rfl]

theorem jetWatchdogExpiry_exec (hst : (e.jet j).st = .running) (hl : e.fld 0xC60 16 8 ≠ 0) (hc : e.coreOn = true) {u : State}
    (hu : e.until_ ((e.jet j).wdFrom + e.wdTicks (e.jet j).wdCyc) = u) :
    exec (.jetWatchdogExpiry dt j) s =
      .next ((u.stopJet j 12 (if 16384 ≤ (u.jet j).nowPc u.clk then 0 else u.progWord ((u.jet j).nowPc u.clk)) true).present1 144) := by
  subst hu he
  rw [exec_jetWatchdogExpiry, execJetWatchdogExpiry]
  exact if_pos ⟨hj, hst, hl, hc⟩

end JetRows

theorem jetStopTake_exec {s e : State} {dt j : Nat} (he : s.elapse dt = e) (hst : (e.jet j).st = .stopping) (hw : (e.jet j).wait.safe = true) :
    exec (.jetStopTake dt j) s = .next ((e.until_ (e.jet j).busyTo).stopJet j 13 0 false) := by
  subst he
  rw [exec_jetStopTake, execJetStopTake]
  exact if_pos ⟨hst, hw⟩

/-! ### Starts, stops and kills -/

/-- A jet started at word `a` of the program (R159, R200). -/
def Jet.startedAt (clk cycle a : Nat) (q : Jet) : Jet :=
  { q with
    st := .running, pc := a % 16384, regs := .replicate 16 0, stack := [], wait := .none, busyTo := clk + 2 * cycle
    lastPc := a % 16384, lastDep := 0, wdFrom := clk, wdCyc := 0, cause := 0, word := 0 }

theorem Jet.free_iff (q : Jet) : q.free = true ↔ q.st = .idle ∨ q.st = .stopped := by
  unfold Jet.free Jet.busy
  cases q.st <;> simp

section Control
variable {u : State} {j : Nat}

theorem startJet_free (hj : j < 8) (hfree : (u.jet j).free = true) (hd : u.dying j = false) (a : Nat) :
    u.startJet j a = u.setJet j (Jet.startedAt u.clk u.cycle a) := by
  unfold State.startJet
  rw [if_pos hj, hd, if_neg Bool.false_ne_true]
  rcases (Jet.free_iff _).mp hfree with hst | hst
  · rw [hst]
    rfl
  · rw [hst]
    rfl

theorem startJet_ignored (hj : j < 8) (h : (u.jet j).free = false ∨ u.dying j = true) (a : Nat) :
    u.startJet j a = ({ u with seq := { u.seq with startIgn := true } }).wcSet 0xC63 (putb true 24) := by
  have hst : (if u.dying j = true then JetSt.running else (u.jet j).st) ≠ .idle ∧
      (if u.dying j = true then JetSt.running else (u.jet j).st) ≠ .stopped := by
    by_cases hd : u.dying j = true
    · simp [hd]
    · have hfree : ¬(u.jet j).free = true := by simp [h.resolve_right hd]
      rw [if_neg hd]
      exact not_or.mp (mt (Jet.free_iff _).mpr hfree)
  unfold State.startJet
  rw [if_pos hj]
  split
  next h0 => exact absurd h0 hst.1
  next h0 => exact absurd h0 hst.2
  next => rfl

theorem stopReq_free (hfree : (u.jet j).free = true) : u.stopReq j = u := by
  unfold State.stopReq
  rcases (Jet.free_iff _).mp hfree with hst | hst <;> rw [hst]

theorem killJet_free (hfree : (u.jet j).free = true) : u.killJet j = u := by
  have hbusy : (u.jet j).busy = false := by simpa [Jet.free] using hfree
  unfold State.killJet
  rw [hbusy, if_neg Bool.false_ne_true]

theorem onlyIn_stopReq (u : State) (j : Nat) : OnlyIn [.seq] u (u.stopReq j) := by
  unfold State.stopReq
  split
  · exact onlyIn_setJet u j _
  · exact onlyIn_setJet u j _
  · exact .refl

theorem stopReq_busy (hj : j < 8) (hbusy : (u.jet j).free = false) : ((u.stopReq j).jet j).st = .stopping := by
  unfold State.stopReq
  cases hst : (u.jet j).st with
  | running => simp only [jet_setJet_self u hj]
  | waiting => simp only [jet_setJet_self u hj]
  | stopping => exact hst
  | idle => simp [(Jet.free_iff _).mpr (.inl hst)] at hbusy
  | stopped => simp [(Jet.free_iff _).mpr (.inr hst)] at hbusy

/-- What reads of the cycle still show is noted before a kill. -/
def State.noteKill (u : State) (j : Nat) : State :=
  let jstat := (List.range 8).foldl (fun (w : Word) i => w ||| Sys2Proof.put (u.jet i).st.num (3 * i) 3) (Sys2Proof.putb u.seq.startIgn 24)
  let jexit := Sys2Proof.put (u.jet j).depth 22 4 ||| Sys2Proof.put (u.jet j).cause 16 4 ||| Sys2Proof.put (u.jet j).exitPc 0 14
  ((u.noteOld 0xC63 0 jstat).noteOld (0xC50 + j) 0 jexit).noteOld (0xC58 + j) 0 (u.jet j).word

theorem onlyIn_noteKill (u : State) (j : Nat) : OnlyIn [.cyc] u (u.noteKill j) :=
  ((onlyIn_noteOld u _ _ _).trans (onlyIn_noteOld _ _ _ _)).trans (onlyIn_noteOld _ _ _ _)

/-- The core cycle after a kill, in which its jet stops. -/
def State.killCycle (u : State) (j : Nat) : State :=
  ((u.noteKill j).elapse (u.noteKill j).cycle).cycMod (fun c => { c with killed := (j, u.jet j) :: c.killed })

theorem onlyIn_killCycle (u : State) (j : Nat) : OnlyIn [.time, .cyc] u (u.killCycle j) :=
  (((onlyIn_noteKill u j).mono (by simp)).trans ((onlyIn_elapse _ _).mono (by simp))).trans ((onlyIn_cycMod _ _).mono (by simp))

theorem killCycle_clk (u : State) (j : Nat) : (u.killCycle j).clk = u.clk + u.cycle := by
  have htime : (u.noteKill j).time = u.time := onlyIn_noteKill u j .time (by simp)
  have hpwr : (u.noteKill j).pwr = u.pwr := onlyIn_noteKill u j .pwr (by simp)
  show (u.noteKill j).time.clk + (u.noteKill j).cycle = u.time.clk + u.cycle
  rw [htime]
  unfold State.cycle
  rw [hpwr]

theorem nextCycle_jet (u : State) (f : State → State) (m : Nat) : (u.nextCycle f).jet m = (f (u.elapse u.cycle)).jet m := rfl

/-- A kill stops its jet in the next core cycle, and the clock stands. -/
theorem killJet_eq (hbusy : (u.jet j).free = false) :
    u.killJet j = (u.noteKill j).nextCycle
      (fun t => (t.cycMod (fun c => { c with killed := (j, u.jet j) :: c.killed })).stopJet j 13 0 true) := by
  have hb : (u.jet j).busy = true := by simpa [Jet.free] using hbusy
  unfold State.killJet
  exact if_pos hb

theorem killJet_jet (hbusy : (u.jet j).free = false) (m : Nat) : (u.killJet j).jet m = ((u.killCycle j).stopJet j 13 0 true).jet m := by
  rw [killJet_eq hbusy, nextCycle_jet]
  unfold State.killCycle
  rfl

theorem killJet_time (hbusy : (u.jet j).free = false) : (u.killJet j).time = u.time := by
  rw [killJet_eq hbusy, State.nextCycle_time]
  exact onlyIn_noteKill u j .time (by simp)

theorem killJet_busy (hj : j < 8) (hbusy : (u.jet j).free = false) (hf : u.noFeed) :
    (u.killJet j).jet j = (u.jet j).stoppedAt (u.clk + u.cycle) 13 0 := by
  rw [killJet_jet hbusy, stopJet_jet_self (noFeed_of_onlyIn (onlyIn_killCycle u j) (by simp) hf) j 13 0 true hj, killCycle_clk,
    jet_of_onlyIn (onlyIn_killCycle u j) (by simp)]

end Control

/-- Settles O32: each row is its jet's register, and each action does what the state of its jet allows. -/
theorem jetControl : Obligations.JetControl := by
  refine ⟨fun s dt rq j => ?rows, fun u j a hj => ?acts⟩
  case rows =>
    intro e hj
    exact ⟨fun a => jetStart_exec rfl hj, jetStop_exec rfl hj, jetKill_exec rfl hj, jetStopTake_exec rfl,
      fun hst hl hc => jetWatchdogExpiry_exec rfl hj hst hl hc rfl⟩
  case acts =>
    refine ⟨fun hfree hd => ?_, fun h => startJet_ignored hj h a, fun hfree => ⟨stopReq_free hfree, killJet_free hfree⟩, fun hbusy =>
      ⟨stopReq_busy hj hbusy, onlyIn_stopReq u j, fun hf => ?_⟩⟩
    · rw [startJet_free hj hfree hd]
      exact ⟨jet_setJet_self u hj _, fun m hm => State.jet_setJet_ne u _ hm, onlyIn_setJet u j _⟩
    · rw [killJet_busy hj hbusy hf]
      exact ⟨rfl, rfl, rfl, killJet_time hbusy⟩

end Sys2Proof.Machine
end

/-! SUPPORT. Proofs of the statements on the flags and the program (R163, R186, R193, R194, R197), and the theorem that settles O31. -/

section
namespace Sys2Proof.Machine

/-! ## Words of the program store (R193, R194) -/

theorem progWord_eq (u : State) (i : Nat) : u.progWord i = (Sparse.get none u.seq.prog i).getD (Config.sramWord 1 u.resets i) := by
  unfold State.progWord
  cases Sparse.get none u.seq.prog i <;> rfl

theorem onlyIn_putProg (u : State) (i : Nat) (w : Word) : OnlyIn [.cyc, .seq, .ecc] u (u.putProg i w) :=
  (((onlyIn_noteOld u _ _ _).mono (by simp)).trans ((onlyIn_setSeq _ _).mono (by simp))).trans ((onlyIn_eccClear _ _ _).mono (by simp))

theorem progWord_putProg (u : State) (i k : Nat) (w : Word) : (u.putProg i w).progWord k = if k = i then w else u.progWord k := by
  have hseq : (u.noteOld 0xC49 i (u.progWord i)).seq = u.seq := onlyIn_noteOld u _ _ _ .seq (by simp)
  have hres : (u.putProg i w).resets = u.resets := onlyIn_putProg u i w .resets (by simp)
  have hget : Sparse.get none (u.putProg i w).seq.prog k = if k = i then some w else Sparse.get none u.seq.prog k := by
    rw [← hseq]
    exact Sparse.get_set_of_ne none _ i (some w) k (by simp)
  rw [progWord_eq, progWord_eq, hget, hres]
  split
  · rfl
  · rfl

theorem putProg_jets (u : State) (i : Nat) (w : Word) : (u.putProg i w).seq.jets = u.seq.jets := by
  have hseq : (u.noteOld 0xC49 i (u.progWord i)).seq = u.seq := onlyIn_noteOld u _ _ _ .seq (by simp)
  calc (u.putProg i w).seq.jets = (u.noteOld 0xC49 i (u.progWord i)).seq.jets := rfl
    _ = u.seq.jets := by rw [hseq]

/-- The words of a program written one after the other. -/
def State.putProgram (u : State) (ws : List (Nat × Word)) : State := ws.foldl (fun v x => v.putProg x.1 x.2) u

theorem onlyIn_putProgram (u : State) (ws : List (Nat × Word)) : OnlyIn [.cyc, .seq, .ecc] u (u.putProgram ws) := by
  unfold State.putProgram
  exact onlyIn_foldl (fun v x => onlyIn_putProg v x.1 x.2) ws u

theorem putProgram_jets (u : State) (ws : List (Nat × Word)) : (u.putProgram ws).seq.jets = u.seq.jets :=
  List.foldlRecOn ws _ (motive := fun v : State => v.seq.jets = u.seq.jets) rfl (fun _ h _ _ => (putProg_jets ..).trans h)

theorem progWord_putProgram_other (ws : List (Nat × Word)) (u : State) {i : Nat} (h : ∀ x ∈ ws, x.1 ≠ i) :
    (u.putProgram ws).progWord i = u.progWord i := by
  induction ws generalizing u with
  | nil => rfl
  | cons y ws ih =>
    obtain ⟨hy, hws⟩ := List.forall_mem_cons.mp h
    calc ((u.putProg y.1 y.2).putProgram ws).progWord i = (u.putProg y.1 y.2).progWord i := ih _ hws
      _ = u.progWord i := by rw [progWord_putProg, if_neg (Ne.symm hy)]

theorem progWord_putProgram_mem (ws : List (Nat × Word)) (u : State) (hnd : (ws.map (·.1)).Nodup) {x : Nat × Word} (hx : x ∈ ws) :
    (u.putProgram ws).progWord x.1 = x.2 := by
  induction ws generalizing u with
  | nil => cases hx
  | cons y ws ih =>
    obtain ⟨hnot, hnd⟩ := List.nodup_cons.mp hnd
    rcases List.mem_cons.mp hx with rfl | hx
    · have hother : ∀ z ∈ ws, z.1 ≠ x.1 := fun z hz h => hnot (List.mem_map.mpr ⟨z, hz, h⟩)
      calc ((u.putProg x.1 x.2).putProgram ws).progWord x.1 = (u.putProg x.1 x.2).progWord x.1 := progWord_putProgram_other ws _ hother
        _ = x.2 := by rw [progWord_putProg, if_pos rfl]
    · exact ih _ hnd hx

/-! ## The commands -/

section Rows
variable {s e : State} {dt : Nat} (he : s.elapse dt = e) {rq : Requester}
include he

theorem flagSetWrite_exec {k : Nat} (hk : k < 2) {v : Word} (h : e.accepts rq (0xC42 + k) v) :
    exec (.flagSetWrite dt rq k v) s = .next (((e.wrote rq (0xC42 + k) v).setFlags (v.toNat * 2 ^ (32 * k))).answers .ok []) := by
  rw [exec_flagSetWrite, execFlagSetWrite]
  unfold State.putAt
  rw [if_pos hk]
  interval_cases k
  · rw [put_mid he h (by decide) (by decide) (by decide) (by decide) (by decide), Nat.mul_zero, pow_zero, Nat.mul_one]
    rfl
  · rw [put_mid he h (by decide) (by decide) (by decide) (by decide) (by decide)]
    rfl

theorem flagClearWrite_exec {k : Nat} (hk : k < 2) {v : Word} (h : e.accepts rq (0xC44 + k) v) :
    exec (.flagClearWrite dt rq k v) s = .next (((e.wrote rq (0xC44 + k) v).clearFlags (v.toNat * 2 ^ (32 * k))).answers .ok []) := by
  rw [exec_flagClearWrite, execFlagClearWrite]
  unfold State.putAt
  rw [if_pos hk]
  interval_cases k
  · rw [put_mid he h (by decide) (by decide) (by decide) (by decide) (by decide), Nat.mul_zero, pow_zero, Nat.mul_one]
    rfl
  · rw [put_mid he h (by decide) (by decide) (by decide) (by decide) (by decide)]
    rfl

theorem programWindowWrite_exec {v : Word} (h : e.accepts rq 0xC49 v) :
    exec (.programWindowWrite dt rq v) s =
      .next ((((e.wrote rq 0xC49 v).putProg (fld (e.sel rq 0xC48) 0 14) v).advance rq 0xC48 14 16383).answers .ok []) := by
  have hup : e.upTo rq 0xC49 = e.disarm rq := rfl
  have honly := onlyIn_wrote e rq 0xC49 v
  rw [hup] at honly
  have hsel : (e.wrote rq 0xC49 v).sel rq 0xC48 = e.sel rq 0xC48 := sel_of_onlyIn honly (by simp) (by simp) rq 0xC48
  rw [exec_programWindowWrite, execProgramWindowWrite, put_mid he h (by decide) (by decide) (by decide) (by decide) (by decide), ← hsel]
  rfl

theorem programLoad_exec {m : Nat} {u : State} (hu : e.wrote rq 0xC61 (putb true 31 ||| put m 16 8) = u)
    (h : e.accepts rq 0xC61 (putb true 31 ||| put m 16 8)) :
    exec (.programLoad dt rq m) s = .next ((u.loadStart (u.fld 0xC61 16 8)).answers .ok []) := by
  have hstart : (putb true 31 ||| put m 16 8).getLsbD 31 = true := by
    rw [BitVec.or_comm]
    exact getLsbD_or_putb _ (by decide)
  have heffect : u.effectMid rq 0xC61 (putb true 31 ||| put m 16 8) =
      if (putb true 31 ||| put m 16 8).getLsbD 31 = true then u.loadStart (u.fld 0xC61 16 8) else u := rfl
  rw [exec_programLoad, execProgramLoad, put_mid he h (by decide) (by decide) (by decide) (by decide) (by decide), hu, heffect, if_pos hstart]

section Load
variable {r : LoadRun} (hload : e.seq.load = some r)
include hload

theorem loadStopTimeout_exec (h : (bitsOf 8 r.stop).any (fun j => (e.jet j).busy) = true) :
    exec (.loadStopTimeout dt) s = .next ((bitsOf 8 r.stop).foldl State.killJet (e.until_ (r.since + 2000000))) := by
  rw [exec_loadStopTimeout, execLoadStopTimeout, he]
  simp only [hload]
  rw [if_pos h]
  rfl

theorem programLoadDone_exec (h : (bitsOf 8 r.stop).all (fun j => (e.jet j).free && !e.dying j) = true) (hauto : r.auto = []) :
    exec (.programLoadDone dt) s =
      .next { e.putProgram r.words with seq := { (e.putProgram r.words).seq with load := none, loadSt := 1, loadGen := r.gen } } := by
  rw [exec_programLoadDone, execProgramLoadDone, he]
  simp only [hload, hauto, List.foldl_nil, ite_self]
  rw [if_pos h]
  rfl

theorem programLoadDone_completes (h : (bitsOf 8 r.stop).all (fun j => (e.jet j).free && !e.dying j) = true) (hauto : r.auto = [])
    (hnd : (r.words.map (·.1)).Nodup) :
    Completes (.programLoadDone dt) s (fun t =>
      t.seq.load = none ∧ t.seq.loadSt = 1 ∧ t.seq.loadGen = r.gen ∧ (∀ x ∈ r.words, t.progWord x.1 = x.2) ∧
        (∀ i, (∀ x ∈ r.words, x.1 ≠ i) → t.progWord i = e.progWord i) ∧ t.seq.jets = e.seq.jets ∧ OnlyIn [.cyc, .seq, .ecc] e t) :=
  ⟨_, programLoadDone_exec he hload h hauto, rfl, rfl, rfl, fun _ hx => progWord_putProgram_mem r.words e hnd hx,
    fun _ hi => progWord_putProgram_other r.words e hi, putProgram_jets e r.words,
    (onlyIn_putProgram e r.words).trans ((onlyIn_setSeq _ _).mono (by simp))⟩

end Load
end Rows

/-! ## The start of a load (R197) -/

section LoadStart
variable {u : State} (m : Nat)

theorem loadStart_busy (h : u.seq.load.isSome = true) : u.loadStart m = { u with seq := { u.seq with loadSt := 2 } } := by
  unfold State.loadStart
  rw [if_pos h]

theorem loadStart_bad {c : Nat} {v : State} (h : u.seq.load = none) (hc : u.checkContainer = (.inl c, v)) :
    u.loadStart m = { v with seq := { v.seq with loadSt := c } } := by
  unfold State.loadStart
  simp [h, hc]

theorem loadStart_good {ws : List (Nat × Word)} {v : State} (h : u.seq.load = none) (hc : u.checkContainer = (.inr ws, v)) :
    u.loadStart m =
      (bitsOf 8 m).foldl State.stopReq { v with seq := { v.seq with load := some ⟨ws, v.autostart, v.cont 4 2, v.clk, m⟩ } } := by
  unfold State.loadStart
  simp [h, hc]

end LoadStart

/-! ## Flags set and cleared in the core cycle in which they were set (R163) -/

theorem setFlag_fresh {u : State} {k : Nat} (h : u.flagFresh k = true) : u.setFlag k = u := by
  unfold State.setFlag
  rw [if_pos h]

theorem clearFlag_fresh {u : State} {k : Nat} (h : u.flagFresh k = true) : u.clearFlag k = u := by
  unfold State.clearFlag
  rw [if_pos h]

/-- Settles O31: each row is its register's, the words of a load are written one after the other, and a flag behaves as its write finds it. -/
theorem flagsAndPrograms : Obligations.FlagsAndPrograms := by
  refine ⟨fun s dt rq v => ?rows, fun u k hk => ?flags, fun u m => ?load⟩
  case rows =>
    intro e
    exact ⟨fun k hk => ⟨flagSetWrite_exec rfl hk, flagClearWrite_exec rfl hk⟩, programWindowWrite_exec rfl, fun m => programLoad_exec rfl rfl,
      fun r hload => ⟨fun _ => loadStopTimeout_exec rfl hload, programLoadDone_completes rfl hload⟩⟩
  case flags =>
    refine ⟨fun hfresh => ⟨setFlag_fresh hfresh, clearFlag_fresh hfresh⟩, fun hfresh => ?_⟩
    rw [clearFlag_eq hfresh]
    exact ⟨flagSet_putFlag_self u hk false, fun i hi => flagSet_putFlag_ne u hk false hi, setFlag_free hfresh hk,
      fun j hj hw hfirst => setFlag_taken hfresh hk hj hw hfirst⟩
  case load =>
    exact ⟨loadStart_busy m, fun c v => loadStart_bad m, fun ws v => loadStart_good m⟩

end Sys2Proof.Machine
end

/-! SUPPORT. Proofs of the statements on requests for balancing duty (R179, R180, R234, R236, R238, R243), and the theorem that settles
O37. -/

section
namespace Sys2Proof.Machine

/-! ## Requests of a cell -/

section Requests
variable (u : State) (rq : Requester) {n x : Nat}

theorem setLevel_zero : u.setLevel rq n 0 = (u.setBal n (fun c => { c with req := .none, owner := none })).withdrawDuty n := if_pos rfl

theorem setQuota_zero : u.setQuota rq n 0 = (u.setBal n (fun c => { c with req := .none, owner := none })).withdrawDuty n := if_pos rfl

theorem setLevel_pos (hx : 1 ≤ x) : u.setLevel rq n x = u.setBal n (fun c => { c with req := .level (min x 256), owner := some rq }) :=
  if_neg (by omega)

theorem setQuota_pos (hx : 1 ≤ x) :
    u.setQuota rq n x = u.setBal n (fun c => { c with req := .quota ((x * 2000000000 : Nat) : Rat), owner := some rq }) := by
  have hq : ((x * 2000000000 : Nat) : Rat) = (x : Rat) * (mC : Rat) := Nat.cast_mul ..
  rw [hq]
  exact if_neg (by omega)

/-- A request is its cell's alone. -/
theorem onlyIn_setLevel : OnlyIn [.slu] u (u.setLevel rq n x) := .ite (onlyIn_withdrawn u n _) (onlyIn_setBal u n _)

theorem onlyIn_setQuota : OnlyIn [.slu] u (u.setQuota rq n x) := .ite (onlyIn_withdrawn u n _) (onlyIn_setBal u n _)

theorem setLevel_bal_ne {m : Nat} (h1 : 1 ≤ m) (h : m ≠ n) : (u.setLevel rq n x).bal m = u.bal m := by
  unfold State.setLevel
  split
  · exact withdrawn_bal_ne u _ h1 (Ne.symm h)
  · exact bal_setBal_ne u _ h1 (Ne.symm h)

theorem setQuota_bal_ne {m : Nat} (h1 : 1 ≤ m) (h : m ≠ n) : (u.setQuota rq n x).bal m = u.bal m := by
  unfold State.setQuota
  split
  · exact withdrawn_bal_ne u _ h1 (Ne.symm h)
  · exact bal_setBal_ne u _ h1 (Ne.symm h)

/-- Without an overlay a write of SLU_REQn requests the level it holds. -/
theorem writeLevel_uncovered (h : u.ovl.snap = []) (v : Word) : u.writeLevel rq n v = u.reqLevel rq n (fld v 0 9) := by
  have hfld : fld (merged (put (u.bal n).req.levelField 0 9) 0x1FF v) 0 9 = fld v 0 9 := by
    rw [fld_zero_eq _ (by decide), fld_zero_eq _ (by decide)]
    exact congrArg BitVec.toNat (merged_and_mask _ _ _)
  unfold State.writeLevel
  simp only [covered_of_snap_nil h, taken_uncovered]
  rw [if_neg (by decide), hfld]

theorem request_outranked (h : u.reqTaken rq n = true) : u.reqLevel rq n x = u ∧ u.reqQuota rq n x = u := ⟨if_pos h, if_pos h⟩

theorem request_stands (h : u.reqTaken rq n = false) :
    u.reqLevel rq n x = (u.noteReq rq n).setLevel rq n x ∧ u.reqQuota rq n x = (u.noteReq rq n).setQuota rq n x :=
  ⟨if_neg (by simp [h]), if_neg (by simp [h])⟩

end Requests

/-! ## The commands -/

section Rows
variable {s e : State} {dt : Nat} (he : s.elapse dt = e) {rq : Requester}
include he

section Cell
variable {cell : Nat} (h1 : 1 ≤ cell) (h24 : cell ≤ 24)
include h1 h24

theorem balLevelWrite_exec {level : Nat} (h : e.accepts rq (0x1020 + (cell - 1)) (put level 0 9)) :
    exec (.balLevelWrite dt rq cell level) s =
      .next (((e.wrote rq (0x1020 + (cell - 1)) (put level 0 9)).writeLevel rq cell (put level 0 9)).answers .ok []) := by
  have hex : regExists (0x1020 + (cell - 1)) = true := by
    simp [regExists, regRanges]
    omega
  have hsel : isSelector (0x1020 + (cell - 1)) = false := by
    simp [isSelector]
    omega
  have hset : settles (0x1020 + (cell - 1)) = false := by
    simp [settles]
    omega
  rw [exec_balLevelWrite, execBalLevelWrite, if_neg (by omega)]
  unfold State.putAt
  rw [if_pos (by omega), put_mid he h (by omega) (by omega) hex hsel hset]
  unfold State.effectMid
  rw [if_neg (by omega), if_neg (by omega), if_pos (by omega), show 0x1020 + (cell - 1) - 0x101F = cell by omega]

theorem balQuotaWrite_exec {q : Word} (h : e.accepts rq (0x1040 + (cell - 1)) q) :
    exec (.balQuotaWrite dt rq cell q) s =
      .next (((e.wrote rq (0x1040 + (cell - 1)) q).reqQuota rq cell q.toNat).answers .ok []) := by
  have hex : regExists (0x1040 + (cell - 1)) = true := by
    simp [regExists, regRanges]
    omega
  have hsel : isSelector (0x1040 + (cell - 1)) = false := by
    simp [isSelector]
    omega
  have hset : settles (0x1040 + (cell - 1)) = false := by
    simp [settles]
    omega
  rw [exec_balQuotaWrite, execBalQuotaWrite, if_neg (by omega)]
  unfold State.putAt
  rw [if_pos (by omega), put_mid he h (by omega) (by omega) hex hsel hset]
  unfold State.effectMid
  rw [if_neg (by omega), if_neg (by omega), if_neg (by omega), if_pos (by omega), show 0x1040 + (cell - 1) - 0x103F = cell by omega]

end Cell

theorem xfetWrite_exec {v : Word} (h : e.accepts rq 0x1002 v) :
    exec (.xfetWrite dt rq v) s = .next ((e.wrote rq 0x1002 v).answers .ok []) := by
  rw [exec_xfetWrite, execXfetWrite, put_mid he h (by decide) (by decide) (by decide) (by decide) (by decide)]
  rfl

theorem xfetWrite_refused {v : Word} (hs : e.serves rq = true) (hc : e.pwr.commit = none) (hbad : xfetBad v = true) :
    exec (.xfetWrite dt rq v) s = .next ((e.disarm rq).answers .denied []) := by
  subst he
  have hown : (s.elapse dt).ownRefusal rq 0x1002 v = true := hbad
  have hex : regExists 0x1002 = true := by decide
  have hrefuses : (s.elapse dt).refuses rq 0x1002 v = true := by
    unfold State.refuses
    rw [hown, hex, Bool.or_true]
    exact ite_self _
  rw [exec_xfetWrite, execXfetWrite, put_served hs, writeReg_refused hrefuses hc]

end Rows

/-- Settles O37: a write is a request of its cell, and a request sets or withdraws what stands there and nothing of another cell. -/
theorem balanceRequests : Obligations.BalanceRequests := by
  refine ⟨fun s dt rq cell h1 h24 => ?cells, fun s dt rq v => ?xfet, fun u rq n x h1 h24 hx => ?requests⟩
  case cells =>
    intro e
    exact ⟨fun level => balLevelWrite_exec rfl h1 h24, fun q => balQuotaWrite_exec rfl h1 h24⟩
  case xfet =>
    intro e
    exact ⟨xfetWrite_exec rfl, xfetWrite_refused rfl⟩
  case requests =>
    have hlevel : (u.setLevel rq n x).bal n = { u.bal n with req := .level (min x 256), owner := some rq } := by
      rw [setLevel_pos u rq hx, bal_setBal_self _ _ h1 h24]
    have hquota : (u.setQuota rq n x).bal n = { u.bal n with req := .quota ((x * 2000000000 : Nat) : Rat), owner := some rq } := by
      rw [setQuota_pos u rq hx, bal_setBal_self _ _ h1 h24]
    refine ⟨congrArg BalCell.req hlevel, congrArg BalCell.owner hlevel, congrArg BalCell.req hquota, congrArg BalCell.owner hquota, ?_, ?_,
      writeLevel_uncovered u rq, request_outranked u rq, request_stands u rq⟩
    · rintro t (rfl | rfl)
      · rw [setLevel_zero]
        exact withdrawn_bal u h1 h24
      · rw [setQuota_zero]
        exact withdrawn_bal u h1 h24
    · rintro t (rfl | rfl | rfl)
      · exact ⟨onlyIn_setLevel u rq, fun m hm _ h => setLevel_bal_ne u rq hm h⟩
      · exact ⟨onlyIn_setQuota u rq, fun m hm _ h => setQuota_bal_ne u rq hm h⟩
      · exact ⟨onlyIn_setLevel u rq, fun m hm _ h => setLevel_bal_ne u rq hm h⟩

end Sys2Proof.Machine
end

/-! SUPPORT. Proofs of the statements on the conversions that the jets start (R173, R174, R207, R209), and the theorem that settles O12. -/

section
namespace Sys2Proof.Machine

/-! ## A trigger of an idle group -/

section Trigger
variable (u : State) {g : Nat} (t : Trig)

/-- The state in which a trigger has started a conversion of an idle group. -/
def State.convBegun (u : State) (g : Nat) (t : Trig) : State := (u.startConv g t).2.setGrp g (fun r => { r with last := 0 })

theorem trigger_idle (hm : u.pwr.mode ≠ .lockout) (hb : u.grpBusy g = false) : u.trigger g t = (0, some u.nextId, u.convBegun g t) := by
  unfold State.trigger
  rw [if_neg hm, hb]
  rfl

theorem onlyIn_startConv : OnlyIn [.convs, .nextId] u (u.startConv g t).2 := by
  intro p hp
  cases p <;> simp_all [Part.same, State.startConv]

theorem onlyIn_setGrp (g : Nat) (f : Grp → Grp) : OnlyIn [.seq] u (u.setGrp g f) := onlyIn_setSeq u _

theorem onlyIn_convBegun : OnlyIn [.seq, .convs, .nextId] u (u.convBegun g t) :=
  ((onlyIn_startConv u t).mono (by simp)).trans ((onlyIn_setGrp _ g _).mono (by simp))

theorem convBegun_last (h : g < 16) : ((u.convBegun g t).grp g).last = 0 :=
  congrArg Grp.last ((vget_vmod ..).trans (if_pos ⟨rfl, h⟩))

/-- The conversion takes the channels of its group and what its trigger says of it. -/
theorem convBegun_convs :
    ∃ c : Conv, (u.convBegun g t).convs = u.convs ++ [c] ∧ c.id = u.nextId ∧ c.why = .group g ∧ c.stand = t.stand ∧ c.jet = t.jet ∧
      c.grid = t.grid ∧ c.after = t.after ∧ c.granted = false ∧ c.chans.map (fun x => x.ch) = u.grpChans g := by
  refine ⟨_, rfl, rfl, rfl, rfl, rfl, rfl, rfl, rfl, ?_⟩
  exact (List.map_map ..).trans (List.map_id _)

theorem convBegun_jets (m : Nat) : (u.convBegun g t).jet m = u.jet m := rfl

end Trigger

/-! ## CONV and SYNCV (R173, R174) -/

theorem mode_of_issues {e : State} {j : Nat} {i : Balrax} (h : e.issues j i) : (e.issueAt j).pwr.mode ≠ .lockout := by
  have hcan := h.1
  simp only [State.canIssue, Bool.and_eq_true] at hcan
  have hin : e.modeIn 3 10 = true := hcan.1.1.2
  intro hm
  have hmode : e.pwr.mode = .lockout := hm
  simp [State.modeIn, hmode, Mode.num] at hin

theorem wait_of_issues {e : State} {j : Nat} {i : Balrax} (h : e.issues j i) : ((e.issueAt j).jet j).wait = .none := by
  have hcan := h.1
  simp only [State.canIssue, Bool.and_eq_true, decide_eq_true_eq] at hcan
  exact hcan.1.2

@[simp] theorem Jet.write_wait (q : Jet) (r : Reg) (w : Word) : (q.write r w).wait = q.wait := by
  unfold Jet.write
  split <;> rfl

section Conv
variable {u : State} {j g : Nat} {d : Reg} {w grid : Bool} {after : Option Nat}

theorem convStep_idle (hdef : (u.grp g).defined = true) (htrig : u.grpTrig g = 0) (hm : u.pwr.mode ≠ .lockout) (hb : u.grpBusy g = false) :
    u.convStep j d w g grid after =
      if w = true then (u.convBegun g ⟨grid, after, 3, j⟩).inWait j (.conv d.toNat g 0 (some u.nextId) none) 1
      else (u.convBegun g ⟨grid, after, 3, j⟩).done j d 0 u.issuedAt 2 := by
  unfold State.convStep
  rw [if_pos ⟨hdef, htrig⟩, trigger_idle u _ hm hb]
  simp only [setReg_retire, await_safe]
  cases w <;> rfl

/-- The end of the instruction that has started a conversion leaves the conversion, and its jet waits for it or has received 0. -/
def ConvStarted (u : State) (j g : Nat) (d : Reg) (w grid : Bool) (after : Option Nat) (t : State) : Prop :=
  (∃ c : Conv, t.convs = u.convs ++ [c] ∧ c.id = u.nextId ∧ c.why = .group g ∧ c.stand = 3 ∧ c.jet = j ∧ c.grid = grid ∧
    c.after = after ∧ c.granted = false ∧ c.chans.map (fun x => x.ch) = u.grpChans g) ∧
  t.nextId = u.nextId + 1 ∧ (t.grp g).last = 0 ∧ OnlyIn [.seq, .convs, .nextId] u t ∧
  (∀ m, m ≠ j → t.jet m = u.jet m) ∧
  (t.jet j).regs = (if w then (u.jet j).regs else ((u.jet j).write d 0).regs) ∧
  (t.jet j).pc = (u.jet j).pc + (if w then 0 else 1) ∧
  (t.jet j).wait = (if w then .conv d.toNat g 0 (some u.nextId) none else .none)

theorem convStarted_waits (hj : j < 8) (hg : g < 16) :
    ConvStarted u j g d true grid after ((u.convBegun g ⟨grid, after, 3, j⟩).inWait j (.conv d.toNat g 0 (some u.nextId) none) 1) := by
  have hjet : ((u.convBegun g ⟨grid, after, 3, j⟩).inWait j (.conv d.toNat g 0 (some u.nextId) none) 1).jet j = _ := jet_setJet_self _ hj _
  refine ⟨convBegun_convs u _, rfl, convBegun_last u _ hg,
    (onlyIn_convBegun u _).trans ((onlyIn_setJet _ j _).mono (by simp)), fun m hm => State.jet_setJet_ne _ _ hm, ?_⟩
  rw [hjet]
  exact ⟨rfl, rfl, rfl⟩

theorem convStarted_done (hj : j < 8) (hg : g < 16) (hwait : (u.jet j).wait = .none) :
    ConvStarted u j g d false grid after ((u.convBegun g ⟨grid, after, 3, j⟩).done j d 0 u.issuedAt 2) := by
  refine ⟨convBegun_convs u _, rfl, convBegun_last u _ hg,
    (onlyIn_convBegun u _).trans ((onlyIn_done _ d 0 _ 2).mono (by simp)), fun m hm => done_jet_ne _ d 0 _ 2 hm, ?_⟩
  rw [done_jet_self _ d 0 _ 2 hj]
  exact ⟨rfl, rfl, (Jet.write_wait _ d 0).trans hwait⟩

theorem convStarted_convStep (hj : j < 8) (hg : g < 16) (hwait : (u.jet j).wait = .none) (hdef : (u.grp g).defined = true)
    (htrig : u.grpTrig g = 0) (hm : u.pwr.mode ≠ .lockout) (hb : u.grpBusy g = false) :
    ConvStarted u j g d w grid after (u.convStep j d w g grid after) := by
  rw [convStep_idle hdef htrig hm hb]
  cases w
  · exact convStarted_done hj hg hwait
  · exact convStarted_waits hj hg

end Conv

/-- Settles O12: CONV and SYNCV trigger their group by one step, and a trigger of an idle group starts its conversion. -/
theorem conversionsStart : Obligations.ConversionsStart := by
  intro s dt j d a w g grid e u n hdef htrig hb hi
  have hstep (after : Option Nat) : ConvStarted u j n d w grid after (u.convStep j d w n grid after) :=
    convStarted_convStep (lt_of_issues hi) g.isLt (wait_of_issues hi) hdef htrig (mode_of_issues hi) hb
  cases grid
  · exact ⟨_, issue_of_issues hi _, hstep none⟩
  · refine ⟨_, issue_of_issues hi _, ?_⟩
    have hafter : (if true && decide (a ≠ 0) then some (u.greg j a).toNat else none) = if a = 0 then none else some (u.greg j a).toNat := by
      by_cases ha : a = 0 <;> simp [ha]
    rw [hafter]
    exact hstep _

end Sys2Proof.Machine
end

section
/-! ### Every step keeps the stored memory canonical and every queue within its length (O3, O4)

`State.Sound` is `State.Inv` with names. A function of the model that answers a state has one lemma, `State.Sound.f`, in the order of
the model's files: its state is sound where its argument is. Few functions touch what `Sound` speaks of; each of the others composes
the lemmas of the functions that it calls with one of the frame lemmas below. -/

open Sys2Proof Sys2Proof.Machine
namespace Sys2Proof.Machine

/-- `State.Inv` with a name for each part. It is a structure, and so never unfolds when a goal is compared with another. -/
structure State.Sound (s : State) : Prop where
  mram : Memory.wf s.nvm.mram = true
  queue : s.seq.queue.length ≤ 64
  txq : s.net.txq.length ≤ 16
  rxq : s.net.rxq.length ≤ 32
  faults : s.flt.queue.length ≤ 32

/-- The next state, where there is one, is sound. -/
def OutSound (o : Out) : Prop := ∀ t, o = .next t → t.Sound

/-- The state, where there is one, is sound. -/
def OptSound (o : Option State) : Prop := ∀ t, o = some t → t.Sound

section
variable {s : State}

/-! #### Frame lemmas: an update of the state that leaves alone what `Sound` speaks of -/

theorem State.Sound.frame (h : s.Sound)
    {time cyc regs rwo banks aon pwr ovl cfe mod convs nextId res bsn slu spc ecp chk ril thm bst ecc answer resets freeN
    pending} :
    State.Sound { s with
      time, cyc, regs, rwo, banks, aon, pwr, ovl, cfe, mod, convs, nextId, res, bsn, slu, spc, ecp, chk, ril, thm, bst, ecc,
      answer, resets, freeN, pending } :=
  ⟨h.mram, h.queue, h.txq, h.rxq, h.faults⟩

theorem State.Sound.inSeq (h : s.Sound)
    {time cyc regs rwo banks aon pwr ovl cfe mod convs nextId res bsn slu spc ecp chk ril thm bst ecc answer resets freeN pending
    prog scratch jets flags flagClk flagNew flagTook ceCount ue ueArea ueIndex load loadSt loadGen startIgn groups preempts syncTs
    cqNext fullRef ops nextTag} :
    State.Sound { s with
      time, cyc, regs, rwo, banks, aon, pwr, ovl, cfe, mod, convs, nextId, res, bsn, slu, spc, ecp, chk, ril, thm, bst, ecc,
      answer, resets, freeN, pending
      seq := { s.seq with
        prog, scratch, jets, flags, flagClk, flagNew, flagTook, ceCount, ue, ueArea, ueIndex, load, loadSt, loadGen, startIgn,
        groups, preempts, syncTs, cqNext, fullRef, ops, nextTag } } :=
  ⟨h.mram, h.queue, h.txq, h.rxq, h.faults⟩

theorem State.Sound.inNet (h : s.Sound)
    {time cyc regs rwo banks aon pwr ovl cfe mod convs nextId res bsn slu spc ecp chk ril thm bst ecc answer resets freeN pending
    posErr hopsSeen enumRun ringSeen enumRes enumCount sync stepped losses sseq sseqSet lastSync lockAt good ofs delayN delayS
    ring split splits heals collect ringLast ringLost healing tags nextTag timeouts lateRsp rxDrop spiErr attn hErrCrc hErrDen
    hErrFmt hTxFull hstat hostOut tickAt} :
    State.Sound { s with
      time, cyc, regs, rwo, banks, aon, pwr, ovl, cfe, mod, convs, nextId, res, bsn, slu, spc, ecp, chk, ril, thm, bst, ecc,
      answer, resets, freeN, pending
      net := { s.net with
        posErr, hopsSeen, enumRun, ringSeen, enumRes, enumCount, sync, stepped, losses, sseq, sseqSet, lastSync, lockAt, good,
        ofs, delayN, delayS, ring, split, splits, heals, collect, ringLast, ringLost, healing, tags, nextTag, timeouts, lateRsp,
        rxDrop, spiErr, attn, hErrCrc, hErrDen, hErrFmt, hTxFull, hstat, hostOut, tickAt } } :=
  ⟨h.mram, h.queue, h.txq, h.rxq, h.faults⟩

theorem State.Sound.inFlt (h : s.Sound)
    {time cyc regs rwo banks aon pwr ovl cfe mod convs nextId res bsn slu spc ecp chk ril thm bst ecc answer resets freeN pending
    src shadowB shadowM shadowN lost lastSrc lastRe stwRun stwAlive stwKey flowRun flow divAt divHigh} :
    State.Sound { s with
      time, cyc, regs, rwo, banks, aon, pwr, ovl, cfe, mod, convs, nextId, res, bsn, slu, spc, ecp, chk, ril, thm, bst, ecc,
      answer, resets, freeN, pending
      flt := { s.flt with
        src, shadowB, shadowM, shadowN, lost, lastSrc, lastRe, stwRun, stwAlive, stwKey, flowRun, flow, divAt, divHigh } } :=
  ⟨h.mram, h.queue, h.txq, h.rxq, h.faults⟩

theorem State.Sound.inNvm (h : s.Sound)
    {time cyc regs rwo banks aon pwr ovl cfe mod convs nextId res bsn slu spc ecp chk ril thm bst ecc answer resets freeN pending
    wq pulse ceCount ue ueWord rowErrs hotWords rows rowDue scrub scrubAt pageAt passes head wrapped lastSeq ledgDue lostSeen uid
    bindA bindB bindBusy bindMis img stored ldrB jrnA jrnB jrnFound noImg sess nextSid check ifc tgt sid rcvN rcvC act fbCause
    fbDue actAt confirm launchOk tactReg prev keySet keyReq keyX keyY srvOut} :
    State.Sound { s with
      time, cyc, regs, rwo, banks, aon, pwr, ovl, cfe, mod, convs, nextId, res, bsn, slu, spc, ecp, chk, ril, thm, bst, ecc,
      answer, resets, freeN, pending
      nvm := { s.nvm with
        wq, pulse, ceCount, ue, ueWord, rowErrs, hotWords, rows, rowDue, scrub, scrubAt, pageAt, passes, head, wrapped, lastSeq,
        ledgDue, lostSeen, uid, bindA, bindB, bindBusy, bindMis, img, stored, ldrB, jrnA, jrnB, jrnFound, noImg, sess, nextSid,
        check, ifc, tgt, sid, rcvN, rcvC, act, fbCause, fbDue, actAt, confirm, launchOk, tactReg, prev, keySet, keyReq, keyX,
        keyY, srvOut } } :=
  ⟨h.mram, h.queue, h.txq, h.rxq, h.faults⟩

end

/-! #### Branches, folds, pairs and options -/

section
variable {c : Prop} {_ : Decidable c} {s : State}

theorem State.Sound.either {a b : State} (ha : a.Sound) (hb : b.Sound) : (if c then a else b).Sound := by
  split <;> assumption

theorem State.Sound.either1 {α : Type} {a b : α × State} (ha : a.2.Sound) (hb : b.2.Sound) : (if c then a else b).2.Sound := by
  split <;> assumption

theorem State.Sound.either2 {α β : Type} {a b : α × β × State} (ha : a.2.2.Sound) (hb : b.2.2.Sound) : (if c then a else b).2.2.Sound := by
  split <;> assumption

theorem State.Sound.foldl {α : Type} {f : State → α → State} (hf : ∀ {t : State} {x}, t.Sound → (f t x).Sound) {l : List α} :
    ∀ {s : State}, s.Sound → (l.foldl f s).Sound := by
  induction l with
  | nil => exact fun h => h
  | cons x l ih => exact fun h => ih (hf h)

theorem State.Sound.foldl1 {α β : Type} {f : α × State → β → α × State} (hf : ∀ {t : α × State} {x}, t.2.Sound → (f t x).2.Sound) {l : List β} :
    ∀ {s : α × State}, s.2.Sound → (l.foldl f s).2.Sound := by
  induction l with
  | nil => exact fun h => h
  | cons x l ih => exact fun h => ih (hf h)

theorem State.Sound.pair {α : Type} {a : α} {t : State} (h : t.Sound) : (a, t).2.Sound := h

theorem State.Sound.foldl3 {α β γ δ : Type} {f : α × β × γ × State → δ → α × β × γ × State}
    (hf : ∀ {t : α × β × γ × State} {x}, t.2.2.2.Sound → (f t x).2.2.2.Sound) {l : List δ} :
    ∀ {s : α × β × γ × State}, s.2.2.2.Sound → (l.foldl f s).2.2.2.Sound := by
  induction l with
  | nil => exact fun h => h
  | cons x l ih => exact fun h => ih (hf h)

theorem State.Sound.of_snd3 {α β γ : Type} {p : α × β × γ × State} {a : α} {b : β} {c : γ} {t : State} (h : p.2.2.2.Sound) (e : p = (a, b, c, t)) :
    t.Sound := by
  cases e; exact h

theorem OptSound.none : OptSound none := by
  intro t e; cases e

theorem OptSound.some {t : State} (h : t.Sound) : OptSound (some t) := by
  intro u e; cases e; exact h

theorem OptSound.either {a b : Option State} (ha : OptSound a) (hb : OptSound b) : OptSound (if c then a else b) := by
  split <;> assumption

theorem OptSound.of_some {o : Option State} {t : State} (h : OptSound o) (e : o = Option.some t) : t.Sound := h t e

theorem State.Sound.eitherOpt {a b : Option State} (ha : OptSound a) (hb : OptSound b) : OptSound (if c then a else b) := by
  split <;> assumption

theorem State.Sound.getD {o : Option State} (h : OptSound o) {d : State} (hd : d.Sound) : (o.getD d).Sound := by
  cases o with
  | none => exact hd
  | some t => exact h t rfl

theorem OutSound.of_next {o : Out} {t : State} (h : OutSound o) (e : o = .next t) : t.Sound := h t e

theorem State.Sound.of_snd {α : Type} {p : α × State} {a : α} {t : State} (h : p.2.Sound) (e : p = (a, t)) : t.Sound := by
  cases e; exact h

theorem State.Sound.of_snd2 {α β : Type} {p : α × β × State} {a : α} {b : β} {t : State} (h : p.2.2.Sound) (e : p = (a, b, t)) :
    t.Sound := by
  cases e; exact h

theorem OutSound.next {t : State} (h : t.Sound) : OutSound (.next t) := by
  intro u e; cases e; exact h

theorem OutSound.either {a b : Out} (ha : OutSound a) (hb : OutSound b) : OutSound (if c then a else b) := by
  split <;> assumption

theorem OptSound.map {α : Type} {f : α → State} (hf : ∀ {x}, (f x).Sound) {o : Option α} : OptSound (o.map f) := by
  cases o with
  | none => exact OptSound.none
  | some x => exact OptSound.some hf
end

section
variable {s : State}

/-! #### Of `State` -/

theorem State.Sound.reset : State.reset.Sound :=
  ⟨rfl, Nat.zero_le _, Nat.zero_le _, Nat.zero_le _, Nat.zero_le _⟩

/-! #### Of `Ops` -/

theorem State.Sound.elapse {dt} (h : s.Sound) : (s.elapse dt).Sound := h.frame
theorem State.Sound.elapseTb {n} (h : s.Sound) : (s.elapseTb n).Sound := h.elapse
theorem State.Sound.cycMod {f} (h : s.Sound) : (s.cycMod f).Sound := h.frame
theorem State.Sound.wcSet {a w} (h : s.Sound) : (s.wcSet a w).Sound := h.cycMod
theorem State.Sound.noteOld {a k w} (h : s.Sound) : (s.noteOld a k w).Sound := either h h.cycMod
theorem State.Sound.noteRank {rq a k} (h : s.Sound) : (s.noteRank rq a k).Sound := h.cycMod
theorem State.Sound.setUnder {a w} (h : s.Sound) : (s.setUnder a w).Sound := h.frame
theorem State.Sound.setBank {rq f} (h : s.Sound) : (s.setBank rq f).Sound := h.frame
theorem State.Sound.answers {st ws} (h : s.Sound) : (s.answers st ws).Sound := h.frame

theorem State.Sound.setPort {p f} (h : s.Sound) : (s.setPort p f).Sound := by
  unfold State.setPort
  split <;> exact h.frame

theorem State.Sound.send {p f} (h : s.Sound) : (s.send p f).Sound := either (either h.setPort h.setPort) h

theorem State.Sound.rxPut {e} (h : s.Sound) : (s.rxPut e).Sound := by
  unfold State.rxPut
  split
  · next room => exact ⟨h.mram, h.queue, h.txq, by simpa using room, h.faults⟩
  · exact h.inNet

theorem State.Sound.sendInbound {kind f} (h : s.Sound) : (s.sendInbound kind f).Sound := either h.rxPut h.send
theorem State.Sound.ledger {e} (h : s.Sound) : (s.ledger e).Sound := h.inNvm
theorem State.Sound.eccClear {a i} (h : s.Sound) : (s.eccClear a i).Sound := h.frame

/-! #### Of `Flags` -/

theorem State.Sound.setJet {j f} (h : s.Sound) : (s.setJet j f).Sound := h.inSeq
theorem State.Sound.putFlag {k b} (h : s.Sound) : (s.putFlag k b).Sound := h.inSeq
theorem State.Sound.wakes {js} (h : s.Sound) : (s.wakes js).Sound := foldl (fun h => h.setJet) h
theorem State.Sound.noteFlag {k} (h : s.Sound) : (s.noteFlag k).Sound := h.inSeq

theorem State.Sound.raiseFlag {k} (h : s.Sound) : (s.raiseFlag k).Sound := by
  unfold State.raiseFlag
  extract_lets +onlyGivenNames free taker s1
  have hs1 : s1.Sound := h.wakes
  clear_value free taker s1
  split
  · exact hs1.wakes.putFlag
  · exact hs1.putFlag

theorem State.Sound.setFlag {k} (h : s.Sound) : (s.setFlag k).Sound := either h h.raiseFlag.noteFlag
theorem State.Sound.clearFlag {k} (h : s.Sound) : (s.clearFlag k).Sound := either h h.putFlag
theorem State.Sound.setFlags {m} (h : s.Sound) : (s.setFlags m).Sound := foldl (fun h => h.setFlag) h
theorem State.Sound.clearFlags {m} (h : s.Sound) : (s.clearFlags m).Sound := foldl (fun h => h.clearFlag) h

/-! #### Of `SluiceCalc` -/

theorem State.Sound.setBal {n f} (h : s.Sound) : (s.setBal n f).Sound := either h h.frame
theorem State.Sound.allocate (h : s.Sound) : s.allocate.Sound := (foldl (fun h => h.setBal) h).frame
theorem State.Sound.openOut {n} (h : s.Sound) : (s.openOut n).Sound := h.setBal

theorem State.Sound.openAll (h : s.Sound) : s.openAll.Sound := by
  unfold State.openAll
  extract_lets +onlyGivenNames s1
  have hs1 : s1.Sound := foldl (fun h => h.openOut) h
  clear_value s1
  split
  · exact hs1.frame
  · exact hs1

theorem State.Sound.recompute (h : s.Sound) : s.recompute.Sound :=
  either (foldl (fun h => either h.openOut h) ((foldl (fun h => either h h.setBal) h).allocate)) h

theorem State.Sound.driveCell {i n} (h : s.Sound) : (s.driveCell i n).Sound := either h.setBal h.openOut
theorem State.Sound.redrive (h : s.Sound) : s.redrive.Sound := either (foldl (fun h => h.driveCell) h) h
theorem State.Sound.withdrawDuty {n} (h : s.Sound) : (s.withdrawDuty n).Sound := h.setBal
theorem State.Sound.dropLost (h : s.Sound) : s.dropLost.Sound := foldl (fun h => either h.withdrawDuty h) h
theorem State.Sound.setLevel {rq n level} (h : s.Sound) : (s.setLevel rq n level).Sound := either h.setBal.withdrawDuty h.setBal
theorem State.Sound.setQuota {rq n q} (h : s.Sound) : (s.setQuota rq n q).Sound := either h.setBal.withdrawDuty h.setBal
theorem State.Sound.noteReq {rq n} (h : s.Sound) : (s.noteReq rq n).Sound := h.noteOld.noteRank
theorem State.Sound.reqLevel {rq n level} (h : s.Sound) : (s.reqLevel rq n level).Sound := either h h.noteReq.setLevel
theorem State.Sound.reqQuota {rq n q} (h : s.Sound) : (s.reqQuota rq n q).Sound := either h h.noteReq.setQuota
theorem State.Sound.writeLevel {rq n v} (h : s.Sound) : (s.writeLevel rq n v).Sound := either h h.reqLevel
theorem State.Sound.withdrawJet {j} (h : s.Sound) : (s.withdrawJet j).Sound := foldl (fun h => either h.setBal.withdrawDuty h) h

/-! #### Of `Modes` -/

theorem State.Sound.nextCycle {f} (h : s.Sound) (hf : ∀ {t}, t.Sound → (f t).Sound) : (s.nextCycle f).Sound := (hf h.elapse).frame
theorem State.Sound.until_ {t} (h : s.Sound) : (s.until_ t).Sound := h.elapse
theorem State.Sound.untilTb {t} (h : s.Sound) : (s.untilTb t).Sound := either h h.elapseTb
theorem State.Sound.untilMod {period phase} (h : s.Sound) : (s.untilMod period phase).Sound := either h h.elapseTb
theorem State.Sound.setRate {rate} (h : s.Sound) : (s.setRate rate).Sound := h.frame

theorem State.Sound.setOp {kind f} (h : s.Sound) : (s.setOp kind f).Sound := by
  unfold State.setOp
  split
  · exact h.inSeq
  · exact h

theorem State.Sound.leaveOps {target} (h : s.Sound) : (s.leaveOps target).Sound := h.inSeq
theorem State.Sound.beginCommit {target why} (h : s.Sound) : (s.beginCommit target why).Sound := h.leaveOps.frame

theorem State.Sound.reactMode {m} (h : s.Sound) : (s.reactMode m).Sound := by
  unfold State.reactMode
  split
  · exact h.frame
  · exact either h.frame h.beginCommit

theorem State.Sound.startOp {kind owner} (h : s.Sound) : (s.startOp kind owner).2.Sound := h.inSeq
theorem State.Sound.autoReturn {kind} (h : s.Sound) : (s.autoReturn kind).Sound := either h.beginCommit h

theorem State.Sound.endOp {kind st cause code} (h : s.Sound) : (s.endOp kind st cause code).Sound := by
  unfold State.endOp
  split
  · exact h
  · exact (either h.setOp.setFlag h.setOp).autoReturn

/-! #### Of `Faults` -/

theorem State.Sound.setFsrc {i f} (h : s.Sound) : (s.setFsrc i f).Sound := h.inFlt

theorem length_queueRec (q : List FltRec) (r : FltRec) : (queueRec q r).length = q.length + 1 := by
  have parts := congrArg List.length (List.takeWhile_append_dropWhile (p := r.after) (l := q.reverse))
  simp only [List.length_append, List.length_reverse] at parts
  simp only [queueRec, List.length_append, List.length_cons, List.length_reverse]
  omega

theorem State.Sound.record {kind i sec} (h : s.Sound) : (s.record kind i sec).Sound := by
  unfold State.record
  extract_lets +onlyGivenNames r
  split
  · next room => exact ⟨h.mram, h.queue, h.txq, h.rxq, (length_queueRec _ r).trans_le room⟩
  · exact h.inFlt

theorem State.Sound.notify {i sec} (h : s.Sound) : (s.notify i sec).Sound := either h.sendInbound h
theorem State.Sound.srcSet {a i} (h : s.Sound) : (s.srcSet a i).Sound := h.wcSet

theorem State.Sound.secondary {i id} (h : s.Sound) : (s.secondary i id).Sound := either h.srcSet.setFsrc
    h.srcSet.setFsrc.record.notify

theorem State.Sound.unclear {i} (h : s.Sound) : (s.unclear i).Sound := by
  unfold State.unclear
  split
  · exact ⟨h.mram, h.queue, h.txq, h.rxq, (List.length_filter_le _ _).trans h.faults⟩
  · exact h

theorem State.Sound.primary {i} (h : s.Sound) : (s.primary i).Sound := by
  unfold State.primary
  extract_lets +onlyGivenNames s1 f n f1 f2 fresh f3 s2 s3 s4 s5
  have hs1 : s1.Sound := h.unclear.srcSet
  have hs2 : s2.Sound := hs1.setFsrc
  have hs3 : s3.Sound := either hs2.record.notify hs2
  have hs4 : s4.Sound := either hs3.setFlag hs3
  clear_value s1 f n f1 f2 fresh f3 s2 s3 s4 s5
  exact either (either hs4.setFsrc.setFsrc.setFsrc.record.notify (either hs4.setFsrc.setFsrc.setFsrc.record.notify
    hs4.setFsrc.setFsrc)) hs4.setFsrc

theorem State.Sound.noteReact {code src} (h : s.Sound) : (s.noteReact code src).Sound :=
  ⟨h.mram, h.queue, h.txq, h.rxq, h.faults⟩

theorem State.Sound.joinReact {code l} (h : s.Sound) : (s.joinReact code l).Sound := either h.noteReact.inFlt h

theorem State.Sound.reacted {code openers} (h : s.Sound) : (s.reacted code openers).Sound :=
  (either h.inFlt.noteReact.inFlt h.inFlt.noteReact).record

theorem State.Sound.holdAll {t l} (h : s.Sound) : (s.holdAll t l).Sound := foldl (fun h => h.setFsrc) h

theorem State.Sound.issueThrottle {l} (h : s.Sound) : (s.issueThrottle l).Sound :=
  either h (either h.holdAll.joinReact h.holdAll.recompute.reacted)

theorem State.Sound.issueStop {l} (h : s.Sound) : (s.issueStop l).Sound :=
  either h (either h.holdAll.joinReact h.holdAll.openAll.dropLost.reacted)

theorem State.Sound.overrule (h : s.Sound) : s.overrule.Sound := by
  unfold State.overrule
  split
  · extract_lets +onlyGivenNames src s1
    have hs1 : s1.Sound := ⟨h.mram, h.queue, h.txq, h.rxq, (List.length_filter_le _ _).trans h.faults⟩
    clear_value s1
    split
    · exact either hs1.frame hs1
    · exact hs1
  · exact h

theorem State.Sound.lockNow (h : s.Sound) : s.lockNow.Sound := either h.overrule h.overrule.reactMode

theorem State.Sound.issueMode {safe lock} (h : s.Sound) : (s.issueMode safe lock).Sound :=
  either (either h.joinReact h.frame.openAll.lockNow.reacted) (either (either h.joinReact h.openAll.reactMode.reacted) h)

theorem State.Sound.collect {l} (h : s.Sound) : (s.collect l).Sound := by
  unfold State.collect
  refine either h ((((foldl (fun h => ?_) h.cycMod).issueThrottle).issueStop).issueMode)
  split
  · exact h.secondary
  · exact h.primary

theorem State.Sound.clearSticky {i} (h : s.Sound) : (s.clearSticky i).Sound := either h h.cycMod.setFsrc.record
theorem State.Sound.clearSec {i} (h : s.Sound) : (s.clearSec i).Sound := either h h.setFsrc

/-! #### Of `Present` -/

theorem State.Sound.setRun {r} (h : s.Sound) : (s.setRun r).Sound := h.frame
theorem State.Sound.beginPass {r tb} (h : s.Sound) : (s.beginPass r tb).Sound := either h.setRun h.setRun.frame
theorem State.Sound.setModul {m f} (h : s.Sound) : (s.setModul m f).Sound := h.frame
theorem State.Sound.setSpare {sp f} (h : s.Sound) : (s.setSpare sp f).Sound := h.frame
theorem State.Sound.notePower (h : s.Sound) : s.notePower.Sound := h.frame

theorem State.Sound.rotClock (h : s.Sound) : s.rotClock.Sound := by
  unfold State.rotClock
  split
  · exact either h h.frame
  · exact either h.frame h

theorem State.Sound.dropConvs {f} (h : s.Sound) : (s.dropConvs f).Sound := (foldl (fun h => h.setModul) h).frame
theorem State.Sound.owBegin (h : s.Sound) : s.owBegin.Sound := h.frame
theorem State.Sound.owDue (h : s.Sound) : s.owDue.Sound := either h (either h.owBegin h.frame)
theorem State.Sound.owEnter (h : s.Sound) : s.owEnter.Sound := either (either h.frame.owDue h.frame) h
theorem State.Sound.releaseSpec (h : s.Sound) : s.releaseSpec.Sound := h.openAll.dropConvs

theorem State.Sound.endSpec {st cause code} (h : s.Sound) : (s.endSpec st cause code).Sound :=
  h.releaseSpec.frame.endOp.rotClock.owEnter.collect

theorem State.Sound.reactSpec {wasT wasS} (h : s.Sound) : (s.reactSpec wasT wasS).Sound := by
  unfold State.reactSpec
  split
  · split
    · exact h.endSpec
    · split
      · split
        · split
          · exact h.openAll.setRun
          · exact h.openAll.setRun
          · exact h.openAll.setRun
          · exact h.openAll
        · exact h
      · exact h
  · exact h

theorem State.Sound.present {l} (h : s.Sound) : (s.present l).Sound := either h h.collect.reactSpec
theorem State.Sound.present1 {i} (h : s.Sound) : (s.present1 i).Sound := h.present

/-! #### Of `Slices` -/

theorem State.Sound.setUnit {u f} (h : s.Sound) : (s.setUnit u f).Sound := h.frame
theorem State.Sound.startSlice {u of_} (h : s.Sound) : (s.startSlice u of_).Sound := either h.frame.frame h.frame

theorem State.Sound.sliceOver {u res cut sig} (h : s.Sound) : (s.sliceOver u res cut sig).Sound := by
  unfold State.sliceOver
  extract_lets +onlyGivenNames camp s1 s2 s3
  have hs2 : s2.Sound := h.frame
  have hs3 : s3.Sound := hs2.setUnit
  clear_value camp s1
  exact either ((either hs3.frame hs3).present1) (either ((either hs3.frame hs3).present1) (either hs3.frame hs3))

theorem State.Sound.firstFail {u sp} (h : s.Sound) : (s.firstFail u sp).Sound := h.setUnit
theorem State.Sound.addEntry {e} (h : s.Sound) : (s.addEntry e).Sound := h.ledger.frame
theorem State.Sound.repaired {e} (h : s.Sound) : (s.repaired e).Sound := h.addEntry.present1
theorem State.Sound.unrepaired {u cause} (h : s.Sound) : (s.unrepaired u cause).Sound := h.addEntry.present

theorem State.Sound.repairPage {p cause} (h : s.Sound) : (s.repairPage p cause).Sound := by
  unfold State.repairPage
  extract_lets +onlyGivenNames s1 out
  have hs1 : s1.Sound := h.setUnit
  have hout : ∀ {t}, t.Sound → (out t).Sound := fun h => h.frame
  clear_value s1 out
  split
  · exact (either ((hout hs1).frame) (hout hs1)).repaired
  · split
    · exact hs1
    · split
      · exact ((hout hs1).frame).repaired
      · exact hs1.unrepaired

/-! #### Of `Mram` -/

theorem State.Sound.reportRow {r} (h : s.Sound) : (s.reportRow r).Sound := h.inNvm

theorem State.Sound.mramTouch {w} (h : s.Sound) : (s.mramTouch w).Sound := by
  unfold State.mramTouch
  split
  · exact h.inNvm
  · exact either h.inNvm.eccClear.present1.reportRow h.inNvm.eccClear.present1
  · exact h.inNvm.wcSet.reportRow.present1

theorem State.Sound.setChk {n f} (h : s.Sound) : (s.setChk n f).Sound := h.frame
theorem State.Sound.chkBytes {n b} (h : s.Sound) : (s.chkBytes n b).Sound := h.setChk

theorem State.Sound.feedMram {k n} (h : s.Sound) : (State.feedMram k s n).Sound := by
  induction k generalizing s with
  | zero => exact h
  | succ k ih =>
    unfold State.feedMram
    split
    · extract_lets +onlyGivenNames w t
      split
      · exact either h.mramTouch.setChk (ih h.mramTouch.chkBytes.setChk)
      · exact h
    · exact h

theorem State.Sound.feedsMram (h : s.Sound) : s.feedsMram.Sound := foldl (fun h => h.feedMram) h
theorem State.Sound.mramPut {a b} (h : s.Sound) : (s.mramPut a b).Sound := h.feedsMram.inNvm
theorem State.Sound.jrnPut {j} (h : s.Sound) : (s.jrnPut j).Sound := h.inNvm
theorem State.Sound.wordsDone {a n} (h : s.Sound) : (s.wordsDone a n).Sound := h.inNvm

theorem State.Sound.mramStore {a b} (h : s.Sound) : (s.mramStore a b).Sound := by
  have hs1 := h.wordsDone (a := a) (n := b.length)
  exact ⟨memWrite_wf b _ a hs1.mram, hs1.queue, hs1.txq, hs1.rxq, hs1.faults⟩

theorem State.Sound.pageDone {a n} (h : s.Sound) : (s.pageDone a n).Sound := h.feedsMram.wordsDone

theorem State.Sound.pageWrite {w} (h : s.Sound) : (s.pageWrite w).Sound := by
  unfold State.pageWrite
  split
  · extract_lets +onlyGivenNames s1
    have hs1 : s1.Sound := foldl (fun h => h.mramTouch) h
    clear_value s1
    split
    · exact hs1.wordsDone.inNvm
    · exact hs1.mramStore
  · exact h.inNvm
  · exact h.wordsDone.inNvm

theorem State.Sound.flushWrites (h : s.Sound) : s.flushWrites.Sound := foldl (fun h => h.pageWrite) h.feedsMram.inNvm
theorem State.Sound.mramRead {a n} (h : s.Sound) : (s.mramRead a n).2.Sound := foldl (fun h => h.mramTouch) h

/-! #### Of `Basins` -/

theorem State.Sound.setStrm {m f} (h : s.Sound) : (s.setStrm m f).Sound := h.frame
theorem State.Sound.putSram {i w} (h : s.Sound) : (s.putSram i w).Sound := h.frame.eccClear

theorem State.Sound.freePage {p} (h : s.Sound) : (s.freePage p).Sound :=
  either h (either (either h.frame.repairPage h.frame.setUnit) h.frame)

theorem State.Sound.unfree {phys} (h : s.Sound) : (s.unfree phys).Sound := h.cycMod

theorem State.Sound.readSram {phys i} (h : s.Sound) : (s.readSram phys i).2.Sound := by
  unfold State.readSram
  split
  · exact h
  · exact h.frame.eccClear.present1
  · exact h.frame.wcSet.present1

theorem State.Sound.pageWord {m q i} (h : s.Sound) : (s.pageWord m q i).2.Sound := by
  unfold State.pageWord
  split
  · exact h
  · exact either1 h h.readSram

theorem State.Sound.feedPage {k n} (h : s.Sound) : (State.feedPage k s n).Sound := by
  induction k generalizing s with
  | zero => exact h
  | succ k ih =>
    unfold State.feedPage
    split
    · exact either (ih h.pageWord.chkBytes.setChk) h
    · exact h

theorem State.Sound.feedsPage (h : s.Sound) : s.feedsPage.Sound := foldl (fun h => h.feedPage) h

theorem State.Sound.closePage {m} (h : s.Sound) : (s.closePage m).Sound := by
  unfold State.closePage
  extract_lets +onlyGivenNames s1
  have hs1 : s1.Sound := h.feedsPage
  clear_value s1
  split
  · exact hs1
  · exact either hs1 (either hs1.setStrm.freePage hs1.setStrm.putSram.putSram)

theorem State.Sound.exhaust {m} (h : s.Sound) : (s.exhaust m).Sound := either h h.setStrm.present1
theorem State.Sound.dropRec {m cause} (h : s.Sound) : (s.dropRec m cause).Sound := either h.setStrm h.setStrm.exhaust
theorem State.Sound.losePage {m} (h : s.Sound) : (s.losePage m).Sound := h.setStrm

theorem State.Sound.retireBad {k m} (h : s.Sound) : (State.retireBad k s m).Sound := by
  induction k generalizing s with
  | zero => exact h
  | succ k ih =>
    unfold State.retireBad
    split
    · exact ih h.unfree.losePage
    · exact h
    · exact either (ih h.setStrm.losePage.freePage) h
    · exact h

theorem State.Sound.reclaim {m p t} (h : s.Sound) (e : s.reclaim m = some (p, t)) : t.Sound := by
  unfold State.reclaim at e
  split at e <;> cases e
  · exact h.unfree.frame
  · exact h.setStrm

theorem State.Sound.openPage {m p rseq} (h : s.Sound) : (s.openPage m p rseq).Sound := h.setStrm.putSram.putSram.putSram.putSram

theorem State.Sound.writeRec {m ws} (h : s.Sound) : (s.writeRec m ws).Sound := by
  unfold State.writeRec
  split
  · exact h
  · exact (foldl (fun h => h.putSram) h).setStrm

theorem State.Sound.ackAgain {m} (h : s.Sound) : (s.ackAgain m).Sound := by
  unfold State.ackAgain
  split
  · exact h
  · exact (foldl (fun h => h.freePage) h.cycMod).setStrm

theorem State.Sound.place {m src id ts payload} (h : s.Sound) : (s.place m src id ts payload).2.Sound := by
  unfold State.place
  extract_lets +onlyGivenNames s1 st rseq ws s2 room
  have hs2 : s2.Sound := h.feedsPage.setStrm
  clear_value s1 st rseq ws s2 room
  split
  · exact pair hs2.dropRec
  · split
    · exact pair hs2.writeRec
    · extract_lets +onlyGivenNames s3 wrap s4 used
      have hs4 : s4.Sound := either hs2.closePage.retireBad hs2.closePage
      clear_value s3 wrap s4 used
      split
      · exact pair hs4.frame.setStrm.openPage.writeRec
      · split
        · next e => exact pair (hs4.reclaim e).losePage.exhaust.openPage.writeRec
        · exact pair hs4.dropRec

theorem State.Sound.offer {m src id ts payload} (h : s.Sound) : (s.offer m src id ts payload).2.Sound := either h.place
    h.place.ackAgain

theorem State.Sound.examine {m} (h : s.Sound) : (s.examine m).Sound := (either h.closePage h).setStrm

theorem State.Sound.examineAll (h : s.Sound) : s.examineAll.Sound :=
  foldl (fun h => either h.examine.closePage h.examine) (foldl (fun h => either h.examine.closePage h.examine) (foldl (fun h =>
    h.setStrm) h))

theorem State.Sound.ackPages {m upto} (h : s.Sound) : (s.ackPages m upto).Sound :=
  (either ((foldl (fun h => h.freePage) h.feedsPage.cycMod).wcSet) (foldl (fun h => h.freePage) h.feedsPage.cycMod)).setStrm

theorem State.Sound.resetStrm {m} (h : s.Sound) : (s.resetStrm m).Sound := by
  unfold State.resetStrm
  exact either h.feedsPage.setStrm (((foldl (fun h => h.freePage) h.feedsPage).setStrm).setStrm)

/-! #### Of `Jets` -/

theorem State.Sound.putProg {i w} (h : s.Sound) : (s.putProg i w).Sound := h.noteOld.inSeq.eccClear

theorem State.Sound.seqEcc {a i} (h : s.Sound) : (s.seqEcc a i).Sound := by
  unfold State.seqEcc
  split
  · exact h
  · exact h.inSeq.eccClear.present1
  · exact h.inSeq.wcSet.present1

theorem State.Sound.releaseChk {rq} (h : s.Sound) : (s.releaseChk rq).Sound := h.feedsPage.feedsMram.frame

theorem State.Sound.stopJet {j cause word withdraw} (h : s.Sound) : (s.stopJet j cause word withdraw).Sound :=
  (either h.setJet.withdrawJet h.setJet).releaseChk

theorem State.Sound.faultJet {j cause} (h : s.Sound) : (s.faultJet j cause).Sound := h.stopJet.present1
theorem State.Sound.faultFetch {j cause word} (h : s.Sound) : (s.faultFetch j cause word).Sound := h.stopJet.present1

theorem State.Sound.startJet {j addr} (h : s.Sound) : (s.startJet j addr).Sound := by
  unfold State.startJet
  split
  · split
    · exact h.setJet
    · exact h.setJet
    · exact h.inSeq.wcSet
  · exact h

theorem State.Sound.stopReq {j} (h : s.Sound) : (s.stopReq j).Sound := by
  unfold State.stopReq
  split
  · exact h.setJet
  · exact h.setJet
  · exact h

theorem State.Sound.killNow {j} (h : s.Sound) : (s.killNow j).Sound := either h.stopJet h

theorem State.Sound.killJet {j} (h : s.Sound) : (s.killJet j).Sound :=
  either (h.noteOld.noteOld.noteOld.nextCycle (fun h => h.cycMod.stopJet)) h

theorem State.Sound.strmRead {k j} (h : s.Sound) : (State.strmRead k s j).Sound := by
  induction k generalizing s with
  | zero => exact h
  | succ k ih =>
    unfold State.strmRead
    split
    · exact either (ih h.seqEcc.setJet) h
    · exact h

theorem State.Sound.strmAll (h : s.Sound) : s.strmAll.Sound := foldl (fun h => h.strmRead) h
theorem State.Sound.readsNow (h : s.Sound) : s.readsNow.Sound := h.strmAll.feedsPage.feedsMram
theorem State.Sound.reclockJets {old} (h : s.Sound) : (s.reclockJets old).Sound := either h h.inSeq
theorem State.Sound.jetsAfterGap {gap} (h : s.Sound) : (s.jetsAfterGap gap).Sound := h.inSeq
theorem State.Sound.convEnded {id out} (h : s.Sound) : (s.convEnded id out).Sound := h.inSeq
theorem State.Sound.heldResolved {g id} (h : s.Sound) : (s.heldResolved g id).Sound := h.inSeq

/-! #### Of `Convert` -/

theorem State.Sound.limLive {ch ov under} (h : s.Sound) : (s.limLive ch ov under).Sound := h.frame

theorem State.Sound.limFlags {ch ov under} (h : s.Sound) : (s.limFlags ch ov under).Sound :=
  either (either ((either h.setFlag h).setFlag) (either h.setFlag h)) (either (either h.setFlag h) (either (either h.setFlag h) h))

theorem State.Sound.suspectCell {i} (h : s.Sound) : (s.suspectCell i).Sound := by
  unfold State.suspectCell
  extract_lets +onlyGivenNames s1 shut
  have hs1 : s1.Sound := h.putSram
  clear_value s1 shut
  split
  · exact hs1.putSram
  · exact hs1

theorem State.Sound.suspectCycle (h : s.Sound) : s.suspectCycle.Sound := foldl (fun h => h.suspectCell) h.inSeq

theorem State.Sound.diagJudge {ch a out} (h : s.Sound) : (s.diagJudge ch a out).Sound :=
  either (either (either h h.frame.suspectCycle) h.frame) h

theorem State.Sound.writeResult {ch value flags a} (h : s.Sound) : (s.writeResult ch value flags a).2.Sound :=
  (((((((either h.diagJudge.wcSet h.diagJudge).noteOld).cycMod).frame).inSeq).limLive).limFlags).present

theorem State.Sound.markRead {ch} (h : s.Sound) : (s.markRead ch).Sound := h.frame
theorem State.Sound.unlap {ch} (h : s.Sound) : (s.unlap ch).Sound := either h.cycMod.frame h
theorem State.Sound.takeRead {ch} (h : s.Sound) : (s.takeRead ch).Sound := either h.unlap h.markRead
theorem State.Sound.setGrp {g f} (h : s.Sound) : (s.setGrp g f).Sound := h.inSeq
theorem State.Sound.examineGrp {g} (h : s.Sound) : (s.examineGrp g).Sound := (either h.setGrp.heldResolved h).setGrp
theorem State.Sound.startConv {g t} (h : s.Sound) : (s.startConv g t).2.Sound := h.frame

theorem State.Sound.abortConv {c pre} (h : s.Sound) : (s.abortConv c pre).Sound := by
  unfold State.abortConv
  extract_lets +onlyGivenNames s1
  have hs1 : s1.Sound := h.dropConvs
  clear_value s1
  split
  · exact (either hs1.setGrp.inSeq hs1.setGrp).convEnded
  · exact hs1

theorem State.Sound.takeHeld {g} (h : s.Sound) : (s.takeHeld g).Sound := by
  unfold State.takeHeld
  split
  · exact h.setGrp.startConv.heldResolved
  · exact h

theorem State.Sound.trigger {g t} (h : s.Sound) : (s.trigger g t).2.2.Sound := by
  unfold State.trigger
  split
  · exact h
  · split
    · exact h.startConv.setGrp
    · split
      · exact either2 h.setGrp h.setGrp.present1
      · exact ((foldl (fun h => h.abortConv) h).startConv).setGrp
      · exact h.setGrp.present1

theorem State.Sound.triggerFrom {src stand grid g} (h : s.Sound) : (s.triggerFrom src stand grid g).Sound := either h.trigger h

theorem State.Sound.noteCells {m chans} (h : s.Sound) : (s.noteCells m chans).Sound := by
  unfold State.noteCells
  split
  · exact h.cycMod
  · exact h

theorem State.Sound.completeConv {c} (h : s.Sound) : (s.completeConv c).Sound := by
  unfold State.completeConv
  split
  · extract_lets +onlyGivenNames s1 chans s2
    have hs1 : s1.Sound := h.dropConvs
    clear_value s1 chans s2
    extract_lets +onlyGivenNames s3
    have hs3 : s3.Sound := by
      unfold s3
      split
      · exact either hs1.offer.noteCells hs1.offer
      · exact hs1
    clear_value s3
    exact hs3.convEnded.takeHeld
  · exact h

theorem State.Sound.startDecim {k m start} (h : s.Sound) : (s.startDecim k m start).Sound := h.setModul

theorem State.Sound.startPair {c a start} (h : s.Sound) : (s.startPair c a start).Sound := by
  unfold State.startPair
  extract_lets +onlyGivenNames per lag both
  have hboth : both.Sound := h.startDecim.startDecim
  clear_value per lag both
  split
  · exact either h hboth
  · exact h.startDecim
  · exact h.startDecim
  · exact hboth

theorem State.Sound.startDecims {c from_ start} (h : s.Sound) : (s.startDecims c from_ start).Sound :=
  foldl (fun h => either (either h h.startDecim) (either h.startPair (either h (either h h.startDecim)))) h

theorem State.Sound.grant {r} (h : s.Sound) : (s.grant r).Sound :=
  either ((either h.frame h.frame.startDecims).completeConv) (either h.frame h.frame.startDecims)

theorem State.Sound.preempt {c} (h : s.Sound) : (s.preempt c).Sound := by
  unfold State.preempt
  split
  · exact h.frame
  · exact h.abortConv

theorem State.Sound.skipFive {m} (h : s.Sound) : (s.skipFive m).Sound := by
  unfold State.skipFive
  split
  · exact h.setModul
  · exact h

theorem State.Sound.inputChanged {m} (h : s.Sound) : (s.inputChanged m).Sound := either h h.skipFive

theorem State.Sound.arbitrate1 {id} (h : s.Sound) : (s.arbitrate1 id).Sound := by
  unfold State.arbitrate1
  split
  · exact h
  · exact either h (either h.grant (either (either ((foldl (fun h => h.preempt) h).grant) (foldl (fun h => h.preempt) h)) h))

theorem State.Sound.arbitrate (h : s.Sound) : s.arbitrate.Sound := foldl (fun h => h.arbitrate1) h

theorem State.Sound.formWord {why c} (h : s.Sound) : (s.formWord why c).2.Sound := by
  unfold State.formWord
  extract_lets +onlyGivenNames v
  split
  next w s1 e =>
  have hs1 : s1.Sound := h.writeResult.of_snd e
  split
  · split <;> [exact hs1.frame; exact hs1]
  · split <;> [exact hs1.frame; exact hs1]
  · exact hs1
  · exact hs1

theorem State.Sound.takeChop {m} (h : s.Sound) : (s.takeChop m).Sound := h.setModul
theorem State.Sound.pruneSmp (h : s.Sound) : s.pruneSmp.Sound := h.frame

theorem State.Sound.tapSpec {osrK m lim x y d overload} (h : s.Sound) : (s.tapSpec osrK m lim x y d overload).Sound := by
  unfold State.tapSpec
  extract_lets +onlyGivenNames delay sideB
  clear_value delay sideB
  split
  · extract_lets +onlyGivenNames sus e
    clear_value sus e
    split
    · exact either h.frame h
    · exact h

theorem State.Sound.setConvs {id f} (h : s.Sound) : (s.setConvs id f).Sound := h.frame

theorem State.Sound.convSample {id m d overload} (h : s.Sound) : (s.convSample id m d overload).Sound := by
  unfold State.convSample
  split
  · exact h
  · extract_lets +onlyGivenNames s1 takes next s2 chans s3 s4 c
    have hs1 : s1.Sound := either (foldl (fun h => h.takeChop) h) h
    have hs2 : s2.Sound := either (foldl (fun h => h.tapSpec) hs1) hs1
    have hs3 : s3.Sound := hs2.setConvs
    have hs4 : s4.Sound := foldl (fun h => h.formWord.setConvs) hs3
    clear_value s1 takes next s2 chans s3 s4 c
    split
    · split
      · exact hs4.completeConv
      · exact hs4.dropConvs
      · exact hs4.dropConvs
      · exact hs4
    · exact hs4

theorem State.Sound.deliver {m xs overload} (h : s.Sound) : (s.deliver m xs overload).Sound := by
  unfold State.deliver
  split
  · exact h
  · split
    · exact h
    · exact foldl (fun h => h.convSample) h.untilTb.setModul

/-! #### Of `Issue` -/

theorem State.Sound.setReg {j r w} (h : s.Sound) : (s.setReg j r w).Sound := h.setJet
theorem State.Sound.free (h : s.Sound) : s.free.2.Sound := h.frame
theorem State.Sound.faultIssue {j cause} (h : s.Sound) : (s.faultIssue j cause).Sound := h.until_.faultJet

theorem State.Sound.fetchI {j} (h : s.Sound) : (s.fetchI j).2.Sound := by
  unfold State.fetchI
  split
  · exact h
  · extract_lets +onlyGivenNames w s1 pc
    have hs1 : s1.Sound := h.until_
    clear_value w s1 pc
    split
    · exact pair hs1.setJet.faultFetch
    · extract_lets +onlyGivenNames bad s2
      have hs2 : s2.Sound := hs1.seqEcc
      clear_value bad s2
      split
      · exact pair hs2.free.faultFetch
      · split
        · exact pair hs2
        · exact pair hs2.faultFetch

theorem State.Sound.retire {j at_ cost} (h : s.Sound) : (s.retire j at_ cost).Sound := h.setJet

theorem State.Sound.issueNow {j i run} (h : s.Sound) (hrun : ∀ {t}, t.Sound → (run t).Sound) : (s.issueNow j i run).Sound :=
  either (either h.fetchI.retire (hrun h.fetchI)) h.fetchI

theorem State.Sound.issueKilled {j i run stop q} (h : s.Sound) (hrun : ∀ {t}, t.Sound → (run t).Sound) : (s.issueKilled j i run
    stop q).Sound :=
  either (either (either ((h.setJet.issueNow hrun).nextCycle (fun h => h.stopJet)) ((h.setJet.issueNow hrun).stopJet))
    (h.setJet.issueNow hrun)) h

theorem State.Sound.issue {j i run} (h : s.Sound) (hrun : ∀ {t}, t.Sound → (run t).Sound) : OutSound (s.issue j i run) := by
  unfold State.issue
  split
  · exact .next (h.issueKilled hrun)
  · exact .next (h.issueNow hrun)

theorem State.Sound.jump {j target} (h : s.Sound) : (s.jump j target).Sound := either h.setJet h.faultIssue
theorem State.Sound.await {j cost w safe} (h : s.Sound) : (s.await j cost w safe).Sound := h.setJet
theorem State.Sound.endWait {j rd w next} (h : s.Sound) : (s.endWait j rd w next).Sound := h.setJet
theorem State.Sound.putScratch {i w} (h : s.Sound) : (s.putScratch i w).Sound := h.strmAll.noteOld.inSeq.eccClear

/-! #### Of `BalraxCore` -/

theorem State.Sound.aluStep {j op dst a b} (h : s.Sound) : (s.aluStep j op dst a b).Sound := h.setReg.retire
theorem State.Sound.execAdd {dt j dst a b} (h : s.Sound) : OutSound (execAdd dt j dst a b s) := h.elapse.issue (fun h => h.aluStep)
theorem State.Sound.execSub {dt j dst a b} (h : s.Sound) : OutSound (execSub dt j dst a b s) := h.elapse.issue (fun h => h.aluStep)

theorem State.Sound.execAndOp {dt j dst a b} (h : s.Sound) : OutSound (execAndOp dt j dst a b s) := h.elapse.issue (fun h =>
    h.aluStep)

theorem State.Sound.execOrOp {dt j dst a b} (h : s.Sound) : OutSound (execOrOp dt j dst a b s) := h.elapse.issue (fun h =>
    h.aluStep)

theorem State.Sound.execXorOp {dt j dst a b} (h : s.Sound) : OutSound (execXorOp dt j dst a b s) := h.elapse.issue (fun h =>
    h.aluStep)

theorem State.Sound.execShl {dt j dst a b} (h : s.Sound) : OutSound (execShl dt j dst a b s) := h.elapse.issue (fun h => h.aluStep)
theorem State.Sound.execShr {dt j dst a b} (h : s.Sound) : OutSound (execShr dt j dst a b s) := h.elapse.issue (fun h => h.aluStep)
theorem State.Sound.execSar {dt j dst a b} (h : s.Sound) : OutSound (execSar dt j dst a b s) := h.elapse.issue (fun h => h.aluStep)
theorem State.Sound.execMul {dt j dst a b} (h : s.Sound) : OutSound (execMul dt j dst a b s) := h.elapse.issue (fun h => h.aluStep)

theorem State.Sound.execMinOp {dt j dst a b} (h : s.Sound) : OutSound (execMinOp dt j dst a b s) := h.elapse.issue (fun h =>
    h.aluStep)

theorem State.Sound.execMaxOp {dt j dst a b} (h : s.Sound) : OutSound (execMaxOp dt j dst a b s) := h.elapse.issue (fun h =>
    h.aluStep)

theorem State.Sound.execAddi {dt j ra rb imm} (h : s.Sound) : OutSound (execAddi dt j ra rb imm s) :=
  h.elapse.issue (fun h => h.setReg.retire)

theorem State.Sound.execLui {dt j ra imm} (h : s.Sound) : OutSound (execLui dt j ra imm s) := h.elapse.issue (fun h =>
    h.setReg.retire)

theorem State.Sound.branch {j op ra rb imm} (h : s.Sound) : (s.branch j op ra rb imm).Sound := either h.jump h.retire

theorem State.Sound.execBeq {dt j ra rb imm} (h : s.Sound) : OutSound (execBeq dt j ra rb imm s) := h.elapse.issue (fun h =>
    h.branch)

theorem State.Sound.execBne {dt j ra rb imm} (h : s.Sound) : OutSound (execBne dt j ra rb imm s) := h.elapse.issue (fun h =>
    h.branch)

theorem State.Sound.execBlt {dt j ra rb imm} (h : s.Sound) : OutSound (execBlt dt j ra rb imm s) := h.elapse.issue (fun h =>
    h.branch)

theorem State.Sound.execBge {dt j ra rb imm} (h : s.Sound) : OutSound (execBge dt j ra rb imm s) := h.elapse.issue (fun h =>
    h.branch)

theorem State.Sound.execLoop {dt j ra imm} (h : s.Sound) : OutSound (execLoop dt j ra imm s) :=
  h.elapse.issue (fun h => either h.setReg.retire (either h.setReg.jump h.jump))

theorem State.Sound.execJmp {dt j imm} (h : s.Sound) : OutSound (execJmp dt j imm s) := h.elapse.issue (fun h => h.jump)

theorem State.Sound.execCallOp {dt j imm} (h : s.Sound) : OutSound (execCallOp dt j imm s) :=
  h.elapse.issue (fun h => either h.faultIssue (either h.setJet h.jump))

theorem State.Sound.execRetOp {dt j} (h : s.Sound) : OutSound (execRetOp dt j s) := by
  unfold Machine.execRetOp
  refine h.elapse.issue (fun h => ?_)
  split
  · exact h.faultIssue
  · exact h.setJet

theorem State.Sound.execLd {dt j ra rb imm} (h : s.Sound) : OutSound (execLd dt j ra rb imm s) :=
  h.elapse.issue (fun h => either (either h.seqEcc.faultIssue h.seqEcc.setReg.retire) h.faultIssue)

theorem State.Sound.execSt {dt j ra rb imm} (h : s.Sound) : OutSound (execSt dt j ra rb imm s) :=
  h.elapse.issue (fun h => either h.putScratch.retire h.faultIssue)

theorem State.Sound.execWaitOp {dt j rb imm} (h : s.Sound) : OutSound (execWaitOp dt j rb imm s) :=
  h.elapse.issue (fun h => either h.retire h.await)

theorem State.Sound.execWaitEnd {dt j} (h : s.Sound) : OutSound (execWaitEnd dt j s) := by
  unfold Machine.execWaitEnd
  extract_lets +onlyGivenNames s1
  have hs1 : s1.Sound := h.elapse
  clear_value s1
  split
  · exact .either (.next hs1.untilTb.endWait) (.next hs1)
  · exact .next hs1

theorem State.Sound.execWaitt {dt j dst a} (h : s.Sound) : OutSound (execWaitt dt j dst a s) :=
  h.elapse.issue (fun h => either h.setReg.retire h.await)

theorem State.Sound.execWaittDeadline {dt j} (h : s.Sound) : OutSound (execWaittDeadline dt j s) := by
  unfold Machine.execWaittDeadline
  extract_lets +onlyGivenNames s1
  have hs1 : s1.Sound := h.elapse
  clear_value s1
  split
  · exact .either (.next ((either hs1 hs1.elapseTb).endWait)) (.next hs1)
  · exact .next hs1

theorem State.Sound.execWaittRd {dt j dst} (h : s.Sound) : OutSound (execWaittRd dt j dst s) :=
  h.elapse.issue (fun h => h.setJet.setReg.retire)

theorem State.Sound.execWaittRdh {dt j dst} (h : s.Sound) : OutSound (execWaittRdh dt j dst s) := h.elapse.issue (fun h =>
    h.setReg.retire)

theorem State.Sound.execYield {dt j} (h : s.Sound) : OutSound (execYield dt j s) := h.elapse.issue (fun h => either h.await
    h.setJet.retire)

theorem State.Sound.execHalt {dt j code} (h : s.Sound) : OutSound (execHalt dt j code s) := h.elapse.issue (fun h => h.stopJet)
theorem State.Sound.execIllegalInstruction {dt j} (h : s.Sound) : OutSound (execIllegalInstruction dt j s) := .next h.elapse.fetchI

/-! #### Of `BalraxCells` -/

theorem State.Sound.convStep {j rd w g grid after} (h : s.Sound) : (s.convStep j rd w g grid after).Sound :=
  either (either h.trigger.await h.trigger.setReg.retire) h.faultJet

theorem State.Sound.execConv {dt j rd w group} (h : s.Sound) : OutSound (execConv dt j rd w group s) := h.elapse.issue (fun h =>
    h.convStep)

theorem State.Sound.execSyncv {dt j rd ra w group} (h : s.Sound) : OutSound (execSyncv dt j rd ra w group s) :=
  h.elapse.issue (fun h => h.convStep)

theorem State.Sound.execConvWaitEnd {dt j} (h : s.Sound) : OutSound (execConvWaitEnd dt j s) := by
  unfold Machine.execConvWaitEnd
  extract_lets +onlyGivenNames s1
  have hs1 : s1.Sound := h.elapse
  clear_value s1
  split
  · exact .either (.next hs1.endWait) (.next hs1)
  · exact .next hs1

theorem State.Sound.execGetr {dt j rd ra ch rsel v n} (h : s.Sound) : OutSound (execGetr dt j rd ra ch rsel v n s) :=
  h.elapse.issue (fun h => either h.faultIssue (either h.await h.setReg.takeRead.retire))

theorem State.Sound.execGetrNWake {dt j} (h : s.Sound) : OutSound (execGetrNWake dt j s) := by
  unfold Machine.execGetrNWake
  extract_lets +onlyGivenNames s1
  have hs1 : s1.Sound := h.elapse
  clear_value s1
  split
  · exact .either (.next ((either hs1.markRead hs1).endWait)) (.next hs1)
  · exact .next hs1

theorem State.Sound.execStrm {dt j rd ra rb len1 rsel stream} (h : s.Sound) : OutSound (execStrm dt j rd ra rb len1 rsel stream
    s) :=
  h.elapse.issue (fun h => either h.faultIssue (either h.faultIssue h.await))

theorem State.Sound.strmDecide {j} (h : s.Sound) : (s.strmDecide j).Sound := by
  unfold State.strmDecide
  extract_lets +onlyGivenNames s1
  have hs1 : s1.Sound := h.strmRead
  clear_value s1
  split
  · exact hs1.faultJet
  · exact either hs1.endWait hs1.offer.endWait
  · exact hs1

theorem State.Sound.execStrmDecision {dt j} (h : s.Sound) : OutSound (execStrmDecision dt j s) := by
  unfold Machine.execStrmDecision
  extract_lets +onlyGivenNames s1
  have hs1 : s1.Sound := h.elapse
  clear_value s1
  split
  · exact .either (.next ((foldl (fun h => h.strmDecide) hs1.until_).strmDecide)) (.next hs1)
  · exact .next hs1

theorem State.Sound.execBal {dt j ra rb} (h : s.Sound) : OutSound (execBal dt j ra rb s) :=
  h.elapse.issue (fun h => either h.faultIssue ((foldl (fun h => h.reqLevel) h).retire))

theorem State.Sound.execBalq {dt j rd ra rb} (h : s.Sound) : OutSound (execBalq dt j rd ra rb s) :=
  h.elapse.issue (fun h => either h.faultIssue h.reqQuota.setReg.retire)

theorem State.Sound.execCorr {dt j rd ra bin im} (h : s.Sound) : OutSound (execCorr dt j rd ra bin im s) :=
  h.elapse.issue (fun h => either h.faultIssue h.setReg.retire)

theorem State.Sound.takeFlag {k} (h : s.Sound) : (s.takeFlag k).2.Sound := either1 h.putFlag (either1 h.putFlag h.inSeq)
theorem State.Sound.noteTaker {k j q} (h : s.Sound) : (s.noteTaker k j q).Sound := h.cycMod
theorem State.Sound.awaitFlag {j rd ra k c} (h : s.Sound) : (s.awaitFlag j rd ra k c).Sound := h.await

theorem State.Sound.waiteTake {j rd ra k} (h : s.Sound) : (s.waiteTake j rd ra k).Sound := by
  unfold State.waiteTake
  extract_lets +onlyGivenNames waiting won
  have hwaiting : waiting.Sound := h.awaitFlag
  have hwon : ∀ {t x1}, t.Sound → (won t x1).Sound := fun h => h.setReg.retire
  clear_value waiting won
  split
  · exact either (either ((((hwon h).noteTaker).setJet).putFlag) (((hwon h).noteTaker).setJet)) (either (hwon h.takeFlag) hwaiting)
  · exact either (either ((hwon h.takeFlag).noteTaker) (hwon h.takeFlag)) hwaiting

theorem State.Sound.execWaite {dt j rd ra rb flag rsel c} (h : s.Sound) : OutSound (execWaite dt j rd ra rb flag rsel c s) :=
  h.elapse.issue (fun h => either h.waiteTake (either h.setReg.retire h.awaitFlag))

theorem State.Sound.execWaiteWake {dt j} (h : s.Sound) : OutSound (execWaiteWake dt j s) := by
  unfold Machine.execWaiteWake
  extract_lets +onlyGivenNames s1
  have hs1 : s1.Sound := h.elapse
  clear_value s1
  split
  · exact .either (.next hs1.endWait) (.next hs1)
  · exact .next hs1

theorem State.Sound.execWaiteTimeout {dt j} (h : s.Sound) : OutSound (execWaiteTimeout dt j s) := by
  unfold Machine.execWaiteTimeout
  extract_lets +onlyGivenNames s1
  have hs1 : s1.Sound := h.elapse
  clear_value s1
  split
  · exact .either (.next hs1.untilTb.endWait) (.next hs1)
  · exact .next hs1

theorem State.Sound.execSig {dt j ra flag rsel c} (h : s.Sound) : OutSound (execSig dt j ra flag rsel c s) :=
  h.elapse.issue (fun h => (either h.clearFlag h.setFlag).retire)

/-! #### Of `SeqOps` -/

theorem State.Sound.loadSegs {l o} (h : s.Sound) : (State.loadSegs l o s).2.Sound := by
  induction l generalizing s o with
  | nil => exact h
  | cons x t ih =>
    obtain ⟨w, n, crc⟩ := x
    unfold State.loadSegs
    extract_lets +onlyGivenNames a
    split
    next good s1 e =>
    have hs1 : s1.Sound := h.mramRead.of_snd e
    split
    · exact hs1
    · split
      · exact hs1
      · split
        · next e => exact (ih hs1).of_snd e
        · next e => exact (ih hs1).of_snd e

theorem State.Sound.checkContainer (h : s.Sound) : s.checkContainer.2.Sound := by
  unfold State.checkContainer
  split
  · rename_i t e
    have ht : t.Sound := h.mramRead.of_snd e
    exact either1 ht (either1 ht (either1 ht (either1 ht ht.loadSegs)))

theorem State.Sound.loadStart {stopMask} (h : s.Sound) : (s.loadStart stopMask).Sound := by
  unfold State.loadStart
  split
  · exact h.inSeq
  · split
    · rename_i t e
      have ht : t.Sound := h.checkContainer.of_snd e
      exact ht.inSeq
    · rename_i t e
      have ht : t.Sound := h.checkContainer.of_snd e
      exact foldl (fun h => h.stopReq) ht.inSeq

theorem State.Sound.execAutoload {dt} (h : s.Sound) : OutSound (execAutoload dt s) :=
  .either (.next (either h.elapse.frame.loadStart h.elapse.frame)) (.next h.elapse)

theorem State.Sound.execLoadStopTimeout {dt} (h : s.Sound) : OutSound (execLoadStopTimeout dt s) := by
  unfold Machine.execLoadStopTimeout
  extract_lets +onlyGivenNames s1
  have hs1 : s1.Sound := h.elapse
  clear_value s1
  split
  · exact .either (.next (foldl (fun h => h.killJet) hs1.until_)) (.next hs1)
  · exact .next hs1

theorem State.Sound.execProgramLoadDone {dt} (h : s.Sound) : OutSound (execProgramLoadDone dt s) := by
  unfold Machine.execProgramLoadDone
  extract_lets +onlyGivenNames s1
  have hs1 : s1.Sound := h.elapse
  clear_value s1
  split
  · exact .either (.next ((either (foldl (fun h => either h.startJet h) (foldl (fun h => h.putProg) hs1)) (foldl (fun h =>
      h.putProg) hs1)).inSeq)) (.next hs1)
  · exact .next hs1

theorem State.Sound.execJetStopTake {dt j} (h : s.Sound) : OutSound (execJetStopTake dt j s) :=
  .either (.next h.elapse.until_.stopJet) (.next h.elapse)

theorem State.Sound.execJetWatchdogExpiry {dt j} (h : s.Sound) : OutSound (execJetWatchdogExpiry dt j s) :=
  .either (.next h.elapse.until_.stopJet.present1) (.next h.elapse)

theorem State.Sound.triggerAll {src stand grid sel} (h : s.Sound) : (s.triggerAll src stand grid sel).Sound :=
  foldl (fun h => either h.triggerFrom h) h

theorem State.Sound.execSyncTickTrigger {dt} (h : s.Sound) : OutSound (execSyncTickTrigger dt s) :=
  .either (.next h.elapse.untilMod.triggerAll) (.next h.elapse.untilMod)

theorem State.Sound.execSyncPinEdge {dt rising} (h : s.Sound) : OutSound (execSyncPinEdge dt rising s) := by
  unfold Machine.execSyncPinEdge
  extract_lets +onlyGivenNames s1
  have hs1 : s1.Sound := h.elapse
  clear_value s1
  refine .either (.next (State.Sound.triggerAll ?_)) (.next hs1)
  split
  · exact either hs1.inSeq.setRun hs1.inSeq
  · exact hs1.inSeq

theorem State.Sound.execIntervalTimerFire {dt i} (h : s.Sound) : OutSound (execIntervalTimerFire dt i s) :=
  .either (.next h.elapse.untilMod.triggerAll) (.next h.elapse)

/-! #### Of `PowerOps` -/

theorem State.Sound.reqStatus {n} (h : s.Sound) : (s.reqStatus n).Sound := h.frame

theorem State.Sound.localRequest {target} (h : s.Sound) : (s.localRequest target).Sound := by
  unfold State.localRequest
  split
  · exact h.reqStatus
  · split
    · exact h.reqStatus
    · split
      · exact h.reqStatus
      · split
        · exact either h.reqStatus h.reqStatus.beginCommit
        · exact h.reqStatus

theorem State.Sound.prepare {epoch target tc} (h : s.Sound) : (s.prepare epoch target tc).Sound := by
  unfold State.prepare
  split
  · exact h.frame
  · exact either h.frame h.frame.frame

theorem State.Sound.raiseMissed {epoch target c} (h : s.Sound) : (s.raiseMissed epoch target c).Sound := (either h.frame h).present1

theorem State.Sound.commitFrame {epoch target tc} (h : s.Sound) : (s.commitFrame epoch target tc).Sound :=
  either h (either (either h.raiseMissed h.raiseMissed) h.frame)

theorem State.Sound.dropPrepared {p missed} (h : s.Sound) : (s.dropPrepared p missed).Sound := h.frame

theorem State.Sound.prepDue {p mine} (h : s.Sound) : (s.prepDue p mine).Sound := by
  unfold State.prepDue
  split
  · split
    · exact h.frame
    · split
      · exact h.dropPrepared.raiseMissed
      · exact h.frame.beginCommit
      · exact h.dropPrepared.raiseMissed
  · exact either h.dropPrepared.raiseMissed h.dropPrepared.raiseMissed

theorem State.Sound.execChainCommitTime {dt} (h : s.Sound) : OutSound (execChainCommitTime dt s) := by
  unfold Machine.execChainCommitTime
  extract_lets +onlyGivenNames s1
  have hs1 : s1.Sound := h.elapse
  clear_value s1
  split
  · exact .next hs1
  · split
    · exact .next hs1
    · extract_lets +onlyGivenNames s2 due s3
      have hs2 : s2.Sound := hs1.untilTb
      clear_value s2 due s3
      extract_lets +onlyGivenNames s4
      have hs4 : s4.Sound := hs2.frame
      clear_value s4
      split
      · exact .either (.next ((foldl (fun h => h.raiseMissed) hs4).prepDue)) (.next (foldl (fun h => h.raiseMissed) hs4))
      · exact .next (foldl (fun h => h.raiseMissed) hs4)

theorem State.Sound.preemptPrepared (h : s.Sound) : s.preemptPrepared.Sound := by
  unfold State.preemptPrepared
  split
  · exact h.dropPrepared.frame.raiseMissed
  · exact h

theorem State.Sound.keyWrite {rq key armed} (h : s.Sound) : (s.keyWrite rq key armed).Sound :=
  either h (either h.frame (either (either h.frame h) (either h.frame h)))

theorem State.Sound.execLockTimeout {dt} (h : s.Sound) : OutSound (execLockTimeout dt s) := by
  unfold Machine.execLockTimeout
  extract_lets +onlyGivenNames s1
  have hs1 : s1.Sound := h.elapse
  clear_value s1
  split
  · exact .next hs1.until_.frame
  · exact .next hs1

theorem State.Sound.cfgSave (h : s.Sound) : s.cfgSave.Sound := either h h.frame

theorem State.Sound.execConfigSaveDone {dt ok} (h : s.Sound) : OutSound (execConfigSaveDone dt ok s) := by
  unfold Machine.execConfigSaveDone
  extract_lets +onlyGivenNames s1
  have hs1 : s1.Sound := h.elapse
  clear_value s1
  split
  · exact .either (.next hs1) (.next hs1.pageDone.frame)
  · exact .next hs1

theorem State.Sound.cfgDiscard (h : s.Sound) : s.cfgDiscard.Sound := either h (((foldl (fun h => h.setUnder) h).frame).frame)

theorem State.Sound.ovlWrite {a v} (h : s.Sound) : OptSound (s.ovlWrite a v) := by
  unfold State.ovlWrite
  split
  · exact .some h
  · exact eitherOpt (eitherOpt .none (eitherOpt .none (.some h.frame))) (eitherOpt (.some h.frame) (.some h.frame))

theorem State.Sound.resetTo {a step} (h : s.Sound) : (s.resetTo a step).Sound :=
  ⟨h.mram, Nat.zero_le _, Nat.zero_le _, Nat.zero_le _, Nat.zero_le _⟩

theorem State.Sound.resetWith {test a step} (h : s.Sound) : (s.resetWith test a step).Sound := h.resetTo.frame
theorem State.Sound.lpoStart (h : s.Sound) : s.lpoStart.Sound := h.inFlt

theorem State.Sound.execPowerOnReset {dt test} (h : s.Sound) : OutSound (execPowerOnReset dt test s) := .next
    h.elapse.resetWith.lpoStart

theorem State.Sound.dipEndsInReset (h : s.Sound) : s.dipEndsInReset.Sound := either h.free.frame h

theorem State.Sound.execSupplyReset {dt src test} (h : s.Sound) : OutSound (execSupplyReset dt src test s) := by
  unfold Machine.execSupplyReset
  extract_lets +onlyGivenNames s1
  have hs1 : s1.Sound := h.elapse
  clear_value s1
  split
  · exact .next hs1.dipEndsInReset.resetWith
  · split
    · split
      · exact .either (.next hs1.until_.resetWith) (.next hs1)
      · exact .next hs1
    · exact .either (.next hs1.resetWith) (.next hs1)

theorem State.Sound.execCommandReset {dt rq test} (h : s.Sound) : OutSound (execCommandReset dt rq test s) :=
  .either (.next h.elapse.resetWith) (.next h.elapse)

theorem State.Sound.execWakeReset {dt cause test} (h : s.Sound) : OutSound (execWakeReset dt cause test s) :=
  .either (.next h.elapse.resetWith) (.next h.elapse)

theorem State.Sound.execVstkResetRising {e} (h : s.Sound) : OutSound (execVstkResetRising e s) := .next (either h.elapse.frame
    h.elapse)

/-! #### Of `OpenWire` -/

theorem State.Sound.setOw {r} (h : s.Sound) : (s.setOw r).Sound := h.frame
theorem State.Sound.owConvert {why phase} (h : s.Sound) : (s.owConvert why phase).Sound := h.frame
theorem State.Sound.sinksOff (h : s.Sound) : s.sinksOff.Sound := h.frame

theorem State.Sound.owAbort (h : s.Sound) : s.owAbort.Sound := by
  unfold State.owAbort
  split
  · exact h.sinksOff.dropConvs.frame.redrive
  · exact h

theorem State.Sound.execOwPeriodExpiry {dt} (h : s.Sound) : OutSound (execOwPeriodExpiry dt s) := by
  unfold Machine.execOwPeriodExpiry
  extract_lets +onlyGivenNames s1
  have hs1 : s1.Sound := h.elapse
  clear_value s1
  split
  · exact .either (.next hs1) (.next hs1.until_.owDue)
  · exact .next hs1

theorem State.Sound.execOwPhaseStart {dt} (h : s.Sound) : OutSound (execOwPhaseStart dt s) := by
  unfold Machine.execOwPhaseStart
  extract_lets +onlyGivenNames s1
  have hs1 : s1.Sound := h.elapse
  clear_value s1
  split
  · exact .either (.next (foldl (fun h => h.openOut) hs1.setOw)) (.next hs1)
  · exact .next hs1

theorem State.Sound.execOwBaselineStart {dt} (h : s.Sound) : OutSound (execOwBaselineStart dt s) := by
  unfold Machine.execOwBaselineStart
  extract_lets +onlyGivenNames s1
  have hs1 : s1.Sound := h.elapse
  clear_value s1
  split
  · exact .either (.next hs1.until_.setOw.owConvert) (.next hs1)
  · exact .next hs1

theorem State.Sound.execOwSinksOn {dt} (h : s.Sound) : OutSound (execOwSinksOn dt s) := by
  unfold Machine.execOwSinksOn
  extract_lets +onlyGivenNames s1
  have hs1 : s1.Sound := h.elapse
  clear_value s1
  split
  · exact .either (.next hs1.setOw.frame) (.next hs1)
  · exact .next hs1

theorem State.Sound.execOwCheckStart {dt} (h : s.Sound) : OutSound (execOwCheckStart dt s) := by
  unfold Machine.execOwCheckStart
  extract_lets +onlyGivenNames s1
  have hs1 : s1.Sound := h.elapse
  clear_value s1
  split
  · exact .either (.next hs1.until_.setOw.owConvert) (.next hs1)
  · exact .next hs1

theorem State.Sound.execOwEvaluate {dt} (h : s.Sound) : OutSound (execOwEvaluate dt s) := by
  unfold Machine.execOwEvaluate
  extract_lets +onlyGivenNames s1
  have hs1 : s1.Sound := h.elapse
  clear_value s1
  split
  · exact .either (.next hs1.sinksOff.setOw.frame.present) (.next hs1)
  · exact .next hs1

theorem State.Sound.execOwPhaseEnd {dt} (h : s.Sound) : OutSound (execOwPhaseEnd dt s) := by
  unfold Machine.execOwPhaseEnd
  extract_lets +onlyGivenNames s1
  have hs1 : s1.Sound := h.elapse
  clear_value s1
  split
  · exact .either (.either (.next hs1.until_.setOw.redrive) (.next hs1.until_.frame.redrive)) (.next hs1)
  · exact .next hs1

/-! #### Of `Ports` -/

theorem State.Sound.freeTag {tag} (h : s.Sound) : (s.freeTag tag).Sound := h.inNet
theorem State.Sound.lateAnswer (h : s.Sound) : s.lateAnswer.Sound := h.inNet

theorem State.Sound.tagAnswer {f} (h : s.Sound) : (s.tagAnswer f).Sound := by
  unfold State.tagAnswer
  split
  · exact h.lateAnswer
  · exact either h.inNet.rxPut (either h.freeTag.rxPut h.lateAnswer)

theorem State.Sound.respond {typ cls tag payload} (h : s.Sound) : (s.respond typ cls tag payload).Sound :=
  either (either h.rxPut h.tagAnswer) h.send

theorem State.Sound.sendNet {p op} (h : s.Sound) : (s.sendNet p op).Sound := h.send
theorem State.Sound.setEnum {e} (h : s.Sound) : (s.setEnum e).Sound := h.inNet
theorem State.Sound.enumSend {e op} (h : s.Sound) : (s.enumSend e op).Sound := either h.setEnum.sendNet h.setEnum.sendNet
theorem State.Sound.setRing {r} (h : s.Sound) : (s.setRing r).Sound := either h h.inNet
theorem State.Sound.recover {expect} (h : s.Sound) : (s.recover expect).Sound := h.inNet.sendNet

theorem State.Sound.closeCollect (h : s.Sound) : s.closeCollect.Sound := by
  unfold State.closeCollect
  split
  · exact h
  · extract_lets +onlyGivenNames src s1
    have hs1 : s1.Sound := h.inNet
    clear_value s1
    split <;> exact hs1.inNet.setRing

theorem State.Sound.sendNormal (h : s.Sound) : s.sendNormal.Sound := (either h.sendNet.sendNet h.sendNet).inNet
theorem State.Sound.portLost {p} (h : s.Sound) : (s.portLost p).Sound := either (either h.recover h) h.setPort
theorem State.Sound.portTrain {p} (h : s.Sound) : (s.portTrain p).Sound := either h.setPort.portLost h.setPort
theorem State.Sound.portOff {p} (h : s.Sound) : (s.portOff p).Sound := either h.setPort.portLost h.setPort
theorem State.Sound.portUp {p} (h : s.Sound) : (s.portUp p).Sound := h.setPort

theorem State.Sound.portCheck (h : s.Sound) : s.portCheck.Sound := by
  unfold State.portCheck
  extract_lets +onlyGivenNames one
  have hone : ∀ {t x1}, t.Sound → (one t x1).Sound := fun h => either (either h.portTrain h) (either h h.portOff)
  clear_value one
  exact hone (hone h)

theorem State.Sound.toneSend {p} (h : s.Sound) : (s.toneSend p).Sound := either h.frame.wcSet h.setPort

/-! #### Of `PowerEvents` -/

theorem State.Sound.setSupply {i b} (h : s.Sound) : (s.setSupply i b).Sound := h.frame

theorem State.Sound.execSupplyDipStart {v} (h : s.Sound) : OutSound (execSupplyDipStart v s) :=
  .either (.next h.elapse.setSupply.frame.present1) (.next h.elapse)

theorem State.Sound.execSupplyDipRecovery {v} (h : s.Sound) : OutSound (execSupplyDipRecovery v s) :=
  .either (.next h.elapse.setSupply.frame) (.next h.elapse)

theorem State.Sound.execSupplyDipEnd {dt vmin} (h : s.Sound) : OutSound (execSupplyDipEnd dt vmin s) := by
  unfold Machine.execSupplyDipEnd
  extract_lets +onlyGivenNames s1
  have hs1 : s1.Sound := h.elapse
  clear_value s1
  split
  · exact .either (.next hs1.until_.frame.ledger) (.next hs1)
  · exact .next hs1

theorem State.Sound.execRailSupervisorTrip {dt rail} (h : s.Sound) : OutSound (execRailSupervisorTrip dt rail s) :=
  .either (.next ((either h.elapse.setSupply h.elapse.setSupply.frame).present1)) (.next h.elapse)

theorem State.Sound.execVregFault {dt} (h : s.Sound) : OutSound (execVregFault dt s) :=
  .either (.next h.elapse.setSupply.frame.present1) (.next h.elapse)

theorem State.Sound.execVregRecovery {dt} (h : s.Sound) : OutSound (execVregRecovery dt s) :=
  .either (.next h.elapse.setSupply.frame) (.next h.elapse)

theorem State.Sound.execStackOv {dt} (h : s.Sound) : OutSound (execStackOv dt s) := .either (.next h.elapse) (.next
    h.elapse.frame.present1)

theorem State.Sound.execStackLimitReturn {dt} (h : s.Sound) : OutSound (execStackLimitReturn dt s) := .next h.elapse.frame
theorem State.Sound.holdPorts {b} (h : s.Sound) : (s.holdPorts b).Sound := h.frame

theorem State.Sound.execVchnUndervoltage {dt} (h : s.Sound) : OutSound (execVchnUndervoltage dt s) :=
  .next h.elapse.setSupply.holdPorts.portCheck

theorem State.Sound.execVchnRestored {dt} (h : s.Sound) : OutSound (execVchnRestored dt s) := .next
    h.elapse.setSupply.holdPorts.portCheck

theorem State.Sound.clearDecims (h : s.Sound) : s.clearDecims.Sound := h.frame

theorem State.Sound.restartConvs (h : s.Sound) : s.restartConvs.Sound := by
  unfold State.restartConvs
  extract_lets +onlyGivenNames ids s1
  have hs1 : s1.Sound := h.frame
  clear_value ids s1
  refine foldl (fun h => ?_) hs1
  split
  · exact h.grant
  · exact h

theorem State.Sound.losePll {src} (h : s.Sound) : (s.losePll src).Sound := h.readsNow.frame.reclockJets.clearDecims.portCheck

theorem State.Sound.execPllUnlock {dt} (h : s.Sound) : OutSound (execPllUnlock dt s) :=
  .either (.next h.elapse.losePll.present1) (.next h.elapse)

theorem State.Sound.execPllRelockRetry {dt ok} (h : s.Sound) : OutSound (execPllRelockRetry dt ok s) :=
  .either (.either (.next h.elapse.until_.readsNow.frame.reclockJets.restartConvs.portCheck) (.next h.elapse.until_.frame))
    (.next h.elapse)

theorem State.Sound.execClockMonitor {dt} (h : s.Sound) : OutSound (execClockMonitor dt s) :=
  .either (.next (either h.elapse.readsNow.frame.reclockJets.losePll.present h.elapse.readsNow.frame.reclockJets.present1))
    (.next h.elapse)

theorem State.Sound.execReferenceOscillatorRecovery {dt} (h : s.Sound) : OutSound (execReferenceOscillatorRecovery dt s) :=
  .either (.next h.elapse.readsNow.frame.reclockJets) (.next h.elapse)

theorem State.Sound.execLpoFault {dt} (h : s.Sound) : OutSound (execLpoFault dt s) :=
  .either (.next h.elapse.inFlt.present1) (.next h.elapse)

theorem State.Sound.execLpoRecovery {dt} (h : s.Sound) : OutSound (execLpoRecovery dt s) := .next (either h.elapse.frame h.elapse)

theorem State.Sound.wake {cause} (h : s.Sound) : (s.wake cause).Sound := by
  unfold State.wake
  split
  · exact h.frame
  · exact h.frame
  · exact either h h.frame.beginCommit
  · exact h

theorem State.Sound.execStillScan {dt cell mv} (h : s.Sound) : OutSound (execStillScan dt cell mv s) :=
  .either (.next (either h.elapse.until_.frame.wake h.elapse.until_.frame)) (.next h.elapse)

theorem State.Sound.execWakeTimerExpiry {dt} (h : s.Sound) : OutSound (execWakeTimerExpiry dt s) :=
  .either (.next h.elapse.until_.wake) (.next h.elapse)

theorem State.Sound.filtered {pin lo hi len} (h : s.Sound) : (s.filtered pin lo hi len).2.Sound := either1 h (either1 h h.frame)

theorem State.Sound.execWakePin {e} (h : s.Sound) : OutSound (execWakePin e s) :=
  .either (.next h.elapse.filtered.wake) (.next h.elapse.filtered)

theorem State.Sound.execWakeToneDetected {dt _p} (h : s.Sound) : OutSound (execWakeToneDetected dt _p s) :=
  .either (.next h.elapse.wake) (.next h.elapse)

theorem State.Sound.execLpoShipStart {dt} (h : s.Sound) : OutSound (execLpoShipStart dt s) := .next (either h.elapse.inFlt h.elapse)
theorem State.Sound.execLpoShipStop {dt} (h : s.Sound) : OutSound (execLpoShipStop dt s) := .next (either h.elapse.frame h.elapse)

theorem State.Sound.execBuckBurstEnable {dt} (h : s.Sound) : OutSound (execBuckBurstEnable dt s) :=
  .either (.next h.elapse.until_.frame) (.next h.elapse)

theorem State.Sound.execSupervisorUnmask {dt} (h : s.Sound) : OutSound (execSupervisorUnmask dt s) :=
  .either (.next h.elapse.until_.frame) (.next h.elapse)

theorem State.Sound.execWatchBurstStart {dt} (h : s.Sound) : OutSound (execWatchBurstStart dt s) :=
  .either (.next h.elapse.until_.jetsAfterGap.inFlt.notePower.owEnter) (.next h.elapse)

theorem State.Sound.execWatchBurstEnd {dt} (h : s.Sound) : OutSound (execWatchBurstEnd dt s) :=
  .either (.next h.elapse.readsNow.frame.notePower) (.next h.elapse)

/-! #### Of `Check` -/

theorem State.Sound.noteChk {n} (h : s.Sound) : (s.noteChk n).Sound := h.noteOld.noteOld.noteOld
theorem State.Sound.chkStart {rq n} (h : s.Sound) : (s.chkStart rq n).Sound := either h.noteChk.setChk.chkBytes h.noteChk.setChk

theorem State.Sound.chkFinish {n} (h : s.Sound) : (s.chkFinish n).Sound := by
  unfold State.chkFinish
  extract_lets +onlyGivenNames s1 c s2 alg r s3 s4
  have hs1 : s1.Sound := h.noteChk
  have hs2 : s2.Sound := by
    unfold s2
    split
    · split
      · exact hs1.chkBytes.setChk
      · exact hs1
    · exact hs1
  have hs3 : s3.Sound := hs2.setChk
  clear_value s1 c s2 alg r s3 s4
  exact either ((((either hs3.setUnder hs3).setChk).wcSet).present1) (either hs3.setUnder hs3)

theorem State.Sound.chkFeed {n finish} (h : s.Sound) : (s.chkFeed n finish).Sound := either h.setChk h.setChk

theorem State.Sound.feedDone {n} (h : s.Sound) : (s.feedDone n).Sound := by
  unfold State.feedDone
  extract_lets +onlyGivenNames s1
  have hs1 : s1.Sound := h.feedsPage.feedsMram
  clear_value s1
  split
  · exact hs1
  · exact either (either (hs1.setChk.noteChk.nextCycle (fun h => h.chkFinish)) hs1.setChk) hs1.setChk

theorem State.Sound.chkCtl {rq n v} (h : s.Sound) : OptSound (s.chkCtl rq n v) := by
  unfold State.chkCtl
  extract_lets +onlyGivenNames start feed fin abort
  clear_value start feed fin abort
  split
  · exact .none
  · extract_lets +onlyGivenNames s1 s2
    have hs1 : s1.Sound := either h.feedsPage.feedsMram h
    have hs2 : s2.Sound := either hs1.chkStart hs1
    clear_value s1 s2
    exact eitherOpt (.some hs2) (eitherOpt (.some hs2.setChk) (eitherOpt (.some hs2.chkFeed) (eitherOpt (.some hs2.chkFinish)
      (.some hs2))))

theorem State.Sound.chkOwn {rq n} (h : s.Sound) : (s.chkOwn rq n).Sound := either h.setChk h

theorem State.Sound.chkWrite {rq n k v} (h : s.Sound) : OptSound (s.chkWrite rq n k v) := by
  unfold State.chkWrite
  extract_lets +onlyGivenNames c jet
  clear_value c jet
  split
  · exact .none
  · split
    · exact .some (either h.chkOwn.setChk h.chkOwn)
    · split
      · exact .some h.chkOwn
      · split
        · exact eitherOpt h.chkCtl .none
        · extract_lets +onlyGivenNames s1
          have hs1 : s1.Sound := h.chkOwn
          clear_value s1
          split
          · exact hs1.chkCtl
          · exact eitherOpt .none (.some (either hs1.chkBytes hs1))
          · exact eitherOpt .none (.some (either hs1.chkBytes hs1))
          · exact .some hs1.setUnder

/-! #### Of `Rill` -/

theorem State.Sound.setRent {i f} (h : s.Sound) : (s.setRent i f).Sound := h.frame

theorem State.Sound.rilStart {t} (h : s.Sound) : (s.rilStart t).Sound := by
  unfold State.rilStart
  split
  · exact h
  · split
    · exact h
    · extract_lets +onlyGivenNames s1
      clear_value s1
      extract_lets +onlyGivenNames s2
      have hs2 : s2.Sound := h.frame
      clear_value s2
      split
      · exact hs2.frame
      · exact hs2.frame
      · exact hs2.frame
      · exact hs2.frame
      · exact hs2

theorem State.Sound.rilFree {t} (h : s.Sound) : (s.rilFree t).Sound := h.frame.rilStart

theorem State.Sound.roundEnd {t} (h : s.Sound) : (s.roundEnd t).Sound := by
  unfold State.roundEnd
  split
  · split
    · exact either (either h.frame.setFlag h.frame) h
    · exact h
  · exact h

theorem State.Sound.directEnd {st} (h : s.Sound) : (s.directEnd st).Sound := h.frame

theorem State.Sound.rilSettle {k} (h : s.Sound) : (State.rilSettle k s).Sound := by
  induction k generalizing s with
  | zero => exact h
  | succ k ih =>
    unfold State.rilSettle
    split
    · next e _ =>
      have hs1 : State.Sound (match s.ril.bus with
          | some .conv => { s with ril := { s.ril with round := s.ril.round.map (fun r => { r with convEnd := some e }) } }
          | _ => s.directEnd 1) := by
        split
        · exact h.frame
        · exact h.directEnd
      exact either (ih hs1.rilFree) h
    · exact either (either (ih h.rilStart) h.rilStart) h

theorem State.Sound.rilElapse {dt} (h : s.Sound) : (s.rilElapse dt).Sound := h.elapse.rilSettle

theorem State.Sound.searchEnd {st cause code} (h : s.Sound) : (s.searchEnd st cause code).Sound := by
  unfold State.searchEnd
  extract_lets +onlyGivenNames s1 s2 s3
  have hs2 : s2.Sound := h.frame
  clear_value s1 s2 s3
  extract_lets +onlyGivenNames s4 s5
  have hs4 : s4.Sound := by
    unfold s4
    split
    · exact hs2.frame
    · exact hs2.frame
    · exact hs2
  have hs5 : s5.Sound := hs4.endOp
  clear_value s4 s5
  exact hs5.rilStart

theorem State.Sound.searchShow {q} (h : s.Sound) : (s.searchShow q).Sound := either h h.present1

theorem State.Sound.discrepancy {q} (h : s.Sound) : (s.discrepancy q).Sound := either h.searchShow.frame.searchEnd
    h.searchShow.frame.frame

theorem State.Sound.takeEntry {id} (h : s.Sound) : (s.takeEntry id).Sound := by
  unfold State.takeEntry
  split
  · exact h.setRent.wcSet
  · split
    · exact h.wcSet.setRent.setUnder
    · exact h

theorem State.Sound.searchCommit {q more} (h : s.Sound) : (s.searchCommit q more).Sound := by
  unfold State.searchCommit
  extract_lets +onlyGivenNames s1 fresh s2 now changed s3 s4
  have hs1 : s1.Sound := foldl (fun h => either h (either h.setRent h.setRent)) h
  have hs2 : s2.Sound := foldl (fun h => h.takeEntry) hs1
  have hs4 : s4.Sound := hs2.frame
  clear_value s1 fresh s2 now changed s3 s4
  exact (either hs4.searchShow hs4).searchEnd

theorem State.Sound.searchStep {q} (h : s.Sound) : (s.searchStep q).Sound := by
  unfold State.searchStep
  split
  · exact either h.discrepancy (either h.discrepancy h.frame)
  · split
    · exact h.discrepancy
    · split
      · exact h.discrepancy
      · split
        · exact h.searchCommit
        · exact h.frame

theorem State.Sound.echoDone {ok} (h : s.Sound) : (s.echoDone ok).Sound := by
  unfold State.echoDone
  split
  · exact h
  · split
    · exact h
    · exact either (either h.searchCommit h.searchStep) h.searchStep

theorem State.Sound.searchStart {rq} (h : s.Sound) : (s.searchStart rq).Sound :=
  either h.frame (either h.frame h.startOp.frame.frame.rilStart)

theorem State.Sound.execAutoSearch {dt} (h : s.Sound) : OutSound (execAutoSearch dt s) := by
  unfold Machine.execAutoSearch
  extract_lets +onlyGivenNames s1 go
  have hs1 : s1.Sound := h.rilElapse
  have hgo : ∀ {t}, t.Sound → OutSound (go t) := fun h => .either (.next h.searchStart) (.next h)
  clear_value s1 go
  split
  · exact hgo hs1.frame
  · split
    · exact .either (hgo hs1.until_.rilSettle.frame) (.either (.next hs1.until_.rilSettle.frame.frame) (.next
        hs1.until_.rilSettle.frame))
    · exact .next hs1

theorem State.Sound.execQueryDone {dt slots} (h : s.Sound) : OutSound (execQueryDone dt slots s) := by
  unfold Machine.execQueryDone
  extract_lets +onlyGivenNames s1
  have hs1 : s1.Sound := h.rilElapse
  clear_value s1
  split
  · exact .next hs1
  · exact .either (.next ((either hs1.until_.frame.discrepancy hs1.until_.frame.searchStep).rilStart)) (.next hs1)

theorem State.Sound.execRilEcho {dt ok} (h : s.Sound) : OutSound (execRilEcho dt ok s) :=
  .either (.next h.rilElapse.until_.frame.echoDone.rilStart) (.next h.rilElapse)

theorem State.Sound.searchFail (h : s.Sound) : s.searchFail.Sound := either h.frame (either h.searchEnd h)

theorem State.Sound.rilBusFault (h : s.Sound) : s.rilBusFault.Sound := by
  unfold State.rilBusFault
  extract_lets +onlyGivenNames s1
  clear_value s1
  extract_lets +onlyGivenNames s2
  have hs2 : s2.Sound := by
    unfold s2
    split
    · exact h.directEnd
    · exact h.frame
    · exact h.setRent.frame
    · exact h
  clear_value s2
  exact hs2.frame.roundEnd.searchFail

theorem State.Sound.rlvOff (h : s.Sound) : s.rlvOff.Sound := either h ((either h.frame.rilBusFault.directEnd
    h.frame.rilBusFault).frame)

theorem State.Sound.rlvCheck (h : s.Sound) : s.rlvCheck.Sound := either h h.rlvOff.frame
theorem State.Sound.rlvTurnOn (h : s.Sound) : s.rlvTurnOn.Sound := h.frame

theorem State.Sound.execRlvOn {dt} (h : s.Sound) : OutSound (execRlvOn dt s) := .either (.next h.rilElapse.rlvTurnOn) (.next
    h.rilElapse)

theorem State.Sound.execRlvCurrentLimit {dt} (h : s.Sound) : OutSound (execRlvCurrentLimit dt s) :=
  .either (.next h.rilElapse.rlvOff.frame.wcSet.present1) (.next h.rilElapse)

theorem State.Sound.execRlvRetry {dt} (h : s.Sound) : OutSound (execRlvRetry dt s) := by
  unfold Machine.execRlvRetry
  extract_lets +onlyGivenNames s1
  have hs1 : s1.Sound := h.rilElapse
  clear_value s1
  split
  · exact .either (.next hs1.until_.rlvTurnOn) (.next hs1.until_.frame)
  · exact .next hs1

theorem State.Sound.execBusStuck {dt} (h : s.Sound) : OutSound (execBusStuck dt s) :=
  .either (.next h.rilElapse.frame.rilBusFault.wcSet.present1) (.next h.rilElapse)

theorem State.Sound.execPollRound {dt} (h : s.Sound) : OutSound (execPollRound dt s) :=
  .either (.next h.rilElapse) (.either (.next h.rilElapse.untilMod.rilSettle.frame) (.next
    h.rilElapse.untilMod.rilSettle.frame.rilStart))

theorem State.Sound.execPollRead {dt} (h : s.Sound) : OutSound (execPollRead dt s) := by
  unfold Machine.execPollRead
  extract_lets +onlyGivenNames s1
  have hs1 : s1.Sound := h.rilElapse
  clear_value s1
  split
  · split
    · exact .next (either hs1.until_.rilStart.roundEnd hs1.until_.rilStart)
    · exact .next hs1
  · exact .next hs1

theorem State.Sound.readOver {i} (h : s.Sound) : (s.readOver i).Sound := h.frame.roundEnd.rilStart
theorem State.Sound.noAnswer {i} (h : s.Sound) : (s.noAnswer i).Sound := either h.setRent.frame h.setRent.frame.present1

theorem State.Sound.execReplyTimeout {dt} (h : s.Sound) : OutSound (execReplyTimeout dt s) := by
  unfold Machine.execReplyTimeout
  extract_lets +onlyGivenNames s1 due
  have hs1 : s1.Sound := h.rilElapse
  have hdue : ∀ {t}, t.Sound → (due t).Sound := fun h => h.until_
  clear_value s1 due
  split
  · exact .next (((hdue hs1).noAnswer).readOver)
  · split
    · exact .either (.next (((hdue hs1).directEnd).rilFree)) (.next hs1)
    · exact .next hs1
  · exact .either (.next ((((hdue hs1).frame).echoDone).rilStart)) (.next hs1)
  · exact .next hs1

theorem State.Sound.execRillReply {dt bytes crc} (h : s.Sound) : OutSound (execRillReply dt bytes crc s) := by
  unfold Machine.execRillReply
  extract_lets +onlyGivenNames s1
  have hs1 : s1.Sound := h.rilElapse
  clear_value s1
  split
  · exact .next ((either hs1.until_.setRent hs1.until_.setRent).readOver)
  · split
    · exact .either (.next hs1.until_.frame.directEnd.rilFree) (.next hs1)
    · exact .next hs1
  · exact .either (.next hs1.until_.frame.echoDone.rilStart) (.next hs1)
  · exact .next hs1

theorem State.Sound.directStart {x} (h : s.Sound) : (s.directStart x).Sound :=
  either h (either h.frame.wcSet (either h.frame (either h.frame h.frame.rilStart)))

theorem State.Sound.suspendRil (h : s.Sound) : s.suspendRil.Sound := by
  unfold State.suspendRil
  extract_lets +onlyGivenNames s1
  have hs1 : s1.Sound := h.rilSettle
  clear_value s1
  split
  · exact hs1.rilFree
  · exact hs1.rilFree
  · exact hs1

theorem State.Sound.resumeRil (h : s.Sound) : s.resumeRil.Sound := by
  unfold State.resumeRil
  extract_lets +onlyGivenNames s1
  have hs1 : s1.Sound := h.rilSettle
  clear_value s1
  split
  · exact either hs1.frame.rilStart hs1.searchEnd
  · exact hs1

/-! #### Of `Rotation` -/

theorem State.Sound.modXbar {sp f} (h : s.Sound) : (s.modXbar sp f).Sound := h.frame
theorem State.Sound.setXbar {sp st side source} (h : s.Sound) : (s.setXbar sp st side source).Sound := h.modXbar
theorem State.Sound.sweepXbar {sp d} (h : s.Sound) : (s.sweepXbar sp d).Sound := h.modXbar
theorem State.Sound.standSpare {sp m} (h : s.Sound) : (s.standSpare sp m).Sound := h.setXbar

theorem State.Sound.seatRepair {sp} (h : s.Sound) : (s.seatRepair sp).Sound := by
  unfold State.seatRepair
  extract_lets +onlyGivenNames s1
  have hs1 : s1.Sound := h.modXbar
  clear_value s1
  split
  · exact either hs1.standSpare hs1.setXbar
  · exact hs1

theorem State.Sound.parkSpare {sp} (h : s.Sound) : (s.parkSpare sp).Sound := either h.setSpare.setXbar.seatRepair h.setSpare.setXbar
theorem State.Sound.askSide {sp m} (h : s.Sound) : (s.askSide sp m).Sound := h.setSpare.setXbar
theorem State.Sound.giveBack {m} (h : s.Sound) : (s.giveBack m).Sound := foldl (fun h => either h.setSpare (either h.parkSpare h)) h

theorem State.Sound.detach {m} (h : s.Sound) : (s.detach m).Sound := by
  unfold State.detach
  split
  · exact h.sweepXbar
  · exact h

theorem State.Sound.rejoinCell {m} (h : s.Sound) : (s.rejoinCell m).Sound := by
  unfold State.rejoinCell
  split
  · exact h.setXbar
  · exact h

theorem State.Sound.reseat {m} (h : s.Sound) : (s.reseat m).Sound := by
  unfold State.reseat
  split
  · exact h.seatRepair
  · exact h

theorem State.Sound.setVisit {sp v} (h : s.Sound) : (s.setVisit sp v).Sound := h.setSpare

theorem State.Sound.pauseStep (h : s.Sound) : s.pauseStep.2.Sound := by
  unfold State.pauseStep
  refine (foldl (fun h => ?_) h.rotClock).frame
  split
  · exact either (either h.setVisit.rejoinCell h) (either h.parkSpare h)
  · exact h

theorem State.Sound.pauseCheck (h : s.Sound) : s.pauseCheck.Sound := either h.pauseStep.present1 h.pauseStep
theorem State.Sound.rotFail {m sp} (h : s.Sound) : (s.rotFail m sp).Sound := h.frame.firstFail.present1
theorem State.Sound.setLive {m off gain} (h : s.Sound) : (s.setLive m off gain).Sound := h.setModul

theorem State.Sound.handDue {i} (h : s.Sound) : (s.handDue i).Sound := by
  unfold State.handDue
  extract_lets +onlyGivenNames p
  clear_value p
  split
  · exact either h.setSpare.standSpare.skipFive h
  · extract_lets +onlyGivenNames m
    clear_value m
    split
    · extract_lets +onlyGivenNames s1
      have hs1 : s1.Sound := h.parkSpare.skipFive
      clear_value s1
      split
      · exact either hs1.askSide.modXbar hs1
      · exact hs1
    · exact h
  · exact h

theorem State.Sound.execRotationVisitStart {dt sp} (h : s.Sound) : OutSound (execRotationVisitStart dt sp s) := by
  unfold Machine.execRotationVisitStart
  extract_lets +onlyGivenNames s1 p
  have hs1 : s1.Sound := h.elapse.pauseCheck
  clear_value s1 p
  split
  · split
    · exact .next ((either hs1.until_.frame.setSpare.startSlice hs1.until_.frame.setSpare).sweepXbar)
    · exact .next hs1
  · exact .next hs1

theorem State.Sound.execSpareCalDone {dt sp off gain} (h : s.Sound) : OutSound (execSpareCalDone dt sp off gain s) := by
  unfold Machine.execSpareCalDone
  extract_lets +onlyGivenNames s1
  have hs1 : s1.Sound := h.elapse.pauseCheck
  clear_value s1
  split
  · exact .either (.either (.either (.next hs1.setLive.setSpare.setVisit.setXbar) (.next hs1.setLive.setSpare.parkSpare)) (.next
      hs1.setSpare.parkSpare.firstFail)) (.next hs1)
  · exact .next hs1

theorem State.Sound.execMatchWindowEnd {dt sp diff} (h : s.Sound) : OutSound (execMatchWindowEnd dt sp diff s) := by
  unfold Machine.execMatchWindowEnd
  extract_lets +onlyGivenNames s1
  have hs1 : s1.Sound := h.elapse.pauseCheck
  clear_value s1
  split
  · exact .either (.either (.next hs1.until_.setVisit) (.either (.next hs1.until_.setVisit) (.either (.next
      hs1.until_.parkSpare.rotFail) (.next hs1.until_.setSpare.rotFail)))) (.next hs1)
  · exact .next hs1

theorem State.Sound.execHandover {dt sp} (h : s.Sound) : OutSound (execHandover dt sp s) := by
  unfold Machine.execHandover
  extract_lets +onlyGivenNames s1
  have hs1 : s1.Sound := h.elapse.pauseCheck
  clear_value s1
  split
  · exact .either (.next hs1.setVisit.standSpare.detach) (.next hs1)
  · exact .next hs1

theorem State.Sound.execModulatorCalDone {dt sp off gain} (h : s.Sound) : OutSound (execModulatorCalDone dt sp off gain s) := by
  unfold Machine.execModulatorCalDone
  extract_lets +onlyGivenNames s1
  have hs1 : s1.Sound := h.elapse.pauseCheck
  clear_value s1
  split
  · exact .either (.either (.either (.next hs1.setLive.setVisit.startSlice) (.next hs1.setLive.setVisit.rejoinCell)) (.next
      hs1.setSpare.rotFail)) (.next hs1)
  · exact .next hs1

theorem State.Sound.execHandBack {dt sp} (h : s.Sound) : OutSound (execHandBack dt sp s) := by
  unfold Machine.execHandBack
  extract_lets +onlyGivenNames s1
  have hs1 : s1.Sound := h.elapse.pauseCheck
  clear_value s1
  split
  · exact .either (.next hs1.parkSpare.reseat) (.next hs1)
  · exact .next hs1

theorem State.Sound.stopDecim {m} (h : s.Sound) : (s.stopDecim m).Sound := h.setModul

theorem State.Sound.startTest {u of_} (h : s.Sound) : (s.startTest u of_).Sound := by
  unfold State.startTest
  extract_lets +onlyGivenNames s1
  have hs1 : s1.Sound := h.startSlice
  clear_value s1
  split
  · exact either hs1.stopDecim hs1
  · extract_lets +onlyGivenNames s2
    have hs2 : s2.Sound := hs1.sweepXbar
    clear_value s2
    split
    · exact hs2.stopDecim
    · exact hs2
  · exact hs1.stopDecim
  · exact hs1.setBal
  · exact hs1

theorem State.Sound.seatAgain {i} (h : s.Sound) : (s.seatAgain i).Sound := by
  unfold State.seatAgain
  extract_lets +onlyGivenNames p
  clear_value p
  split
  · exact h.setXbar
  · exact either h.standSpare h.seatRepair
  · exact either h h.parkSpare

theorem State.Sound.endTest {u} (h : s.Sound) : (s.endTest u).Sound := by
  unfold State.endTest
  split
  · exact h.seatAgain
  · exact h.setBal
  · exact h

theorem State.Sound.serveLate {u} (h : s.Sound) : (s.serveLate u).Sound := foldl (fun h => h.startDecims) h.stopDecim

theorem State.Sound.execXmodInPlaceCal {dt m off gain} (h : s.Sound) : OutSound (execXmodInPlaceCal dt m off gain s) := by
  unfold Machine.execXmodInPlaceCal
  extract_lets +onlyGivenNames s1
  have hs1 : s1.Sound := h.elapse
  clear_value s1
  split
  · extract_lets +onlyGivenNames s2 s3 s4
    have hs2 : s2.Sound := hs1.until_
    have hs3 : s3.Sound := by
      unfold s3
      split
      · exact hs2.until_
      · exact hs2
    have hs4 : s4.Sound := hs3.stopDecim.setModul
    clear_value s2 s3 s4
    exact .next (either hs4.setLive hs4)
  · exact .next hs1

theorem State.Sound.setCalCopy {c} (h : s.Sound) : (s.setCalCopy c).Sound := either h.frame h.frame

theorem State.Sound.execCoeffHourlyCopy {dt} (h : s.Sound) : OutSound (execCoeffHourlyCopy dt s) :=
  .either (.next h.elapse.rotClock.until_.pageDone.frame.setCalCopy) (.next h.elapse.rotClock)

theorem State.Sound.setCal {r} (h : s.Sound) : (s.setCal r).Sound := h.frame

theorem State.Sound.calTake {k} (h : s.Sound) : (State.calTake k s).Sound := by
  induction k generalizing s with
  | zero => exact h
  | succ k ih =>
    unfold State.calTake
    split
    · split
      · exact h
      · split
        · exact ih h.setCal
        · split
          · exact h
          · split
            · exact h.setCal
            · split
              · split
                · exact either h.stopDecim.setXbar.setCal h
                · exact h.setXbar.setCal
              · split
                · exact h.askSide.handDue.setCal
                · exact ih h.frame.setCal
    · exact h

theorem State.Sound.handsDue (h : s.Sound) : s.handsDue.Sound := (foldl (fun h => h.handDue) h).calTake

theorem State.Sound.calReturn {m} (h : s.Sound) : (s.calReturn m).Sound :=
  either h (either (either h.seatAgain.serveLate h.seatAgain) h.giveBack)

theorem State.Sound.calNext {r} (h : s.Sound) : (s.calNext r).Sound := by
  unfold State.calNext
  extract_lets +onlyGivenNames s1
  have hs1 : s1.Sound := by
    unfold s1
    split
    · exact h.calReturn
    · exact h
  clear_value s1
  exact hs1.setCal.handsDue

theorem State.Sound.calStart {rq} (h : s.Sound) : (s.calStart rq).Sound :=
  either h.frame (either h.frame (either h.frame h.startOp.frame.pauseCheck.handsDue))

theorem State.Sound.calEnd {st cause code} (h : s.Sound) : (s.calEnd st cause code).Sound := by
  unfold State.calEnd
  extract_lets +onlyGivenNames s1
  have hs1 : s1.Sound := by
    unfold s1
    split
    · split
      · exact h.calReturn
      · exact h
    · exact h
  clear_value s1
  exact hs1.frame.endOp.rotClock.handsDue

theorem State.Sound.cellsOff (h : s.Sound) : s.cellsOff.Sound := by
  unfold State.cellsOff
  extract_lets +onlyGivenNames gone s1 s2
  have hs1 : s1.Sound := foldl (fun h => either (either h.stopDecim.setUnit h.stopDecim) h) h
  have hs2 : s2.Sound := by
    unfold s2
    refine foldl (fun h => ?_) hs1
    extract_lets +onlyGivenNames p away
    clear_value p away
    split
    · exact either h h.setSpare.seatRepair
    · exact either h.parkSpare h
  clear_value gone s1 s2
  split
  · exact either (either hs2.setCal.notePower hs2.setCal.handsDue.notePower) hs2.notePower
  · exact hs2.notePower

theorem State.Sound.execCalTrimDone {dt mean} (h : s.Sound) : OutSound (execCalTrimDone dt mean s) := by
  unfold Machine.execCalTrimDone
  extract_lets +onlyGivenNames s1
  have hs1 : s1.Sound := h.elapse
  clear_value s1
  split
  · exact .either (.either (.next hs1.setCal.handsDue) (.next hs1.calEnd)) (.next hs1)
  · exact .next hs1

theorem State.Sound.noteCal {m passed} (h : s.Sound) : (s.noteCal m passed).Sound := either h.setSpare h

theorem State.Sound.execCalPointDone {dt mean} (h : s.Sound) : OutSound (execCalPointDone dt mean s) := by
  unfold Machine.execCalPointDone
  extract_lets +onlyGivenNames s1
  have hs1 : s1.Sound := h.elapse.handsDue
  clear_value s1
  split
  · split
    · split
      · extract_lets +onlyGivenNames s2 means
        have hs2 : s2.Sound := either hs1.stopDecim hs1
        clear_value s2 means
        split
        · exact .either (.next hs2.noteCal.calNext) (.next hs2.noteCal.frame.calNext.present1)
        · exact .next ((either hs2.setXbar hs2).setCal)
      · exact .next hs1
    · exact .next hs1
  · exact .next hs1

theorem State.Sound.execCalRunCommit {dt ok} (h : s.Sound) : OutSound (execCalRunCommit dt ok s) := by
  unfold Machine.execCalRunCommit
  extract_lets +onlyGivenNames s1
  have hs1 : s1.Sound := h.elapse.handsDue
  clear_value s1
  split
  · exact .either (.either (.next hs1.mramRead.calEnd) (.either (.next hs1.mramRead.pageDone.frame.frame.ledger.calEnd) (.next
      hs1.mramRead.pageDone.frame.calEnd))) (.next hs1)
  · exact .next hs1

theorem State.Sound.calSuspend (h : s.Sound) : s.calSuspend.Sound := by
  unfold State.calSuspend
  split
  · extract_lets +onlyGivenNames s1
    have hs1 : s1.Sound := by
      unfold s1
      split
      · exact either h.calReturn h
      · exact h
    clear_value s1
    exact hs1.setCal.handsDue
  · exact h

theorem State.Sound.execDecimatedSample {dt m xs overload} (h : s.Sound) : OutSound (execDecimatedSample dt m xs overload s) :=
  .either (.next h.elapse.handsDue.deliver.handsDue) (.next h.elapse.handsDue)

theorem State.Sound.calCut (h : s.Sound) : s.calCut.Sound := by
  unfold State.calCut
  split
  · exact either h.setCal h.frame.calNext
  · exact h

theorem State.Sound.serveSlices (h : s.Sound) : s.serveSlices.Sound := by
  unfold State.serveSlices
  refine foldl (fun h => ?_) h
  split
  · split
    · exact h.setSpare.standSpare
    · exact h
  · exact h

theorem State.Sound.execArbiterGrant {dt} (h : s.Sound) : OutSound (execArbiterGrant dt s) := by
  unfold Machine.execArbiterGrant
  extract_lets +onlyGivenNames s1
  have hs1 : s1.Sound := h.elapse.handsDue
  clear_value s1
  split
  · extract_lets +onlyGivenNames s2 t
    have hs2 : s2.Sound := by
      unfold s2
      split
      · exact either hs1 hs1.stopDecim
      · exact hs1
    have ht : t.Sound := hs2.arbitrate.serveSlices
    clear_value s2 t
    split
    · exact .next ((either ht.calCut ht).handsDue)
    · exact .next ht.handsDue
  · exact .next hs1

/-! #### Of `SluiceEvents` -/

theorem State.Sound.frameMode {n} (h : s.Sound) : (s.frameMode n).Sound := h.setBal
theorem State.Sound.frameSums {n} (h : s.Sound) : (s.frameSums n).Sound := h.setBal
theorem State.Sound.takeCell {n} (h : s.Sound) : (s.takeCell n).Sound := h.setBal
theorem State.Sound.computeFrame (h : s.Sound) : s.computeFrame.Sound := ((foldl (fun h => h.takeCell) h.frame).allocate).frame

theorem State.Sound.execSluiceFrameStart {dt} (h : s.Sound) : OutSound (execSluiceFrameStart dt s) :=
  .either (.next h.elapse) (.next ((foldl (fun h => h.frameSums) ((foldl (fun h => h.frameMode)
    h.elapse.untilMod).computeFrame)).frame))

theorem State.Sound.quotaDone {n} (h : s.Sound) : (s.quotaDone n).Sound :=
  either h.setBal.withdrawDuty.frame.wcSet.setFlag h.setBal.withdrawDuty.frame.wcSet

theorem State.Sound.account {meas n} (h : s.Sound) : (s.account meas n).Sound := by
  unfold State.account
  extract_lets +onlyGivenNames t
  clear_value t
  split
  · exact h
  · extract_lets +onlyGivenNames m x whole s1
    have hs1 : s1.Sound := h.setBal
    clear_value m x whole s1
    split
    · exact either hs1.setBal.quotaDone hs1.setBal
    · exact hs1

theorem State.Sound.columns {meas} (h : s.Sound) : (s.columns meas).Sound := h.frame.notePower
theorem State.Sound.gapEdge {i} (h : s.Sound) : (s.gapEdge i).Sound := either (either h.frame.setFlag h.frame) h
theorem State.Sound.slotAcct {i meas} (h : s.Sound) : (s.slotAcct i meas).Sound := foldl (fun h => h.account) (either h.columns h)
theorem State.Sound.slotBegin {i} (h : s.Sound) : (s.slotBegin i).Sound := either (foldl (fun h => h.driveCell) h.frame) h.frame
theorem State.Sound.slotEdge {i meas} (h : s.Sound) : (s.slotEdge i meas).Sound := h.slotAcct.slotBegin.gapEdge

theorem State.Sound.execSlotStart {dt meas} (h : s.Sound) : OutSound (execSlotStart dt meas s) := by
  unfold Machine.execSlotStart
  extract_lets +onlyGivenNames s1
  have hs1 : s1.Sound := h.elapse
  clear_value s1
  split
  · exact .next hs1
  · extract_lets +onlyGivenNames i slot
    have hslot : slot.Sound := hs1.untilMod
    clear_value i slot
    split
    · exact .either (.next (either hs1.untilMod.columns.slotEdge hs1.untilMod.columns)) (.either (.next hs1) (.next hslot.slotEdge))
    · exact .either (.next hs1) (.next hslot.slotEdge)

theorem State.Sound.balHold {n k} (h : s.Sound) : (s.balHold n k).Sound := by
  unfold State.balHold
  extract_lets +onlyGivenNames u u1
  have hu : u.Sound := h.setBal.withdrawDuty
  clear_value u u1
  extract_lets +onlyGivenNames u2
  have hu2 : u2.Sound := hu.frame.wcSet
  clear_value u2
  split
  · exact either hu2.setRun hu2
  · exact hu2

theorem State.Sound.allHeld (h : s.Sound) : s.allHeld.Sound := by
  unfold State.allHeld
  split
  · exact either h.endSpec h
  · exact h

theorem State.Sound.balFault {n k} (h : s.Sound) : (s.balFault n k).Sound := either h h.balHold.present1.allHeld

theorem State.Sound.execBalOvercurrent {dt cell} (h : s.Sound) : OutSound (execBalOvercurrent dt cell s) :=
  .either (.next h.elapse.balFault) (.next h.elapse)

theorem State.Sound.execBalCurrentCheck {dt cell cur} (h : s.Sound) : OutSound (execBalCurrentCheck dt cell cur s) := by
  unfold Machine.execBalCurrentCheck
  extract_lets +onlyGivenNames s1
  have hs1 : s1.Sound := h.elapse
  clear_value s1
  exact .either (.either (.next hs1.until_.setBal) (.either (.next hs1.until_.setBal.setBal.balFault) (.either (.next
    hs1.until_.setBal.setBal.balFault) (.next hs1.until_.setBal.setBal)))) (.next hs1)

theorem State.Sound.execBalStuckOn {dt cell cur} (h : s.Sound) : OutSound (execBalStuckOn dt cell cur s) :=
  .either (.either (.next h.elapse.until_.setBal.balFault) (.next h.elapse.until_.setBal)) (.next h.elapse)

theorem State.Sound.execBalGateCheck {dt cell vgs vcell} (h : s.Sound) : OutSound (execBalGateCheck dt cell vgs vcell s) :=
  .either (.either (.either (.next h.elapse.until_.balFault) (.next h.elapse.until_)) (.either (.next h.elapse.until_.balFault)
    (.next h.elapse.until_))) (.next h.elapse)

/-! #### Of `Spectrum` -/

theorem State.Sound.startPass {r tb} (h : s.Sound) : (s.startPass r tb).Sound := by
  unfold State.startPass
  extract_lets +onlyGivenNames s1 s2
  have hs1 : s1.Sound := h.beginPass
  have hs2 : s2.Sound := by
    unfold s2
    split
    · exact hs1.startDecims
    · exact hs1
  clear_value s1 s2
  exact hs2.pruneSmp

theorem State.Sound.unhold (h : s.Sound) : s.unhold.Sound := by
  unfold State.unhold
  split
  · exact either h.startPass h
  · exact h

theorem State.Sound.requestSides {r} (h : s.Sound) : (s.requestSides r).Sound := h.frame

theorem State.Sound.enterRun {r tb} (h : s.Sound) : (s.enterRun r tb).Sound :=
  either h.setRun (either h.startPass (either h.setRun.pruneSmp h.frame.startPass))

theorem State.Sound.startRun {r tb} (h : s.Sound) : (s.startRun r tb).Sound := h.requestSides.enterRun.pauseCheck

theorem State.Sound.specStart {rq kind} (h : s.Sound) : (s.specStart rq kind).Sound :=
  either h.frame (either h.frame (either h.frame (either h.startOp.frame.setRun.frame h.startOp.frame.setRun.frame.startRun)))

theorem State.Sound.execExc {dt j rd kind} (h : s.Sound) : OutSound (execExc dt j rd kind s) :=
  h.elapse.issue (fun h => h.specStart.setReg.retire)

theorem State.Sound.execSpectrumRunBegin {dt} (h : s.Sound) : OutSound (execSpectrumRunBegin dt s) := by
  unfold Machine.execSpectrumRunBegin
  extract_lets +onlyGivenNames s1
  have hs1 : s1.Sound := h.elapse
  clear_value s1
  split
  · split
    · split
      · exact .next ((either hs1 hs1.elapseTb).startRun)
      · split
        · exact .next hs1.startRun
        · exact .next hs1
    · exact .next hs1
  · exact .next hs1

theorem State.Sound.execCurrentTrimDone {dt sense} (h : s.Sound) : OutSound (execCurrentTrimDone dt sense s) := by
  unfold Machine.execCurrentTrimDone
  extract_lets +onlyGivenNames s1
  have hs1 : s1.Sound := h.elapse
  clear_value s1
  split
  · exact .either (.either (.next hs1.untilTb.endSpec) (.next hs1.untilTb.startPass)) (.next hs1)
  · exact .next hs1

theorem State.Sound.driveSpec {r close} (h : s.Sound) : (s.driveSpec r close).Sound :=
  (either (either h (foldl (fun h => h.setBal) h)) (foldl (fun h => h.openOut) h)).setRun

theorem State.Sound.execPassExcite {dt} (h : s.Sound) : OutSound (execPassExcite dt s) := by
  unfold Machine.execPassExcite
  extract_lets +onlyGivenNames s1
  have hs1 : s1.Sound := h.elapse
  clear_value s1
  split
  · exact .either (.either (.next hs1.untilTb.driveSpec) (.next hs1.untilTb.setRun)) (.next hs1)
  · exact .next hs1

theorem State.Sound.execExcitationEdge {dt} (h : s.Sound) : OutSound (execExcitationEdge dt s) := by
  unfold Machine.execExcitationEdge
  extract_lets +onlyGivenNames s1
  have hs1 : s1.Sound := h.elapse
  clear_value s1
  split
  · exact .either (.either (.next hs1.untilTb.driveSpec) (.next hs1)) (.next hs1)
  · exact .next hs1

theorem State.Sound.execWindowOpen {dt} (h : s.Sound) : OutSound (execWindowOpen dt s) := by
  unfold Machine.execWindowOpen
  extract_lets +onlyGivenNames s1
  have hs1 : s1.Sound := h.elapse
  clear_value s1
  split
  · exact .either (.next hs1.untilTb.setRun) (.next hs1)
  · exact .next hs1

theorem State.Sound.pubDue {r} (h : s.Sound) : (s.pubDue r).Sound := h.frame

theorem State.Sound.execWindowClose {dt} (h : s.Sound) : OutSound (execWindowClose dt s) := by
  unfold Machine.execWindowClose
  extract_lets +onlyGivenNames s1
  have hs1 : s1.Sound := h.elapse
  clear_value s1
  split
  · split
    · extract_lets +onlyGivenNames s2
      have hs2 : s2.Sound := hs1.untilTb
      clear_value s2
      split
      · extract_lets +onlyGivenNames s3
        have hs3 : s3.Sound := hs2.pubDue
        clear_value s3
        split
        · exact .next hs3.setRun
        · exact .next hs3
      · exact .next ((either hs2.openAll hs2).setRun)
    · exact .next hs1
  · exact .next hs1

theorem State.Sound.execPassEnd {dt} (h : s.Sound) : OutSound (execPassEnd dt s) := by
  unfold Machine.execPassEnd
  extract_lets +onlyGivenNames s1
  have hs1 : s1.Sound := h.elapse
  clear_value s1
  split
  · split
    · extract_lets +onlyGivenNames s2
      have hs2 : s2.Sound := hs1.untilTb.pubDue
      clear_value s2
      split
      · split
        · exact .next hs2.startPass
        · exact .next hs2.setRun
      · exact .next hs2
    · exact .next hs1
  · exact .next hs1

theorem State.Sound.openBin (h : s.Sound) : s.openBin.2.Sound := h.free.free.free

theorem State.Sound.binWords {imin v i} (h : s.Sound) : (s.binWords imin v i).2.Sound := by
  unfold State.binWords
  split
  · exact h
  · exact either1 h (either1 h.openBin h)

theorem State.Sound.putBin {k n b re im st} (h : s.Sound) : (s.putBin k n b re im st).Sound := h.frame

theorem State.Sound.pubBins {r p cur} (h : s.Sound) : (s.pubBins r p cur).Sound := by
  unfold State.pubBins
  refine foldl (fun h => foldl (fun h => ?_) h) h
  split
  · exact h
  · exact either h.putBin ((either1 h.binWords h.openBin).putBin)

theorem State.Sound.harmOf {r p ch k} (h : s.Sound) : (s.harmOf r p ch k).2.Sound := by
  unfold State.harmOf
  extract_lets +onlyGivenNames none_ inSet sus mk bare
  clear_value none_ inSet sus mk bare
  refine either1 h (either1 h (either1 h.openBin (either1 h ?_)))
  extract_lets f imin i v
  clear_value i
  cases i with
  | none => exact h
  | some i => exact either1 h (either1 h h)

theorem State.Sound.pubHarm {r p} (h : s.Sound) : (s.pubHarm r p).Sound := by
  rw [State.pubHarm]
  generalize List.range 1025 = places
  split
  next e =>
  refine (of_snd (foldl1 (fun h => ?_) h) e).frame
  exact pair h.harmOf

theorem State.Sound.publish {r p cur} (h : s.Sound) : (s.publish r p cur).Sound := by
  unfold State.publish
  extract_lets +onlyGivenNames s1 s2 s3 r1 s4
  have hs1 : s1.Sound := either h.pubHarm h.pubBins
  have hs3 : s3.Sound := hs1.frame
  have hr1 : r1.Sound := either hs3.setFlag hs3
  clear_value s1 s2 s3 r1
  exact either hr1.setRun.pruneSmp.endSpec hr1.setRun.pruneSmp

theorem State.Sound.execPublish {dt cur} (h : s.Sound) : OutSound (execPublish dt cur s) := by
  unfold Machine.execPublish
  extract_lets +onlyGivenNames s1
  have hs1 : s1.Sound := h.elapse
  clear_value s1
  split
  · split
    · exact .either (.next hs1.untilTb.publish) (.next hs1)
    · exact .next hs1
  · exact .next hs1

theorem State.Sound.execCurrentTimeout {dt n} (h : s.Sound) : OutSound (execCurrentTimeout dt n s) := by
  unfold Machine.execCurrentTimeout
  extract_lets +onlyGivenNames s1
  have hs1 : s1.Sound := h.elapse
  clear_value s1
  split
  · split
    · exact .either (.next hs1.untilTb.publish) (.next hs1)
    · exact .next hs1
  · exact .next hs1

theorem State.Sound.sendPeer {f} (h : s.Sound) : (s.sendPeer f).Sound :=
  either ((either h.send h.send.send).rxPut) (either h.send h.send.send)

theorem State.Sound.execCurrentPhasorSend {dt n} (h : s.Sound) : OutSound (execCurrentPhasorSend dt n s) := by
  unfold Machine.execCurrentPhasorSend
  extract_lets +onlyGivenNames s1
  have hs1 : s1.Sound := h.elapse
  clear_value s1
  split
  · exact .either (.next hs1.untilTb.frame.pruneSmp.sendPeer) (.next hs1.untilTb.frame.pruneSmp.sendPeer.sendPeer)
  · exact .next hs1

theorem State.Sound.takePhasors {src b} (h : s.Sound) : (s.takePhasors src b).Sound := by
  unfold State.takePhasors
  split
  · split
    · exact either h.setRun h
    · exact h
  · exact h

theorem State.Sound.execSpectrumHeldTimeout {dt} (h : s.Sound) : OutSound (execSpectrumHeldTimeout dt s) := by
  unfold Machine.execSpectrumHeldTimeout
  extract_lets +onlyGivenNames s1
  have hs1 : s1.Sound := h.elapse
  clear_value s1
  split
  · exact .either (.next hs1.until_.endSpec) (.next hs1)
  · exact .next hs1

theorem State.Sound.execF1TrackDone {dt lay} (h : s.Sound) : OutSound (execF1TrackDone dt lay s) := by
  unfold Machine.execF1TrackDone
  extract_lets +onlyGivenNames s1
  have hs1 : s1.Sound := h.elapse
  clear_value s1
  split
  · split
    · exact .either (.next hs1.frame.startPass) (.next hs1)
    · exact .next hs1
  · exact .next hs1

theorem State.Sound.execF1TrackTimeout {dt} (h : s.Sound) : OutSound (execF1TrackTimeout dt s) := by
  unfold Machine.execF1TrackTimeout
  extract_lets +onlyGivenNames s1
  have hs1 : s1.Sound := h.elapse
  clear_value s1
  split
  · exact .either (.next hs1.until_.endSpec) (.next hs1)
  · exact .next hs1

theorem State.Sound.suspendSpec (h : s.Sound) : s.suspendSpec.Sound := by
  unfold State.suspendSpec
  extract_lets +onlyGivenNames s1
  have hs1 : s1.Sound := h.releaseSpec
  clear_value s1
  split
  · exact hs1.setRun
  · exact hs1

theorem State.Sound.resumeSpec (h : s.Sound) : s.resumeSpec.Sound := by
  unfold State.resumeSpec
  split
  · extract_lets +onlyGivenNames s1
    have hs1 : s1.Sound := either h h.requestSides
    clear_value s1
    split
    · exact hs1.allHeld
    · exact hs1.setRun.pauseCheck.allHeld
    · exact hs1.setRun.pruneSmp.pauseCheck.allHeld
    · exact hs1.allHeld
    · exact hs1.startPass.pauseCheck.allHeld
  · exact h

/-! #### Of `Thermal` -/

theorem State.Sound.setSens {k f} (h : s.Sound) : (s.setSens k f).Sound := h.frame
theorem State.Sound.modelStep {t0} (h : s.Sound) : (s.modelStep t0).Sound := h.notePower.frame
theorem State.Sound.ambientStep {r} (h : s.Sound) : (s.ambientStep r).Sound := either h.frame (either h h.frame)
theorem State.Sound.crossCheck {k r} (h : s.Sound) : (s.crossCheck k r).2.Sound := either1 h (either1 h.setSens h.setSens)
theorem State.Sound.hotStep {k e} (h : s.Sound) : (s.hotStep k e).2.Sound := h.setSens

theorem State.Sound.riseStep {k e} (h : s.Sound) : (s.riseStep k e).2.2.Sound := by
  unfold State.riseStep
  extract_lets +onlyGivenNames q
  split <;> exact h.setSens

theorem State.Sound.sensStep {acc k r} (h : acc.2.2.2.Sound) : (State.sensStep acc k r).2.2.2.Sound :=
  h.crossCheck.hotStep.riseStep.setSens

theorem State.Sound.degradeStep (h : s.Sound) : s.degradeStep.2.Sound := h.frame
theorem State.Sound.enforce (h : s.Sound) : s.enforce.Sound := h.frame

theorem State.Sound.throttleStep (h : s.Sound) : s.throttleStep.2.Sound := by
  unfold State.throttleStep
  split
  · exact either1 (either1 h.frame.enforce h.frame) h
  · exact either1 h.frame (either1 h.enforce h)
  · exact either1 h.enforce (either1 h.frame h)

theorem State.Sound.bandStep {t0} (h : s.Sound) : (s.bandStep t0).Sound := either h.frame (either h (either h.frame (either
    h.frame h)))

theorem State.Sound.shutStep (h : s.Sound) : s.shutStep.Sound := h.frame

theorem State.Sound.execSensorStep {dt readings} (h : s.Sound) : OutSound (Machine.execSensorStep dt readings s) := by
  unfold Machine.execSensorStep
  extract_lets +onlyGivenNames s1 watch
  have hs1 : s1.Sound := h.elapse
  clear_value s1 watch
  refine .either (.next hs1) ?_
  extract_lets +onlyGivenNames s2 r s3
  have hs2 : s2.Sound := either hs1 (either hs1.elapse hs1).untilMod
  have hs3 : s3.Sound := hs2.modelStep.ambientStep
  clear_value s2 r s3
  split
  next srcs dis rises s4 e =>
  have hs4 : s4.Sound := of_snd3 (foldl3 (fun h => h.sensStep) hs3) e
  clear e
  exact .next (State.Sound.present (State.Sound.frame (State.Sound.throttleStep hs4.degradeStep.frame.bandStep.shutStep)))

theorem State.Sound.execGraceExpiry {dt} (h : s.Sound) : OutSound (execGraceExpiry dt s) :=
  .either (.next (either h.elapse.untilTb.frame h.elapse.untilTb.enforce.present1)) (.next h.elapse)

theorem State.Sound.execThermalShutdown {dt} (h : s.Sound) : OutSound (execThermalShutdown dt s) :=
  .either (.next h.elapse.frame.present1) (.next h.elapse)

theorem State.Sound.restoreSens {mask} (h : s.Sound) : (s.restoreSens mask).Sound := (foldl (fun h => h.setSens) h).frame

/-! #### Of `SelfTest` -/

theorem State.Sound.assignSpare {i m} (h : s.Sound) : (s.assignSpare i m).Sound := by
  unfold State.assignSpare
  extract_lets +onlyGivenNames was s1 s2
  have hs1 : s1.Sound := h.setSpare
  have hs2 : s2.Sound := hs1.modXbar
  clear_value was s1 s2
  split
  · exact hs2.seatRepair
  · split
    · exact hs2.setSpare.handDue.handDue
    · exact hs2.askSide.handDue

theorem State.Sound.repairCell {m cause} (h : s.Sound) : (s.repairCell m cause).2.Sound := by
  unfold State.repairCell
  split
  · exact h.assignSpare.giveBack.handsDue.addEntry.notePower
  · exact h.giveBack.handsDue.addEntry

theorem State.Sound.retireSpare {i cause} (h : s.Sound) : (s.retireSpare i cause).2.Sound := by
  unfold State.retireSpare
  extract_lets +onlyGivenNames side s1 s2 s3
  have hs3 : s3.Sound := (either h.setSpare h.setSpare.seatRepair).addEntry
  clear_value side s1 s2 s3
  split
  · exact either1 hs3.repairCell.handDue hs3
  · exact hs3

theorem State.Sound.repairIn {r} (h : r.2.Sound) : (State.repairIn r).Sound := h.pauseStep.present

theorem State.Sound.repairUnit {u cause} (h : s.Sound) : (s.repairUnit u cause).Sound :=
  either h.setUnit.repairCell.repairIn (either h.setUnit.retireSpare.repairIn (either h.setUnit.repairPage h.setUnit.repaired))

theorem State.Sound.campEnd {st cause} (h : s.Sound) : (s.campEnd st cause).Sound := by
  unfold State.campEnd
  split
  · exact h
  · extract_lets +onlyGivenNames s1 s2 s3 code
    have hs2 : s2.Sound := h.frame
    have hs3 : s3.Sound := foldl (fun h => either h.repairUnit h.setUnit) hs2
    have hcode : code.Sound := by
      unfold code
      split
      · exact either hs3.giveBack.handsDue hs3
      · exact hs3
    clear_value s1 s2 s3 code
    exact hcode.endOp

theorem State.Sound.campNext {k} (h : s.Sound) : (State.campNext k s).Sound := by
  induction k generalizing s with
  | zero => exact h
  | succ k ih =>
    unfold State.campNext
    split
    · exact h
    · split
      · exact h
      · split
        · exact h.campEnd
        · split
          · exact ih h.frame.setUnit
          · split
            · split
              · exact either h.askSide.handDue.startTest h
              · exact either h h.startTest
            · exact either h h.startTest

theorem State.Sound.campStart {rq} (h : s.Sound) : (s.campStart rq).Sound :=
  either h.frame (either h.frame (((foldl (fun h => either h h.setUnit) h.startOp.frame).frame).campNext))

theorem State.Sound.handBackOf {m step} (h : s.Sound) : (s.handBackOf m step).Sound := foldl (fun h => either h.setSpare h) h

theorem State.Sound.campAfter {u res} (h : s.Sound) : (s.campAfter u res).Sound := by
  unfold State.campAfter
  split
  · exact h
  · exact ((either ((((either h.setSpare h).setUnit).giveBack).handsDue) ((either h.setSpare h).setUnit)).frame).campNext

theorem State.Sound.cleared {u} (h : s.Sound) : (s.cleared u).Sound := by
  unfold State.cleared
  extract_lets +onlyGivenNames s1
  have hs1 : s1.Sound := either h.setSpare h
  clear_value s1
  split
  · exact hs1.handBackOf.rejoinCell
  · exact hs1

theorem State.Sound.backAfter {x res} (h : s.Sound) : (s.backAfter x res).Sound := by
  unfold State.backAfter
  extract_lets +onlyGivenNames u r s1
  have hs1 : s1.Sound := h.setUnit
  clear_value u r s1
  extract_lets +onlyGivenNames s2
  have hs2 : s2.Sound := either (either hs1.cleared hs1) (either (either (either hs1.repairUnit hs1.setUnit) h.setUnit) h)
  clear_value s2
  split
  · split
    · exact either (either hs2.setSpare.parkSpare hs2.setSpare) (either hs2.setVisit.sweepXbar (either hs2.setVisit.rejoinCell
        hs2.setVisit))
    · exact hs2
  · exact hs2

theorem State.Sound.endSlice {x res cut sig} (h : s.Sound) : (s.endSlice x res cut sig).Sound :=
  either (either h.sliceOver.endTest h.sliceOver.endTest.campAfter) h.sliceOver.endTest.backAfter

theorem State.Sound.execSliceEnd {dt unit resp meas} (h : s.Sound) : OutSound (execSliceEnd dt unit resp meas s) := by
  unfold Machine.execSliceEnd
  extract_lets +onlyGivenNames s1 sig
  have hs1 : s1.Sound := h.elapse.campNext
  clear_value s1 sig
  split
  · exact .either (.next hs1) (.next hs1.endSlice)
  · exact .next hs1

theorem State.Sound.execSliceBudgetExpiry {dt unit} (h : s.Sound) : OutSound (execSliceBudgetExpiry dt unit s) := by
  unfold Machine.execSliceBudgetExpiry
  extract_lets +onlyGivenNames s1
  have hs1 : s1.Sound := h.elapse.campNext
  clear_value s1
  split
  · exact .next hs1.until_.endSlice
  · exact .next hs1

theorem State.Sound.execSliceCut {dt unit cut reinit} (h : s.Sound) : OutSound (execSliceCut dt unit cut reinit s) := by
  unfold Machine.execSliceCut
  extract_lets +onlyGivenNames s1
  have hs1 : s1.Sound := h.elapse.campNext
  clear_value s1
  split
  · exact .either (.either (.next hs1.endSlice.elapse.serveLate.frame) (.next hs1.endSlice.serveLate)) (.either (.next
      hs1.endSlice) (.next hs1))
  · exact .next hs1

theorem State.Sound.execBackgroundSlice {dt} (h : s.Sound) : OutSound (execBackgroundSlice dt s) := by
  unfold Machine.execBackgroundSlice
  extract_lets +onlyGivenNames s1
  have hs1 : s1.Sound := h.elapse
  clear_value s1
  split
  · exact .next hs1
  · extract_lets +onlyGivenNames s2 s3 again
    have hs2 : s2.Sound := hs1.until_
    have hagain : again.Sound := hs2.frame
    clear_value s2 s3 again
    extract_lets +onlyGivenNames again1
    clear_value again1
    split
    · exact .next hagain.frame.startTest
    · split
      · exact .next hagain.frame.startTest
      · exact .next hagain

theorem State.Sound.confAsk {u} (h : s.Sound) : (s.confAsk u).Sound := by
  unfold State.confAsk
  split
  · split
    · split
      · exact h.askSide.handDue
      · exact h
    · exact h
  · exact h

theorem State.Sound.execConfirmSlice {dt} (h : s.Sound) : OutSound (execConfirmSlice dt s) := by
  unfold Machine.execConfirmSlice
  extract_lets +onlyGivenNames s1
  have hs1 : s1.Sound := h.elapse.handsDue
  clear_value s1
  split
  · exact .next hs1
  · extract_lets +onlyGivenNames s2
    have hs2 : s2.Sound := foldl (fun h => h.confAsk) hs1
    clear_value s2
    split
    · exact .next hs2.startTest
    · exact .next hs2

theorem State.Sound.execRepairMapStore {dt ok} (h : s.Sound) : OutSound (execRepairMapStore dt ok s) :=
  .either (.next (either h.elapse.pageDone.frame.frame h.elapse.pageDone.frame)) (.next h.elapse)

theorem State.Sound.execMramRowRepair {dt row} (h : s.Sound) : OutSound (execMramRowRepair dt row s) := by
  unfold Machine.execMramRowRepair
  extract_lets +onlyGivenNames s1
  have hs1 : s1.Sound := h.elapse
  clear_value s1
  split
  · split
    · exact .next hs1.mramRead.inNvm.inNvm.repaired
    · exact .next hs1.inNvm.unrepaired
  · exact .next hs1

/-! #### Of `Ledger` -/

theorem State.Sound.execMramPageWrite {dt} (h : s.Sound) : OutSound (execMramPageWrite dt s) := by
  unfold Machine.execMramPageWrite
  extract_lets +onlyGivenNames s1
  have hs1 : s1.Sound := h.elapse.feedsMram
  clear_value s1
  split
  · exact .next (either hs1 hs1.inNvm.pageWrite)
  · exact .next hs1

theorem State.Sound.scrubBegin {rq} (h : s.Sound) : (s.scrubBegin rq).Sound := either h h.startOp.inNvm

theorem State.Sound.scrubEnd {st cause} (h : s.Sound) : (s.scrubEnd st cause).Sound := by
  unfold State.scrubEnd
  split
  · exact h.inNvm.endOp
  · exact h

theorem State.Sound.execScrubPage {dt} (h : s.Sound) : OutSound (execScrubPage dt s) := by
  unfold Machine.execScrubPage
  extract_lets +onlyGivenNames s1
  have hs1 : s1.Sound := h.elapse
  clear_value s1
  split
  · exact .either (.next (either hs1.until_.mramRead.inNvm.scrubEnd hs1.until_.mramRead.inNvm)) (.next hs1)
  · exact .next hs1

theorem State.Sound.ledgPut {e} (h : s.Sound) : (s.ledgPut e).Sound := h.mramStore.inNvm

theorem State.Sound.execLedgerWrite {dt} (h : s.Sound) : OutSound (execLedgerWrite dt s) := by
  unfold Machine.execLedgerWrite
  extract_lets +onlyGivenNames s1
  have hs1 : s1.Sound := h.elapse.feedsMram
  clear_value s1
  split
  · split
    · exact .next hs1.inNvm.flushWrites.ledgPut
    · split
      · exact .next hs1.inNvm.flushWrites.ledgPut
      · split
        · next r t e =>
          have ht : t.length ≤ 32 := Nat.le_of_succ_le (by simpa [e] using hs1.faults)
          have hs2 : ({ s1 with flt := { s1.flt with queue := t } } : State).Sound := ⟨hs1.mram, hs1.queue, hs1.txq, hs1.rxq, ht⟩
          exact .next hs2.flushWrites.ledgPut
        · exact .next hs1
  · exact .next hs1

theorem State.Sound.ledgSeq {i} (h : s.Sound) : (s.ledgSeq i).2.Sound := h.mramRead

theorem State.Sound.ledgScan (h : s.Sound) : s.ledgScan.Sound := by
  rw [State.ledgScan]
  generalize List.range 2048 = slots
  split
  next e =>
  refine (of_snd (foldl1 (fun h => ?_) h) e).inNvm
  split
  · next e => exact h.ledgSeq.of_snd e
  · next e => exact h.ledgSeq.of_snd e

theorem State.Sound.bindCheck (h : s.Sound) : s.bindCheck.Sound := either h.inNvm.present1 h.inNvm
theorem State.Sound.bindKey {key} (h : s.Sound) : OptSound (s.bindKey key) := eitherOpt (eitherOpt .none (.some h.inNvm)) (.some h)

theorem State.Sound.execBindingWriteDone {dt ok} (h : s.Sound) : OutSound (Machine.execBindingWriteDone dt ok s) := by
  unfold Machine.execBindingWriteDone
  extract_lets +onlyGivenNames s1
  have hs1 : s1.Sound := h.elapse
  clear_value s1
  split
  · split
    · exact .next hs1
    · extract_lets c toB s2 src' s3 s4
      have hs2 : s2.Sound := hs1.pageDone
      have hs3 : s3.Sound := by
        unfold s3
        split <;> exact hs2.inNvm
      clear_value s2 s3
      exact .next (either hs3.ledger hs3).bindCheck
  · exact .next hs1

theorem State.Sound.custWrite {rq v} (h : s.Sound) : (s.custWrite rq v).Sound := h.mramPut
theorem State.Sound.custRead {rq} (h : s.Sound) : (s.custRead rq).2.Sound := h.mramRead

theorem State.Sound.execShadowEnd {dt mode} (h : s.Sound) : OutSound (execShadowEnd dt mode s) := by
  unfold Machine.execShadowEnd
  extract_lets +onlyGivenNames s1
  have hs1 : s1.Sound := h.elapse
  clear_value s1
  split
  · extract_lets +onlyGivenNames s2
    have hs2 : s2.Sound := hs1.until_
    clear_value s2
    split <;> exact .next hs2.inFlt
  · exact .next hs1

theorem State.Sound.execFaultWindowExpiry {dt i} (h : s.Sound) : OutSound (execFaultWindowExpiry dt i s) :=
  .either (.next h.elapse.elapseTb.setFsrc) (.next h.elapse)

theorem State.Sound.aliveKey (h : s.Sound) : s.aliveKey.Sound := either h.inFlt h
theorem State.Sound.execAliveKey {dt} (h : s.Sound) : OutSound (execAliveKey dt s) := .next h.elapse.aliveKey

theorem State.Sound.execFlowToggle {dt} (h : s.Sound) : OutSound (execFlowToggle dt s) :=
  .either (.next h.elapse.until_.inFlt) (.next h.elapse)

theorem State.Sound.execFlowDrop {dt} (h : s.Sound) : OutSound (execFlowDrop dt s) := .either (.next h.elapse) (.next
    h.elapse.inFlt)

theorem State.Sound.stickyClear {k v} (h : s.Sound) : (s.stickyClear k v).Sound := (foldl (fun h => h.clearSticky) h).unhold
theorem State.Sound.secClear {k v} (h : s.Sound) : (s.secClear k v).Sound := foldl (fun h => h.clearSec) h
theorem State.Sound.clearAll (h : s.Sound) : s.clearAll.Sound := (foldl (fun h => h.clearSticky.clearSec) h).unhold

theorem State.Sound.execChkFeedDone {dt n} (h : s.Sound) : OutSound (execChkFeedDone dt n s) := by
  unfold Machine.execChkFeedDone
  extract_lets +onlyGivenNames s1
  have hs1 : s1.Sound := h.elapse
  clear_value s1
  split
  · exact .next hs1.until_.feedDone
  · exact .next hs1

theorem State.Sound.execChkIdleRelease {dt n} (h : s.Sound) : OutSound (execChkIdleRelease dt n s) :=
  .either (.next h.elapse.until_.setChk) (.next h.elapse)

theorem State.Sound.execPageAgeClose {dt stream} (h : s.Sound) : OutSound (execPageAgeClose dt stream s) := by
  unfold Machine.execPageAgeClose
  extract_lets +onlyGivenNames s1
  have hs1 : s1.Sound := h.elapse
  clear_value s1
  split
  · exact .either (.next hs1.until_.closePage) (.next hs1)
  · exact .next hs1

/-! #### Of `Session` -/

theorem State.Sound.jrnStep {f} (h : s.Sound) : (s.jrnStep f).Sound := h.jrnPut

theorem State.Sound.journal {target k new} (h : s.Sound) : (s.journal target k new).2.Sound := by
  unfold State.journal
  extract_lets +onlyGivenNames s1
  have hs1 : s1.Sound := either h h.jrnStep
  clear_value s1
  split
  · exact hs1
  · extract_lets +onlyGivenNames old
    clear_value old
    split
    next e =>
    have hs2 := hs1.mramRead.of_snd e
    split
    · exact pair hs2.mramPut.jrnStep
    · exact pair hs2

theorem State.Sound.copyBack {target k} (h : s.Sound) : (s.copyBack target k).Sound := either h.mramRead.mramPut h.mramRead

theorem State.Sound.rollback (h : s.Sound) : s.rollback.Sound := by
  unfold State.rollback
  extract_lets +onlyGivenNames j s1
  have hs1 : s1.Sound := foldl (fun h => h.copyBack) h
  exact hs1.jrnStep

theorem State.Sound.logUpdate {event target code new old} (h : s.Sound) : (s.logUpdate event target code new old).Sound := h.ledger
theorem State.Sound.logSess {x event code} (h : s.Sound) : (s.logSess x event code).Sound := either h.logUpdate h.free.logUpdate
theorem State.Sound.setSess {x} (h : s.Sound) : (s.setSess x).Sound := either h.inNvm h.inNvm.present1
theorem State.Sound.dropSess (h : s.Sound) : s.dropSess.Sound := h.inNvm

theorem State.Sound.endSess {st cause code back} (h : s.Sound) : (s.endSess st cause code back).Sound := by
  unfold State.endSess
  split
  · exact (((either h.logSess.rollback h.logSess).dropSess).present1).endOp
  · exact h

theorem State.Sound.doneSess {log} (h : s.Sound) : (s.doneSess log).Sound := by
  unfold State.doneSess
  split
  · exact (((either h.logSess h).dropSess).present1).endOp
  · exact h

theorem State.Sound.imageRead {x} (h : s.Sound) : (s.imageRead x).2.Sound := either1 h.mramRead h.mramRead

theorem State.Sound.payloadOk {x} (h : s.Sound) : (s.payloadOk x).2.Sound := by
  unfold State.payloadOk
  split
  · split
    · rename_i t e
      have ht : t.Sound := h.checkContainer.of_snd e
      exact ht
    · rename_i t e
      have ht : t.Sound := h.checkContainer.of_snd e
      exact ht
  · exact h
  · exact h
  · exact h
  · exact h

theorem State.Sound.verify {x} (h : s.Sound) : (s.verify x).2.Sound :=
  either1 h (either1 h (either1 h (either1 h (either1 h.imageRead (either1 h.imageRead (either1 h.imageRead (either1 h.imageRead
    h.imageRead.payloadOk)))))))

/-! #### Of `LongOps` -/

theorem State.Sound.onSuspend {kind} (h : s.Sound) : (s.onSuspend kind).Sound := by
  unfold State.onSuspend
  split
  · exact h.suspendSpec
  · exact h.calSuspend
  · exact h.suspendRil
  · exact h

theorem State.Sound.onResume {kind} (h : s.Sound) : (s.onResume kind).Sound := by
  unfold State.onResume
  split
  · exact h.resumeSpec
  · exact h.campNext
  · exact h.handsDue
  · exact h.inNvm
  · exact h.resumeRil
  · exact h

theorem State.Sound.cutCamp {cut} (h : s.Sound) : (s.cutCamp cut).Sound := foldl (fun h => h.endSlice) h

theorem State.Sound.tryResume {kind} (h : s.Sound) : (s.tryResume kind).Sound := by
  unfold State.tryResume
  split
  · exact either h.setOp.onResume (either h.setOp h)
  · exact h

theorem State.Sound.opCtl {action tag} (h : s.Sound) : (s.opCtl action tag).2.Sound := by
  unfold State.opCtl
  split
  · exact h
  · split
    · exact h
    · split
      · exact either1 h h.setOp
      · exact either1 h.setOp.tryResume h
      · exact h.setOp

theorem State.Sound.execOpSuspended {dt kind} (h : s.Sound) : OutSound (execOpSuspended dt kind s) := by
  unfold Machine.execOpSuspended
  extract_lets +onlyGivenNames s1
  have hs1 : s1.Sound := h.elapse
  clear_value s1
  split
  · exact .either (.next ((either hs1.setOp.cutCamp hs1.setOp).onSuspend)) (.next hs1)
  · exact .next hs1

theorem State.Sound.execOpCancelled {dt kind} (h : s.Sound) : OutSound (execOpCancelled dt kind s) := by
  unfold Machine.execOpCancelled
  extract_lets +onlyGivenNames s1
  have hs1 : s1.Sound := h.elapse
  clear_value s1
  split
  · split
    · extract_lets +onlyGivenNames c
      clear_value c
      split
      · exact .next hs1.endSpec
      · exact .next hs1.cutCamp.campEnd
      · exact .next hs1.calEnd
      · exact .next hs1.endSess
      · exact .next hs1.scrubEnd
      · exact .next hs1.rilSettle.searchEnd
      · exact .next hs1.endOp
    · exact .next hs1
  · exact .next hs1

theorem State.Sound.holdOp {kind} (h : s.Sound) : (s.holdOp kind).Sound := by
  unfold State.holdOp
  split
  · exact either h (either h.setOp.onSuspend h.setOp)
  · exact h

theorem State.Sound.stewardStop (h : s.Sound) : s.stewardStop.Sound := by
  unfold State.stewardStop
  exact ((foldl (fun h => h.holdOp) h.inFlt.endSess).releaseChk).pauseCheck

theorem State.Sound.stewardRun (h : s.Sound) : s.stewardRun.Sound := by
  unfold State.stewardRun
  exact (foldl (fun h => h.setOp.tryResume) h.inFlt).pauseCheck

theorem State.Sound.cmdAnswer {rq tag id status late detail} (h : s.Sound) : (s.cmdAnswer rq tag id status late detail).Sound := by
  unfold State.cmdAnswer
  extract_lets +onlyGivenNames b
  clear_value b
  split
  · exact h.respond
  · exact h.inNvm

theorem State.Sound.cmdArrive {rq tag b} (h : s.Sound) : (s.cmdArrive rq tag b).Sound := by
  unfold State.cmdArrive
  extract_lets +onlyGivenNames id due t late ahead e
  split
  · exact h.cmdAnswer
  · split
    · exact h.cmdAnswer
    · split
      · exact h.cmdAnswer
      · split
        · exact h.inSeq.cmdAnswer
        · next room => exact ⟨h.mram, by simpa using room, h.txq, h.rxq, h.faults⟩

theorem State.Sound.cmdFlush (h : s.Sound) : s.cmdFlush.Sound :=
  foldl (fun h => h.cmdAnswer) ⟨h.mram, Nat.zero_le _, h.txq, h.rxq, h.faults⟩

theorem State.Sound.cmdReach (h : s.Sound) : s.cmdReach.Sound :=
  ⟨h.mram, (List.length_map _).trans_le h.queue, h.txq, h.rxq, h.faults⟩

theorem length_dropDue_le (due : CqEnt → Bool) (l : List CqEnt) : (dropDue due l).length ≤ l.length := by
  induction l with
  | nil => exact le_rfl
  | cons e t ih =>
    unfold dropDue
    split
    · exact Nat.le_succ _
    · exact Nat.succ_le_succ ih

theorem State.Sound.cmdRun {code run} (h : s.Sound) (hrun : ∀ {t : State} {x}, t.Sound → (run t x).2.2.Sound) :
    (s.cmdRun code run).Sound := by
  unfold State.cmdRun
  split
  · exact h
  · extract_lets +onlyGivenNames s1
    have hs1 : s1.Sound := h.elapseTb.until_
    clear_value s1
    split
    · split
      · exact State.Sound.cmdAnswer (hrun ⟨hs1.mram, (length_dropDue_le _ _).trans hs1.queue, hs1.txq, hs1.rxq, hs1.faults⟩)
      · exact hs1
    · exact hs1

theorem State.Sound.execTrigCmd {dt} (h : s.Sound) : OutSound (execTrigCmd dt s) := .next (h.elapse.cmdRun (fun h => h.triggerAll))

theorem State.Sound.execJstartCmd {dt} (h : s.Sound) : OutSound (execJstartCmd dt s) := .next (h.elapse.cmdRun (fun h =>
    h.startJet))

theorem State.Sound.execJstopCmd {dt} (h : s.Sound) : OutSound (execJstopCmd dt s) :=
  .next (h.elapse.cmdRun (fun h => foldl (fun h => h.stopReq) h))

theorem State.Sound.execJkillCmd {dt} (h : s.Sound) : OutSound (execJkillCmd dt s) :=
  .next (h.elapse.cmdRun (fun h => foldl (fun h => h.killJet) h))

theorem State.Sound.execFlagsCmd {dt} (h : s.Sound) : OutSound (execFlagsCmd dt s) :=
  .next (h.elapse.cmdRun (fun h => h.clearFlags.setFlags))

theorem State.Sound.execOpCmd {dt} (h : s.Sound) : OutSound (execOpCmd dt s) := .next (h.elapse.cmdRun (fun h => h.opCtl))

theorem State.Sound.execLoadCmd {dt} (h : s.Sound) : OutSound (execLoadCmd dt s) := .next (h.elapse.cmdRun (fun h => either2
    h.loadStart h))

/-! #### Of `Update` -/

theorem State.Sound.reply {q op status detail data} (h : s.Sound) : (s.reply q op status detail data).Sound := either h.inNvm
    h.respond

theorem State.Sound.setAct {n cause} (h : s.Sound) : (s.setAct n cause).Sound := either h.inNvm h.inNvm.present1
theorem State.Sound.sessPkt {sid} (h : s.Sound) : (s.sessPkt sid).Sound := h.inNvm

theorem State.Sound.serve {q op open_ run} (h : s.Sound) (hrun : ∀ {t}, t.Sound → (run t).Sound) : (s.serve q op open_
    run).Sound := by
  unfold State.serve
  split
  · exact h
  · extract_lets +onlyGivenNames s1
    have hs1 : s1.Sound := h.sessPkt
    clear_value s1
    split
    · exact hs1.reply
    · exact either hs1.reply (hrun hs1)

theorem State.Sound.inSess {q op run} (h : s.Sound) (hrun : ∀ {t x1}, t.Sound → (run t x1).Sound) : (s.inSess q op run).Sound := by
  unfold State.inSess
  split
  · exact h.reply
  · split
    · exact either (hrun h) h.reply
    · exact h.reply

theorem State.Sound.execSvcOpen {dt q target} (h : s.Sound) : OutSound (execSvcOpen dt q target s) :=
  .next (h.elapse.serve (fun h => either h.reply (either h.reply (either h.reply (either h.reply (either h.reply
    h.startOp.setOp.inNvm.setSess.logSess.reply))))))

theorem State.Sound.writeBack {a b} (h : s.Sound) : (s.writeBack a b).2.Sound := by
  unfold State.writeBack
  exact either1 h.mramPut h.mramPut.flushWrites.mramRead

theorem State.Sound.putBlock {x k b} (h : s.Sound) : (s.putBlock x k b).2.Sound := by
  unfold State.putBlock
  split
  · exact either1 h.writeBack (either1 h.journal.writeBack h.journal)
  · exact either1 ((foldl1 (fun h => either1 h.journal h) h).writeBack) (foldl1 (fun h => either1 h.journal h) h)
  · exact h.writeBack

theorem State.Sound.execSvcWrite {dt q block chunk data} (h : s.Sound) : OutSound (execSvcWrite dt q block chunk data s) := by
  unfold Machine.execSvcWrite
  refine .next (h.elapse.serve (fun h => h.inSess (fun h => ?_)))
  split
  · exact h.reply
  · split
    · exact h.reply
    · split
      · exact h.reply
      · extract_lets +onlyGivenNames x s1
        have hs1 : s1.Sound := h.setSess
        clear_value x s1
        split
        · exact hs1.reply
        · exact either hs1.setSess.reply (either hs1.setSess.inNvm.putBlock.reply hs1.setSess.inNvm.putBlock.endSess.reply)

theorem State.Sound.execSvcStatus {dt q} (h : s.Sound) : OutSound (execSvcStatus dt q s) := .next (h.elapse.serve (fun h =>
    h.reply))

theorem State.Sound.execSvcVerify {dt q} (h : s.Sound) : OutSound (execSvcVerify dt q s) :=
  .next (h.elapse.serve (fun h => h.inSess (fun h => either h.reply (either h.verify.setSess.reply h.verify.inNvm.setSess.reply))))

theorem State.Sound.execSvcActivate {dt q tact chainMin chainMax} (h : s.Sound) : OutSound (execSvcActivate dt q tact chainMin
    chainMax s) :=
  .next (h.elapse.serve (fun h => h.inSess (fun h => either h.reply (either h.reply (either h.inNvm.reply h.inNvm.setSess.reply)))))

theorem State.Sound.execSvcClose {dt q} (h : s.Sound) : OutSound (execSvcClose dt q s) :=
  .next (h.elapse.serve (fun h => h.inSess (fun h => either h.reply h.endSess.reply)))

theorem State.Sound.execSvcConfirm {dt q} (h : s.Sound) : OutSound (execSvcConfirm dt q s) :=
  .next (h.elapse.serve (fun h => either h.inNvm.reply h.reply))

theorem State.Sound.execSvcRestart {dt q} (h : s.Sound) : OutSound (execSvcRestart dt q s) :=
  .next (h.elapse.serve (fun h => h.inSess (fun h => h.reply.stewardStop)))

theorem State.Sound.execSvcRead {dt q addr count} (h : s.Sound) : OutSound (execSvcRead dt q addr count s) :=
  .next (h.elapse.serve (fun h => either h.reply h.mramRead.reply))

theorem State.Sound.execSvcKeyslot {dt q require x y} (h : s.Sound) : OutSound (execSvcKeyslot dt q require x y s) :=
  .next (h.elapse.serve (fun h => either h.reply (either h.reply h.feedsMram.inNvm.reply)))

theorem State.Sound.execSessionTimeout {dt} (h : s.Sound) : OutSound (execSessionTimeout dt s) := by
  unfold Machine.execSessionTimeout
  extract_lets +onlyGivenNames s1
  have hs1 : s1.Sound := h.elapse
  clear_value s1
  split
  · exact .either (.next hs1.until_.endSess) (.next hs1)
  · exact .next hs1

theorem State.Sound.loadCfg {c} (h : s.Sound) : (s.loadCfg c).Sound := (foldl (fun h => h.setUnder) h).frame

theorem State.Sound.activated {x} (h : s.Sound) : OptSound (s.activated x) := by
  unfold State.activated
  extract_lets +onlyGivenNames b
  split
  · exact .some h.mramStore.mramStore
  · exact .map h.frame.loadCfg
  · exact .map h.frame
  · exact .map h.frame

theorem State.Sound.launch {x} (h : s.Sound) : (s.launch x).Sound :=
  either h.jrnStep.flushWrites.inNvm.doneSess h.jrnStep.flushWrites.inNvm.doneSess.stewardStop

theorem State.Sound.activateProgram {x} (h : s.Sound) : (s.activateProgram x).Sound :=
  either (either h (either h.jrnStep.doneSess h.endSess)) (either h.setSess.loadStart.endSess h.setSess.loadStart)

theorem State.Sound.execActivation {dt} (h : s.Sound) : OutSound (execActivation dt s) := by
  unfold Machine.execActivation
  extract_lets +onlyGivenNames s1
  have hs1 : s1.Sound := h.elapse
  clear_value s1
  split
  · split
    · extract_lets +onlyGivenNames x s2
      have hs2 : s2.Sound := (either hs1.until_ hs1.untilTb).setSess
      clear_value x s2
      split
      · exact .next hs2
      · extract_lets +onlyGivenNames s3
        have hs3 : s3.Sound := hs2.flushWrites
        clear_value s3
        split
        · exact .next hs3.activateProgram
        · split
          · exact .next hs3.launch
          · split
            · rename_i t1 e1
              have ht1 : t1.Sound := hs3.imageRead.of_snd e1
              split
              · rename_i t2 e2
                have ht2 : t2.Sound := (eitherOpt ht1.activated .none).of_some e2
                exact .next (either ht2.doneSess.beginCommit ht2.doneSess)
              · exact .next ht1.endSess
    · exact .next hs1
  · exact .next hs1

theorem State.Sound.execImageConfirm {dt} (h : s.Sound) : OutSound (execImageConfirm dt s) := by
  unfold Machine.execImageConfirm
  extract_lets +onlyGivenNames s1
  have hs1 : s1.Sound := h.elapse
  clear_value s1
  split
  · exact .either (.either (.next hs1.until_) (.next hs1.until_.jrnStep.flushWrites.logUpdate.setAct)) (.next hs1)
  · exact .next hs1

theorem State.Sound.fallBack {cause} (h : s.Sound) : (s.fallBack cause).Sound := either h.logUpdate.inNvm h.logUpdate.inNvm.present

theorem State.Sound.execConfirmWindowExpiry {dt} (h : s.Sound) : OutSound (execConfirmWindowExpiry dt s) :=
  .either (.next h.elapse.until_.fallBack.stewardStop) (.next h.elapse)

theorem State.Sound.reselectCfg (h : s.Sound) : s.reselectCfg.Sound := either h.frame (either h.frame (either h.frame h))
theorem State.Sound.migrate (h : s.Sound) : s.migrate.Sound := either h (either h.pageDone.frame h.inNvm)
theorem State.Sound.restoreOld (h : s.Sound) : s.restoreOld.Sound := ((either h.inNvm h).rollback).reselectCfg

theorem State.Sound.loadImage (h : s.Sound) : s.loadImage.2.Sound := by
  unfold State.loadImage
  extract_lets +onlyGivenNames n
  clear_value n
  split
  next e =>
  refine of_snd (foldl1 (fun h => ?_) h) e
  exact h.mramRead

theorem State.Sound.journalStart (h : s.Sound) : s.journalStart.Sound := by
  unfold State.journalStart
  split
  · exact h.inNvm.jrnPut.jrnPut
  · next j _ =>
    have hs1 : ({ s with nvm := { s.nvm with jrnFound := j.st.num } } : State).Sound := h.inNvm
    revert hs1
    generalize ({ s with nvm := { s.nvm with jrnFound := j.st.num } } : State) = s1
    intro hs1
    dsimp only
    split
    · exact hs1.inNvm
    · exact hs1.jrnStep.flushWrites.inNvm.logUpdate.migrate.setAct
    · exact hs1.restoreOld
    · exact (either hs1.fallBack hs1).restoreOld

theorem State.Sound.execStewardStart {dt} (h : s.Sound) : OutSound (execStewardStart dt s) :=
  .either (.next h.elapse) (.either (.next h.elapse.journalStart.stewardRun) (.next (either
    h.elapse.loadImage.journalStart.stewardRun h.elapse.loadImage.inNvm)))

theorem State.Sound.execStewardWatchdog {dt} (h : s.Sound) : OutSound (execStewardWatchdog dt s) :=
  .either (.next h.elapse.until_.inNvm.present1.stewardStop) (.next h.elapse)

theorem State.Sound.packet {q op o} (h : s.Sound) : OutSound (s.packet q op o) := by
  unfold State.packet
  extract_lets +onlyGivenNames bad
  have hbad : OutSound bad := .next (h.serve fun h => h.reply)
  clear_value bad
  split
  · exact .either h.execSvcOpen hbad
  · exact .either h.execSvcWrite hbad
  · exact .either h.execSvcStatus hbad
  · exact .either h.execSvcVerify hbad
  · exact .either h.execSvcActivate hbad
  · exact .either h.execSvcClose hbad
  · exact .either h.execSvcConfirm hbad
  · exact .either h.execSvcRestart hbad
  · exact .either h.execSvcRead hbad
  · exact .either h.execSvcKeyslot hbad
  · exact .either (.next (either h.cmdArrive h)) hbad

theorem State.Sound.srvTake {b} (h : s.Sound) : (s.srvTake b).Sound := by
  unfold State.srvTake
  split
  · rename_i t e
    have ht : t.Sound := h.packet.of_next e
    exact ht
  · exact h

theorem State.Sound.execServiceFrameGap {e} (h : s.Sound) : OutSound (execServiceFrameGap e s) :=
  .next (foldl (fun h => h.srvTake) h.elapse)

/-! #### Of `RegRead` -/

theorem State.Sound.advance {rq a n top} (h : s.Sound) : (s.advance rq a n top).Sound := either h.setBank h
theorem State.Sound.rdSeqWin {rq prog} (h : s.Sound) : (s.rdSeqWin rq prog).2.Sound := either1 h.seqEcc.advance h.seqEcc.advance

theorem State.Sound.rdLedger {rq k} (h : s.Sound) : (s.rdLedger rq k).2.Sound := by
  unfold State.rdLedger
  extract_lets +onlyGivenNames a w
  split
  next e =>
  have hs1 := h.mramRead.of_snd e
  split
  next e =>
  have hs2 := State.Sound.of_snd (either1 hs1 hs1.free) e
  exact either hs2.advance hs2

theorem State.Sound.readEffect {rq host a} (h : s.Sound) : (s.readEffect rq host a).Sound := by
  unfold State.readEffect
  split
  · exact h.takeRead
  · split
    · exact h.setBank
    · exact h.advance
    · exact h.advance
    · exact h.advance
    · exact h.advance
    · exact either h.inNet h
    · exact h

theorem State.Sound.readNow {rq host a} (h : s.Sound) : (s.readNow rq host a).2.Sound :=
  either1 h.pageWord (either1 h.rdSeqWin (either1 h.rdSeqWin (either1 h.rdLedger (either1 h.custRead.advance h.readEffect))))

theorem State.Sound.readReg {rq host a} (h : s.Sound) : (s.readReg rq host a).2.Sound := h.readNow

theorem State.Sound.readRegs {k rq host a} (h : s.Sound) : (State.readRegs k s rq host a).2.Sound := by
  induction k generalizing s a with
  | zero => exact h
  | succ k ih => exact ih (either h.readReg h.readReg.elapse)

/-! #### Of `RegWrite` -/

theorem State.Sound.storeReg {a v} (h : s.Sound) : (s.storeReg a v).Sound := either (either h h.setUnder) ((either h
    h.setUnder).frame)

theorem State.Sound.storeSel {rq a v} (h : s.Sound) : (s.storeSel rq a v).Sound := h.setBank

theorem State.Sound.cellsChanged {old} (h : s.Sound) : (s.cellsChanged old).Sound :=
  either h (foldl (fun h => h.completeConv) (((foldl (fun h => either h h.frame) h).frame).frame))

theorem State.Sound.ringCheck {was} (h : s.Sound) : (s.ringCheck was).Sound := either (either h h.inNet) (either h.inNet.setRing h)

theorem State.Sound.settle {cells ring} (h : s.Sound) : (s.settle cells ring).Sound :=
  (((((((either h h.cellsChanged.cellsOff).dropLost).pauseCheck).rlvCheck).ringCheck).portCheck).bindCheck).setRate

theorem State.Sound.takeSnap (h : s.Sound) : s.takeSnap.Sound := foldl (fun h => h.takeRead) h.frame
theorem State.Sound.opWrite {rq v} (h : s.Sound) : (s.opWrite rq v).Sound := either h h.opCtl.setBank

theorem State.Sound.jetWrite {j v} (h : s.Sound) : (s.jetWrite j v).Sound := either h.killJet (either h.stopReq (either
    h.startJet h))

theorem State.Sound.ecpWrite {v} (h : s.Sound) : (s.ecpWrite v).Sound :=
  either (((either ((either h.toneSend h).toneSend) (either h.toneSend h)).setPort).setPort) (either ((either h.toneSend
    h).toneSend) (either h.toneSend h))

theorem State.Sound.enumBegin {clear} (h : s.Sound) : (s.enumBegin clear).Sound := by
  unfold State.enumBegin
  split
  · exact h
  · split
    · exact h.inNet
    · extract_lets +onlyGivenNames e t
      have ht : t.Sound := h.enumSend
      clear_value e t
      split
      · exact either h.enumSend ht
      · exact ht

theorem State.Sound.netWrite {v} (h : s.Sound) : (s.netWrite v).Sound := either ((either h.enumBegin h).sendNormal) (either
    h.enumBegin h)

theorem State.Sound.bstWrite {rq v} (h : s.Sound) : (s.bstWrite rq v).Sound :=
  either ((either ((either h.campStart h).repairUnit) (either h.campStart h)).frame) (either ((either h.campStart h).repairUnit)
    (either h.campStart h))

theorem State.Sound.clearWc {a v} (h : s.Sound) : (s.clearWc a v).Sound := by
  unfold State.clearWc
  extract_lets +onlyGivenNames b
  clear_value b
  split
  · exact h.frame
  · exact h.frame
  · exact either h.frame h
  · exact either h.inSeq h
  · exact either h.inSeq h
  · exact foldl (fun h => h.setBal) h
  · exact h.frame
  · exact either h.frame h
  · exact either h.inNet h
  · exact either h.inNet h
  · exact h.frame
  · exact either h.frame h
  · exact either h.frame h
  · exact either h.inNvm h
  · exact h

theorem State.Sound.resetWrite {v} (h : s.Sound) : (s.resetWrite v).Sound := either h.resetWith h

theorem State.Sound.effectLow {rq armed a v} (h : s.Sound) : (s.effectLow rq armed a v).Sound := by
  unfold State.effectLow
  split
  · exact (either h.resetStrm h).examine
  · split
    · exact either h.setStrm h
    · split
      · exact h.localRequest
      · exact h.keyWrite
      · exact h.resetWrite
      · exact either h.cfgDiscard (either h.cfgSave h)
      · exact getD h.ovlWrite h
      · exact getD h.ovlWrite h
      · exact getD h.ovlWrite h
      · exact either h.owDue h
      · exact either h.calStart h
      · exact either h.takeSnap h
      · exact h.ackPages
      · exact foldl (fun h => h.closePage) h
      · exact h.clearWc

theorem State.Sound.effectMid {rq a v} (h : s.Sound) : (s.effectMid rq a v).Sound := by
  unfold State.effectMid
  split
  · exact h.examineGrp
  · split
    · exact h.jetWrite
    · split
      · exact h.writeLevel
      · split
        · exact h.reqQuota
        · split
          · exact h.setFlags
          · exact h.setFlags
          · exact h.clearFlags
          · exact h.clearFlags
          · exact h.putProg.advance
          · exact h.putScratch.advance
          · exact either h.loadStart h
          · exact h.nextCycle (fun h => h.triggerAll)
          · exact h.opWrite
          · exact either h.specStart h
          · exact h.clearWc

theorem State.Sound.effectHigh {rq a v} (h : s.Sound) : (s.effectHigh rq a v).Sound := by
  unfold State.effectHigh
  split
  · exact getD h.chkWrite h
  · split
    · exact either h.frame h
    · split
      · exact h.stickyClear
      · split
        · exact h.secClear
        · split
          · exact h.ecpWrite
          · exact h.netWrite
          · exact either h.rilSettle.searchStart h
          · exact h.rilSettle.clearWc.directStart
          · exact either h.aliveKey h
          · exact h.storeReg
          · exact either h.clearAll h
          · exact h.restoreSens
          · exact h.bstWrite
          · exact either h.scrubBegin h
          · exact getD h.bindKey h
          · exact h.custWrite.advance
          · exact h.clearWc

theorem State.Sound.ownerActs {rq a} (h : s.Sound) : (s.ownerActs rq a).Sound := either h.frame h
theorem State.Sound.stored {rq a v} (h : s.Sound) : (s.stored rq a v).Sound := either h.ownerActs.storeReg h.ownerActs

theorem State.Sound.effect {rq armed a v} (h : s.Sound) : (s.effect rq armed a v).Sound :=
  either h.effectLow (either h.effectMid h.effectHigh)

theorem State.Sound.replaced {rq armed a v} (h : s.Sound) : (s.replaced rq armed a v).Sound := by
  unfold State.replaced
  split
  · exact h.ownerActs.effect
  · split
    · exact h.advance
    · exact h.advance
    · exact h.advance
    · exact either h.chkOwn h

theorem State.Sound.noteWrite {rq a} (h : s.Sound) : (s.noteWrite rq a).Sound := either h (either h.noteOld h.noteOld.noteRank)
theorem State.Sound.busNow {a} (h : s.Sound) : (s.busNow a).Sound := either h.rilSettle h

theorem State.Sound.inputWrite {a} (h : s.Sound) : (s.inputWrite a).Sound := by
  unfold State.inputWrite
  split
  · exact h.inputChanged
  · exact h.inputChanged
  · exact h

theorem State.Sound.applyWrite {rq armed a v} (h : s.Sound) : (s.applyWrite rq armed a v).Sound := by
  unfold State.applyWrite
  split
  · exact h
  · extract_lets +onlyGivenNames s1 u
    have hs1 : s1.Sound := h.busNow
    have hu : u.Sound := hs1.noteWrite
    clear_value s1 u
    exact either hu.storeSel ((either ((either hu.replaced hu.stored.effect).settle) (either hu.replaced
      hu.stored.effect)).inputWrite)

theorem State.Sound.disarm {rq} (h : s.Sound) : (s.disarm rq).Sound := h.frame

theorem State.Sound.writeReg {rq a v} (h : s.Sound) : (s.writeReg rq a v).2.Sound := by
  unfold State.writeReg
  extract_lets +onlyGivenNames st
  split
  · exact h.frame
  · exact either h.disarm.applyWrite h.disarm

theorem State.Sound.writeRegs {l rq a} (h : s.Sound) : (State.writeRegs l s rq a).2.2.Sound := by
  induction l generalizing s a with
  | nil => exact h
  | cons v t ih =>
    unfold State.writeRegs
    split
    next st s1 e =>
    have hs1 : s1.Sound := h.writeReg.of_snd e
    split
    · exact hs1
    · exact either2 hs1 (ih (either hs1 hs1.elapse))

theorem State.Sound.access {rq a v} (h : s.Sound) : (s.access rq a v).Sound := either h.writeReg.answers h
theorem State.Sound.readAccess {rq host a} (h : s.Sound) : (s.readAccess rq host a).Sound := either h.readReg.answers h

/-! #### Of `Commit` -/

theorem State.Sound.moveRwo (h : s.Sound) : s.moveRwo.Sound := foldl (fun h => h.setUnder) h.frame
theorem State.Sound.commitMode {c} (h : s.Sound) : (s.commitMode c).Sound := h.frame
theorem State.Sound.takeSpread (h : s.Sound) : s.takeSpread.Sound := h.frame
theorem State.Sound.reclock (h : s.Sound) : s.reclock.Sound := h.clearDecims.frame
theorem State.Sound.abortGroups (h : s.Sound) : s.abortGroups.Sound := foldl (fun h => h.abortConv) h
theorem State.Sound.owReclock (h : s.Sound) : s.owReclock.Sound := either h.owAbort.frame h

theorem State.Sound.haltJets {f} (h : s.Sound) (hf : ∀ {t x1}, t.Sound → (f t x1).Sound) : (s.haltJets f).Sound :=
  foldl (fun h => either (hf h) h) h

theorem State.Sound.lockConvs (h : s.Sound) : s.lockConvs.Sound := foldl (fun h => h.frame) h

theorem State.Sound.enterLockout (h : s.Sound) : s.enterLockout.Sound :=
  (((foldl (fun h => either h.setGrp.heldResolved h) ((h.haltJets (fun h => h.stopJet)).abortGroups)).cmdFlush).frame).lockConvs

theorem State.Sound.enterSleep (h : s.Sound) : s.enterSleep.Sound :=
  ((((((h.haltJets (fun h => h.killNow)).abortGroups).owAbort).stewardStop).clearDecims).dropConvs).frame

theorem State.Sound.enterWatch (h : s.Sound) : s.enterWatch.Sound := h.owReclock.reclock.readsNow.frame.reclockJets.notePower

theorem State.Sound.leaveWatch (h : s.Sound) : s.leaveWatch.Sound := by
  unfold State.leaveWatch
  exact h.owReclock.reclock.jetsAfterGap.readsNow.inFlt.reclockJets.notePower

theorem State.Sound.leaveMode {old} (h : s.Sound) : (s.leaveMode old).Sound := by
  unfold State.leaveMode
  split
  · exact either h h.frame.openAll
  · exact either h h.openAll
  · exact either h h.openAll
  · exact either h h.leaveWatch
  · exact h

theorem State.Sound.enterMode {old} (h : s.Sound) : (s.enterMode old).Sound := by
  unfold State.enterMode
  extract_lets +onlyGivenNames s1 s2 s3
  have hs1 : s1.Sound := by
    unfold s1
    split
    · exact h.enterSleep
    · exact h.enterSleep
    · exact either h h.enterWatch
    · exact either h h.enterLockout
    · exact h
  have hs3 : s3.Sound := either hs1.frame hs1
  extract_lets +onlyGivenNames s4
  clear_value s4
  extract_lets +onlyGivenNames s5
  have hs5 : s5.Sound := either hs3.frame hs3
  clear_value s5
  split
  · exact hs5.owAbort
  · exact hs5.owAbort
  · exact hs5.owAbort
  · exact hs5.owAbort
  · exact hs5.owEnter

theorem State.Sound.examineCfg (h : s.Sound) : s.examineCfg.Sound := foldl (fun h => h.examineGrp) h.examineAll

theorem State.Sound.completeCommit {c} (h : s.Sound) : (s.completeCommit c).Sound := by
  unfold State.completeCommit
  extract_lets +onlyGivenNames s1 cells ring old s2 s3 s4
  have hs1 : s1.Sound := h.rilSettle
  have hs2 : s2.Sound := hs1.moveRwo.commitMode.takeSpread
  have hs3 : s3.Sound := hs2.leaveMode.enterMode
  have hs4 : s4.Sound := hs3.settle.examineCfg
  clear_value s1 cells ring old s2 s3 s4
  exact either hs4.preemptPrepared hs4

theorem State.Sound.nextReaction (h : s.Sound) : s.nextReaction.Sound := by
  unfold State.nextReaction
  split
  · exact h.frame.beginCommit
  · exact h

theorem State.Sound.unranked (h : s.Sound) : s.unranked.Sound := h.cycMod
theorem State.Sound.replayOne {e} (h : s.Sound) : (s.replayOne e).Sound := either h.disarm.unranked.applyWrite.unranked h.disarm

theorem State.Sound.replay {l} (h : s.Sound) : (State.replay l s).Sound := by
  induction l generalizing s with
  | nil => exact h
  | cons e t ih => exact either (ih h.replayOne) h.replayOne

theorem State.Sound.execOverlayCommit {dt} (h : s.Sound) : OutSound (execOverlayCommit dt s) := by
  unfold Machine.execOverlayCommit
  extract_lets +onlyGivenNames s1
  have hs1 : s1.Sound := h.elapse
  clear_value s1
  split
  · exact .next hs1.until_.completeCommit.replay.nextReaction
  · exact .next hs1

/-! #### Of `Startup` -/

theorem State.Sound.execLoaderStart {dt aOk bOk} (h : s.Sound) : OutSound (execLoaderStart dt aOk bOk s) := by
  unfold Machine.execLoaderStart
  extract_lets +onlyGivenNames s1
  have hs1 : s1.Sound := h.elapse
  clear_value s1
  split
  · extract_lets +onlyGivenNames s2 s3
    have hs2 : s2.Sound := hs1.until_
    clear_value s2 s3
    extract_lets +onlyGivenNames s4
    have hs4 : s4.Sound := hs2.frame
    clear_value s4
    split
    · rename_i t e
      have ht : t.Sound := hs4.mramRead.of_snd e
      exact .either (.next ((either1 ht ht.mramRead).inNvm)) (.next ((either1 ht ht.mramRead).frame))
  · exact .next hs1

theorem State.Sound.execImageCopyDone {dt ok} (h : s.Sound) : OutSound (execImageCopyDone dt ok s) := by
  unfold Machine.execImageCopyDone
  extract_lets +onlyGivenNames s1
  have hs1 : s1.Sound := h.elapse
  clear_value s1
  split
  · split
    · rename_i t e
      have ht : t.Sound := hs1.loadImage.of_snd e
      exact .next (either ht.frame ht.inNvm.portCheck)
  · exact .next hs1

theorem State.Sound.applyEntry {e} (h : s.Sound) : (s.applyEntry e).Sound := by
  unfold State.applyEntry
  split
  · exact h.setSpare.seatRepair
  · exact h.parkSpare.setSpare.seatRepair
  · exact either h.frame h.frame
  · exact h.inNvm
  · exact h

theorem State.Sound.loadMap (h : s.Sound) : s.loadMap.Sound := either (foldl (fun h => h.applyEntry) h.inNvm.frame)
    h.inNvm.frame.wcSet

theorem State.Sound.loadConfig (h : s.Sound) : s.loadConfig.Sound := either h.frame.loadCfg h.frame
theorem State.Sound.loadCal (h : s.Sound) : s.loadCal.Sound := h.frame
theorem State.Sound.loadXfet (h : s.Sound) : s.loadXfet.Sound := foldl (fun h => h.setBal) h
theorem State.Sound.configIn (h : s.Sound) : s.configIn.Sound := h.loadMap.loadConfig.loadCal.loadXfet.frame.settle.examineCfg
theorem State.Sound.startLedger (h : s.Sound) : s.startLedger.Sound := either h.ledgScan.ledger.frame.ledger h.ledgScan.ledger

theorem State.Sound.execConfigLoad {dt} (h : s.Sound) : OutSound (execConfigLoad dt s) :=
  .either (.next h.elapse.configIn.startLedger.inNvm.present) (.next h.elapse)

theorem State.Sound.execPortEnable {dt} (h : s.Sound) : OutSound (execPortEnable dt s) :=
  .either (.next h.elapse.frame.portCheck) (.next h.elapse)

theorem State.Sound.execStartModeEntry {dt} (h : s.Sound) : OutSound (execStartModeEntry dt s) :=
  .either (.next h.elapse.frame.beginCommit) (.next h.elapse)

/-! #### Of `Wire` -/

theorem State.Sound.putFrom {p start sof done f} (h : s.Sound) : (s.putFrom p start sof done f).Sound := by
  unfold State.putFrom
  extract_lets +onlyGivenNames f' best
  exact h.setPort

theorem State.Sound.putFrame {p f} (h : s.Sound) : (s.putFrame p f).Sound := h.putFrom
theorem State.Sound.forward {o f busy} (h : s.Sound) : (s.forward o f busy).Sound := either h.putFrom h.send
theorem State.Sound.abortCopy {o f n own busy} (h : s.Sound) : (s.abortCopy o f n own busy).Sound := either h.setPort h

/-! #### Of `Frames` -/

theorem State.Sound.heardEnd {p info} (h : s.Sound) : (s.heardEnd p info).Sound := h.setPort
theorem State.Sound.crcFail {p info} (h : s.Sound) : (s.crcFail p info).Sound := h.heardEnd.setPort.present1
theorem State.Sound.fmtFail {p info} (h : s.Sound) : (s.fmtFail p info).Sound := h.heardEnd.setPort

theorem State.Sound.goodFrame {p f info} (h : s.Sound) : (s.goodFrame p f info).Sound :=
  either h.heardEnd.setPort.present1 h.heardEnd.setPort

theorem State.Sound.dropCopy {p f n busy} (h : s.Sound) : (s.dropCopy p f n busy).Sound := either h (either h.abortCopy h.abortCopy)

theorem State.Sound.execReceiveCheckFailure {dt p bad} (h : s.Sound) : OutSound (execReceiveCheckFailure dt p bad s) := by
  unfold Machine.execReceiveCheckFailure
  extract_lets +onlyGivenNames s1
  have hs1 : s1.Sound := h.elapse
  clear_value s1
  split
  · exact .next hs1
  · extract_lets +onlyGivenNames s2
    have hs2 : s2.Sound := hs1.dropCopy
    clear_value s2
    split
    · exact .next hs2.crcFail
    · exact .next hs2.fmtFail
    · exact .next hs2.heardEnd.setPort

theorem State.Sound.noteHops {p f} (h : s.Sound) : (s.noteHops p f).Sound := either ((either h.wcSet h).inNet) h
theorem State.Sound.ringBack {p f} (h : s.Sound) : (s.ringBack p f).Sound := either (either h.inNet.setRing (either h.inNet h)) h

theorem State.Sound.rxCheck {p f x} (h : s.Sound) : OptSound (s.rxCheck p f x) :=
  eitherOpt (.some h.dropCopy.crcFail) (eitherOpt (.some h.dropCopy.crcFail) (eitherOpt (.some h.dropCopy.fmtFail) .none))

theorem State.Sound.receive {p f x} (h : s.Sound) : (s.receive p f x).Sound := by
  unfold State.receive
  extract_lets +onlyGivenNames fwd s1 s2
  have hs1 : s1.Sound := either h.dropCopy h
  have hs2 : s2.Sound := hs1.goodFrame.noteHops.ringBack
  clear_value fwd s1 s2
  split
  · exact hs2.forward
  · exact hs2

theorem State.Sound.trainFrame {p info} (h : s.Sound) : (s.trainFrame p info).Sound := either h.heardEnd.setPort.portUp
    h.heardEnd.setPort

theorem State.Sound.arrive {p f x take} (h : s.Sound) (htake : ∀ {t}, t.Sound → OutSound (take t)) : OutSound (s.arrive p f x
    take) := by
  unfold State.arrive
  split
  · exact .next h
  · split
    · rename_i t e
      have ht : t.Sound := h.rxCheck.of_some e
      exact .next ht
    · exact .next h.trainFrame
  · split
    · rename_i t e
      have ht : t.Sound := h.rxCheck.of_some e
      exact .next ht
    · exact .either (htake h.receive) (.next h.receive)

theorem State.Sound.execFrameForward {dt p f x} (h : s.Sound) : OutSound (execFrameForward dt p f x s) :=
  .either (.next h.elapse) (h.elapse.arrive (fun h => .next h))

theorem State.Sound.mismatch {p} (h : s.Sound) : (s.mismatch p).Sound := by
  unfold State.mismatch
  split
  · exact h.setPort
  · exact h

theorem State.Sound.takeReg {tag b} (h : s.Sound) : (s.takeReg tag b).Sound := by
  unfold State.takeReg
  extract_lets +onlyGivenNames a n op rsp fits
  have hrsp : ∀ {t x1 x2 x3}, t.Sound → (rsp t x1 x2 x3).Sound := fun h => h.respond
  clear_value a n op rsp fits
  split
  · exact h
  · split
    · exact hrsp h
    · split
      · exact hrsp h.readRegs
      · extract_lets +onlyGivenNames k
        clear_value k
        split
        · rename_i t e
          have ht : t.Sound := h.writeRegs.of_snd2 e
          split
          · exact ht
          · split <;> exact hrsp ht

theorem State.Sound.takeCmd {p tag b} (h : s.Sound) : (s.takeCmd p tag b).Sound := either h.mismatch (either h.cmdArrive h)

theorem State.Sound.pageWords {k m q i} (h : s.Sound) : (State.pageWords k s m q i).2.Sound := by
  induction k generalizing s i with
  | zero => exact h
  | succ k ih => exact ih (either h.pageWord h.pageWord.elapse)

theorem State.Sound.takeBsn {p tag b} (h : s.Sound) : (s.takeBsn p tag b).Sound :=
  either h.mismatch (either h (either h.respond (either h.pageWords.respond h.pageWords.respond)))

theorem State.Sound.takeSvc {p tag b} (h : s.Sound) : OutSound (s.takeSvc p tag b) := .either (.next h) h.packet

theorem State.Sound.execRegFrame {dt p hdr payload} (h : s.Sound) : OutSound (execRegFrame dt p hdr payload s) :=
  h.elapse.arrive (fun h => .next h.takeReg)

theorem State.Sound.execCmdFrame {dt p hdr body} (h : s.Sound) : OutSound (execCmdFrame dt p hdr body s) :=
  h.elapse.arrive (fun h => .next h.takeCmd)

theorem State.Sound.execBsnRdFrame {dt p hdr payload} (h : s.Sound) : OutSound (execBsnRdFrame dt p hdr payload s) :=
  h.elapse.arrive (fun h => .next h.takeBsn)

theorem State.Sound.execSvcFrame {dt p hdr payload} (h : s.Sound) : OutSound (execSvcFrame dt p hdr payload s) :=
  h.elapse.arrive (fun h => h.takeSvc)

theorem State.Sound.modeAck {tag st cause epoch} (h : s.Sound) : (s.modeAck tag st cause epoch).Sound := h.respond

theorem State.Sound.takePrepare {tag target epoch tc} (h : s.Sound) : (s.takePrepare tag target epoch tc).Sound :=
  either h h.prepare.modeAck

theorem State.Sound.takeCommit {tag target epoch tc} (h : s.Sound) : (s.takeCommit tag target epoch tc).Sound :=
  either h h.commitFrame.modeAck

theorem State.Sound.execModePrepare {dt p hdr target epoch tc} (h : s.Sound) : OutSound (execModePrepare dt p hdr target epoch tc
    s) :=
  h.elapse.arrive (fun h => .next h.takePrepare)

theorem State.Sound.execModeCommit {dt p hdr target epoch tc} (h : s.Sound) : OutSound (execModeCommit dt p hdr target epoch tc s) :=
  h.elapse.arrive (fun h => .next h.takeCommit)

theorem State.Sound.netAnswer {tag op rest} (h : s.Sound) : (s.netAnswer tag op rest).Sound := h.respond
theorem State.Sound.takeClear (h : s.Sound) : s.takeClear.Sound := h.frame.bindCheck
theorem State.Sound.takeAssign {tag hops} (h : s.Sound) : (s.takeAssign tag hops).Sound := either h.frame.netAnswer.bindCheck h
theorem State.Sound.takeDiscover {tag hops} (h : s.Sound) : (s.takeDiscover tag hops).Sound := h.netAnswer
theorem State.Sound.roles {north} (h : s.Sound) : (s.roles north).Sound := h.setPort.setPort
theorem State.Sound.takeReverse {tag} (h : s.Sound) : (s.takeReverse tag).Sound := h.roles.netAnswer

theorem State.Sound.execNetClear {dt p hdr hops} (h : s.Sound) : OutSound (execNetClear dt p hdr hops s) :=
  h.elapse.arrive (fun h => .next h.takeClear)

theorem State.Sound.execNetAssign {dt p hdr hops} (h : s.Sound) : OutSound (execNetAssign dt p hdr hops s) :=
  h.elapse.arrive (fun h => .next h.takeAssign)

theorem State.Sound.execNetDiscover {dt p hdr hops} (h : s.Sound) : OutSound (execNetDiscover dt p hdr hops s) :=
  h.elapse.arrive (fun h => .next h.takeDiscover)

theorem State.Sound.execNetReverse {dt p hdr hops} (h : s.Sound) : OutSound (execNetReverse dt p hdr hops s) :=
  h.elapse.arrive (fun h => .next h.takeReverse)

theorem State.Sound.execNetNormal {dt p hdr hops} (h : s.Sound) : OutSound (execNetNormal dt p hdr hops s) :=
  h.elapse.arrive (fun h => .next h.roles)

theorem State.Sound.slipDecims {m0 m1} (h : s.Sound) : (s.slipDecims m0 m1).Sound := h.frame
theorem State.Sound.moveWindows {t} (h : s.Sound) : (s.moveWindows t).Sound := h.inFlt

theorem State.Sound.stepTb {e} (h : s.Sound) : (s.stepTb e).Sound := by
  unfold State.stepTb
  extract_lets +onlyGivenNames old t s1
  have hs1 : s1.Sound := h.cmdReach
  clear_value s1
  exact foldl (fun h => h.setPort) hs1.wcSet.inNet.slipDecims.moveWindows

theorem State.Sound.slewTb {e} (h : s.Sound) : (s.slewTb e).Sound := h.frame

theorem State.Sound.takeSync {tOrigin corr sseq} (h : s.Sound) : (s.takeSync tOrigin corr sseq).Sound :=
  either h (either h.rilSettle.inNet.setRate.stepTb h.rilSettle.inNet.setRate.slewTb)

theorem State.Sound.execSyncFrame {dt p hdr tOrigin corr sseq hops} (h : s.Sound) : OutSound (execSyncFrame dt p hdr tOrigin corr
    sseq hops s) :=
  h.elapse.arrive (fun h => .next h.takeSync)

theorem State.Sound.takePeer {f} (h : s.Sound) : (s.takePeer f).Sound := either ((either h.rxPut h).takePhasors) (either h.rxPut h)

theorem State.Sound.execPeerFrame {dt p hdr payload} (h : s.Sound) : OutSound (execPeerFrame dt p hdr payload s) :=
  h.elapse.arrive (fun h => .next h.takePeer)

theorem State.Sound.execRegRspFrame {dt p hdr payload} (h : s.Sound) : OutSound (execRegRspFrame dt p hdr payload s) :=
  h.elapse.arrive (fun h => .next h.tagAnswer)

theorem State.Sound.execCmdRspFrame {dt p hdr payload} (h : s.Sound) : OutSound (execCmdRspFrame dt p hdr payload s) :=
  h.elapse.arrive (fun h => .next h.tagAnswer)

theorem State.Sound.execBsnHitFrame {dt p hdr payload} (h : s.Sound) : OutSound (execBsnHitFrame dt p hdr payload s) :=
  h.elapse.arrive (fun h => .next h.tagAnswer)

theorem State.Sound.execBsnMissFrame {dt p hdr payload} (h : s.Sound) : OutSound (execBsnMissFrame dt p hdr payload s) :=
  h.elapse.arrive (fun h => .next h.tagAnswer)

theorem State.Sound.execSvcRspFrame {dt p hdr payload} (h : s.Sound) : OutSound (execSvcRspFrame dt p hdr payload s) :=
  h.elapse.arrive (fun h => .next h.tagAnswer)

theorem State.Sound.execNotifyFrame {dt p hdr payload} (h : s.Sound) : OutSound (execNotifyFrame dt p hdr payload s) :=
  h.elapse.arrive (fun h => .next h.rxPut)

theorem State.Sound.execModeAckFrame {dt p hdr payload} (h : s.Sound) : OutSound (execModeAckFrame dt p hdr payload s) :=
  h.elapse.arrive (fun h => .next h.tagAnswer)

theorem State.Sound.enumDiscover {e} (h : s.Sound) : (s.enumDiscover e).Sound := h.enumSend

theorem State.Sound.takeAssigned {f} (h : s.Sound) : (s.takeAssigned f).Sound := by
  unfold State.takeAssigned
  extract_lets +onlyGivenNames run s1
  have hs1 : s1.Sound := h.tagAnswer
  clear_value run s1
  split
  · exact either hs1.enumDiscover hs1.enumSend
  · exact hs1

theorem State.Sound.execNetAssigned {dt p hdr payload} (h : s.Sound) : OutSound (execNetAssigned dt p hdr payload s) :=
  h.elapse.arrive (fun h => .next h.takeAssigned)

theorem State.Sound.takePresent {f} (h : s.Sound) : (s.takePresent f).Sound := by
  unfold State.takePresent
  extract_lets +onlyGivenNames run s1
  have hs1 : s1.Sound := h.tagAnswer
  clear_value run s1
  split
  · exact hs1.setEnum
  · exact hs1

theorem State.Sound.execNetPresent {dt p hdr payload} (h : s.Sound) : OutSound (execNetPresent dt p hdr payload s) :=
  h.elapse.arrive (fun h => .next h.takePresent)

theorem State.Sound.takeReversed {f} (h : s.Sound) : (s.takeReversed f).Sound := by
  unfold State.takeReversed
  split
  · exact h.lateAnswer
  · next c _ =>
    have hs1 : State.Sound (State.tagAnswer { s with
        net := { s.net with collect := some { c with last := s.clk, got := c.got ++ [f.addr] } } } f) := h.inNet.tagAnswer
    dsimp only
    split
    · exact either hs1.closeCollect hs1
    · exact hs1

theorem State.Sound.execNetReversed {dt p hdr payload} (h : s.Sound) : OutSound (execNetReversed dt p hdr payload s) :=
  h.elapse.arrive (fun h => .next h.takeReversed)

theorem State.Sound.takeLinkDown {f} (h : s.Sound) : (s.takeLinkDown f).Sound := either h.rxPut.recover h.rxPut

theorem State.Sound.execNetLinkDown {dt p hdr payload} (h : s.Sound) : OutSound (execNetLinkDown dt p hdr payload s) :=
  h.elapse.arrive (fun h => .next h.takeLinkDown)

theorem State.Sound.takeHealed {f} (h : s.Sound) : (s.takeHealed f).Sound := either h.rxPut.sendNormal h.rxPut

theorem State.Sound.execNetHealed {dt p hdr payload} (h : s.Sound) : OutSound (execNetHealed dt p hdr payload s) :=
  h.elapse.arrive (fun h => .next h.takeHealed)

/-! #### Of `Link` -/

theorem State.Sound.dequeue {p f e} (h : s.Sound) : (s.dequeue p f e).Sound := by
  unfold State.dequeue
  split
  · exact ⟨h.mram, h.queue, List.length_erase_le.trans h.txq, h.rxq, h.faults⟩
  · exact h.setPort

theorem State.Sound.tagAt {tag handle addr start} (h : s.Sound) : (s.tagAt tag handle addr start).Sound := h.inNet

theorem State.Sound.enumSent {f tag done} (h : s.Sound) : (s.enumSent f tag done).Sound := by
  unfold State.enumSent
  split
  · split
    · exact either h.enumSend h
    · exact either h.setEnum h
    · exact either h.setEnum h
    · exact h
  · exact h

theorem State.Sound.execLocal {f tag} (h : s.Sound) : OutSound (s.execLocal f tag) := by
  unfold State.execLocal
  split
  · exact .next h.takeReg
  · exact .next h.takeCmd
  · exact .next h.takeBsn
  · split
    · extract_lets +onlyGivenNames b tc
      clear_value b tc
      split
      · exact .next h.takePrepare
      · exact .next h.takeCommit
      · exact .next h
    · exact .next h
  · exact .next h.takeDiscover
  · exact h.takeSvc
  · exact .next h

theorem State.Sound.execTransmitStart {dt x} (h : s.Sound) : OutSound (execTransmitStart dt x s) := by
  unfold Machine.execTransmitStart
  extract_lets +onlyGivenNames s1 p
  have hs1 : s1.Sound := h.elapse
  clear_value s1 p
  split
  · extract_lets +onlyGivenNames s2 done
    have hs2 : s2.Sound := hs1.until_
    clear_value s2 done
    split
    · exact .next hs2
    · split
      · split
        · exact .next hs2
        · extract_lets +onlyGivenNames g twins s3 s4
          have hs3 : s3.Sound := hs2.dequeue.tagAt.putFrame
          have hs4 : s4.Sound := foldl (fun h => h.send) hs3
          clear_value g twins s3 s4
          exact .either (.next hs4.enumSent) (.either hs4.execLocal (.next hs4))
      · exact .next (foldl (fun h => h.send) hs2.dequeue.putFrame)
  · exact .next hs1

theorem State.Sound.putLnk {p ask} (h : s.Sound) : (s.putLnk p ask).Sound := h.setPort
theorem State.Sound.askLnk {p t sq} (h : s.Sound) : (s.askLnk p t sq).Sound := either h.until_ h.until_.putLnk

theorem State.Sound.answerLnk {p} (h : s.Sound) : OutSound (s.answerLnk p) := by
  unfold State.answerLnk
  split
  · exact .either h.execTransmitStart (.next h.elapse.putLnk)
  · exact .next h.elapse.putLnk

theorem State.Sound.takeLnk {p info} (h : s.Sound) : (s.takeLnk p info).Sound := by
  unfold State.takeLnk
  extract_lets +onlyGivenNames n s1 q
  have hs1 : s1.Sound := h.heardEnd.setPort
  clear_value n s1 q
  split
  · exact either hs1.portUp hs1
  · exact either hs1 hs1.setPort.portTrain
  · exact hs1

theorem State.Sound.execLnkToken {dt p info} (h : s.Sound) : OutSound (execLnkToken dt p info s) :=
  .either (.next h.elapse) (.either (.next h.elapse.heardEnd) (.either (.next h.elapse.takeLnk) h.elapse.takeLnk.answerLnk))

theorem State.Sound.execTrainingLnk {dt x} (h : s.Sound) : OutSound (execTrainingLnk dt x s) :=
  .either (.next (either h.elapse.askLnk h.elapse.askLnk.setPort)) (.next h.elapse)

theorem State.Sound.execKeepalive {dt x} (h : s.Sound) : OutSound (execKeepalive dt x s) := .either (.next h.elapse.askLnk)
    (.next h.elapse)

theorem State.Sound.execLinkTimeout {dt p} (h : s.Sound) : OutSound (execLinkTimeout dt p s) :=
  .either (.next h.elapse.until_.setPort.portTrain.present1) (.next h.elapse)

theorem State.Sound.execHopDelayLnk {dt x rtt} (h : s.Sound) : OutSound (execHopDelayLnk dt x rtt s) := by
  unfold Machine.execHopDelayLnk
  extract_lets +onlyGivenNames s1 p
  have hs1 : s1.Sound := h.elapse
  clear_value s1 p
  split
  · extract_lets +onlyGivenNames s2 l
    have hs2 : s2.Sound := hs1.askLnk
    clear_value s2 l
    split
    · exact .next hs2
    · extract_lets +onlyGivenNames s3
      have hs3 : s3.Sound := hs2.setPort
      clear_value s3
      split <;> exact .next hs3.inNet
  · exact .next hs1

theorem State.Sound.execLinkDownSend {dt p} (h : s.Sound) : OutSound (execLinkDownSend dt p s) := by
  unfold Machine.execLinkDownSend
  extract_lets +onlyGivenNames s1
  have hs1 : s1.Sound := h.elapse
  clear_value s1
  split
  · exact .next (either hs1.setPort hs1.setPort.send)
  · exact .next hs1

theorem State.Sound.execWakeToneEnd {dt p} (h : s.Sound) : OutSound (execWakeToneEnd dt p s) := by
  unfold Machine.execWakeToneEnd
  extract_lets +onlyGivenNames s1
  have hs1 : s1.Sound := h.elapse
  clear_value s1
  split
  · exact .next (either hs1.until_.setPort.portTrain hs1.until_.setPort)
  · exact .next hs1

theorem State.Sound.execWakeToneRelay {dt} (h : s.Sound) : OutSound (execWakeToneRelay dt s) := by
  unfold Machine.execWakeToneRelay
  extract_lets +onlyGivenNames s1
  have hs1 : s1.Sound := h.elapse
  clear_value s1
  split
  · exact .next (foldl (fun h => either h h.toneSend) hs1.until_.frame)
  · exact .next hs1

theorem State.Sound.execSyncSend {dt} (h : s.Sound) : OutSound (execSyncSend dt s) :=
  .either (.next (either ((((either h.elapse.elapseTb h.elapse).inNet).send).send) (((either h.elapse.elapseTb
    h.elapse).inNet).send))) (.next h.elapse)

theorem State.Sound.execSyncLossExpiry {dt} (h : s.Sound) : OutSound (execSyncLossExpiry dt s) :=
  .either (.next h.elapse.until_.inNet.present1) (.next h.elapse)

theorem State.Sound.execRingLossExpiry {dt} (h : s.Sound) : OutSound (execRingLossExpiry dt s) :=
  .either (.next h.elapse.until_.inNet.setRing.recover) (.next h.elapse)

theorem State.Sound.execReverseCollectClose {dt} (h : s.Sound) : OutSound (execReverseCollectClose dt s) := by
  unfold Machine.execReverseCollectClose
  extract_lets +onlyGivenNames s1
  have hs1 : s1.Sound := h.elapse
  clear_value s1
  split
  · exact .next hs1.until_.closeCollect
  · exact .next hs1

theorem State.Sound.execEnumAssignTimeout {dt} (h : s.Sound) : OutSound (execEnumAssignTimeout dt s) := by
  unfold Machine.execEnumAssignTimeout
  extract_lets +onlyGivenNames s1
  have hs1 : s1.Sound := h.elapse
  clear_value s1
  split
  · exact .either (.next hs1.until_.enumDiscover) (.next hs1)
  · exact .next hs1

theorem State.Sound.execTagTimeout {dt tag} (h : s.Sound) : OutSound (execTagTimeout dt tag s) := by
  unfold Machine.execTagTimeout
  extract_lets +onlyGivenNames s1
  have hs1 : s1.Sound := h.elapse
  clear_value s1
  split
  · exact .either (.next hs1) (.next hs1.until_.freeTag.rxPut.inNet)
  · exact .next hs1

theorem State.Sound.enumEnd {e} (h : s.Sound) : (s.enumEnd e).Sound := h.inNet

theorem State.Sound.execBroadcastWindowEnd {dt tag} (h : s.Sound) : OutSound (execBroadcastWindowEnd dt tag s) := by
  unfold Machine.execBroadcastWindowEnd
  extract_lets +onlyGivenNames s1
  have hs1 : s1.Sound := h.elapse
  clear_value s1
  split
  · split
    · extract_lets +onlyGivenNames s2 run s3
      have hs2 : s2.Sound := hs1.until_
      have hs3 : s3.Sound := hs2.freeTag
      clear_value s2 run s3
      split
      · exact .next hs3.rxPut
      · split
        · exact .next hs3.enumEnd
        · exact .next hs3
    · exact .next hs1
  · split
    · exact .either (.next hs1.until_.enumEnd) (.next hs1)
    · exact .next hs1

/-! #### Of `HostPort` -/

theorem State.Sound.hostBegin (h : s.Sound) : s.hostBegin.Sound := h.inNet
theorem State.Sound.hostFormat (h : s.Sound) : s.hostFormat.Sound := h.inNet
theorem State.Sound.hostCrc (h : s.Sound) : s.hostCrc.Sound := h.inNet
theorem State.Sound.hostSend {b} (h : s.Sound) : (s.hostSend b).Sound := h.inNet

theorem State.Sound.hostDo {err run} (h : s.Sound) (hrun : ∀ {t}, t.Sound → OutSound (run t)) : OutSound (s.hostDo err run) := by
  unfold State.hostDo
  split
  · extract_lets +onlyGivenNames s1
    have hs1 : s1.Sound := h.hostBegin
    clear_value s1
    split
    · exact .next hs1.hostCrc
    · exact .next hs1.hostFormat
    · exact hrun hs1
  · exact .next h

theorem State.Sound.execHostNop {dt} (h : s.Sound) : OutSound (execHostNop dt s) := h.elapse.hostDo (fun h => .next h)

theorem State.net_setPort (s : State) (p : PortId) (f : Port → Port) : (s.setPort p f).net = s.net := by
  cases p <;> rfl

theorem State.net_foldl_setPort (f : State → PortId → Port → Port) (l : List PortId) (s : State) :
    (l.foldl (fun t p => t.setPort p (f t p)) s).net = s.net := by
  induction l generalizing s with
  | nil => rfl
  | cons p l ih => exact (ih _).trans (s.net_setPort p _)

theorem State.Sound.hostFrame {handle f} (h : s.Sound) : OutSound (s.hostFrame handle f) := by
  unfold State.hostFrame
  split
  · exact .next h.inNet
  · next room =>
    split
    · exact h.execLocal
    · extract_lets s1
      have hs1 : s1.Sound := foldl (fun h => h.setPort) h
      have hroom : s1.net.txq.length < 16 := by
        have hnet : s1.net = s.net := s.net_foldl_setPort _ _
        simpa [hnet] using room
      clear_value s1
      exact .next ⟨hs1.mram, hs1.queue, by simpa using hroom, hs1.rxq, hs1.faults⟩

theorem State.Sound.execTxqPut {dt handle typ addr len payload err} (h : s.Sound) : OutSound (execTxqPut dt handle typ addr len
    payload err s) :=
  h.elapse.hostDo (fun h => .either (.next h.hostFormat) h.hostFrame)

theorem State.Sound.execRxqGet {dt full err} (h : s.Sound) : OutSound (execRxqGet dt full err s) := by
  unfold Machine.execRxqGet
  refine h.elapse.hostDo fun h => ?_
  split
  · exact .next h.hostFormat
  · split
    · next e t es =>
      have ht : t.length ≤ 32 := Nat.le_of_succ_le (by simpa [es] using h.rxq)
      split
      · exact .next ⟨h.mram, h.queue, h.txq, ht, h.faults⟩
      · exact .next h.hostSend
    · exact .next h.hostSend

theorem State.Sound.execRegRd {dt addr count err} (h : s.Sound) : OutSound (execRegRd dt addr count err s) :=
  h.elapse.hostDo (fun h => .either (.next h.readRegs.hostSend) (.next h.hostFormat))

theorem State.Sound.execRegWr {dt addr data err} (h : s.Sound) : OutSound (execRegWr dt addr data err s) :=
  h.elapse.hostDo (fun h => .either (.next (either h.writeRegs.inNet h.writeRegs)) (.next h.hostFormat))

/-! #### Of `RegRows` -/

theorem State.Sound.put {dt rq a v} (h : s.Sound) : OutSound (s.put dt rq a v) := .next h.elapse.access
theorem State.Sound.putAt {dt rq a n i v} (h : s.Sound) : OutSound (s.putAt dt rq a n i v) := .either h.put (.next h.elapse)
theorem State.Sound.execRegisterWrite {dt rq addr val} (h : s.Sound) : OutSound (execRegisterWrite dt rq addr val s) := h.put
theorem State.Sound.execLocalModeRequest {dt rq target} (h : s.Sound) : OutSound (execLocalModeRequest dt rq target s) := h.put
theorem State.Sound.execLockOpen {dt rq} (h : s.Sound) : OutSound (execLockOpen dt rq s) := .next h.elapse.access.elapse.access
theorem State.Sound.execLockClose {dt rq} (h : s.Sound) : OutSound (execLockClose dt rq s) := h.put
theorem State.Sound.execConfigSave {dt rq} (h : s.Sound) : OutSound (execConfigSave dt rq s) := h.put
theorem State.Sound.execConfigDiscard {dt rq} (h : s.Sound) : OutSound (execConfigDiscard dt rq s) := h.put
theorem State.Sound.execOvlEntryWrite {dt rq val} (h : s.Sound) : OutSound (execOvlEntryWrite dt rq val s) := h.put
theorem State.Sound.execNcellsWrite {dt rq n} (h : s.Sound) : OutSound (execNcellsWrite dt rq n s) := h.put
theorem State.Sound.execOwStart {dt rq} (h : s.Sound) : OutSound (execOwStart dt rq s) := h.put
theorem State.Sound.execCalRunStart {dt rq val} (h : s.Sound) : OutSound (execCalRunStart dt rq val s) := h.put
theorem State.Sound.execSnapshot {dt rq} (h : s.Sound) : OutSound (execSnapshot dt rq s) := h.put

theorem State.Sound.execResultRead {dt rq ch} (h : s.Sound) : OutSound (execResultRead dt rq ch s) :=
  .next (either h.elapse.readAccess h.elapse)

theorem State.Sound.execNetTblRead {dt rq} (h : s.Sound) : OutSound (execNetTblRead dt rq s) := .next h.elapse.readAccess
theorem State.Sound.execNetRingRead {dt} (h : s.Sound) : OutSound (execNetRingRead dt s) := .next h.elapse.readAccess

theorem State.Sound.execWindowAutoincAccess {dt rq addr wr} (h : s.Sound) : OutSound (execWindowAutoincAccess dt rq addr wr s) := by
  unfold Machine.execWindowAutoincAccess
  split
  · exact h.put
  · exact .next h.elapse.readAccess

theorem State.Sound.execPageAck {dt rq stream upto} (h : s.Sound) : OutSound (execPageAck dt rq stream upto s) := h.put
theorem State.Sound.execPageCloseRequest {dt rq mask} (h : s.Sound) : OutSound (execPageCloseRequest dt rq mask s) := h.put

theorem State.Sound.execStreamCfgWrite {dt rq stream val} (h : s.Sound) : OutSound (execStreamCfgWrite dt rq stream val s) :=
    h.putAt

theorem State.Sound.execStreamReset {dt rq stream} (h : s.Sound) : OutSound (execStreamReset dt rq stream s) := h.putAt

theorem State.Sound.execRdreg {dt j ra rb imm} (h : s.Sound) : OutSound (execRdreg dt j ra rb imm s) :=
  h.elapse.issue (fun h => either h.faultIssue h.readReg.setReg.retire)

theorem State.Sound.jetPut {j a v} (h : s.Sound) : (s.jetPut j a v).Sound := by
  unfold State.jetPut
  extract_lets +onlyGivenNames at_ n
  clear_value at_ n
  split
  · rename_i t e
    have ht : t.Sound := h.writeReg.of_snd e
    split
    · exact ht
    · split
      · exact ht.faultJet
      · split
        · exact ht.retire
        · exact ht.retire
        · exact ht

theorem State.Sound.execWrreg {dt j ra rb imm} (h : s.Sound) : OutSound (execWrreg dt j ra rb imm s) :=
  h.elapse.issue (fun h => either h.faultIssue h.jetPut)

theorem State.Sound.execLim {dt j rd ra ch rsel} (h : s.Sound) : OutSound (execLim dt j rd ra ch rsel s) :=
  h.elapse.issue (fun h => either h.faultIssue h.jetPut)

theorem State.Sound.execFlagSetWrite {dt rq k val} (h : s.Sound) : OutSound (execFlagSetWrite dt rq k val s) := h.putAt
theorem State.Sound.execFlagClearWrite {dt rq k val} (h : s.Sound) : OutSound (execFlagClearWrite dt rq k val s) := h.putAt
theorem State.Sound.execProgramWindowWrite {dt rq val} (h : s.Sound) : OutSound (execProgramWindowWrite dt rq val s) := h.put
theorem State.Sound.execProgramLoad {dt rq stopMask} (h : s.Sound) : OutSound (execProgramLoad dt rq stopMask s) := h.put
theorem State.Sound.execJetStart {dt rq j addr} (h : s.Sound) : OutSound (execJetStart dt rq j addr s) := h.putAt
theorem State.Sound.execJetStop {dt rq j} (h : s.Sound) : OutSound (execJetStop dt rq j s) := h.putAt
theorem State.Sound.execJetKill {dt rq j} (h : s.Sound) : OutSound (execJetKill dt rq j s) := h.putAt

theorem State.Sound.execGroupCfgWrite {dt rq which g val} (h : s.Sound) : OutSound (execGroupCfgWrite dt rq which g val s) :=
  .either h.putAt (.next h.elapse)

theorem State.Sound.execHostTrigger {dt rq mask} (h : s.Sound) : OutSound (execHostTrigger dt rq mask s) := h.put
theorem State.Sound.execOpSuspend {dt rq tag} (h : s.Sound) : OutSound (execOpSuspend dt rq tag s) := h.put
theorem State.Sound.execOpResume {dt rq tag} (h : s.Sound) : OutSound (execOpResume dt rq tag s) := h.put
theorem State.Sound.execOpCancel {dt rq tag} (h : s.Sound) : OutSound (execOpCancel dt rq tag s) := h.put

theorem State.Sound.execBalLevelWrite {dt rq cell level} (h : s.Sound) : OutSound (execBalLevelWrite dt rq cell level s) :=
  .either (.next h.elapse) h.putAt

theorem State.Sound.execBalQuotaWrite {dt rq cell quota} (h : s.Sound) : OutSound (execBalQuotaWrite dt rq cell quota s) :=
  .either (.next h.elapse) h.putAt

theorem State.Sound.execXfetWrite {dt rq val} (h : s.Sound) : OutSound (execXfetWrite dt rq val s) := h.put
theorem State.Sound.execSpectrumStart {dt rq val} (h : s.Sound) : OutSound (execSpectrumStart dt rq val s) := h.put
theorem State.Sound.execWakeToneSend {dt rq north south} (h : s.Sound) : OutSound (execWakeToneSend dt rq north south s) := h.put
theorem State.Sound.execCounterClear {dt rq} (h : s.Sound) : OutSound (execCounterClear dt rq s) := h.put
theorem State.Sound.execEnumStart {dt rq clear} (h : s.Sound) : OutSound (execEnumStart dt rq clear s) := h.put
theorem State.Sound.execHeal {dt rq} (h : s.Sound) : OutSound (execHeal dt rq s) := h.put
theorem State.Sound.chkPut {dt rq n k v} (h : s.Sound) : OutSound (s.chkPut dt rq n k v) := .either h.put (.next h.elapse)
theorem State.Sound.execChkStart {dt rq n val} (h : s.Sound) : OutSound (execChkStart dt rq n val s) := h.chkPut
theorem State.Sound.execChkData {dt rq n val} (h : s.Sound) : OutSound (execChkData dt rq n val s) := h.chkPut
theorem State.Sound.execChkByte {dt rq n val} (h : s.Sound) : OutSound (execChkByte dt rq n val s) := h.chkPut
theorem State.Sound.execChkFeed {dt rq n val} (h : s.Sound) : OutSound (execChkFeed dt rq n val s) := h.chkPut
theorem State.Sound.execChkFinish {dt rq n} (h : s.Sound) : OutSound (execChkFinish dt rq n s) := h.chkPut
theorem State.Sound.execChkAbort {dt rq n} (h : s.Sound) : OutSound (execChkAbort dt rq n s) := h.chkPut
theorem State.Sound.execRilSearch {dt rq} (h : s.Sound) : OutSound (execRilSearch dt rq s) := h.put
theorem State.Sound.execDirectTransaction {dt rq val} (h : s.Sound) : OutSound (execDirectTransaction dt rq val s) := h.put
theorem State.Sound.execStickyClear {dt rq k val} (h : s.Sound) : OutSound (execStickyClear dt rq k val s) := h.putAt
theorem State.Sound.execSecondaryClear {dt rq k val} (h : s.Sound) : OutSound (execSecondaryClear dt rq k val s) := h.putAt
theorem State.Sound.execClearAll {dt rq} (h : s.Sound) : OutSound (execClearAll dt rq s) := h.put
theorem State.Sound.execSensorRestore {dt rq mask} (h : s.Sound) : OutSound (execSensorRestore dt rq mask s) := h.put
theorem State.Sound.execCampaign {dt rq} (h : s.Sound) : OutSound (execCampaign dt rq s) := h.put
theorem State.Sound.execRepair {dt rq unit} (h : s.Sound) : OutSound (execRepair dt rq unit s) := h.put
theorem State.Sound.execBstCounterClear {dt rq} (h : s.Sound) : OutSound (execBstCounterClear dt rq s) := h.put

theorem State.Sound.execScrubStart {dt rq} (h : s.Sound) : OutSound (execScrubStart dt rq s) := by
  unfold Machine.execScrubStart
  split
  · exact h.put
  · exact .either (.next h.elapse.until_.scrubBegin) (.next h.elapse)

theorem State.Sound.execBind {dt rq} (h : s.Sound) : OutSound (execBind dt rq s) := h.put
theorem State.Sound.execUnbind {dt rq} (h : s.Sound) : OutSound (execUnbind dt rq s) := h.put
theorem State.Sound.execCustomerWrite {dt rq val} (h : s.Sound) : OutSound (execCustomerWrite dt rq val s) := h.put

/-! #### Of `Dispatch` -/

theorem State.Sound.exec {i} (h : s.Sound) : OutSound (exec i s) := by
  unfold Machine.exec
  split
  · exact h.execRegisterWrite
  · exact h.execPowerOnReset
  · exact h.execSupplyReset
  · exact h.execCommandReset
  · exact h.execWakeReset
  · exact h.execLoaderStart
  · exact h.execImageCopyDone
  · exact h.execConfigLoad
  · exact h.execPortEnable
  · exact h.execStartModeEntry
  · exact h.execAutoload
  · exact h.execSupplyDipStart
  · exact h.execSupplyDipEnd
  · exact h.execRailSupervisorTrip
  · exact h.execVregFault
  · exact h.execStackOv
  · exact h.execVchnUndervoltage
  · exact h.execPllUnlock
  · exact h.execPllRelockRetry
  · exact h.execClockMonitor
  · exact h.execLpoFault
  · exact h.execLocalModeRequest
  · exact h.execOverlayCommit
  · exact h.execStillScan
  · exact h.execWakeTimerExpiry
  · exact h.execWatchBurstStart
  · exact h.execWatchBurstEnd
  · exact h.execBuckBurstEnable
  · exact h.execSupervisorUnmask
  · exact h.execWakePin
  · exact h.execLpoShipStart
  · exact h.execLpoShipStop
  · exact h.execWakeToneDetected
  · exact h.execLockOpen
  · exact h.execLockClose
  · exact h.execLockTimeout
  · exact h.execConfigSave
  · exact h.execConfigSaveDone
  · exact h.execConfigDiscard
  · exact h.execOvlEntryWrite
  · exact h.execModePrepare
  · exact h.execModeCommit
  · exact h.execChainCommitTime
  · exact h.execNcellsWrite
  · exact h.execOwStart
  · exact h.execOwPeriodExpiry
  · exact h.execOwPhaseStart
  · exact h.execOwBaselineStart
  · exact h.execOwSinksOn
  · exact h.execOwCheckStart
  · exact h.execOwEvaluate
  · exact h.execOwPhaseEnd
  · exact h.execDecimatedSample
  · exact h.execRotationVisitStart
  · exact h.execSpareCalDone
  · exact h.execMatchWindowEnd
  · exact h.execHandover
  · exact h.execModulatorCalDone
  · exact h.execHandBack
  · exact h.execXmodInPlaceCal
  · exact h.execCoeffHourlyCopy
  · exact h.execCalRunStart
  · exact h.execCalTrimDone
  · exact h.execCalPointDone
  · exact h.execCalRunCommit
  · exact h.execSnapshot
  · exact h.execResultRead
  · exact h.execNetTblRead
  · exact h.execNetRingRead
  · exact h.execWindowAutoincAccess
  · exact h.execPageAck
  · exact h.execPageCloseRequest
  · exact h.execPageAgeClose
  · exact h.execStreamCfgWrite
  · exact h.execStreamReset
  · exact h.execAdd
  · exact h.execSub
  · exact h.execAndOp
  · exact h.execOrOp
  · exact h.execXorOp
  · exact h.execShl
  · exact h.execShr
  · exact h.execSar
  · exact h.execMul
  · exact h.execMinOp
  · exact h.execMaxOp
  · exact h.execAddi
  · exact h.execLui
  · exact h.execBeq
  · exact h.execBne
  · exact h.execBlt
  · exact h.execBge
  · exact h.execLoop
  · exact h.execJmp
  · exact h.execCallOp
  · exact h.execRetOp
  · exact h.execLd
  · exact h.execSt
  · exact h.execRdreg
  · exact h.execWrreg
  · exact h.execConv
  · exact h.execSyncv
  · exact h.execConvWaitEnd
  · exact h.execGetr
  · exact h.execGetrNWake
  · exact h.execStrm
  · exact h.execStrmDecision
  · exact h.execLim
  · exact h.execBal
  · exact h.execBalq
  · exact h.execExc
  · exact h.execCorr
  · exact h.execWaitOp
  · exact h.execWaitEnd
  · exact h.execWaitt
  · exact h.execWaittDeadline
  · exact h.execWaittRd
  · exact h.execWaittRdh
  · exact h.execWaite
  · exact h.execWaiteWake
  · exact h.execWaiteTimeout
  · exact h.execSig
  · exact h.execYield
  · exact h.execHalt
  · exact h.execIllegalInstruction
  · exact h.execFlagSetWrite
  · exact h.execFlagClearWrite
  · exact h.execProgramWindowWrite
  · exact h.execProgramLoad
  · exact h.execLoadStopTimeout
  · exact h.execProgramLoadDone
  · exact h.execJetStart
  · exact h.execJetStop
  · exact h.execJetStopTake
  · exact h.execJetKill
  · exact h.execJetWatchdogExpiry
  · exact h.execGroupCfgWrite
  · exact h.execHostTrigger
  · exact h.execSyncTickTrigger
  · exact h.execSyncPinEdge
  · exact h.execIntervalTimerFire
  · exact h.execArbiterGrant
  · exact h.execCmdFrame
  · exact h.execTrigCmd
  · exact h.execJstartCmd
  · exact h.execJstopCmd
  · exact h.execJkillCmd
  · exact h.execFlagsCmd
  · exact h.execOpCmd
  · exact h.execLoadCmd
  · exact h.execOpSuspend
  · exact h.execOpResume
  · exact h.execOpCancel
  · exact h.execOpSuspended
  · exact h.execOpCancelled
  · exact h.execSluiceFrameStart
  · exact h.execSlotStart
  · exact h.execBalLevelWrite
  · exact h.execBalQuotaWrite
  · exact h.execXfetWrite
  · exact h.execBalOvercurrent
  · exact h.execBalCurrentCheck
  · exact h.execBalStuckOn
  · exact h.execBalGateCheck
  · exact h.execSpectrumStart
  · exact h.execSpectrumRunBegin
  · exact h.execCurrentTrimDone
  · exact h.execPassExcite
  · exact h.execExcitationEdge
  · exact h.execWindowOpen
  · exact h.execWindowClose
  · exact h.execPassEnd
  · exact h.execPublish
  · exact h.execCurrentPhasorSend
  · exact h.execPeerFrame
  · exact h.execCurrentTimeout
  · exact h.execSpectrumHeldTimeout
  · exact h.execF1TrackDone
  · exact h.execF1TrackTimeout
  · exact h.execRegFrame
  · exact h.execRegRspFrame
  · exact h.execCmdRspFrame
  · exact h.execBsnRdFrame
  · exact h.execBsnHitFrame
  · exact h.execBsnMissFrame
  · exact h.execSyncFrame
  · exact h.execNotifyFrame
  · exact h.execSvcFrame
  · exact h.execSvcRspFrame
  · exact h.execFrameForward
  · exact h.execLnkToken
  · exact h.execTransmitStart
  · exact h.execTrainingLnk
  · exact h.execKeepalive
  · exact h.execLinkTimeout
  · exact h.execWakeToneSend
  · exact h.execWakeToneEnd
  · exact h.execWakeToneRelay
  · exact h.execCounterClear
  · exact h.execEnumStart
  · exact h.execEnumAssignTimeout
  · exact h.execNetClear
  · exact h.execNetAssign
  · exact h.execNetDiscover
  · exact h.execNetReverse
  · exact h.execNetNormal
  · exact h.execNetAssigned
  · exact h.execNetPresent
  · exact h.execNetReversed
  · exact h.execNetLinkDown
  · exact h.execNetHealed
  · exact h.execModeAckFrame
  · exact h.execLinkDownSend
  · exact h.execHostNop
  · exact h.execTxqPut
  · exact h.execRxqGet
  · exact h.execRegRd
  · exact h.execRegWr
  · exact h.execTagTimeout
  · exact h.execBroadcastWindowEnd
  · exact h.execSyncSend
  · exact h.execHopDelayLnk
  · exact h.execSyncLossExpiry
  · exact h.execRingLossExpiry
  · exact h.execReverseCollectClose
  · exact h.execHeal
  · exact h.execChkStart
  · exact h.execChkData
  · exact h.execChkByte
  · exact h.execChkFeed
  · exact h.execChkFeedDone
  · exact h.execChkFinish
  · exact h.execChkAbort
  · exact h.execChkIdleRelease
  · exact h.execRilSearch
  · exact h.execAutoSearch
  · exact h.execRlvOn
  · exact h.execQueryDone
  · exact h.execRilEcho
  · exact h.execPollRound
  · exact h.execPollRead
  · exact h.execDirectTransaction
  · exact h.execReplyTimeout
  · exact h.execRlvCurrentLimit
  · exact h.execRlvRetry
  · exact h.execBusStuck
  · exact h.execStickyClear
  · exact h.execSecondaryClear
  · exact h.execClearAll
  · exact h.execShadowEnd
  · exact h.execAliveKey
  · exact h.execStewardWatchdog
  · exact h.execStewardStart
  · exact h.execFlowToggle
  · exact h.execFlowDrop
  · exact h.execLedgerWrite
  · exact h.execSensorStep
  · exact h.execGraceExpiry
  · exact h.execThermalShutdown
  · exact h.execSensorRestore
  · exact h.execBackgroundSlice
  · exact h.execSliceEnd
  · exact h.execSliceBudgetExpiry
  · exact h.execSliceCut
  · exact h.execConfirmSlice
  · exact h.execCampaign
  · exact h.execRepair
  · exact h.execBstCounterClear
  · exact h.execRepairMapStore
  · exact h.execMramRowRepair
  · exact h.execMramPageWrite
  · exact h.execScrubStart
  · exact h.execScrubPage
  · exact h.execBind
  · exact h.execUnbind
  · exact h.execBindingWriteDone
  · exact h.execCustomerWrite
  · exact h.execSvcOpen
  · exact h.execSvcWrite
  · exact h.execSvcStatus
  · exact h.execSvcVerify
  · exact h.execSvcActivate
  · exact h.execSvcClose
  · exact h.execSvcConfirm
  · exact h.execSvcRestart
  · exact h.execSvcRead
  · exact h.execSvcKeyslot
  · exact h.execActivation
  · exact h.execSessionTimeout
  · exact h.execImageConfirm
  · exact h.execConfirmWindowExpiry
  · exact h.execVstkResetRising
  · exact h.execSupplyDipRecovery
  · exact h.execStackLimitReturn
  · exact h.execVregRecovery
  · exact h.execVchnRestored
  · exact h.execReferenceOscillatorRecovery
  · exact h.execLpoRecovery
  · exact h.execReceiveCheckFailure
  · exact h.execServiceFrameGap
  · exact h.execRillReply
  · exact h.execFaultWindowExpiry

/-! #### Of `Step` -/

theorem State.Sound.step (h : s.Sound) : OutSound (step s) := by
  unfold Machine.step
  split
  · exact .next h
  · exact h.frame.exec

theorem State.sound_iff_inv : s.Sound ↔ s.Inv :=
  ⟨fun ⟨hm, hq, ht, hr, hf⟩ => ⟨hm, hq, ht, hr, hf⟩, fun ⟨hm, hq, ht, hr, hf⟩ => ⟨hm, hq, ht, hr, hf⟩⟩

end

/-- Settles O3: the stored memory and every queue are empty. -/
theorem resetInv : Obligations.ResetInv :=
  State.sound_iff_inv.mp State.Sound.reset

/-- Settles O4: whatever the command, its function keeps the invariant. -/
theorem stepKeepsInv : Obligations.StepKeepsInv := by
  intro s t hs ht
  exact State.sound_iff_inv.mp ((State.sound_iff_inv.mpr hs).step t ht)

end Sys2Proof.Machine
end

section
/-! ### Groups, triggers and the arbiter (O33) -/

open Sys2Proof Sys2Proof.Machine
namespace Sys2Proof.Machine

/-! #### The commands (R205, R207 to R209) -/

theorem effectMid_group {a : Nat} (h : a < 0xC30) (u : State) (rq : Requester) (v : Word) : u.effectMid rq a v = u.examineGrp (a % 16) := by
  unfold State.effectMid
  exact if_pos h

theorem effectMid_trigger (u : State) (rq : Requester) (v : Word) :
    u.effectMid rq 0xC62 v = u.nextCycle (fun t => t.triggerAll 1 1 false (fun g => v.getLsbD g)) := rfl

theorem onlyIn_untilMod (u : State) (period phase : Nat) : OnlyIn [.time] u (u.untilMod period phase) := by
  rw [State.untilMod]
  exact .ite .refl (onlyIn_elapse u _)

section Commands
variable {s e : State} {dt : Nat} (he : s.elapse dt = e)
include he

theorem groupCfgWrite_exec {rq : Requester} {k g : Nat} {v : Word} (hk : k < 3) (hg : g < 16)
    (h : e.accepts rq (0xC00 + (16 * k + g)) v) :
    exec (.groupCfgWrite dt rq k g v) s = .next (((e.wrote rq (0xC00 + (16 * k + g)) v).examineGrp g).answers .ok []) := by
  have h1 : regExists (0xC00 + (16 * k + g)) = true := by
    simp [regExists, regRanges]
    omega
  have h2 : isSelector (0xC00 + (16 * k + g)) = false := by
    simp [isSelector]
    omega
  have h3 : settles (0xC00 + (16 * k + g)) = false := by
    simp [settles]
    omega
  have hgrp : (0xC00 + (16 * k + g)) % 16 = g := by omega
  rw [exec_groupCfgWrite, execGroupCfgWrite, if_pos hg, State.putAt, if_pos (by omega), put_mid he h (by omega) (by omega) h1 h2 h3,
    effectMid_group (by omega), hgrp]

theorem hostTrigger_exec {rq : Requester} {m : Nat} (h : e.accepts rq 0xC62 (put m 0 16)) :
    exec (.hostTrigger dt rq m) s =
      .next (((e.wrote rq 0xC62 (put m 0 16)).nextCycle
        (fun u => u.triggerAll 1 1 false (fun g => (put m 0 16).getLsbD g))).answers .ok []) := by
  rw [exec_hostTrigger, execHostTrigger, put_mid he h (by decide) (by decide) (by decide) (by decide) (by decide), effectMid_trigger]

theorem syncTickTrigger_exec (hc : e.coreOn = true) :
    exec (.syncTickTrigger dt) s =
      .next ((e.untilMod 200000 0).triggerAll 2 2 true (fun g => (e.untilMod 200000 0).reachedMod ((e.untilMod 200000 0).tickPeriod g) 0)) := by
  subst he
  have hon : ((s.elapse dt).untilMod 200000 0).coreOn = true := by
    have hpwr : ((s.elapse dt).untilMod 200000 0).pwr = (s.elapse dt).pwr := onlyIn_untilMod _ _ _ .pwr (by simp)
    rw [State.coreOn, hpwr]
    exact hc
  rw [exec_syncTickTrigger, execSyncTickTrigger, if_pos hon]

theorem syncPinEdge_exec {up : Bool} (hc : e.coreOn = true) (hb : e.bit 0xC60 (if up then 8 else 9) = true) (hr : e.spc.run = none) :
    exec (.syncPinEdge dt up) s =
      .next (({ e with seq := { e.seq with syncTs := e.tb.setWidth 32 - 3 } }).triggerAll 3 2 true (fun _ => true)) := by
  subst he
  rw [exec_syncPinEdge, execSyncPinEdge]
  simp only [hc, hb, hr, Bool.and_self, if_true]

theorem intervalTimerFire_exec {i : Nat} (hi : i < 4) (hc : e.coreOn = true) (hb : e.bit (0xC70 + i) 31 = true) :
    let p := max 10 (e.fld (0xC70 + i) 0 24)
    let u := e.untilMod (200 * p) (200 * (e.fld (0xC74 + i) 0 24 % p))
    exec (.intervalTimerFire dt i) s = .next (u.triggerAll 4 2 true (fun g => decide (u.fld (0xC00 + g) 0 2 = i))) := by
  subst he
  rw [exec_intervalTimerFire, execIntervalTimerFire]
  exact if_pos ⟨hi, hb, hc⟩

theorem arbiterGrant_exec (hc : e.handsDue.coreOn = true) (ho : e.handsDue.calOther = none) :
    exec (.arbiterGrant dt) s = .next e.handsDue.arbitrate.serveSlices.handsDue := by
  subst he
  rw [exec_arbiterGrant, execArbiterGrant]
  simp only [hc, ho, if_true]

end Commands

/-! #### A group's definition (R205) -/

theorem grp_setGrp_self (u : State) {g : Nat} (hg : g < 16) (f : Grp → Grp) : (u.setGrp g f).grp g = f (u.grp g) :=
  (vget_vmod ..).trans (if_pos ⟨rfl, hg⟩)

/-- GRP_CFG of group `g`, with its channels, gives a definition (R205). -/
def State.grpValid (u : State) (g : Nat) : Bool :=
  u.bit (0xC00 + g) 31 && decide (u.grpSet g ≠ 0) && decide (7 ≤ u.fld (0xC00 + g) 24 5) && decide (u.fld (0xC00 + g) 24 5 ≤ 16) &&
    decide (u.fld (0xC00 + g) 20 4 ≤ 8) && decide (u.grpTrig g ≤ 4) && decide (u.fld (0xC00 + g) 12 2 ≤ 2)

theorem examineGrp_undefined {u : State} {g : Nat} (h : (u.grp g).defined = false) :
    u.examineGrp g = u.setGrp g (fun r => { r with defined := u.grpValid g, cfgErr := u.bit (0xC00 + g) 31 && !u.grpValid g }) := by
  unfold State.examineGrp
  rw [h]
  rfl

/-! #### A trigger (R208, R209) -/

section Abort
variable (u : State)

theorem onlyIn_convEnded (id : Nat) (out : Option Nat) : OnlyIn [.seq] u (u.convEnded id out) := onlyIn_setSeq u _

theorem convs_dropConvs (f : Conv → Bool) : (u.dropConvs f).convs = u.convs.filter (fun c => !f c) := by
  have hmods (l : List Nat) : (l.foldl (fun t m => t.setModul m (fun q => { q with busyAt := t.clk })) u).convs = u.convs :=
    onlyIn_foldl (ps := [.mod]) (fun t m => onlyIn_setMod t _) l u .convs (by simp)
  unfold State.dropConvs
  simp only [hmods]

/-- A conversion that is aborted leaves the list; nothing else changes but the sides it held, its group and who waits for it. -/
theorem onlyIn_abortConv (c : Conv) (pre : Bool) : OnlyIn [.mod, .convs, .seq] u (u.abortConv c pre) := by
  have hdrop : OnlyIn [.mod, .convs, .seq] u (u.dropConvs (fun x => decide (x.id = c.id))) := (onlyIn_dropConvs u _).mono (by simp)
  unfold State.abortConv
  split
  · next g _ =>
    refine hdrop.trans (.trans ?_ ((onlyIn_convEnded _ _ _).mono (by simp)))
    have hgrp := onlyIn_setGrp (u.dropConvs (fun x => decide (x.id = c.id))) g (fun r => { r with last := 4, aborts := inc 255 r.aborts })
    exact .ite ((hgrp.trans (onlyIn_setSeq _ _)).mono (by simp)) (hgrp.mono (by simp))
  · exact hdrop

theorem convs_abortConv (c : Conv) (pre : Bool) : (u.abortConv c pre).convs = u.convs.filter (fun x => decide (x.id ≠ c.id)) := by
  have hdrop : (u.dropConvs (fun x => decide (x.id = c.id))).convs = u.convs.filter (fun x => decide (x.id ≠ c.id)) := by
    simp [convs_dropConvs]
  unfold State.abortConv
  split
  · rw [← hdrop]
    cases pre <;> rfl
  · exact hdrop

/-- The conversions `l` aborted one after the other. -/
def State.abortAll (u : State) (l : List Conv) : State := l.foldl (fun t c => t.abortConv c false) u

theorem onlyIn_abortAll (l : List Conv) : OnlyIn [.mod, .convs, .seq] u (u.abortAll l) :=
  onlyIn_foldl (fun t c => onlyIn_abortConv t c false) l u

theorem mem_convs_abortAll {l : List Conv} {u : State} {x : Conv} (hx : x ∈ (u.abortAll l).convs) : x ∈ u.convs ∧ x ∉ l := by
  induction l generalizing u with
  | nil => exact ⟨hx, List.not_mem_nil⟩
  | cons c l ih =>
    obtain ⟨hmem, hl⟩ := ih (u := u.abortConv c false) hx
    rw [convs_abortConv, List.mem_filter] at hmem
    obtain ⟨hu, hid⟩ := hmem
    refine ⟨hu, fun hc => ?_⟩
    rcases List.mem_cons.mp hc with rfl | hc
    · exact of_decide_eq_true hid rfl
    · exact hl hc

end Abort

/-- The conversions of group `g`. -/
def State.grpConvs (u : State) (g : Nat) : List Conv := u.convs.filter (fun c => decide (c.why = .group g))

section Trigger
variable {u : State} {g : Nat} {t : Trig}

/-- A conversion that a trigger starts waits for its grant. -/
theorem startConv_convs (u : State) (g : Nat) (t : Trig) :
    ∃ c : Conv, (u.startConv g t).2.convs = u.convs ++ [c] ∧ c.id = u.nextId ∧ c.why = .group g ∧ c.stand = t.stand ∧ c.start = none ∧
      c.chans.map (fun x => x.ch) = u.grpChans g := by
  refine ⟨_, rfl, rfl, rfl, rfl, rfl, ?_⟩
  exact (List.map_map ..).trans (List.map_id _)

theorem trigger_lockout (hm : u.pwr.mode = .lockout) : u.trigger g t = (3, none, u) := by
  unfold State.trigger
  exact if_pos hm

variable (hm : u.pwr.mode ≠ .lockout) (hb : u.grpBusy g = true)
include hm hb

theorem trigger_busy :
    u.trigger g t = match u.fld (0xC00 + g) 12 2 with
      | 1 =>
        if (u.grp g).held.isNone then (1, none, u.setGrp g (fun r => { r with held := some t, last := 1 }))
        else (3, none, (u.setGrp g (fun r => { r with last := 3, overruns := inc 65535 r.overruns })).present1 140)
      | 2 =>
        (2, some (u.abortAll (u.grpConvs g)).nextId,
          ((u.abortAll (u.grpConvs g)).startConv g t).2.setGrp g (fun r => { r with last := 2 }))
      | _ => (3, none, (u.setGrp g (fun r => { r with last := 3, overruns := inc 65535 r.overruns })).present1 140) := by
  unfold State.trigger
  rw [if_neg hm, hb]
  rfl

theorem trigger_dropped (h : u.fld (0xC00 + g) 12 2 = 0 ∨ (u.fld (0xC00 + g) 12 2 = 1 ∧ (u.grp g).held.isSome = true)) :
    u.trigger g t = (3, none, (u.setGrp g (fun r => { r with last := 3, overruns := inc 65535 r.overruns })).present1 140) := by
  rw [trigger_busy hm hb]
  rcases h with h | ⟨h, hheld⟩
  · simp only [h]
  · rw [h]
    exact if_neg (by simp [Option.isSome_iff_ne_none.mp hheld])

theorem trigger_queued (h : u.fld (0xC00 + g) 12 2 = 1) (hheld : (u.grp g).held = none) :
    u.trigger g t = (1, none, u.setGrp g (fun r => { r with held := some t, last := 1 })) := by
  rw [trigger_busy hm hb, h]
  exact if_pos (by simp [hheld])

/-- A trigger that restarts its group leaves it no conversion but the one that it starts. -/
theorem trigger_restart (h : u.fld (0xC00 + g) 12 2 = 2) :
    (u.trigger g t).1 = 2 ∧ (u.trigger g t).2.1 = some u.nextId ∧
      ∀ c ∈ (u.trigger g t).2.2.convs, c.why = .group g → c.id = u.nextId := by
  have hid : (u.abortAll (u.grpConvs g)).nextId = u.nextId := onlyIn_abortAll u _ .nextId (by simp)
  obtain ⟨c, hconvs, hcid, -⟩ := startConv_convs (u.abortAll (u.grpConvs g)) g t
  rw [trigger_busy hm hb, h]
  refine ⟨rfl, congrArg some hid, fun x hx hwhy => ?_⟩
  have hx' : x ∈ (u.abortAll (u.grpConvs g)).convs ++ [c] := hconvs ▸ hx
  rcases List.mem_append.mp hx' with hold | hnew
  · obtain ⟨hmem, hnot⟩ := mem_convs_abortAll hold
    exact absurd (List.mem_filter.mpr ⟨hmem, decide_eq_true hwhy⟩) hnot
  · rw [List.mem_singleton.mp hnew, hcid, hid]

end Trigger

/-! #### A conversion that is granted (R211, R212, R215) -/

section Grant
variable (u : State) (c : Conv)

theorem onlyIn_startDecim (k m start : Nat) : OnlyIn [.mod] u (u.startDecim k m start) := onlyIn_setMod u _

theorem onlyIn_startPair (a start : Nat) : OnlyIn [.mod] u (u.startPair c a start) := by
  have hboth (k x y : Nat) : OnlyIn [.mod] u ((u.startDecim k a x).startDecim k (a + 1) y) :=
    (onlyIn_startDecim u k a x).trans (onlyIn_startDecim _ k (a + 1) y)
  unfold State.startPair
  split
  · exact .ite .refl (hboth _ _ _)
  · exact onlyIn_startDecim u _ _ _
  · exact onlyIn_startDecim u _ _ _
  · exact hboth _ _ _

theorem onlyIn_startDecims (from_ start : Nat) : OnlyIn [.mod] u (u.startDecims c from_ start) :=
  onlyIn_foldl (fun w _ => .ite (.ite .refl (onlyIn_startDecim w _ _ _))
    (.ite (onlyIn_startPair w c _ _) (.ite .refl (.ite .refl (onlyIn_startDecim w _ _ _))))) _ u

variable {u c}

/-- The conversion `c` with its start, which its grant has put in the place of `c`, and the sides started for it. -/
theorem grant_eq (hch : c.chans ≠ []) :
    ∃ r : Conv, r.granted = true ∧ r.id = c.id ∧ r.chans = c.chans ∧ r.osrK = u.convOsr c ∧
      ∃ v : State, v = { u with convs := u.convs.map (fun x => if x.id = r.id then r else x) } ∧ OnlyIn [.mod] v (u.grant c) := by
  generalize ht : u.grant c = t
  unfold State.grant at ht
  extract_lets -merge r0 start r v w at ht
  rw [if_neg hch] at ht
  subst ht
  exact ⟨r, rfl, rfl, rfl, rfl, v, rfl, .ite .refl (onlyIn_startDecims v r _ _)⟩

theorem grant_single (hu : u.convs = [c]) (hch : c.chans ≠ []) :
    (∃ r, (u.grant c).convs = [r] ∧ r.granted = true ∧ r.id = c.id ∧ r.chans = c.chans ∧ r.osrK = u.convOsr c) ∧
      OnlyIn [.convs, .mod] u (u.grant c) := by
  obtain ⟨r, hgr, hid, hchans, hosr, v, rfl, hv⟩ := grant_eq (u := u) hch
  have hconvs : (u.grant c).convs = [r] := by
    rw [show (u.grant c).convs = _ from hv .convs (by simp), hu, List.map_singleton, if_pos hid.symm]
  exact ⟨⟨r, hconvs, hgr, hid, hchans, hosr⟩, ((onlyIn_setConvs u _).mono (by simp)).trans (hv.mono (by simp))⟩

/-- The arbiter grants the one conversion that there is where nothing stands in its way. -/
theorem arbitrate_single (hu : u.convs = [c]) (hs : c.start = none) (hcan : u.canGrant c = true) : u.arbitrate = u.grant c := by
  have hgr : c.granted = false := by simp [Conv.granted, hs]
  have hone : u.arbitrate = u.arbitrate1 c.id := by
    unfold State.arbitrate
    rw [hu, List.filter_cons_of_pos (by simp [hgr])]
    rfl
  rw [hone]
  unfold State.arbitrate1
  rw [hu, List.find?_cons_of_pos (by simp)]
  simp only [hgr, hcan, if_true, Bool.false_eq_true, if_false]

end Grant

/-- Settles O33: each command is its function, a definition is what its fields allow, a trigger is one branch of its overlap policy, and a
grant puts the conversion with its start in the place of the one that waited. -/
theorem groupsAndTriggers : Obligations.GroupsAndTriggers := by
  refine ⟨fun s dt => ?commands, fun u g hg hundef => ?definition, fun u g t hg => ?trigger, fun u c hu hs hch hcan => ?grant⟩
  case commands =>
    exact ⟨fun rq k g v hk hg h => groupCfgWrite_exec rfl hk hg h, fun rq m => hostTrigger_exec rfl, syncTickTrigger_exec rfl,
      fun up hc hb hr => syncPinEdge_exec rfl hc hb hr, fun i hi hc hb => intervalTimerFire_exec rfl hi hc hb,
      arbiterGrant_exec rfl⟩
  case definition =>
    intro v def_ k
    have hv : v = _ := examineGrp_undefined hundef
    rw [hv, grp_setGrp_self u hg]
    refine ⟨?_, rfl, onlyIn_setGrp u g _⟩
    simp only [State.grpValid, Bool.and_eq_true, decide_eq_true_eq, and_assoc, def_, k]
  case trigger =>
    refine ⟨trigger_lockout, fun hm hb => ?_, fun hm hb => ⟨trigger_dropped hm hb, trigger_queued hm hb, trigger_restart hm hb⟩⟩
    rw [trigger_idle u t hm hb]
    exact ⟨rfl, rfl, startConv_convs u g t, (onlyIn_convBegun u t).mono (by simp)⟩
  case grant =>
    exact ⟨arbitrate_single hu hs hcan, grant_single hu hch⟩

end Sys2Proof.Machine
end

section
/-! ### The control of long operations (O35) -/

open Sys2Proof Sys2Proof.Machine
namespace Sys2Proof.Machine

/-! #### A write of OP_CTL (R226) -/

/-- The word of OP_CTL that asks for action `k` on the operation of tag `t`. -/
theorem fld_opWord {k t : Nat} (hk : k < 4) (ht : t < 65536) :
    fld (put k 24 2 ||| put t 0 16) 24 2 = k ∧ fld (put k 24 2 ||| put t 0 16) 0 16 = t := by
  have hor : (put k 24 2 ||| put t 0 16).toNat = 2 ^ 24 * k + t := by
    rw [BitVec.toNat_or, toNat_put _ _ _ (by decide), toNat_put _ _ _ (by decide), Nat.mod_eq_of_lt (by omega), Nat.mod_eq_of_lt (by omega),
      pow_zero, Nat.mul_one, Nat.mul_comm, Nat.two_pow_add_eq_or_of_lt (by omega)]
  unfold fld
  rw [hor]
  omega

theorem opWrite_opWord {k t : Nat} (hk0 : k ≠ 0) (hk : k < 4) (ht : t < 65536) (u : State) (rq : Requester) :
    u.opWrite rq (put k 24 2 ||| put t 0 16) = (u.opCtl k t).2.setBank rq (fun b => { b with opRes := (u.opCtl k t).1 }) := by
  obtain ⟨haction, htag⟩ := fld_opWord hk ht
  unfold State.opWrite
  rw [haction, htag, if_neg hk0]

theorem effectMid_opCtl (u : State) (rq : Requester) (v : Word) : u.effectMid rq 0xC80 v = u.opWrite rq v := rfl

theorem opCtlReg_put {s e : State} {dt : Nat} (he : s.elapse dt = e) {rq : Requester} {k t : Nat} (hk0 : k ≠ 0) (hk : k < 4) (ht : t < 65536)
    (h : e.accepts rq 0xC80 (put k 24 2 ||| put t 0 16)) :
    let r := (e.wrote rq 0xC80 (put k 24 2 ||| put t 0 16)).opCtl k t
    s.put dt rq 0xC80 (put k 24 2 ||| put t 0 16) = .next ((r.2.setBank rq (fun b => { b with opRes := r.1 })).answers .ok []) := by
  intro r
  rw [put_mid he h (by decide) (by decide) (by decide) (by decide) (by decide), effectMid_opCtl, opWrite_opWord hk0 hk ht]

/-! #### What an action does (R226) -/

section Action
variable {u : State} {k tag : Nat}

theorem opCtl_none (h : u.seq.ops.toList.find? (fun o => decide (o.tag = tag) && decide (tag ≠ 0)) = none) : u.opCtl k tag = (3, u) := by
  unfold State.opCtl
  rw [h]

variable {o : Oper} (h : u.seq.ops.toList.find? (fun o => decide (o.tag = tag) && decide (tag ≠ 0)) = some o)
include h

theorem opCtl_ended (hend : o.live = false ∨ o.st = .cancelling) : u.opCtl k tag = (4, u) := by
  have hcond : (!o.live || decide (o.st = .cancelling)) = true := by simpa using hend
  unfold State.opCtl
  rw [h]
  exact if_pos hcond

theorem opCtl_live (hlive : o.live = true) (hst : o.st ≠ .cancelling) :
    u.opCtl k tag = match k with
      | 1 =>
        if o.scReq then (2, u) else (1, u.setOp o.kind (fun q => { q with scReq := true, pend := decide (q.st = .running) }))
      | 2 =>
        if o.scReq then (1, (u.setOp o.kind (fun q => { q with scReq := false })).tryResume o.kind) else (2, u)
      | _ => (1, u.setOp o.kind (fun q => { q with st := .cancelling, pend := false })) := by
  have hcond : ¬(!o.live || decide (o.st = .cancelling)) = true := by simp [hlive, hst]
  unfold State.opCtl
  rw [h]
  exact if_neg hcond

end Action

/-! #### The safe point and the end of a cancelled operation (R226, R228) -/

/-- The end of a cancelled operation of kind `kind` with cause `c`. -/
def State.cancelledEnd (u : State) (kind c : Nat) : State :=
  match kind with
  | 1 => u.endSpec .cancelled c 0
  | 2 => (u.cutCamp 3).campEnd .cancelled c
  | 3 => u.calEnd .cancelled c 0
  | 4 => u.endSess .cancelled c 0 true
  | 5 => u.scrubEnd .cancelled c
  | 6 => (u.rilSettle 6).searchEnd .cancelled c 0
  | _ => u.endOp kind .cancelled c 0

section Ends
variable {s e : State} {dt kind : Nat} {o : Oper} (he : s.elapse dt = e) (ho : e.oper kind = some o)
include he ho

theorem opSuspended_exec (hst : o.st = .running) (hpend : o.pend = true) :
    let w := e.setOp kind (fun o => { o with st := .suspended, pend := false })
    exec (.opSuspended dt kind) s = .next ((if kind = 2 then w.cutCamp 2 else w).onSuspend kind) := by
  subst he
  rw [exec_opSuspended, execOpSuspended]
  simp only [ho]
  exact if_pos ⟨hst, hpend⟩

theorem opCancelled_exec (hst : o.st = .cancelling) (hrun : kind = 1 ∨ e.stw = true) :
    exec (.opCancelled dt kind) s = .next (e.cancelledEnd kind o.cancelCause) := by
  subst he
  rw [exec_opCancelled, execOpCancelled]
  simp only [ho]
  have hend : o.st = .cancelling ∧ (kind = 1 ∨ (s.elapse dt).stw) := ⟨hst, hrun⟩
  exact if_pos hend

end Ends

/-- Settles O35: the three actions are one write of OP_CTL, and each row is one branch of its function. -/
theorem longOperations : Obligations.LongOperations := by
  refine ⟨fun s dt rq tag ht => ?writes, fun s dt kind o => ?ends, fun u k tag => ?actions⟩
  case writes =>
    refine ⟨fun h => ?_, fun h => ?_, fun h => ?_⟩
    · exact (exec_opSuspend ..).trans (opCtlReg_put rfl (by decide) (by decide) ht h)
    · exact (exec_opResume ..).trans (opCtlReg_put rfl (by decide) (by decide) ht h)
    · exact (exec_opCancel ..).trans (opCtlReg_put rfl (by decide) (by decide) ht h)
  case ends =>
    intro e ho
    refine ⟨opSuspended_exec rfl ho, fun hst hk => ?_, fun hst hstw => ⟨?_, ?_, ?_, ?_, ?_⟩⟩
    · subst hk
      exact opCancelled_exec rfl ho hst (.inl rfl)
    all_goals
      intro hk
      subst hk
      exact opCancelled_exec rfl ho hst (.inr hstw)
  case actions =>
    intro x
    refine ⟨opCtl_none, fun o ho => ⟨opCtl_ended ho, fun hlive hst => ?_⟩⟩
    rw [opCtl_live ho hlive hst]
    refine ⟨?_, ?_, ?_, ?_, ?_⟩
    · rintro rfl hreq
      exact if_pos hreq
    · rintro rfl hreq
      exact if_neg (by simp [hreq])
    · rintro rfl hreq
      exact if_neg (by simp [hreq])
    · rintro rfl hreq
      exact if_pos hreq
    · rintro rfl
      rfl

end Sys2Proof.Machine
end

section
/-! ### Tags of long operations (O36) -/

open Sys2Proof Sys2Proof.Machine
namespace Sys2Proof.Machine

/-- The `k`-th tag from `t` on, counting 1 to 65,535 round. -/
def tagFrom (t k : Nat) : Nat := (t - 1 + k) % 65535 + 1

/-- The tag after `t`, as `startOp` counts. -/
def tagAfter (t : Nat) : Nat := if t = 65535 then 1 else t + 1

/-- An entry of the operation table holds tag `t`. -/
def State.tagHeld (s : State) (t : Nat) : Bool := s.seq.ops.toList.any (fun o => decide (o.tag = t))

theorem tagFrom_zero {t : Nat} (hlo : 1 ≤ t) (hhi : t ≤ 65535) : tagFrom t 0 = t := by
  unfold tagFrom
  omega

theorem tagAfter_tagFrom (t k : Nat) : tagAfter (tagFrom t k) = tagFrom t (k + 1) := by
  unfold tagAfter tagFrom
  split <;> omega

theorem tagFrom_inj {t i j : Nat} (hi : i < 65535) (hj : j < 65535) (e : tagFrom t i = tagFrom t j) : i = j := by
  unfold tagFrom at e
  omega

/-- Skipping `n` times from `t`, whenever a tag is held, ends at a tag that is not held unless it skipped each time. -/
theorem foldl_skip (held : Nat → Bool) {t : Nat} (hlo : 1 ≤ t) (hhi : t ≤ 65535) (n : Nat) :
    ∃ k ≤ n, (List.range n).foldl (fun t _ => if held t then tagAfter t else t) t = tagFrom t k ∧
      (∀ i < k, held (tagFrom t i) = true) ∧ (k < n → held (tagFrom t k) = false) := by
  induction n with
  | zero => exact ⟨0, le_rfl, (tagFrom_zero hlo hhi).symm, fun i hi => absurd hi (Nat.not_lt_zero i), fun h => absurd h (lt_irrefl 0)⟩
  | succ n ih =>
    obtain ⟨k, hk, hfold, hskipped, hfree⟩ := ih
    simp only [List.range_succ, List.foldl_append, List.foldl_cons, List.foldl_nil, hfold]
    cases hheld : held (tagFrom t k) with
    | false => exact ⟨k, Nat.le_succ_of_le hk, rfl, hskipped, fun _ => hheld⟩
    | true =>
      have hkn : k = n := by
        by_contra hne
        simp [hfree (lt_of_le_of_ne hk hne)] at hheld
      subst hkn
      refine ⟨k + 1, le_rfl, tagAfter_tagFrom t k, fun i hi => ?_, fun h => absurd h (lt_irrefl _)⟩
      rcases Nat.lt_succ_iff_lt_or_eq.mp hi with hi | rfl
      · exact hskipped i hi
      · exact hheld

/-- The table has eight entries, so nine tags in a row are not all held. -/
theorem State.exists_tag_free (s : State) (t : Nat) : ∃ i < 9, s.tagHeld (tagFrom t i) = false := by
  by_contra! hall
  have hnodup : ((List.range 9).map (tagFrom t)).Nodup :=
    List.nodup_range.map_on fun i hi j hj e =>
      tagFrom_inj (by have := List.mem_range.mp hi; omega) (by have := List.mem_range.mp hj; omega) e
  have hsub : (List.range 9).map (tagFrom t) ⊆ s.seq.ops.toList.map Oper.tag := by
    intro x hx
    obtain ⟨i, hi, rfl⟩ := List.mem_map.mp hx
    have hheld := Bool.eq_true_of_not_eq_false (hall i (List.mem_range.mp hi))
    obtain ⟨o, ho, htag⟩ := List.any_eq_true.mp hheld
    exact List.mem_map.mpr ⟨o, ho, of_decide_eq_true htag⟩
  have hlen := (List.subperm_of_subset hnodup hsub).length_le
  simp at hlen

theorem State.startOp_tag (s : State) (kind : Nat) (rq : Requester) :
    (s.startOp kind rq).1 = (List.range 9).foldl (fun t _ => if s.tagHeld t then tagAfter t else t) s.seq.nextTag := rfl

theorem State.startOp_nextTag (s : State) (kind : Nat) (rq : Requester) :
    (s.startOp kind rq).2.seq.nextTag = tagAfter (s.startOp kind rq).1 := rfl

theorem State.startOp_first_free {s : State} (hlo : 1 ≤ s.seq.nextTag) (hhi : s.seq.nextTag ≤ 65535) (kind : Nat) (rq : Requester) :
    ∃ k ≤ 8, (s.startOp kind rq).1 = tagFrom s.seq.nextTag k ∧ s.tagHeld (tagFrom s.seq.nextTag k) = false ∧
      ∀ i < k, s.tagHeld (tagFrom s.seq.nextTag i) = true := by
  obtain ⟨k, hk, hfold, hskipped, hfree⟩ := foldl_skip s.tagHeld hlo hhi 9
  obtain ⟨i, hi, hi_free⟩ := s.exists_tag_free s.seq.nextTag
  have hk8 : k ≤ 8 := by
    by_contra hgt
    simp [hskipped i (by omega)] at hi_free
  exact ⟨k, hk8, (s.startOp_tag kind rq).trans hfold, hfree (by omega), hskipped⟩

/-- Settles O36: of nine tags in a row one is free, and `startOp` skips only held ones to reach it. -/
theorem tagsInOrder : Obligations.TagsInOrder := by
  refine ⟨fun u kind rq hlo hhi => ?_, fun s a step => rfl, rfl⟩
  obtain ⟨k, hk, htag, hfree, hskipped⟩ := u.startOp_first_free hlo hhi kind rq
  refine ⟨k, hk, htag, hfree, hskipped, ?_⟩
  rw [u.startOp_nextTag, htag]
  exact tagAfter_tagFrom _ k

end Sys2Proof.Machine
end

section
/-! ### What the operations on the balance paths leave alone -/

namespace Sys2Proof.Machine

theorem mem_cellNos {n : Nat} : n ∈ cellNos ↔ 1 ≤ n ∧ n ≤ 24 := by
  simp only [cellNos, List.mem_map, List.mem_range]
  constructor
  · rintro ⟨i, hi, rfl⟩
    omega
  · exact fun ⟨h1, h24⟩ => ⟨n - 1, by omega, by omega⟩

theorem cellNos_nodup : cellNos.Nodup := List.nodup_range.map (add_left_injective 1)

theorem bal_of_cells {s t : State} (h : s.slu.cells = t.slu.cells) (n : Nat) : s.bal n = t.bal n := by
  unfold State.bal
  rw [h]

/-- From `s` to `t` nothing but the balance paths of the cells may differ. -/
def CellsOnly (s t : State) : Prop := ∃ v, t = { s with slu := { s.slu with cells := v } }

namespace CellsOnly
variable {s t u : State}

theorem refl : CellsOnly s s := ⟨s.slu.cells, rfl⟩

theorem trans (h : CellsOnly s t) (k : CellsOnly t u) : CellsOnly s u := by
  obtain ⟨_, rfl⟩ := h
  obtain ⟨w, rfl⟩ := k
  exact ⟨w, rfl⟩

theorem setBal (s : State) (n : Nat) (f : BalCell → BalCell) : CellsOnly s (s.setBal n f) := by
  unfold State.setBal
  split
  · exact refl
  · exact ⟨_, rfl⟩

theorem foldl {α : Type} {f : State → α → State} (h : ∀ u x, CellsOnly u (f u x)) (l : List α) (s : State) : CellsOnly s (l.foldl f s) :=
  List.foldlRecOn l f (motive := fun t => CellsOnly s t) refl (fun u hu x _ => hu.trans (h u x))

theorem onlyIn (h : CellsOnly s t) : OnlyIn [.slu] s t := by
  obtain ⟨v, rfl⟩ := h
  exact onlyIn_setSlu s _

theorem frameU (h : CellsOnly s t) : t.slu.frameU = s.slu.frameU := by
  obtain ⟨v, rfl⟩ := h
  rfl

end CellsOnly
end Sys2Proof.Machine
end

section
/-! ### The allocation of duty (R240): budgets and neighbours (O40, O41) -/

namespace Sys2Proof.Machine

/-! #### The scaling k -/

theorem roundK_le (r : Rat) : roundK r ≤ r := by
  unfold roundK
  exact (div_le_iff₀ (by positivity)).mpr (Rat.floor_le _)

theorem roundK_nonneg {r : Rat} (h : 0 ≤ r) : 0 ≤ roundK r := by
  unfold roundK
  refine div_nonneg (Int.cast_nonneg (Rat.le_floor_iff.mpr ?_)) (by positivity)
  push_cast
  positivity

theorem ratioOf_nonneg {b p : Rat} (hb : 0 ≤ b) : 0 ≤ (ratioOf b p).getD 1 := by
  unfold ratioOf
  split
  next hp => exact div_nonneg hb hp.le
  next => exact zero_le_one

/-- A scaling that is no more than the ratio of budget to power brings the power within the budget. -/
theorem mul_le_budget {b p k : Rat} (hb : 0 ≤ b) (hp : 0 ≤ p) (hk : k ≤ (ratioOf b p).getD 1) : k * p ≤ b := by
  rcases hp.eq_or_lt with rfl | hpos
  · simpa using hb
  · rw [ratioOf, if_pos hpos] at hk
    exact (le_div_iff₀ hpos).mp hk

section Scale
variable (bDie bBoard pDie pBoard : Rat)

theorem scaleOf_le_min : (scaleOf bDie bBoard pDie pBoard).1 ≤ min 1 (min ((ratioOf bDie pDie).getD 1) ((ratioOf bBoard pBoard).getD 1)) :=
  roundK_le _

theorem scaleOf_le_one : (scaleOf bDie bBoard pDie pBoard).1 ≤ 1 := (scaleOf_le_min ..).trans (min_le_left _ _)

variable {bDie bBoard pDie pBoard} (hDie : 0 ≤ bDie) (hBoard : 0 ≤ bBoard)
include hDie hBoard

theorem scaleOf_nonneg : 0 ≤ (scaleOf bDie bBoard pDie pBoard).1 :=
  roundK_nonneg (le_min zero_le_one (le_min (ratioOf_nonneg hDie) (ratioOf_nonneg hBoard)))

omit hBoard in
theorem scaleOf_mul_die_le (hp : 0 ≤ pDie) : (scaleOf bDie bBoard pDie pBoard).1 * pDie ≤ bDie :=
  mul_le_budget hDie hp ((scaleOf_le_min ..).trans ((min_le_right _ _).trans (min_le_left _ _)))

omit hDie in
theorem scaleOf_mul_board_le (hp : 0 ≤ pBoard) : (scaleOf bDie bBoard pDie pBoard).1 * pBoard ≤ bBoard :=
  mul_le_budget hBoard hp ((scaleOf_le_min ..).trans ((min_le_right _ _).trans (min_le_right _ _)))

end Scale

/-! #### Scaled duties -/

/-- A duty scaled by k and rounded down (R240). -/
def scaled (d : Nat) (k : Rat) : Nat := ((d : Rat) * k).floor.toNat

theorem scaled_cast_le {d : Nat} {k : Rat} (hk : 0 ≤ k) : (scaled d k : Rat) ≤ d * k := by
  have hfloor : 0 ≤ ((d : Rat) * k).floor := Rat.le_floor_iff.mpr (by push_cast; positivity)
  calc (scaled d k : Rat) = (((d : Rat) * k).floor : Int) := by rw [scaled, ← Int.cast_natCast, Int.toNat_of_nonneg hfloor]
    _ ≤ d * k := Rat.floor_le _

theorem scaled_le {d : Nat} {k : Rat} (hk : k ≤ 1) : scaled d k ≤ d := by
  have hle : (((d : Rat) * k).floor : Rat) ≤ (d : Int) :=
    calc (((d : Rat) * k).floor : Rat) ≤ d * k := Rat.floor_le _
      _ ≤ d * 1 := mul_le_mul_of_nonneg_left hk d.cast_nonneg
      _ = (d : Int) := by simp
  exact Int.toNat_le.mpr (Int.cast_le.mp hle)

/-- The power in mW that duties `d` ask for of cells whose power at full duty is `p` (R240). -/
def askedPower (d : Nat → Nat) (p : Nat → Rat) : Rat := (cellNos.map (fun n => (d n : Rat) / 256 * p n)).sum

section Power
variable {d : Nat → Nat} {p : Nat → Rat} (hp : ∀ n ∈ cellNos, 0 ≤ p n)
include hp

theorem askedPower_nonneg : 0 ≤ askedPower d p := by
  refine List.sum_nonneg fun x hx => ?_
  obtain ⟨n, hn, rfl⟩ := List.mem_map.mp hx
  exact mul_nonneg (by positivity) (hp n hn)

/-- Scaled duties ask for no more than the scaled power. -/
theorem askedPower_scaled_le {k : Rat} (hk : 0 ≤ k) : askedPower (fun n => scaled (d n) k) p ≤ k * askedPower d p := by
  unfold askedPower
  rw [← List.sum_map_mul_left]
  refine List.sum_le_sum fun n hn => ?_
  calc (scaled (d n) k : Rat) / 256 * p n ≤ d n * k / 256 * p n := by
        have := hp n hn
        have := scaled_cast_le (d := d n) hk
        gcongr
    _ = k * (d n / 256 * p n) := by ring

end Power

/-! #### The allocation -/

section Allocation
variable (u : State)

/-- The level that the allocation takes of cell `n`; a number that names no cell has none. -/
def State.levelAt (n : Nat) : Nat := if n = 0 ∨ 24 < n then 0 else (u.bal n).l

/-- Number `n` names a cell in internal mode. -/
def State.internalAt (n : Nat) : Bool := decide (1 ≤ n) && decide (n ≤ 24) && !((u.bal n).xfet)

/-- The duty of cell `n` before scaling (R234, R240). -/
def State.rawDuty (n : Nat) : Nat := if (u.bal n).xnew then 0 else adjDuty u.levelAt u.internalAt u.slu.frameU n

/-- The scaling of the allocation (R240, R244). -/
def State.scaling : Rat :=
  (scaleOf ((u.slu.frameDie : Rat) * u.thrFactor) ((u.slu.frameBoard : Rat) * u.thrFactor)
    (askedPower u.rawDuty fun n => (u.bal n).pd) (askedPower u.rawDuty fun n => (u.bal n).pb)).1

/-- The cells with their duties granted. -/
def State.granted : State := cellNos.foldl (fun s n => s.setBal n (fun b => { b with duty := scaled (u.rawDuty n) u.scaling })) u

/-- The allocation grants the scaled duties, and reports on them in SLU_STAT and SLU_PWR. -/
theorem allocate_eq_granted : ∃ (k : Nat) (ld lb : Bool) (die board : Nat), u.allocate =
    { u.granted with slu := { u.granted.slu with k256 := k, limDie := ld, limBoard := lb, dieP := die, boardP := board } } :=
  ⟨_, _, _, _, _, rfl⟩

theorem allocate_frameU : u.allocate.slu.frameU = u.slu.frameU := by
  obtain ⟨k, ld, lb, die, board, h⟩ := allocate_eq_granted u
  have hcells : CellsOnly u u.granted := .foldl (fun s n => .setBal s n _) cellNos u
  rw [h]
  exact hcells.frameU

/-- The allocation gives a cell its scaled duty and leaves the rest of it. -/
theorem allocate_bal {n : Nat} (h1 : 1 ≤ n) (h24 : n ≤ 24) :
    u.allocate.bal n = { u.bal n with duty := scaled (u.rawDuty n) u.scaling } := by
  obtain ⟨k, ld, lb, die, board, h⟩ := allocate_eq_granted u
  have hgranted : u.granted.bal n = { u.bal n with duty := scaled (u.rawDuty n) u.scaling } := by
    refine view_foldl_of_mem (view := fun t : State => t.bal n) (P := fun c => c = u.bal n) (k := n)
      (Q := fun c => c = { u.bal n with duty := scaled (u.rawDuty n) u.scaling })
      (fun t i hi => bal_setBal_ne t _ h1 hi) (fun t ht => ?_) cellNos_nodup (mem_cellNos.mpr ⟨h1, h24⟩) rfl
    rw [bal_setBal_self t _ h1 h24, ht]
  have hcells : u.allocate.slu.cells = u.granted.slu.cells := by rw [h]
  exact (bal_of_cells hcells n).trans hgranted

theorem State.thrFactor_nonneg : 0 ≤ u.thrFactor := by
  unfold State.thrFactor
  split <;> positivity

theorem scaling_nonneg : 0 ≤ u.scaling :=
  scaleOf_nonneg (mul_nonneg (Nat.cast_nonneg _) u.thrFactor_nonneg) (mul_nonneg (Nat.cast_nonneg _) u.thrFactor_nonneg)

/-- What the granted duties ask for, of a power at full duty that the allocation leaves. -/
theorem allocate_asked {p : BalCell → Rat} (hp : ∀ c d, p { c with duty := d } = p c) :
    (cellNos.map (fun n => ((u.allocate.bal n).duty : Rat) / 256 * p (u.allocate.bal n))).sum =
      askedPower (fun n => scaled (u.rawDuty n) u.scaling) (fun n => p (u.bal n)) := by
  refine congrArg List.sum (List.map_congr_left fun n hn => ?_)
  obtain ⟨h1, h24⟩ := mem_cellNos.mp hn
  rw [allocate_bal u h1 h24, hp]

end Allocation

/-- Settles O40: k is at most either ratio of budget to power, and a duty rounded down asks for no more than the scaled duty. -/
theorem budgetsHold : Obligations.BudgetsHold := by
  intro u hpos t
  have hpd : ∀ n ∈ cellNos, 0 ≤ (u.bal n).pd := fun n hn => (hpos n (mem_cellNos.mp hn).1 (mem_cellNos.mp hn).2).1
  have hpb : ∀ n ∈ cellNos, 0 ≤ (u.bal n).pb := fun n hn => (hpos n (mem_cellNos.mp hn).1 (mem_cellNos.mp hn).2).2
  have hbudget : ∀ b : Nat, 0 ≤ (b : Rat) * u.thrFactor := fun b => mul_nonneg b.cast_nonneg u.thrFactor_nonneg
  refine ⟨(allocate_asked u (p := BalCell.pd) fun _ _ => rfl).trans_le ?_, (allocate_asked u (p := BalCell.pb) fun _ _ => rfl).trans_le ?_⟩
  · exact (askedPower_scaled_le hpd (scaling_nonneg u)).trans (scaleOf_mul_die_le (hbudget _) (askedPower_nonneg hpd))
  · exact (askedPower_scaled_le hpb (scaling_nonneg u)).trans (scaleOf_mul_board_le (hbudget _) (askedPower_nonneg hpb))

/-! #### Neighbours -/

section Adjacency
variable {l : Nat → Nat} {internal : Nat → Bool} {u n : Nat}

theorem adjDuty_le_level : adjDuty l internal u n ≤ l n := by
  unfold adjDuty
  dsimp only
  split <;> split <;> omega

theorem adjDuty_le_above (hn : internal n = true) (hm : internal (n + 1) = true) (hl : 0 < l (n + 1)) :
    adjDuty l internal u n ≤ u - min (l (n + 1)) (u / 2) := by
  unfold adjDuty
  simp only [hn, hm, hl, decide_true, Bool.and_self, if_true]
  exact min_le_right _ _

theorem adjDuty_le_below (hn : internal n = true) (hm : internal (n + 1) = true) (hl : 0 < l n) :
    adjDuty l internal u (n + 1) ≤ u - min (l n) (u / 2) := by
  unfold adjDuty
  simp only [hn, hm, hl, Nat.add_sub_cancel, decide_true, Bool.and_self, if_true]
  split <;> omega

/-- Two neighbouring internal cells that both ask share the usable slots (R240). -/
theorem adjDuty_add_le (hu : u % 2 = 0) (hn : internal n = true) (hm : internal (n + 1) = true) (hln : 0 < l n) (hlm : 0 < l (n + 1)) :
    adjDuty l internal u n + adjDuty l internal u (n + 1) ≤ u := by
  have hn_level : adjDuty l internal u n ≤ l n := adjDuty_le_level
  have hm_level : adjDuty l internal u (n + 1) ≤ l (n + 1) := adjDuty_le_level
  have hn_cut : adjDuty l internal u n ≤ u - min (l (n + 1)) (u / 2) := adjDuty_le_above hn hm hlm
  have hm_cut : adjDuty l internal u (n + 1) ≤ u - min (l n) (u / 2) := adjDuty_le_below hn hm hln
  omega

end Adjacency

section Slots
variable (s : State) {n i : Nat}

theorem inSlot_odd (h : n % 2 = 1) : s.inSlot n i = true ↔ i < (s.bal n).duty := by
  simp [State.inSlot, h]

theorem inSlot_even (h : n % 2 = 0) : s.inSlot n i = true ↔ s.slu.frameU - (s.bal n).duty ≤ i ∧ i < s.slu.frameU := by
  simp [State.inSlot, h]

variable {s}

theorem inSlot_duty_pos (h : s.inSlot n i = true) : 0 < (s.bal n).duty := by
  rcases Nat.mod_two_eq_zero_or_one n with hn | hn
  · have := (inSlot_even s hn).mp h
    omega
  · have := (inSlot_odd s hn).mp h
    omega

/-- Two neighbours whose duties fit into the usable slots have no slot in common (R242): one takes the first, the other the last. -/
theorem inSlot_disjoint (hfit : (s.bal n).duty + (s.bal (n + 1)).duty ≤ s.slu.frameU) (ha : s.inSlot n i = true)
    (hb : s.inSlot (n + 1) i = true) : False := by
  rcases Nat.mod_two_eq_zero_or_one n with hn | hn
  · have := (inSlot_even s hn).mp ha
    have := (inSlot_odd s (n := n + 1) (by omega)).mp hb
    omega
  · have := (inSlot_odd s hn).mp ha
    have := (inSlot_even s (n := n + 1) (by omega)).mp hb
    omega

end Slots

section Neighbours
variable {u : State} {n : Nat}

theorem rawDuty_le_adjDuty : u.rawDuty n ≤ adjDuty u.levelAt u.internalAt u.slu.frameU n := by
  unfold State.rawDuty
  split <;> omega

theorem rawDuty_le_levelAt : u.rawDuty n ≤ u.levelAt n := rawDuty_le_adjDuty.trans adjDuty_le_level

/-- The allocation grants a cell no more than its duty before scaling. -/
theorem allocate_duty_le (h1 : 1 ≤ n) (h24 : n ≤ 24) : (u.allocate.bal n).duty ≤ u.rawDuty n :=
  (congrArg BalCell.duty (allocate_bal u h1 h24)).trans_le (scaled_le (scaleOf_le_one ..))

theorem internalAt_of_xfet (h1 : 1 ≤ n) (h24 : n ≤ 24) (hx : (u.bal n).xfet = false) : u.internalAt n = true := by
  simp [State.internalAt, h1, h24, hx]

end Neighbours

/-- Settles O41: where both neighbours are on they both ask, so their duties share the usable slots, which they take from both ends. -/
theorem neighboursApart : Obligations.NeighboursApart := by
  rintro u n i h1 h23 hu hx hx' ⟨ha, hb⟩
  have hn : (u.allocate.bal n).duty ≤ u.rawDuty n := allocate_duty_le h1 (by omega)
  have hm : (u.allocate.bal (n + 1)).duty ≤ u.rawDuty (n + 1) := allocate_duty_le (by omega) (by omega)
  have hln : 0 < u.levelAt n := ((inSlot_duty_pos ha).trans_le hn).trans_le rawDuty_le_levelAt
  have hlm : 0 < u.levelAt (n + 1) := ((inSlot_duty_pos hb).trans_le hm).trans_le rawDuty_le_levelAt
  have hshare : adjDuty u.levelAt u.internalAt u.slu.frameU n + adjDuty u.levelAt u.internalAt u.slu.frameU (n + 1) ≤ u.slu.frameU :=
    adjDuty_add_le hu (internalAt_of_xfet h1 (by omega) hx) (internalAt_of_xfet (by omega) (by omega) hx') hln hlm
  refine inSlot_disjoint ?_ ha hb
  rw [allocate_frameU]
  have hn' : u.rawDuty n ≤ _ := rawDuty_le_adjDuty
  have hm' : u.rawDuty (n + 1) ≤ _ := rawDuty_le_adjDuty
  omega

end Sys2Proof.Machine
end

section
/-! ### Frames and slots of the sluice (O38, O39) -/

namespace Sys2Proof.Machine

/-! #### The output of a cell in a slot (R235, R242) -/

/-- The output of cell `n` is to be closed in slot `i` (R84, R236, R242). -/
def State.onInSlot (s : State) (i n : Nat) : Bool := decide (i < 256) && s.inSlot n i && s.eligible n && !(s.owHeld n)

section Cell
variable (t : Nat) (d : Edge) (i : Nat) (c : BalCell)

theorem closed_on : (c.closed t d i).on = true := by
  unfold BalCell.closed
  split
  next h => exact h
  next => rfl

theorem closed_edge (h : (c.closed t d i).on ≠ c.on) : (c.closed t d i).since = t ∧ (c.closed t d i).edge = d := by
  unfold BalCell.closed at h ⊢
  split
  next hon => simp [hon] at h
  next => exact ⟨rfl, rfl⟩

theorem opened_edge (h : (c.opened t d).on ≠ c.on) : (c.opened t d).since = t ∧ (c.opened t d).edge = d := by
  unfold BalCell.opened at h ⊢
  split
  next => exact ⟨rfl, rfl⟩
  next hoff => simp [hoff] at h

end Cell

section Drive
variable (s : State) {i n : Nat}

theorem driveCell_eq : s.driveCell i n =
    s.setBal n (fun c => if s.onInSlot i n = true then c.closed s.clk s.edgeNow i else c.opened s.clk s.edgeNow) := by
  by_cases h : s.onInSlot i n = true
  · refine (if_pos h).trans ?_
    simp only [h, if_true]
  · refine (if_neg h).trans ?_
    simp only [h]
    rfl

theorem driveCell_cellsOnly (i n : Nat) : CellsOnly s (s.driveCell i n) := by
  rw [driveCell_eq]
  exact .setBal s n _

theorem driveCell_bal_ne {m : Nat} (h1 : 1 ≤ m) (h : m ≠ n) : (s.driveCell i n).bal m = s.bal m := by
  rw [driveCell_eq]
  exact bal_setBal_ne s _ h1 (Ne.symm h)

variable (h1 : 1 ≤ n) (h24 : n ≤ 24)
include h1 h24

theorem driveCell_bal : (s.driveCell i n).bal n =
    if s.onInSlot i n = true then (s.bal n).closed s.clk s.edgeNow i else (s.bal n).opened s.clk s.edgeNow := by
  rw [driveCell_eq, bal_setBal_self s _ h1 h24]

theorem driveCell_on : ((s.driveCell i n).bal n).on = s.onInSlot i n := by
  rw [driveCell_bal s h1 h24]
  cases s.onInSlot i n with
  | true => exact closed_on ..
  | false => exact opened_on ..

/-- An output that changes makes its edge now, with the slew and in the band in effect (R235). -/
theorem driveCell_edge (h : ((s.driveCell i n).bal n).on ≠ (s.bal n).on) :
    ((s.driveCell i n).bal n).since = s.clk ∧ ((s.driveCell i n).bal n).edge = s.edgeNow := by
  rw [driveCell_bal s h1 h24] at h ⊢
  split at h
  next hon =>
    rw [if_pos hon]
    exact closed_edge _ _ _ _ h
  next hoff =>
    rw [if_neg hoff]
    exact opened_edge _ _ _ h

end Drive

/-- Settles O39: a cell that takes part is on in the slots of its on-interval. -/
theorem slotsOfACell : Obligations.SlotsOfACell := by
  intro u n i h1 h24 hi helig hheld hd c d
  have hon : c.on = u.inSlot n i := by
    rw [driveCell_on u h1 h24]
    simp [State.onInSlot, hi, helig, hheld]
  refine ⟨fun hodd => ?odd, fun heven => ?even, fun hzero => ?none⟩
  case odd =>
    rw [hon]
    exact inSlot_odd u hodd
  case even =>
    rw [hon]
    exact inSlot_even u heven
  case none =>
    rw [hon, Bool.eq_false_iff]
    exact fun hin => (inSlot_duty_pos hin).ne' hzero

/-! #### The start of a slot (R242) -/

/-- What a slot does with the output of a cell depends on no other cell. -/
theorem onInSlot_of_cellsOnly {s t : State} {n : Nat} (h : CellsOnly s t) (hbal : t.bal n = s.bal n) (i : Nat) :
    t.onInSlot i n = s.onInSlot i n := by
  obtain ⟨v, rfl⟩ := h
  unfold State.onInSlot State.inSlot State.eligible State.effReq
  rw [hbal]
  rfl

/-- Every output stands as the slot wants it, once all have been driven. -/
theorem driveCells_on (s : State) (i : Nat) {n : Nat} (h1 : 1 ≤ n) (h24 : n ≤ 24) :
    ((cellNos.foldl (fun (s : State) n => s.driveCell i n) s).bal n).on = s.onInSlot i n :=
  view_foldl_of_mem (view := fun t : State => (t.onInSlot i n, t.bal n)) (k := n)
    (P := fun x => x.1 = s.onInSlot i n) (Q := fun x => x.2.on = s.onInSlot i n)
    (fun t _ hm => have hbal := driveCell_bal_ne t h1 (Ne.symm hm)
      Prod.ext (onInSlot_of_cellsOnly (driveCell_cellsOnly t i _) hbal i) hbal)
    (fun t ht => (driveCell_on t h1 h24).trans ht) cellNos_nodup (mem_cellNos.mpr ⟨h1, h24⟩) rfl

/-- Slot `i` is the one in progress; no output has changed yet. -/
def State.slotNoted (s : State) (i : Nat) : State := { s with slu := { s.slu with next := i + 1, slot := min i 255, slotClk := s.clk } }

section Begin
variable (u : State) (i : Nat)

theorem slotBegin_driven (hm : u.pwr.mode = .balance) (hr : u.slu.running = true) :
    u.slotBegin i = cellNos.foldl (fun (s : State) n => s.driveCell i n) (u.slotNoted i) := if_pos ⟨hm, hr⟩

theorem slotBegin_undriven (hm : u.pwr.mode ≠ .balance) : (u.slotBegin i).slu.cells = u.slu.cells := by
  have hnoted : u.slotBegin i = u.slotNoted i := if_neg fun h => hm h.1
  rw [hnoted]
  rfl

theorem slotBegin_cellsOnly : CellsOnly (u.slotNoted i) (u.slotBegin i) := by
  unfold State.slotBegin
  dsimp only
  split
  · exact .foldl (fun s n => driveCell_cellsOnly s i n) cellNos _
  · exact .refl

theorem slotBegin_noted : (u.slotBegin i).slu.next = i + 1 ∧ (u.slotBegin i).slu.slot = min i 255 ∧ (u.slotBegin i).slu.slotClk = u.clk := by
  obtain ⟨v, h⟩ := slotBegin_cellsOnly u i
  rw [h]
  exact ⟨rfl, rfl, rfl⟩

theorem slotBegin_onlyIn : OnlyIn [.slu] u (u.slotBegin i) := (onlyIn_setSlu u _).trans (slotBegin_cellsOnly u i).onlyIn

theorem slotBegin_on (hm : u.pwr.mode = .balance) (hr : u.slu.running = true) {n : Nat} (h1 : 1 ≤ n) (h24 : n ≤ 24) :
    ((u.slotBegin i).bal n).on = u.onInSlot i n := by
  rw [slotBegin_driven u i hm hr, driveCells_on _ i h1 h24]
  rfl

/-! #### The gap (R239) -/

theorem gapEdge_begins (hi : i = u.slu.frameU) (h256 : i < 256) (hs : u.slu.gapSent = false) :
    u.gapEdge i =
      if u.sluGap.getLsbD 7 = true then ({ u with slu := { u.slu with gapSent := true } }).setFlag (fld u.sluGap 0 6)
      else { u with slu := { u.slu with gapSent := true } } := if_pos ⟨hi, h256, by simp [hs]⟩

theorem gapEdge_elsewhere (h : i ≠ u.slu.frameU ∨ 256 ≤ i ∨ u.slu.gapSent = true) : u.gapEdge i = u := by
  refine if_neg fun ⟨hi, h256, hs⟩ => ?_
  rcases h with h | h | h
  · exact h hi
  · omega
  · exact hs h

end Begin

/-! #### The charge of a quota (R243) -/

section Quota
variable {u : State} {meas : List SlotMeas} {n : Nat}

theorem extCur_of_cellsOnly {s t : State} (h : CellsOnly s t) (n : Nat) : t.extCur n = s.extCur n := by
  obtain ⟨v, rfl⟩ := h
  rfl

/-- A cell's request counts alike where its balance path and the overlay are alike. -/
theorem effReq_of_cellsOnly {s t : State} (h : CellsOnly s t) (hreq : (t.bal n).req = (s.bal n).req) : t.effReq n = s.effReq n := by
  obtain ⟨v, rfl⟩ := h
  unfold State.effReq
  rw [hreq]

/-- What cell `n` is charged for the slot that ends: its current times the ticks that it was on (R243). -/
def State.charge (u : State) (meas : List SlotMeas) (n : Nat) : Rat :=
  (if (u.bal n).xfet = true then u.extCur n else ((slotMeas meas n).cur : Rat)) * u.onTicks n

theorem account_off (h : u.onTicks n = 0) : u.account meas n = u := if_pos h

/-- The account of a cell that was on and has a quota: its sums go on, and the remainder falls to 0 at the least. -/
theorem account_quota (h1 : 1 ≤ n) (h24 : n ≤ 24) (hon : 0 < u.onTicks n) {r : Rat} (hq : u.effReq n = .quota r) :
    ∃ w : State, (w.bal n).owner = (u.bal n).owner ∧
      u.account meas n =
        if max 0 (r - u.charge meas n) = 0 then (w.setBal n (fun c => { c with req := .quota (max 0 (r - u.charge meas n)) })).quotaDone n
        else w.setBal n (fun c => { c with req := .quota (max 0 (r - u.charge meas n)) }) := by
  generalize hacc : u.account meas n = a
  unfold State.account at hacc
  extract_lets t m x whole w at hacc
  have hw : CellsOnly u w := .setBal u n _
  have hbal : w.bal n = _ := bal_setBal_self u _ h1 h24
  have howner : (w.bal n).owner = (u.bal n).owner := by rw [hbal]
  have hreq : (w.bal n).req = (u.bal n).req := by rw [hbal]
  rw [if_neg hon.ne', effReq_of_cellsOnly hw hreq, hq] at hacc
  dsimp only at hacc
  rw [extCur_of_cellsOnly hw] at hacc
  exact ⟨w, howner, hacc.symm⟩

/-- The request of cell `n` has been withdrawn. -/
def State.unasked (u : State) (n : Nat) : State := (u.setBal n (fun c => { c with req := .none, owner := none })).withdrawDuty n

/-- A quota that is used up is withdrawn, and its completion noted (R243). -/
theorem quotaDone_slu (u : State) (n : Nat) :
    (u.quotaDone n).slu = { (u.unasked n).slu with qdone := maskSet (u.unasked n).slu.qdone (n - 1) true } := by
  unfold State.quotaDone
  extract_lets _ _ v
  split
  · exact onlyIn_setFlag v _ .slu (by simp)
  · rfl

theorem quotaDone_bal (h1 : 1 ≤ n) (h24 : n ≤ 24) : ((u.quotaDone n).bal n).withdrawn := by
  have hcells : (u.quotaDone n).slu.cells = (u.unasked n).slu.cells := by rw [quotaDone_slu]
  rw [bal_of_cells hcells]
  exact withdrawn_bal u h1 h24

theorem quotaDone_qdone : (u.quotaDone n).slu.qdone.testBit (n - 1) = true := by
  rw [quotaDone_slu]
  exact maskSet_testBit ..

end Quota

/-! #### The commands (R237) -/

section Commands
variable {s e : State} {dt : Nat} (he : s.elapse dt = e) (hon : e.coreOn = true)

include he hon in
theorem sluiceFrameStart_exec :
    exec (.sluiceFrameStart dt) s =
      .next (
        let u := cellNos.foldl State.frameMode (e.untilMod (atLeast1 (e.fld 0x1000 16 8) * 2000000) 0)
        let v := cellNos.foldl State.frameSums u.computeFrame
        { v with slu := { v.slu with frameLen := atLeast1 (e.fld 0x1000 16 8), gapSent := false, next := 0, slot := 0 } }) := by
  subst he
  rw [exec_sluiceFrameStart, execSluiceFrameStart]
  exact if_neg (by simp [hon])

/-- The boundary of the slot that comes next. -/
def State.slotTime (e : State) : State :=
  e.untilMod (frameTicks e.slu.frameLen) (slotAt e.slu.frameLen e.slu.next % frameTicks e.slu.frameLen)

/-- The boundary of the slot in which run `r` delivers its column powers next (R257). -/
def State.columnTime (e : State) (r : SpcRun) : State := e.untilMod 78125 (r.tx % 78125)

/-- Where the slots of the frame are all past, nothing happens (R237). -/
theorem next_of_boundary (i : Nat) (a b : State) :
    (if 256 < i then Host.Outcome.next b else Host.Outcome.next a : Out) = .next (if i ≤ 256 then a else b) := by
  by_cases hi : i ≤ 256
  · rw [if_pos hi, if_neg (by omega)]
  · rw [if_neg hi, if_pos (by omega)]

include he hon

theorem slotStart_exec_idle (meas : List SlotMeas) (hr : e.spc.run = none) :
    exec (.slotStart dt meas) s = .next (if e.slu.next ≤ 256 then e.slotTime.slotEdge e.slu.next meas else e) := by
  rw [exec_slotStart, execSlotStart, he]
  extract_lets i slot
  rw [if_neg (by simp [hon]), hr]
  exact next_of_boundary ..

theorem slotStart_exec_run (meas : List SlotMeas) {r : SpcRun} (hr : e.spc.run = some r) :
    exec (.slotStart dt meas) s =
      .next (if r.exc = true ∧ (256 < e.slu.next ∨ (e.columnTime r).clk ≤ e.slotTime.clk) then
          (if e.slu.next ≤ 256 ∧ (e.columnTime r).clk = e.slotTime.clk then
              ((e.columnTime r).columns meas).slotEdge e.slu.next meas
            else (e.columnTime r).columns meas)
        else if e.slu.next ≤ 256 then e.slotTime.slotEdge e.slu.next meas else e) := by
  rw [exec_slotStart, execSlotStart, he]
  unfold State.columnTime State.slotTime
  dsimp only
  rw [if_neg (by simp [hon]), hr]
  dsimp only
  generalize e.untilMod 78125 (r.tx % 78125) = cols
  generalize e.untilMod (frameTicks e.slu.frameLen) _ = slot
  generalize e.slu.next = i
  by_cases hcols : r.exc = true ∧ (256 < i ∨ cols.clk ≤ slot.clk)
  · rw [if_pos hcols, if_pos hcols]
  · rw [if_neg hcols, if_neg hcols]
    exact next_of_boundary ..

end Commands

/-- Settles O38: the commands go to the next boundary, a slot drives every cell by itself, and a quota is charged for its on-time. -/
theorem sluiceFramesAndSlots : Obligations.SluiceFramesAndSlots := by
  refine ⟨?commands, ?begins, ?drives, fun u i => ⟨gapEdge_begins u i, gapEdge_elsewhere u i⟩, ?charges⟩
  case commands =>
    intro s dt e hcore
    exact ⟨sluiceFrameStart_exec rfl hcore, fun meas => ⟨slotStart_exec_idle rfl hcore meas, fun r => slotStart_exec_run rfl hcore meas⟩⟩
  case begins =>
    intro u i t
    obtain ⟨hnext, hslot, hclk⟩ := slotBegin_noted u i
    exact ⟨hnext, hslot, hclk, slotBegin_onlyIn u i, fun hm hr n h1 h24 => slotBegin_on u i hm hr h1 h24,
      slotBegin_undriven u i⟩
  case drives =>
    intro u i n h1 h24 on t
    exact ⟨driveCell_on u h1 h24, fun m hm _ hne => driveCell_bal_ne u hm hne, driveCell_edge u h1 h24, onlyIn_driveCell u i n⟩
  case charges =>
    intro u meas n r h1 h24 on used t
    refine ⟨account_off, fun hon hq _ => ?_⟩
    obtain ⟨w, howner, hacc⟩ := account_quota (meas := meas) h1 h24 hon hq
    refine ⟨fun hlt => ?left, fun hle => ?done⟩
    case left =>
      have hpos : 0 < r - u.charge meas n := sub_pos.mpr hlt
      have ht : t = w.setBal n (fun c => { c with req := .quota (r - u.charge meas n) }) := by
        rw [show t = _ from hacc, max_eq_right hpos.le, if_neg hpos.ne']
      rw [ht, bal_setBal_self w _ h1 h24]
      exact ⟨rfl, howner⟩
    case done =>
      have hle' : r - u.charge meas n ≤ 0 := sub_nonpos.mpr hle
      rw [show t = _ from hacc, if_pos (max_eq_left hle')]
      obtain ⟨hreq, -, hduty, -⟩ := quotaDone_bal h1 h24
      exact ⟨hreq, hduty, quotaDone_qdone⟩

end Sys2Proof.Machine
end

section
/-! ### The checks of the balance paths (O42) -/

namespace Sys2Proof.Machine

/-! #### A fault of a balance path (R248) -/

section Hold
variable (u : State) (n k : Nat)

/-- The cell held off after a fault: its duty has ended and its output is open. -/
def State.heldOff : State := (u.setBal n (fun c => { c with hold := true, faulted := true, lowN := 0, highN := 0 })).withdrawDuty n

theorem balHold_slu : (u.balHold n k).slu = { (u.heldOff n).slu with flastCell := n, flastCheck := k } := by
  unfold State.balHold
  extract_lets _ v
  split
  · split
    · rfl
    · rfl
  · rfl

theorem onlyIn_balHold : OnlyIn [.cyc, .slu, .spc] u (u.balHold n k) := by
  unfold State.balHold
  extract_lets w slu v
  have hw : OnlyIn [.cyc, .slu, .spc] u w := (onlyIn_withdrawn u n _).mono (by simp)
  have hv : OnlyIn [.cyc, .slu, .spc] u v := (hw.trans ((onlyIn_setSlu w _).mono (by simp))).trans ((onlyIn_cycMod _ _).mono (by simp))
  split
  · exact .ite (hv.trans ((onlyIn_setSpc v _).mono (by simp))) hv
  · exact hv

theorem opened_faults (t : Nat) (d : Edge) (c : BalCell) : (c.opened t d).hold = c.hold ∧ (c.opened t d).faulted = c.faulted := by
  unfold BalCell.opened
  split
  · exact ⟨rfl, rfl⟩
  · exact ⟨rfl, rfl⟩

variable {n}

theorem heldOff_bal (h1 : 1 ≤ n) (h24 : n ≤ 24) :
    ((u.heldOff n).bal n).hold = true ∧ ((u.heldOff n).bal n).faulted = true ∧ ((u.heldOff n).bal n).duty = 0 ∧
      ((u.heldOff n).bal n).on = false := by
  unfold State.heldOff State.withdrawDuty
  rw [bal_setBal_self _ _ h1 h24, bal_setBal_self _ _ h1 h24]
  obtain ⟨hhold, hfaulted⟩ := opened_faults (u.setBal n _).clk (u.setBal n _).edgeNow
    { u.bal n with hold := true, faulted := true, lowN := 0, highN := 0 }
  exact ⟨hhold, hfaulted, rfl, opened_on ..⟩

theorem balHold_bal (m : Nat) : (u.balHold n k).bal m = (u.heldOff n).bal m := by
  have hcells : (u.balHold n k).slu.cells = (u.heldOff n).slu.cells := by rw [balHold_slu]
  exact bal_of_cells hcells m

theorem balHold_bal_ne {m : Nat} (hm : 1 ≤ m) (h : m ≠ n) : (u.balHold n k).bal m = u.bal m :=
  (balHold_bal u k m).trans (withdrawn_bal_ne u _ hm (Ne.symm h))

end Hold

/-- No fault is presented while STOP_BALANCE is in effect, or a second time in a frame (R244, R247). -/
theorem balFault_silent {u : State} {n k : Nat} (h : u.stopped = true ∨ (u.bal n).faulted = true) : u.balFault n k = u := if_pos h

theorem balFault_presented {u : State} {n k : Nat} (hs : u.stopped = false) (hf : (u.bal n).faulted = false) :
    u.balFault n k = ((u.balHold n k).present1 (72 + n)).allHeld := if_neg (by simp [hs, hf])

/-! #### The measured current (R247, Table 8.3) -/

section Measured
variable (e : State) (t n : Nat) (f : BalCell → BalCell)

/-- The state at clock `t` in which a measurement of cell `n` is noted. -/
def State.measuredAt : State := (e.until_ t).setBal n f

theorem measuredAt_expCur : (e.measuredAt t n f).expCur n = e.expCur n := by
  obtain ⟨v, h⟩ := CellsOnly.setBal (e.until_ t) n f
  rw [State.measuredAt, h]
  rfl

theorem measuredAt_latest (ch : Nat) : (e.measuredAt t n f).latest ch = e.latest ch := by
  obtain ⟨v, h⟩ := CellsOnly.setBal (e.until_ t) n f
  rw [State.measuredAt, h]
  rfl

end Measured

/-- The current check of a closed switch has been made. -/
def BalCell.checkedAt (cur : Nat) (c : BalCell) : BalCell := { c with checked := true, cur := cur }

/-- The count of the on-intervals in a row whose current is low or high. -/
def BalCell.counted (low high : Bool) (c : BalCell) : BalCell :=
  { c with lowN := if low then c.lowN + 1 else 0, highN := if high then c.highN + 1 else 0 }

section Commands
variable {s e : State} {dt n : Nat} (he : s.elapse dt = e)
include he

theorem balOvercurrent_exec (hint : e.internalCell n = true) (hfree : e.pathFree n = true) :
    exec (.balOvercurrent dt n) s = .next (e.balFault n 1) := by
  subst he
  rw [exec_balOvercurrent, execBalOvercurrent]
  exact if_pos ⟨hint, hfree⟩

theorem balStuckOn_exec {cur : Nat} (hint : e.internalCell n = true) (hfree : e.pathFree n = true) (hoff : (e.bal n).on = false) :
    exec (.balStuckOn dt n cur) s =
      .next (let u := (e.until_ ((e.bal n).since + 10000)).setBal n (fun c => { c with cur := cur })
        if 20 < cur then u.balFault n 4 else u) := by
  subst he
  rw [exec_balStuckOn, execBalStuckOn, apply_ite Host.Outcome.next]
  exact if_pos ⟨hint, hfree, by simp [hoff]⟩

theorem balGateCheck_exec {vgs vc : Int} (hused : e.used n = true) (hx : (e.bal n).xfet = true) :
    exec (.balGateCheck dt n vgs vc) s =
      .next (let u := e.until_ ((e.bal n).since + 4000 + (e.bal n).edge.ticks)
        if (e.bal n).on = true then (if vgs * 5 < vc * 4 then u.balFault n 5 else u)
        else if vc < vgs * 5 then u.balFault n 6 else u) := by
  subst he
  rw [exec_balGateCheck, execBalGateCheck, apply_ite Host.Outcome.next, apply_ite Host.Outcome.next, apply_ite Host.Outcome.next]
  exact if_pos ⟨hused, hx⟩

section Closed
variable {cur : Nat} (hint : e.internalCell n = true) (hfree : e.pathFree n = true) (hon : (e.bal n).on = true)
  (hnew : (e.bal n).checked = false)
include hint hfree hon hnew

/-- The check of a switch closed since: the measurement is noted, and where the on-interval can be checked the failures are counted. -/
theorem balCurrentCheck_exec :
    let u := e.measuredAt ((e.bal n).since + 10000) n (BalCell.checkedAt cur)
    let v := u.setBal n (BalCell.counted (e.curLow n cur) (e.curHigh n cur))
    exec (.balCurrentCheck dt n cur) s =
      if (!u.checkable n) = true ∨ suspectOf (e.latest (n - 1)) = true then .next u
      else .next (if 3 ≤ (v.bal n).lowN then v.balFault n 2 else if 3 ≤ (v.bal n).highN then v.balFault n 3 else v) := by
  subst he
  intro u v
  have hlow : u.curLow n cur = (s.elapse dt).curLow n cur := by rw [State.curLow, measuredAt_expCur]; rfl
  have hhigh : u.curHigh n cur = (s.elapse dt).curHigh n cur := by rw [State.curHigh, measuredAt_expCur]; rfl
  have hlatest : u.latest (n - 1) = (s.elapse dt).latest (n - 1) := measuredAt_latest ..
  rw [exec_balCurrentCheck, execBalCurrentCheck, ← hlatest, apply_ite Host.Outcome.next, apply_ite Host.Outcome.next]
  refine (if_pos ⟨hint, hfree, hon, by simp [hnew]⟩).trans ?_
  have hv : v = u.setBal n (BalCell.counted (u.curLow n cur) (u.curHigh n cur)) := by rw [hlow, hhigh]
  rw [hv]
  rfl

theorem balCurrentCheck_skipped
    (h : (e.measuredAt ((e.bal n).since + 10000) n (BalCell.checkedAt cur)).checkable n = false ∨ suspectOf (e.latest (n - 1)) = true) :
    exec (.balCurrentCheck dt n cur) s = .next (e.measuredAt ((e.bal n).since + 10000) n (BalCell.checkedAt cur)) :=
  (balCurrentCheck_exec he hint hfree hon hnew).trans (if_pos (h.imp_left (by simp)))

theorem balCurrentCheck_made (hc : (e.measuredAt ((e.bal n).since + 10000) n (BalCell.checkedAt cur)).checkable n = true)
    (hs : suspectOf (e.latest (n - 1)) = false) :
    let v := (e.measuredAt ((e.bal n).since + 10000) n (BalCell.checkedAt cur)).setBal n
      (BalCell.counted (e.curLow n cur) (e.curHigh n cur))
    exec (.balCurrentCheck dt n cur) s =
      .next (if 3 ≤ (v.bal n).lowN then v.balFault n 2 else if 3 ≤ (v.bal n).highN then v.balFault n 3 else v) :=
  (balCurrentCheck_exec he hint hfree hon hnew).trans (if_neg (by simp [hc, hs]))

end Closed
end Commands

/-- Settles O42: each check goes to its instant and presents what its condition says, and a fault holds its cell off. -/
theorem balanceChecks : Obligations.BalanceChecks := by
  refine ⟨?checks, fun u n k h1 h24 => ⟨balFault_silent, balFault_presented, ?held⟩⟩
  case checks =>
    intro s dt n e
    refine ⟨balOvercurrent_exec rfl, fun cur hint hfree hon hnew => ?_, fun cur => balStuckOn_exec rfl, fun vgs vc => balGateCheck_exec rfl⟩
    exact ⟨balCurrentCheck_skipped rfl hint hfree hon hnew, balCurrentCheck_made rfl hint hfree hon hnew⟩
  case held =>
    obtain ⟨hhold, hfaulted, hduty, hon⟩ := heldOff_bal u h1 h24
    rw [← balHold_bal u k n] at hhold hfaulted hduty hon
    exact ⟨hhold, hfaulted, hduty, hon, congrArg Slu.flastCell (balHold_slu u n k), congrArg Slu.flastCheck (balHold_slu u n k),
      fun m hm _ hne => balHold_bal_ne u k hm hne, onlyIn_balHold u n k⟩

end Sys2Proof.Machine
end

section
/-! ### The start of a spectrum run (O43) -/

namespace Sys2Proof.Machine

/-! #### The commands (R250, R252) -/

/-- A write of SPC_CTL with START set, by a requester that is no jet, is a start request of the kind that it names. -/
theorem effectMid_spcCtl (u : State) {rq : Requester} (hrq : isJet rq = false) (v : Word) :
    u.effectMid rq 0x1200 (v ||| putb true 31) = u.specStart rq (fld (v ||| putb true 31) 0 2) :=
  have hstart : ((v ||| putb true 31).getLsbD 31 && !isJet rq) = true := by rw [getLsbD_or_putb v (by decide), hrq]; rfl
  if_pos hstart

section Commands
variable {s e : State} {dt : Nat} (he : s.elapse dt = e)
include he

theorem spectrumStart_exec {rq : Requester} {v : Word} (h : e.accepts rq 0x1200 (v ||| putb true 31)) (hrq : isJet rq = false) :
    exec (.spectrumStart dt rq v) s =
      .next (((e.wrote rq 0x1200 (v ||| putb true 31)).specStart rq (fld (v ||| putb true 31) 0 2)).answers .ok []) := by
  rw [exec_spectrumStart, execSpectrumStart, put_mid he h (by decide) (by decide) (by decide) (by decide) (by decide), effectMid_spcCtl _ hrq]

variable {r : SpcRun} (hrun : e.spc.run = some r)
include hrun

/-- A run that waits for TSTART begins when the timebase reads it (R252). -/
theorem spectrumRunBegin_exec_tstart (hwait : r.phase = .notStarted) (hop : e.opIs 1 .running = true) (hsrc : r.fld 0x1202 20 2 = 1) :
    exec (.spectrumRunBegin dt) s =
      .next (let u := if e.reached32 (vget r.cfg 0 4) then e else e.elapseTb (vget r.cfg 0 4 - e.tb.setWidth 32).toNat
        u.startRun r u.tbn) := by
  subst he
  rw [exec_spectrumRunBegin, execSpectrumRunBegin]
  simp only [hrun, hwait, hop, hsrc, and_self, if_true]

/-- A run that waits for an edge begins at the edge (R252). -/
theorem spectrumRunBegin_exec_edge {t : Nat} (hwait : r.phase = .notStarted) (hop : e.opIs 1 .running = true)
    (hsrc : r.fld 0x1202 20 2 = 2) (hedge : r.edge = some t) : exec (.spectrumRunBegin dt) s = .next (e.startRun r t) := by
  subst he
  rw [exec_spectrumRunBegin, execSpectrumRunBegin]
  simp [hrun, hwait, hop, hsrc, hedge]

end Commands

/-! #### A start request (R250 to R252) -/

section Request
variable {u : State} {rq : Requester} {kind : Nat}

/-- The state in which START_RES and REFUSE tell what became of a start request. -/
def State.startAnswer (u : State) (res why : Nat) : State := { u with spc := { u.spc with startRes := res, refuse := why } }

/-- The run that an accepted start request enters (R251): it has not started, and it has copied the configuration in effect. -/
def State.newRun (u : State) (rq : Requester) (kind : Nat) : SpcRun :=
  { tag := (u.startOp 1 rq).1, kind := kind, cfg := Vector.ofFn (fun i : Fin 80 => u.eff (0x1200 + i.val)), phase := .notStarted
    step := 0, pass := 0, win := 0, f1 := 0, since := u.clk, tb := 0, tx := 0, ts := 0, te := 0, tf := 0, trims := [], faults := 0
    exc := false, closed := false, edge := none, pubs := [] }

theorem newRun_cfg (u : State) (rq : Requester) (kind : Nat) {i : Nat} (hi : i < 80) :
    vget (u.newRun rq kind).cfg 0 i = u.eff (0x1200 + i) :=
  vget_ofFn _ 0 hi

theorem newRun_fld (u : State) (rq : Requester) (kind : Nat) {i : Nat} (hi : i < 80) (lo len : Nat) :
    (u.newRun rq kind).fld (0x1200 + i) lo len = u.fld (0x1200 + i) lo len := by
  unfold SpcRun.fld State.fld
  rw [Nat.add_sub_cancel_left, newRun_cfg u rq kind hi]

theorem specStart_badMode (hmode : u.pwr.mode ≠ .spectrum) : u.specStart rq kind = u.startAnswer 2 0 := if_pos hmode

variable (hmode : u.pwr.mode = .spectrum)
include hmode

theorem specStart_busy (hrun : u.spc.run.isSome = true) : u.specStart rq kind = u.startAnswer 3 0 :=
  (if_neg (not_not_intro hmode)).trans (if_pos hrun)

variable (hrun : u.spc.run = none)
include hrun

theorem specStart_refused (hwhy : u.spcRefuse kind ≠ 0) : u.specStart rq kind = u.startAnswer 4 (u.spcRefuse kind) :=
  (if_neg (not_not_intro hmode)).trans ((if_neg (by simp [hrun])).trans (if_pos hwhy))

/-- An accepted request with a start at TSTART: the operation is in the table, the run waits, and the sweep table is empty. -/
theorem specStart_waits (hwhy : u.spcRefuse kind = 0) (hsrc : u.fld 0x1202 20 2 = 1) :
    u.specStart rq kind =
      { (u.startOp 1 rq).2 with
        spc := { u.spc with
          run := some (u.newRun rq kind), startRes := 1, refuse := 0, tag := (u.startOp 1 rq).1, sweep := [], sweepSt := [] } } := by
  have hfld : (u.newRun rq kind).fld 0x1202 20 2 = 1 := (newRun_fld u rq kind (i := 2) (by decide) 20 2).trans hsrc
  refine (if_neg (not_not_intro hmode)).trans ((if_neg (by simp [hrun])).trans ((if_neg (not_not_intro hwhy)).trans ?_))
  exact if_pos (.inl hfld)

end Request

theorem onlyIn_startOp (u : State) (kind : Nat) (rq : Requester) : OnlyIn [.seq] u (u.startOp kind rq).2 := onlyIn_setSeq u _

theorem spcRefuse_badKind (u : State) : u.spcRefuse 3 = 10 := by
  unfold State.spcRefuse
  exact if_pos rfl

theorem spcRefuse_noCells {u : State} {kind : Nat} (hkind : kind ≠ 3) (hcells : u.spcCells = []) : u.spcRefuse kind = 1 :=
  (if_neg hkind).trans (if_pos hcells)

/-- Settles O43: an accepted write of SPC_CTL is a start request, a run begins at TSTART or at its edge, and a request is one branch of
`specStart`. -/
theorem spectrumStart : Obligations.SpectrumStart := by
  refine ⟨fun s dt rq v => ?write, fun s dt r => ?begins, fun u rq kind => ?request⟩
  case write =>
    exact fun h hrq => spectrumStart_exec rfl h hrq
  case begins =>
    intro e hrun hwait hop
    exact ⟨spectrumRunBegin_exec_tstart rfl hrun hwait hop, fun t => spectrumRunBegin_exec_edge rfl hrun hwait hop⟩
  case request =>
    refine ⟨specStart_badMode, specStart_busy, specStart_refused, fun hmode hrun hwhy hsrc => ?_,
      spcRefuse_badKind u, spcRefuse_noCells⟩
    rw [specStart_waits hmode hrun hwhy hsrc]
    exact ⟨rfl, rfl, ⟨u.newRun rq kind, rfl, rfl, rfl, fun i => newRun_cfg u rq kind⟩,
      ((onlyIn_startOp u 1 rq).mono (by simp)).trans ((onlyIn_setSpc _ _).mono (by simp))⟩

end Sys2Proof.Machine
end

section
/-! ### The passes and windows of a spectrum run (O44) -/

namespace Sys2Proof.Machine

/-! #### What the passage of time leaves to a run -/

section Untouched
variable (u : State) (r : SpcRun) (t : Tick)

theorem runCells_untilTb : (u.untilTb t).runCells r = u.runCells r := by
  unfold State.runCells
  simp only [used_of_onlyIn (onlyIn_untilTb u t) (by simp) (by simp)]

theorem passCells_untilTb (p : Nat) : (u.untilTb t).passCells r p = u.passCells r p := by
  unfold State.passCells
  rw [runCells_untilTb]

theorem nextPass_untilTb : (u.untilTb t).nextPass r = u.nextPass r := by
  unfold State.nextPass State.firstPass
  simp only [passCells_untilTb]

theorem bal_untilTb (n : Nat) : (u.untilTb t).bal n = u.bal n :=
  bal_of_cells (congrArg Slu.cells (onlyIn_untilTb u t .slu (by simp))) n

end Untouched

/-- The run from t_x on, in which a cell of the pass that is held open is excited no further (R259). -/
def SpcRun.excited (r : SpcRun) (e : State) : SpcRun :=
  { r with
    exc := true
    faults := ((e.passCells r r.pass).filter (fun n => (e.bal n).hold)).foldl (fun m n => maskSet m (n - 1) true) r.faults }

theorem excited_untilTb (r : SpcRun) (u : State) (t : Tick) : r.excited (u.untilTb t) = r.excited u := by
  unfold SpcRun.excited
  simp only [passCells_untilTb, bal_untilTb]

/-! #### A pass begins, and its publication is due (R254, R255, R263) -/

section Pass
variable (u : State) (r : SpcRun) (tb : Nat)

/-- Whether THROTTLE holds the pass or not, the run goes on with its step, its pass and its publications. -/
theorem beginPass_run :
    ∃ q, (u.beginPass r tb).spc.run = some q ∧ q.step = r.step ∧ q.pass = r.pass ∧ q.pubs = r.pubs := by
  unfold State.beginPass
  split
  · exact ⟨_, rfl, rfl, rfl, rfl⟩
  · exact ⟨_, rfl, rfl, rfl, rfl⟩

theorem startPass_run : (u.startPass r tb).spc.run = (u.beginPass r tb).spc.run := by
  unfold State.startPass
  extract_lets v w
  have hw : w.spc = v.spc := by
    unfold w
    split
    · exact onlyIn_startDecims v _ _ _ .spc (by simp)
    · rfl
  have hprune : w.pruneSmp.spc.run = w.spc.run := rfl
  rw [hprune, hw]

theorem pubDue_run : ∃ p, (u.pubDue r).spc.run = some { r with pubs := r.pubs ++ [p] } := ⟨_, rfl⟩

theorem onlyIn_pubDue : OnlyIn [.spc] u (u.pubDue r) := onlyIn_setSpc u _

theorem onlyIn_setRun : OnlyIn [.spc] u (u.setRun r) := onlyIn_setSpc u _

theorem nextPass_pubDue (l : List PubDue) : (u.pubDue r).nextPass { r with pubs := l } = u.nextPass r := rfl

end Pass

/-! #### The trim of the current sense (R258) -/

/-- A correction within ±5 %: the sense shows 100 mA / 1.05 to 100 mA / 0.95. -/
theorem trimFails_eq_false (ua : Nat) : trimFails ua = false ↔ 95239 ≤ ua ∧ ua ≤ 105263 := by
  rw [trimFails, decide_eq_false_iff_not]
  omega

/-! #### The timeline of a pass (R255, R269) -/

/-- t_x is the sixth grid point after the one that follows t_b, and the window lies behind it. -/
theorem timeline_order (r : SpcRun) (tb : Nat) :
    let g := 5 * 2 ^ r.osrK
    let q := r.timeline tb
    q.tb = tb ∧ tb + 6 * g ≤ q.tx ∧ q.tx < tb + 7 * g ∧ q.tx % g = 0 ∧ q.tx ≤ q.ts ∧ q.ts ≤ q.te ∧ q.te ≤ q.tf := by
  intro g q
  have hg : 0 < g := Nat.mul_pos (by decide) (Nat.two_pow_pos _)
  have htx : q.tx = (tb + g - 1) / g * g + 6 * g := rfl
  have hsplit : (tb + g - 1) / g * g + (tb + g - 1) % g = tb + g - 1 := Nat.div_add_mod' _ _
  have hrest : (tb + g - 1) % g < g := Nat.mod_lt _ hg
  refine ⟨rfl, by omega, by omega, ?_, Nat.le_add_right _ _, Nat.le_add_right _ _, (Nat.le_add_right _ _).trans (Nat.le_add_right _ _)⟩
  rw [htx, ← Nat.add_mul]
  exact Nat.mul_mod_left _ _

/-! #### F1 (R268) -/

theorem f1Found_range {u : State} {r : SpcRun} {lay f1 : Nat} (h : u.f1Found r lay = some f1) : 500 ≤ f1 ∧ f1 ≤ 5000000 := by
  unfold State.f1Found at h
  extract_lets l at h
  split at h
  · obtain ⟨hrange, hf⟩ := Option.ite_none_right_eq_some.mp h
    exact Option.some.inj hf ▸ hrange
  · exact absurd h.symm (Option.some_ne_none f1)

/-! #### The commands -/

section Commands
variable {s e : State} {dt : Nat} {r : SpcRun} (he : s.elapse dt = e) (hrun : e.spc.run = some r) (hop : e.opIs 1 .running = true)
include he hrun hop

theorem currentTrimDone_exec (hphase : r.phase = .trim) (hcells : (e.runCells r).all (fun c => (e.bal c).hold) = false)
    (sense : List TrimMeas) :
    let l := sense.filter (fun m => (e.runCells r).contains m.cell)
    let f := (l.filter (fun m => trimFails m.sense)).foldl (fun k m => maskSet k (m.cell - 1) true) r.faults
    exec (.currentTrimDone dt sense) s =
      .next ((e.untilTb (BitVec.ofNat 64 r.tb)).startPass
        { r with trims := l.map (fun m => (m.cell, m.sense)), faults := f } r.tb) := by
  subst he
  rw [exec_currentTrimDone, execCurrentTrimDone]
  simp only [hrun, hphase, hop, and_self, if_true, runCells_untilTb, bal_untilTb, hcells, Bool.false_eq_true, if_false]

/-- t_x of a pass or window that is not excited by the device. -/
theorem passExcite_exec_measured (hphase : r.phase = .settle) (hexc : r.exc = false) (hkind : r.kind ≠ 0) :
    exec (.passExcite dt) s = .next ((e.untilTb (BitVec.ofNat 64 r.tx)).setRun { r with exc := true }) := by
  subst he
  rw [exec_passExcite, execPassExcite]
  simp [hrun, hphase, hop, hexc, hkind]

theorem passExcite_exec_driven (hphase : r.phase = .settle) (hexc : r.exc = false) (hkind : r.kind = 0) :
    exec (.passExcite dt) s =
      .next ((e.untilTb (BitVec.ofNat 64 r.tx)).driveSpec (r.excited e) (decide (0 < ((r.excited e).period / 2).floor))) := by
  subst he
  rw [exec_passExcite, execPassExcite]
  simp only [hrun]
  rw [if_pos ⟨hphase, by simp [hexc], hop⟩, ← excited_untilTb r _ (BitVec.ofNat 64 r.tx)]
  exact if_pos hkind

theorem excitationEdge_exec (hkind : r.kind = 0) (hexc : r.exc = true) (hphase : r.phase = .settle ∨ r.phase = .window)
    (ht : r.nextEdge r.closed e.tbn < r.te) :
    exec (.excitationEdge dt) s = .next ((e.untilTb (BitVec.ofNat 64 (r.nextEdge r.closed e.tbn))).driveSpec r (!r.closed)) := by
  subst he
  rw [exec_excitationEdge, execExcitationEdge]
  simp only [hrun, hkind, hexc, hphase, hop, and_self, if_true, ht]

theorem windowOpen_exec (hphase : r.phase = .settle) (hexc : r.exc = true) :
    exec (.windowOpen dt) s = .next ((e.untilTb (BitVec.ofNat 64 r.ts)).setRun { r with phase := .window }) := by
  subst he
  rw [exec_windowOpen, execWindowOpen]
  simp only [hrun, hphase, hexc, hop, and_self, if_true]

/-- t_e of a pass, and of a window that no other follows at once. -/
theorem windowClose_exec_tail (hphase : r.phase = .window) (hcont : ¬(r.kind = 2 ∧ r.fld 0x1208 30 1 = 1)) :
    exec (.windowClose dt) s =
      .next (let u := e.untilTb (BitVec.ofNat 64 r.te)
        (if r.kind = 0 then u.openAll else u).setRun { r with phase := .tail, exc := false, closed := false }) := by
  subst he
  rw [exec_windowClose, execWindowClose]
  simp only [hrun, hphase, hop, hcont, and_self, if_true, if_false]

/-- t_e of a window under CONT: its publication is due, and the next window opens (R269). -/
theorem windowClose_exec_next (hphase : r.phase = .window) (hkind : r.kind = 2) (hcont : r.fld 0x1208 30 1 = 1) :
    ∃ p, exec (.windowClose dt) s =
      .next (((e.untilTb (BitVec.ofNat 64 r.te)).pubDue r).setRun { r with pubs := r.pubs ++ [p] }.nextWindow) := by
  obtain ⟨p, hp⟩ := pubDue_run (e.untilTb (BitVec.ofNat 64 r.te)) r
  refine ⟨p, ?_⟩
  subst he
  rw [exec_windowClose, execWindowClose]
  simp only [hrun, hphase, hop, hkind, hcont, hp, and_self, if_true]

/-- t_f of a pass that another follows (R254, R255). -/
theorem passEnd_exec_next (hphase : r.phase = .tail) (hkind : r.kind ≠ 2) {k p : Nat} (hnext : e.nextPass r = some (k, p)) :
    ∃ d, exec (.passEnd dt) s =
      .next (((e.untilTb (BitVec.ofNat 64 r.tf)).pubDue r).startPass { r with pubs := r.pubs ++ [d], step := k, pass := p } r.tf) := by
  obtain ⟨d, hd⟩ := pubDue_run (e.untilTb (BitVec.ofNat 64 r.tf)) r
  refine ⟨d, ?_⟩
  subst he
  rw [exec_passEnd, execPassEnd]
  simp only [hrun]
  rw [if_pos ⟨hphase, hop⟩]
  simp only [hkind, hd, nextPass_pubDue, nextPass_untilTb, hnext, if_false]

/-- t_f of the last pass or window. -/
theorem passEnd_exec_last (hphase : r.phase = .tail) (hlast : r.kind = 2 ∨ e.nextPass r = none) :
    ∃ d, exec (.passEnd dt) s =
      .next (((e.untilTb (BitVec.ofNat 64 r.tf)).pubDue r).setRun { r with pubs := r.pubs ++ [d], phase := .ending }) := by
  obtain ⟨d, hd⟩ := pubDue_run (e.untilTb (BitVec.ofNat 64 r.tf)) r
  refine ⟨d, ?_⟩
  have hnone : (if r.kind = 2 then none else e.nextPass r) = none := by
    rcases hlast with h | h
    · exact if_pos h
    · rw [h, ite_self]
  subst he
  rw [exec_passEnd, execPassEnd]
  simp only [hrun]
  rw [if_pos ⟨hphase, hop⟩]
  simp only [hd, nextPass_pubDue, nextPass_untilTb, hnone]

theorem spectrumHeldTimeout_exec (hphase : r.phase = .held) :
    exec (.spectrumHeldTimeout dt) s = .next ((e.until_ (r.since + 2000000000)).endSpec .failed 4 2) := by
  subst he
  rw [exec_spectrumHeldTimeout, execSpectrumHeldTimeout]
  simp only [hrun, hphase, hop, and_self, if_true]
  rfl

theorem f1TrackDone_exec {lay f1 : Nat} (hphase : r.phase = .track) (hf : e.f1Found r lay = some f1)
    (hclk : e.clk ≤ r.since + 4000000000) :
    exec (.f1TrackDone dt lay) s =
      .next (({ e with spc := { e.spc with f1m := f1 } }).startPass { r with f1 := f1 } e.tbn) := by
  subst he
  rw [exec_f1TrackDone, execF1TrackDone]
  simp only [hrun, hf]
  exact if_pos ⟨hphase, hop, hclk⟩

theorem f1TrackTimeout_exec (hphase : r.phase = .track) :
    exec (.f1TrackTimeout dt) s = .next ((e.until_ (r.since + 4000000000)).endSpec .failed 4 3) := by
  subst he
  rw [exec_f1TrackTimeout, execF1TrackTimeout]
  simp only [hrun, hphase, hop, and_self, if_true]
  rfl

/-- A window under CONT leaves the run in the window that follows. -/
theorem windowClose_completes (hphase : r.phase = .window) (hkind : r.kind = 2) (hcont : r.fld 0x1208 30 1 = 1) :
    Completes (.windowClose dt) s (fun t =>
      ∃ q, t.spc.run = some q ∧ q.phase = .window ∧ q.win = r.win + 1 ∧ q.ts = r.te ∧ q.pubs.length = r.pubs.length + 1 ∧
        OnlyIn [.time, .spc] e t) := by
  obtain ⟨p, hexec⟩ := windowClose_exec_next he hrun hop hphase hkind hcont
  have honly : OnlyIn [.time, .spc] e ((e.untilTb (BitVec.ofNat 64 r.te)).pubDue r) :=
    ((onlyIn_untilTb e _).mono (by simp)).trans ((onlyIn_pubDue _ r).mono (by simp))
  exact ⟨_, hexec, _, rfl, hphase, rfl, rfl, List.length_append, honly.trans ((onlyIn_setRun _ _).mono (by simp))⟩

/-- The publication is due; the next pass begins, or the run waits for what it has still to publish. -/
theorem passEnd_completes (hphase : r.phase = .tail) :
    Completes (.passEnd dt) s (fun t =>
      ∃ q, t.spc.run = some q ∧ q.pubs.length = r.pubs.length + 1 ∧
        (∀ k p, r.kind ≠ 2 → e.nextPass r = some (k, p) → q.step = k ∧ q.pass = p) ∧
        (r.kind = 2 ∨ e.nextPass r = none → q.phase = .ending ∧ OnlyIn [.time, .spc] e t)) := by
  have honly : OnlyIn [.time, .spc] e ((e.untilTb (BitVec.ofNat 64 r.tf)).pubDue r) :=
    ((onlyIn_untilTb e _).mono (by simp)).trans ((onlyIn_pubDue _ r).mono (by simp))
  by_cases hlast : r.kind = 2 ∨ e.nextPass r = none
  · obtain ⟨d, hexec⟩ := passEnd_exec_last he hrun hop hphase hlast
    refine ⟨_, hexec, _, rfl, List.length_append, fun k p hkind hnext => ?_, fun _ => ⟨rfl, ?_⟩⟩
    · exact absurd hlast (by simp [hkind, hnext])
    · exact honly.trans ((onlyIn_setRun _ _).mono (by simp))
  · obtain ⟨hkind, hsome⟩ := not_or.mp hlast
    obtain ⟨⟨k, p⟩, hnext⟩ := Option.ne_none_iff_exists'.mp hsome
    obtain ⟨d, hexec⟩ := passEnd_exec_next he hrun hop hphase hkind hnext
    obtain ⟨q, hq, hstep, hpass, hpubs⟩ :=
      beginPass_run ((e.untilTb (BitVec.ofNat 64 r.tf)).pubDue r) { r with pubs := r.pubs ++ [d], step := k, pass := p } r.tf
    refine ⟨_, hexec, q, (startPass_run _ _ _).trans hq, ?_, fun k' p' _ hnext' => ?_, fun h => absurd h hlast⟩
    · rw [hpubs]
      exact List.length_append
    · obtain ⟨rfl, rfl⟩ := Prod.mk.inj (Option.some.inj (hnext.symm.trans hnext'))
      exact ⟨hstep, hpass⟩

end Commands

/-- Settles O44: each command goes to its instant of the timeline and to the branch of its phase. -/
theorem spectrumPasses : Obligations.SpectrumPasses := by
  refine ⟨fun s dt r => ?commands, timeline_order⟩
  intro e hrun hop
  refine ⟨fun sense hphase hcells => currentTrimDone_exec rfl hrun hop hphase hcells sense, trimFails_eq_false,
    passExcite_exec_measured rfl hrun hop, passExcite_exec_driven rfl hrun hop,
    fun hkind hexc hphase => excitationEdge_exec rfl hrun hop hkind hexc hphase, windowOpen_exec rfl hrun hop,
    windowClose_exec_tail rfl hrun hop, windowClose_completes rfl hrun hop, passEnd_completes rfl hrun hop,
    spectrumHeldTimeout_exec rfl hrun hop, fun lay f1 hphase hf hclk => ?_, f1TrackTimeout_exec rfl hrun hop⟩
  obtain ⟨hlo, hhi⟩ := f1Found_range hf
  exact ⟨hlo, hhi, f1TrackDone_exec rfl hrun hop hphase hf hclk⟩

end Sys2Proof.Machine
end

section
/-! ### Publications, and the chain's current (O45) -/

namespace Sys2Proof.Machine

/-! #### The words of a bin (R262, Table 9.3) -/

section Saturation
variable {z : Int}

theorem satZ_within (hlo : -0x7FFFFFFF ≤ z) (hhi : z ≤ 0x7FFFFFFF) : satZ z = (BitVec.ofInt 32 z, false) :=
  (if_neg (Int.not_lt.mpr hhi)).trans (if_neg (Int.not_lt.mpr hlo))

theorem satZ_above (h : 0x7FFFFFFF < z) : satZ z = (0x7FFFFFFF, true) := if_pos h

theorem satZ_below (h : z < -0x7FFFFFFF) : satZ z = (0x80000001, true) := (if_neg (by omega)).trans (if_pos h)

end Saturation

/-- The quotient of two phasors in millionths: the product of one with the conjugate of the other, over the square of its magnitude. -/
theorem scaledQuotient_eq (v i : Cplx) :
    (v.mul i.conj).scale (1000000 / i.sq) =
      ⟨1000000 * (v.re * i.re + v.im * i.im) / (i.re * i.re + i.im * i.im),
        1000000 * (v.im * i.re - v.re * i.im) / (i.re * i.re + i.im * i.im)⟩ := by
  unfold Cplx.mul Cplx.conj Cplx.scale Cplx.sq
  congr 1 <;> ring

section Words
variable (u : State) {imin : Nat} (v : Cplx) {i : Cplx}

theorem binWords_small (h : belowImin imin i = true) : u.binWords imin v (some i) = ((microV v.re, microV v.im, 3), u) := if_pos h

/-- The impedance of a bin whose current is large enough. -/
theorem binWords_impedance (h : belowImin imin i = false) (hsq : i.re * i.re + i.im * i.im ≠ 0) :
    let re := satZ (roundInt (1000000 * (v.re * i.re + v.im * i.im) / (i.re * i.re + i.im * i.im)))
    let im := satZ (roundInt (1000000 * (v.im * i.re - v.re * i.im) / (i.re * i.re + i.im * i.im)))
    u.binWords imin v (some i) = ((re.1, im.1, if re.2 = true ∨ im.2 = true then 5 else 1), u) := by
  have hzero : ¬i.sq = 0 := hsq
  unfold State.binWords
  simp only [h, Bool.false_eq_true, if_false, if_neg hzero, scaledQuotient_eq, Bool.or_eq_true]

end Words

/-! #### The commands (R263, R264, R266) -/

section Commands
variable {s e : State} {dt : Nat} (he : s.elapse dt = e)
include he

section Run
variable {r : SpcRun} {p : PubDue} (hrun : e.spc.run = some r) (hlive : e.specLive = true)
include hrun hlive

theorem publish_exec (hp : r.pubs.find? (fun x => !x.wait) = some p) (cur : List CurSense) :
    exec (.publish dt cur) s =
      .next ((e.untilTb (BitVec.ofNat 64 p.tf)).publish { r with pubs := p :: r.pubs.erase p } p cur) := by
  subst he
  rw [exec_publish, execPublish]
  simp only [hrun, hp, hlive, if_true]

theorem currentTimeout_exec {n : Nat} (hp : r.pubs[n]? = some p) (hwait : p.wait = true) :
    exec (.currentTimeout dt n) s =
      .next ((e.untilTb (BitVec.ofNat 64 (p.tf + 2000000))).publish { r with pubs := p :: r.pubs.eraseIdx n }
        { p with wait := false, cur := [] } []) := by
  subst he
  rw [exec_currentTimeout, execCurrentTimeout]
  simp only [hrun, hp]
  exact if_pos (by rw [hwait, hlive]; rfl)

end Run

/-- The phasors that the device sends of a pass, in bin or harmonic order (R264). -/
def State.sentPhasors (u : State) (d : SendDue) : List (Option Cplx) :=
  let x := u.samples 32 d.ts d.te
  d.freqs.map (fun (e : Option Nat) => if x = [] then none else e.map (fun f => auxPhasor d.cur d.dly d.osrK (d.ts - d.tx) f x))

theorem currentPhasorSend_exec {n : Nat} {d : SendDue} (hd : e.spc.sends[n]? = some d) :
    exec (.currentPhasorSend dt n) s =
      .next (let u := e.untilTb (BitVec.ofNat 64 d.tf)
        let v := State.pruneSmp { u with spc := { u.spc with sends := e.spc.sends.eraseIdx n } }
        let l := u.sentPhasors d
        if d.freqs.length ≤ 20 then v.sendPeer (v.phasorFrame d 0 l)
        else (v.sendPeer (v.phasorFrame d 0 (l.take 20))).sendPeer (v.phasorFrame d 1 (l.drop 20))) := by
  subst he
  rw [exec_currentPhasorSend, execCurrentPhasorSend]
  simp only [hd, List.length_map, State.sentPhasors]
  rw [apply_ite Host.Outcome.next]

/-- A PEER frame that the device takes (R265, R289). -/
theorem peerFrame_exec {p : PortId} {h : Header} {b : Bytes} (hh : e.hears p (Header.frame h 13 b) h.tail) :
    exec (.peerFrame dt p h b) s = .next ((e.heard p (Header.frame h 13 b) h.tail).takePeer (Header.frame h 13 b)) := by
  subst he
  exact (exec_peerFrame ..).trans (arrive_hears hh _)

end Commands

/-! #### Phasors that a publication takes (R265, R266) -/

/-- The publication of a pass of kind 1 with the phasors of its frame. -/
def PubDue.given (p : PubDue) (b : Bytes) : PubDue :=
  { p with cur := p.cur ++ phasorsOf (beField b 8 1) 0 (b.drop 12), parts := 1, wait := false }

theorem takePhasors_matching {u : State} {r : SpcRun} {p : PubDue} {b : Bytes} (hrun : u.spc.run = some r) (hpubs : r.pubs = [p])
    (hwait : p.wait = true) (hchain : r.chainCur = true) (hkind : r.kind = 1) (hid : beField b 0 2 = r.fld 0x1205 0 16)
    (hstep : beField b 2 1 = p.step) (hpass : beField b 3 1 = p.pass) (hlt : p.pass < 2) (hts : beField b 4 4 = p.ts % 2 ^ 32)
    (htime : u.tbn ≤ p.tf + 2000000) (hparts : p.parts = 0) :
    u.takePhasors (r.fld 0x1202 24 6) b = u.setRun { r with pubs := [p.given b] } := by
  have hmod : beField b 3 1 % 2 = p.pass := by omega
  have hpart : beField b 3 1 / 128 = 0 := by omega
  have hmask : maskSet p.parts 0 true = 1 := by rw [hparts]; rfl
  unfold State.takePhasors
  simp only [hrun, hpubs]
  rw [List.find?_cons_of_pos (by simp [hwait, hid, hstep, hmod, hts])]
  refine (if_pos ⟨hchain, trivial, htime⟩).trans ?_
  simp only [hkind, hpart, hmask, PubDue.given, OfNat.one_ne_ofNat, if_false, false_and, List.map_cons, List.map_nil, if_true, ne_eq,
    not_true_eq_false, decide_false]

/-- Settles O45: each publication is one branch of its command, the words of a bin are a quotient of phasors saturated, and a frame gives its
phasors to the publication whose run, step, pass and window it names. -/
theorem publicationsAndCurrent : Obligations.PublicationsAndCurrent := by
  refine ⟨⟨fun s dt r p cur => ?publications, fun u imin v i => ?words, fun z => ?saturation⟩,
    fun s dt n d => ?sends, fun s dt p h b => ?peer, fun u r p b => takePhasors_matching⟩
  case publications =>
    intro e hrun hlive
    exact ⟨fun hp => publish_exec rfl hrun hlive hp cur, fun n q => currentTimeout_exec rfl hrun hlive⟩
  case words =>
    exact ⟨rfl, binWords_small u v, binWords_impedance u v⟩
  case saturation =>
    exact ⟨satZ_within, satZ_above, satZ_below⟩
  case sends =>
    exact fun hd => currentPhasorSend_exec rfl hd
  case peer =>
    exact fun hh => peerFrame_exec rfl hh

end Sys2Proof.Machine
end

section
/-! ### Tokens, time-outs, tones and counters of a port (O48) -/

namespace Sys2Proof.Machine

/-! #### What a port keeps when it is lost, and its hop delays (R292, R314) -/

theorem buf_portLost (s : State) (p : PortId) : ((s.portLost p).port p).buf = (s.port p).buf := by
  unfold State.portLost
  split
  · split
    next hring =>
      rw [hring.2]
      exact congrArg Port.buf (send_other _ .south _)
    next => rfl
  · exact port_setPort_of_keeps Port.buf (by intro q; rfl) s p p

/-- The frames held for a port outlast its return to TRAINING (R292). -/
theorem buf_portTrain (s : State) (p : PortId) : ((s.portTrain p).port p).buf = (s.port p).buf := by
  unfold State.portTrain
  extract_lets was u
  have hu : (u.port p).buf = (s.port p).buf := port_setPort_of_keeps Port.buf (by intro q; rfl) s p p
  split
  · exact (buf_portLost u p).trans hu
  · exact hu

/-- The hop delays of a port are those of `l`. -/
def State.setDelays (s : State) (p : PortId) (l : List Nat) : State :=
  match p with
  | .north => { s with net := { s.net with delayN := l } }
  | .south => { s with net := { s.net with delayS := l } }

section Delays
variable (u : State) (p : PortId) (l : List Nat)

@[simp] theorem delays_setDelays_self : (u.setDelays p l).delays p = l := by cases p <;> rfl

@[simp] theorem delays_setDelays_other : (u.setDelays p l).delays p.other = u.delays p.other := by cases p <;> rfl

@[simp] theorem port_setDelays (x : PortId) : (u.setDelays p l).port x = u.port x := by cases p <;> cases x <;> rfl

theorem onlyIn_setDelays : OnlyIn [.net] u (u.setDelays p l) := by
  cases p
  · exact onlyIn_setNet u _
  · exact onlyIn_setNet u _

end Delays

@[simp] theorem delays_setPort (s : State) (p x : PortId) (f : Port → Port) : (s.setPort p f).delays x = s.delays x := by
  cases p <;> cases x <;> rfl

/-- A token that asks for an answer is on the pair; the hop delay that it measures is the newest of the port's last 16 (R314). -/
def State.measureHop (u : State) (p : PortId) (d : Nat) : State :=
  ((u.putLnk p true).setPort p (fun q => { q with hopAt := u.clk })).setDelays p ((d :: u.delays p).take 16)

theorem onlyIn_measureHop (u : State) (p : PortId) (d : Nat) : OnlyIn [.ecp, .net] u (u.measureHop p d) :=
  ((onlyIn_setPort u p _).mono (by simp)).trans
    (((onlyIn_setPort _ p _).mono (by simp)).trans ((onlyIn_setDelays _ p _).mono (by simp)))

theorem clk_measureHop (u : State) (p : PortId) (d : Nat) : (u.measureHop p d).clk = u.clk :=
  congrArg Time.clk (onlyIn_measureHop u p d .time (by simp))

theorem port_measureHop (u : State) (p : PortId) (d : Nat) :
    ((u.measureHop p d).port p).wire = some (.lnk (u.port p).rdy (u.bestOut p)) ∧ ((u.measureHop p d).port p).hopAt = u.clk := by
  unfold State.measureHop State.putLnk
  rw [port_setDelays, port_setPort_self, port_setPort_self]
  exact ⟨rfl, rfl⟩

theorem delays_measureHop (u : State) (p : PortId) (d : Nat) :
    (u.measureHop p d).delays p = (d :: u.delays p).take 16 ∧ (u.measureHop p d).delays p.other = u.delays p.other := by
  unfold State.measureHop State.putLnk
  simp only [delays_setDelays_self, delays_setDelays_other, delays_setPort, and_self]

/-! #### The timed commands (R288, R295 to R297, R299, R314, R321) -/

/-- The state at the first instant from the clock value `t` on at which an end may send a token of its own on an idle hop (R288). -/
def State.idleAt (s : State) (p : PortId) (t : Nat) : State := s.until_ (s.idleFrom p t)

theorem askLnk_eq (s : State) (p : PortId) (t : Nat) (sq : Bool) :
    s.askLnk p t sq = if sq = true then s.idleAt p t else (s.idleAt p t).putLnk p true := rfl

/-- The clock value from which the master end sends its next token in training (R295). -/
def Port.trainingDue (q : Port) (clk : Nat) : Nat :=
  max q.trainAt (q.lnkAt + (if clk < q.trainAt + 2000000 then 4000 else 2000000))

/-- The clock value from which the master end sends its next token on a hop that is UP (R296). -/
def State.keepaliveDue (s : State) (p : PortId) : Nat :=
  (s.port p).lastAny + min (atLeast1 (s.fld 0x1401 16 8) * 2000) (s.linkTimeout / 4)

/-- The state at the instant at which an UP port is lost by time, the loss counted (R296). -/
def State.timedOut (s : State) (p : PortId) : State :=
  (s.until_ ((s.port p).lastRx + s.linkTimeout)).setPort p (fun q => { q with timeouts := inc 255 q.timeouts })

/-- LINK_DOWN or, where `up` is set, HEALED for port `p` (Table 11.3). -/
def State.noticeFrame (s : State) (p : PortId) (up : Bool) : Frame :=
  ⟨12, 0, s.selfAddr, 1, 0,
    beBytes 1 (if up = true then 0x85 else 0x84) ++ beBytes 1 s.selfAddr ++ beBytes 1 (if p = .south then 1 else 0) ++ [0]⟩

section Commands
variable {s e : State} {dt : Nat} {p : PortId} (he : s.elapse dt = e)
include he

theorem trainingLnk_exec (sq : Bool) (hp : p = .north) (hst : (e.port p).st = .training) (htone : (e.port p).toneEnd = none) :
    exec (.trainingLnk dt ⟨p, sq⟩) s =
      (let u := e.idleAt p ((e.port p).trainingDue e.clk)
       .next (if sq = true then u else (u.putLnk p true).setPort p (fun q => { q with lnkAt := u.clk }))) := by
  subst he hp
  rw [exec_trainingLnk]
  refine (if_pos ⟨hst, rfl, by rw [htone]; rfl⟩).trans ?_
  cases sq <;> rfl

theorem keepalive_exec (sq : Bool) (hp : p = .north) (hst : (e.port p).st = .up) :
    exec (.keepalive dt ⟨p, sq⟩) s =
      (let u := e.idleAt p (e.keepaliveDue p)
       .next (if sq = true then u else u.putLnk p true)) := by
  subst he
  rw [exec_keepalive]
  refine (if_pos ⟨hst, hp⟩).trans ?_
  rw [askLnk_eq, Nat.mul_assoc]
  rfl

theorem linkTimeout_exec (hst : (e.port p).st = .up) :
    exec (.linkTimeout dt p) s = .next (((e.timedOut p).portTrain p).present1 136) := by
  subst he
  rw [exec_linkTimeout]
  exact if_pos hst

theorem hopDelayLnk_exec (sq : Bool) (rtt : Nat) (hst : (e.port p).st = .up) :
    exec (.hopDelayLnk dt ⟨p, sq⟩ rtt) s =
      (let u := e.idleAt p ((e.port p).hopAt + 200000)
       .next (if sq = true then u else u.measureHop p (hopDelay rtt))) := by
  subst he
  rw [exec_hopDelayLnk]
  refine (if_pos hst).trans ?_
  cases sq <;> cases p <;> rfl

theorem hopDelayLnk_completes (rtt : Nat) (hst : (e.port p).st = .up) :
    Completes (.hopDelayLnk dt ⟨p, false⟩ rtt) s (fun t =>
      t.clk = (e.idleAt p ((e.port p).hopAt + 200000)).clk ∧ t.delays p = (hopDelay rtt :: e.delays p).take 16 ∧
        t.delays p.other = e.delays p.other ∧ (t.port p).wire = some (.lnk (e.port p).rdy (e.bestOut p)) ∧ (t.port p).hopAt = t.clk ∧
        OnlyIn [.time, .ecp, .net] e t) := by
  let u := e.idleAt p ((e.port p).hopAt + 200000)
  have hclk := clk_measureHop u p (hopDelay rtt)
  obtain ⟨hself, hother⟩ := delays_measureHop u p (hopDelay rtt)
  obtain ⟨hwire, hhop⟩ := port_measureHop u p (hopDelay rtt)
  have hframe : OnlyIn [.time, .ecp, .net] e (u.measureHop p (hopDelay rtt)) :=
    ((onlyIn_until e _).mono (by simp)).trans ((onlyIn_measureHop u p _).mono (by simp))
  exact ⟨_, hopDelayLnk_exec he false rtt hst, hclk, hself, hother, hwire, hhop.trans hclk.symm, hframe⟩

theorem linkDownSend_exec {up : Bool} (hn : (e.port p).notice = some up) (hb : e.bridge = false) :
    exec (.linkDownSend dt p) s =
      (let u := e.setPort p (fun q => { q with notice := none })
       .next (u.send u.bridgeWard (u.noticeFrame p up))) := by
  subst he
  have hnode : ((s.elapse dt).setPort p (fun q => { q with notice := none })).bridge = false := by cases p <;> exact hb
  rw [exec_linkDownSend]
  unfold execLinkDownSend
  simp only [hn, hnode, Bool.false_eq_true, if_false]
  cases p <;> rfl

theorem wakeToneEnd_exec {t : Nat} (ht : (e.port p).toneEnd = some t) :
    exec (.wakeToneEnd dt p) s =
      (let u := (e.until_ t).setPort p (fun q => { q with toneEnd := none, wire := none })
       .next (if u.portOn p = true then u.portTrain p else u)) := by
  subst he
  rw [exec_wakeToneEnd]
  unfold execWakeToneEnd
  simp only [ht]

theorem wakeToneRelay_exec {t : Nat} (ht : e.ecp.relayAt = some t) :
    exec (.wakeToneRelay dt) s =
      (let u := e.until_ t
       let v := { u with ecp := { u.ecp with relayAt := none } }
       let w := if v.ecp.north.st = .up then v else v.toneSend .north
       .next (if w.ecp.south.st = .up then w else w.toneSend .south)) := by
  subst he
  rw [exec_wakeToneRelay]
  unfold execWakeToneRelay
  simp only [ht]
  rfl

/-- A write of ECP_CTRL: its enables are stored, its actions are done, and the ports are turned on or off (R295, R297, R300). -/
theorem ecpCtrl_put {rq : Requester} {v : Word} (h : e.accepts rq 0x1400 v) :
    s.put dt rq 0x1400 v = .next ((((e.wrote rq 0x1400 v).ecpWrite v).settle e.ncells e.ringOn).answers .ok []) := by
  subst he
  rw [put_settle h (by decide) (by decide) (by decide), effect_wrote h, if_neg (by decide), if_neg (by decide)]
  rfl

theorem wakeToneSend_exec {rq : Requester} {n so : Bool} (h : e.accepts rq 0x1400 (e.keep 0x1400 ||| putb n 8 ||| putb so 9)) :
    exec (.wakeToneSend dt rq n so) s =
      (let v := e.keep 0x1400 ||| putb n 8 ||| putb so 9
       .next ((((e.wrote rq 0x1400 v).ecpWrite v).settle e.ncells e.ringOn).answers .ok [])) := by
  have hkeep : s.keep 0x1400 = e.keep 0x1400 := by subst he; rfl
  rw [exec_wakeToneSend, execWakeToneSend, hkeep, ecpCtrl_put he h]

theorem counterClear_exec {rq : Requester} (h : e.accepts rq 0x1400 (e.keep 0x1400 ||| putb true 16)) :
    exec (.counterClear dt rq) s =
      (let v := e.keep 0x1400 ||| putb true 16
       .next ((((e.wrote rq 0x1400 v).ecpWrite v).settle e.ncells e.ringOn).answers .ok [])) := by
  have hkeep : s.keep 0x1400 = e.keep 0x1400 := by subst he; rfl
  rw [exec_counterClear, execCounterClear, hkeep, ecpCtrl_put he h]

end Commands

/-! #### Wake tones and the clearing of the counters (R297, R300) -/

section Tones
variable {u : State} {p : PortId}

theorem toneSend_up (h : (u.port p).st = .up) :
    u.toneSend p = ({ u with ecp := { u.ecp with wakeIgn := true } }).wcSet 0x1408 (putb true 8) := if_pos h

theorem toneSend_notUp (h : (u.port p).st ≠ .up) :
    ((u.toneSend p).port p).toneEnd = some (u.clk + clampTo 1 15 (u.fld 0x1401 8 4) * 200000) ∧
      ((u.toneSend p).port p).wire = some .tone ∧ OnlyIn [.ecp] u (u.toneSend p) := by
  unfold State.toneSend
  rw [if_neg h, port_setPort_self]
  exact ⟨rfl, rfl, onlyIn_setPort u p _⟩

/-- A request for a wake tone keeps what its tone does not change of a port. -/
theorem port_toneSend_of_keeps {α : Type} (g : Port → α)
    (h : ∀ (q : Port) (t : Option Nat) (w : Option OnWire) (b n : Nat),
      g { q with toneEnd := t, wire := w, trim := b, sentT := n } = g q)
    (u : State) (p x : PortId) : g ((u.toneSend p).port x) = g (u.port x) := by
  unfold State.toneSend
  split
  · cases x <;> rfl
  · exact port_setPort_of_keeps g (fun q => h q _ _ _ _) u p x

end Tones

/-- The wake tones that a write of ECP_CTRL asks for (R297). -/
def State.tonesOf (u : State) (v : Word) : State :=
  let w := if v.getLsbD 8 then u.toneSend .north else u
  if v.getLsbD 9 then w.toneSend .south else w

theorem ecpWrite_eq (u : State) (v : Word) :
    u.ecpWrite v =
      if v.getLsbD 16 then ((u.tonesOf v).setPort .north Port.clearCounts).setPort .south Port.clearCounts else u.tonesOf v := rfl

theorem port_tonesOf (u : State) (v : Word) (p : PortId) :
    ((u.tonesOf v).port p).buf = (u.port p).buf ∧ ((u.tonesOf v).port p).st = (u.port p).st := by
  have hbuf : ∀ w x, ((State.toneSend w x).port p).buf = (w.port p).buf :=
    fun w x => port_toneSend_of_keeps Port.buf (fun _ _ _ _ _ => rfl) w x p
  have hst : ∀ w x, ((State.toneSend w x).port p).st = (w.port p).st :=
    fun w x => port_toneSend_of_keeps Port.st (fun _ _ _ _ _ => rfl) w x p
  unfold State.tonesOf
  split <;> split <;> simp only [hbuf, hst, and_self]

/-- CLR_CNT clears the counters of both ports (R300). -/
theorem port_ecpWrite_clear {u : State} {v : Word} (h : v.getLsbD 16 = true) (p : PortId) :
    (u.ecpWrite v).port p = ((u.tonesOf v).port p).clearCounts := by
  rw [ecpWrite_eq, if_pos h]
  cases p <;> rfl

theorem ecpWrite_tones {u : State} {v : Word} (h : v.getLsbD 16 = false) : u.ecpWrite v = u.tonesOf v := by
  rw [ecpWrite_eq, h, if_neg Bool.false_ne_true]

/-- Settles O48: each timed command of a port is one branch of its definition at the instant that the port's times give, and the laws of
the port's operations say what it leaves. -/
theorem portTimers : Obligations.PortTimers := by
  unfold Obligations.PortTimers
  refine ⟨fun s dt p => ⟨?training, ?keepalive, ?lost, ?hop, ?notice, ?toneEnd, ?relay⟩, fun s dt rq n so => ⟨?tone, ?clear⟩,
    fun u p v => ⟨toneSend_up, toneSend_notUp, ?counters, ?none, ?north, ?south⟩⟩
  case training =>
    exact fun sq hp hst htone => trainingLnk_exec rfl sq hp hst htone
  case keepalive =>
    exact fun sq hp hst => keepalive_exec rfl sq hp hst
  case lost =>
    intro hst w
    refine ⟨linkTimeout_exec rfl hst, (portTrain_port w p p).1.trans (if_pos rfl), (buf_portTrain w p).trans ?_⟩
    exact port_setPort_of_keeps Port.buf (by intro q; rfl) _ p p
  case hop =>
    exact fun rtt hst => ⟨hopDelayLnk_exec rfl true rtt hst, hopDelayLnk_completes rfl rtt hst⟩
  case notice =>
    exact fun up hn hb => linkDownSend_exec rfl hn hb
  case toneEnd =>
    exact fun t ht => wakeToneEnd_exec rfl ht
  case relay =>
    exact fun t ht => wakeToneRelay_exec rfl ht
  case tone =>
    exact fun h => wakeToneSend_exec rfl h
  case clear =>
    exact fun h => counterClear_exec rfl h
  case counters =>
    intro h
    rw [port_ecpWrite_clear h]
    obtain ⟨hbuf, hst⟩ := port_tonesOf u v p
    exact ⟨rfl, rfl, rfl, rfl, rfl, rfl, rfl, hbuf, hst⟩
  case none | north | south =>
    intro h8 h9 h16
    rw [ecpWrite_tones h16, State.tonesOf, h8, h9]
    rfl

end Sys2Proof.Machine
end

section
/-! ### Writes of the registers from 0x1400, and frames of single parts -/

namespace Sys2Proof.Machine

/-- A write of a register from 0x1400 on that brings nothing else about at once. -/
theorem put_high {s e : State} {dt : Nat} (he : s.elapse dt = e) {rq : Requester} {a : Nat} {v : Word} (h : e.accepts rq a v)
    (hlo : 0x1400 ≤ a) (h1 : regExists a = true) (h2 : isSelector a = false) (h3 : settles a = false) :
    s.put dt rq a v = .next (((e.wrote rq a v).effectHigh rq a v).answers .ok []) := by
  subst he
  rw [put_effect h h1 h2 h3 (inputWrite_of_ge (by omega)), effect_wrote h, if_neg (by omega), if_neg (by omega)]

theorem putAt_eq (s : State) (dt : Nat) (rq : Requester) (a : Nat) {n i : Nat} (hi : i < n) (v : Word) :
    s.putAt dt rq a n i v = s.put dt rq (a + i) v := if_pos hi

/-- The noting of a write leaves alone all that its own record does not hold (R26, R27, R56). -/
theorem onlyIn_wrote_of_noBits {a : Nat} (hrw : (regRow a).rw + (regRow a).rwl = 0) (hrwo : (regRow a).rwo = 0)
    (hbus : ∀ u : State, u.busNow a = u := by intro u; rfl) (e : State) (rq : Requester) (v : Word) :
    OnlyIn [.cyc, .pwr] e (e.wrote rq a v) := by
  have hacts : ∀ u : State, OnlyIn [.pwr] u (u.ownerActs rq a) := fun u => by
    unfold State.ownerActs
    exact OnlyIn.ite (onlyIn_setPwr u _) .refl
  unfold State.wrote State.upTo
  rw [stored_of_noBits hrw hrwo, hbus]
  exact ((onlyIn_disarm e rq).mono (by simp)).trans (((onlyIn_noteWrite _ rq a).mono (by simp)).trans ((hacts _).mono (by simp)))

theorem onlyIn_setNvm (s : State) (x : Nvm) : OnlyIn [.nvm] s { s with nvm := x } := by
  intro p hp
  cases p <;> simp_all [Part.same]

theorem onlyIn_setBst (s : State) (x : Bst) : OnlyIn [.bst] s { s with bst := x } := by
  intro p hp
  cases p <;> simp_all [Part.same]

theorem onlyIn_setRil (s : State) (x : Ril) : OnlyIn [.ril] s { s with ril := x } := by
  intro p hp
  cases p <;> simp_all [Part.same]

theorem onlyIn_setTime (s : State) (x : Time) : OnlyIn [.time] s { s with time := x } := by
  intro p hp
  cases p <;> simp_all [Part.same]

end Sys2Proof.Machine
end

section
/-! ### Addresses, enumeration and the ring (O49) -/

namespace Sys2Proof.Machine

/-! #### Frames that a node or the bridge takes (Tables 11.2 and 11.3) -/

section Arrivals
variable {s e : State} {dt : Nat} (he : s.elapse dt = e) {p : PortId} {h : Header}
include he

section Outbound
variable {hops op : Nat}

theorem netClear_exec (hh : e.hears p (Header.frame h 11 (netPayload 1 hops)) h.tail) :
    exec (.netClear dt p h hops) s = .next (e.heard p (Header.frame h 11 (netPayload 1 hops)) h.tail).takeClear := by
  subst he
  exact (exec_netClear ..).trans (arrive_hears hh _)

theorem netAssign_exec (hh : e.hears p (Header.frame h 11 (netPayload 2 hops)) h.tail) :
    exec (.netAssign dt p h hops) s =
      .next ((e.heard p (Header.frame h 11 (netPayload 2 hops)) h.tail).takeAssign h.tag (hops % 256)) := by
  subst he
  exact (exec_netAssign ..).trans (arrive_hears hh _)

theorem netDiscover_exec (hh : e.hears p (Header.frame h 11 (netPayload 3 hops)) h.tail) :
    exec (.netDiscover dt p h hops) s =
      .next ((e.heard p (Header.frame h 11 (netPayload 3 hops)) h.tail).takeDiscover h.tag (hops % 256)) := by
  subst he
  exact (exec_netDiscover ..).trans (arrive_hears hh _)

theorem netReverse_exec (hh : e.hears p (Header.frame h 11 (netPayload 4 hops)) h.tail) :
    exec (.netReverse dt p h hops) s = .next ((e.heard p (Header.frame h 11 (netPayload 4 hops)) h.tail).takeReverse h.tag) := by
  subst he
  exact (exec_netReverse ..).trans (arrive_hears hh _)

theorem netNormal_exec (hh : e.hears p (Header.frame h 11 (netPayload 5 hops)) h.tail) :
    exec (.netNormal dt p h hops) s = .next ((e.heard p (Header.frame h 11 (netPayload 5 hops)) h.tail).roles false) := by
  subst he
  exact (exec_netNormal ..).trans (arrive_hears hh _)

end Outbound

section Inbound
variable {b : Bytes} (hh : e.hears p (Header.frame h 12 b) h.tail)
include hh

theorem netAssigned_exec :
    exec (.netAssigned dt p h b) s = .next ((e.heard p (Header.frame h 12 b) h.tail).takeAssigned (Header.frame h 12 b)) := by
  subst he
  exact (exec_netAssigned ..).trans (arrive_hears hh _)

theorem netPresent_exec :
    exec (.netPresent dt p h b) s = .next ((e.heard p (Header.frame h 12 b) h.tail).takePresent (Header.frame h 12 b)) := by
  subst he
  exact (exec_netPresent ..).trans (arrive_hears hh _)

theorem netReversed_exec :
    exec (.netReversed dt p h b) s = .next ((e.heard p (Header.frame h 12 b) h.tail).takeReversed (Header.frame h 12 b)) := by
  subst he
  exact (exec_netReversed ..).trans (arrive_hears hh _)

theorem netLinkDown_exec :
    exec (.netLinkDown dt p h b) s = .next ((e.heard p (Header.frame h 12 b) h.tail).takeLinkDown (Header.frame h 12 b)) := by
  subst he
  exact (exec_netLinkDown ..).trans (arrive_hears hh _)

theorem netHealed_exec :
    exec (.netHealed dt p h b) s = .next ((e.heard p (Header.frame h 12 b) h.tail).takeHealed (Header.frame h 12 b)) := by
  subst he
  exact (exec_netHealed ..).trans (arrive_hears hh _)

end Inbound
end Arrivals

section Ring
variable (v : State) (f : Frame)

theorem bridge_of_onlyIn {ps : List Part} {s t : State} (h : OnlyIn ps s t) (h1 : Part.regs ∉ ps) (h2 : Part.ovl ∉ ps) :
    t.bridge = s.bridge := bit_of_onlyIn h h1 h2 _ _

theorem ringOn_of_onlyIn {ps : List Part} {s t : State} (h : OnlyIn ps s t) (h1 : Part.regs ∉ ps) (h2 : Part.ovl ∉ ps) :
    t.ringOn = s.ringOn := by
  unfold State.ringOn
  rw [bridge_of_onlyIn h h1 h2, bit_of_onlyIn h h1 h2]

@[simp] theorem ringOn_rxPut (x : RxEnt) : (v.rxPut x).ringOn = v.ringOn := ringOn_of_onlyIn (onlyIn_rxPut v x) (by simp) (by simp)

@[simp] theorem bit_rxPut (x : RxEnt) (a i : Nat) : (v.rxPut x).bit a i = v.bit a i :=
  bit_of_onlyIn (onlyIn_rxPut v x) (by simp) (by simp) a i

@[simp] theorem enumCount_rxPut (x : RxEnt) : (v.rxPut x).net.enumCount = v.net.enumCount := by
  unfold State.rxPut
  split <;> rfl

/-- LINK_DOWN is reported to the host; with a ring, recovery starts (R321, R323). -/
theorem takeLinkDown_eq :
    v.takeLinkDown f =
      if v.ringOn = true then
        (v.rxPut ⟨0, 5, 0, some f⟩).recover (some ((List.range (v.net.enumCount - f.addr)).map (fun i => f.addr + 1 + i)))
      else v.rxPut ⟨0, 5, 0, some f⟩ := by
  unfold State.takeLinkDown
  simp only [ringOn_rxPut, enumCount_rxPut]

/-- HEALED is reported to the host; with a ring under AUTO_HEAL, NORMAL leaves (R322). -/
theorem takeHealed_eq :
    v.takeHealed f =
      if v.ringOn = true ∧ v.bit 0x1600 29 = true then (v.rxPut ⟨0, 5, 0, some f⟩).sendNormal else v.rxPut ⟨0, 5, 0, some f⟩ := by
  unfold State.takeHealed
  simp only [ringOn_rxPut, bit_rxPut, Bool.and_eq_true]

end Ring

/-! #### The timed commands of the bridge (R306, R321, R323) -/

section Timed
variable {s e : State} {dt : Nat} (he : s.elapse dt = e)
include he

theorem enumAssignTimeout_exec {r : EnumRun} (hr : e.net.enumRun = some r) (hst : r.step = .assign) (hw : r.tag ≠ noTag ∨ r.lone = true) :
    exec (.enumAssignTimeout dt) s = .next ((e.until_ (r.since + 200000)).enumDiscover r) := by
  subst he
  rw [exec_enumAssignTimeout, execEnumAssignTimeout]
  simp only [hr]
  exact if_pos ⟨hst, hw⟩

theorem ringLossExpiry_exec (hon : e.ringOn = true) (hlost : e.net.ringLost = false) (hring : e.net.ring ≠ .split)
    (hc : e.net.collect = none) {u : State} (hu : e.until_ (e.net.ringLast + max 8 (e.fld 0x1600 0 4) * 200000) = u) :
    exec (.ringLossExpiry dt) s = .next ((({ u with net := { u.net with ringLost := true } }).setRing .open_).recover none) := by
  subst he hu
  rw [exec_ringLossExpiry, execRingLossExpiry]
  exact if_pos (by simp [hon, hlost, hring, hc])

theorem reverseCollectClose_exec {c : Collect} (hc : e.net.collect = some c) :
    exec (.reverseCollectClose dt) s = .next (e.until_ (c.last + 200000)).closeCollect := by
  subst he
  rw [exec_reverseCollectClose, execReverseCollectClose]
  simp only [hc]
  rfl

/-! #### NET_CTRL (R306, R322) -/

theorem netCtrl_put {rq : Requester} {v : Word} (h : e.accepts rq 0x1601 v) :
    s.put dt rq 0x1601 v = .next (((e.wrote rq 0x1601 v).netWrite v).answers .ok []) :=
  put_high he h (by decide) (by decide) (by decide) (by decide)

theorem enumStart_exec {rq : Requester} {clear : Bool} (h : e.accepts rq 0x1601 (putb true 31 ||| putb clear 30)) :
    exec (.enumStart dt rq clear) s =
      .next (((e.wrote rq 0x1601 (putb true 31 ||| putb clear 30)).enumBegin clear).answers .ok []) := by
  rw [exec_enumStart, execEnumStart, netCtrl_put he h]
  cases clear <;> rfl

theorem heal_exec {rq : Requester} (h : e.accepts rq 0x1601 (putb true 29)) :
    exec (.heal dt rq) s =
      .next ((if e.bridge = true then (e.wrote rq 0x1601 (putb true 29)).sendNormal else e.wrote rq 0x1601 (putb true 29)).answers .ok []) := by
  have hb : (e.wrote rq 0x1601 (putb true 29)).bridge = e.bridge :=
    bridge_of_onlyIn (onlyIn_wrote_of_noBits (by decide) (by decide) (fun _ => rfl) e rq _) (by simp) (by simp)
  rw [exec_heal, execHeal, netCtrl_put he h, ← hb]
  rfl

end Timed

/-! #### What the operations do -/

section Operations
variable {u : State}

theorem takeAssign_taken {tag hops : Nat} (ha : u.aon.chainAddr = none) (hh : hops ≤ 61) :
    u.takeAssign tag hops =
      (({ u with aon := { u.aon with chainAddr := some (hops + 1) } }).netAnswer tag 0x81
        (beBytes 1 hops ++ [0] ++ beBytes 12 u.nvm.uid.toNat)).bindCheck :=
  if_pos ⟨by rw [ha]; rfl, hh⟩

theorem takeAssign_ignored {tag hops : Nat} (h : u.aon.chainAddr ≠ none ∨ 61 < hops) : u.takeAssign tag hops = u := by
  refine if_neg ?_
  rintro ⟨hnone, hle⟩
  exact h.elim (fun hne => hne (Option.isNone_iff_eq_none.mp hnone)) (fun hlt => absurd hle (by omega))

theorem roles_port (u : State) (north : Bool) (p : PortId) :
    ((u.roles north).port p).bridgeward = (if p = .north then north else !north) ∧ OnlyIn [.ecp] u (u.roles north) := by
  refine ⟨by cases p <;> rfl, (onlyIn_setPort u .north _).trans (onlyIn_setPort _ .south _)⟩

/-- The run of an enumeration that begins at `u` (R306). -/
def State.enumRunAt (u : State) (clear : Bool) : EnumRun := ⟨if clear = true then .clear else .assign, 0, u.clk, noTag, false, 0, false⟩

theorem enumBegin_ignored {clear : Bool} (h : u.bridge = false ∨ u.net.enumRun.isSome = true) : u.enumBegin clear = u := by
  refine if_pos ?_
  rcases h with h | h <;> simp [h]

theorem enumBegin_noPort {clear : Bool} (hb : u.bridge = true) (hr : u.net.enumRun = none) (hp : u.ecp.north.st ≠ .up) :
    u.enumBegin clear = { u with net := { u.net with enumRes := 2 } } := by
  unfold State.enumBegin
  rw [if_neg (by simp [hb, hr]), if_pos hp]

/-- The first frame of an enumeration waits at the north port, which can take it (R306). -/
theorem enumBegin_begins {clear : Bool} (hb : u.bridge = true) (hr : u.net.enumRun = none) (hp : u.ecp.north.st = .up)
    (hbuf : bufferFree u.ecp.north.buf 1 = true) :
    u.enumBegin clear = (u.setEnum (some (u.enumRunAt clear))).sendNet .north (if clear = true then 1 else 2) := by
  have hup : (u.port .north).st = .up := hp
  have hfree : bufferFree (u.port .north).buf 1 = true := hbuf
  have hsend : ∀ op, u.enumSend (u.enumRunAt clear) op = (u.setEnum (some (u.enumRunAt clear))).sendNet .north op := by
    intro op
    unfold State.enumSend
    simp [hup, hfree, State.enumRunAt]
  have hrun : ∀ op, ((u.setEnum (some (u.enumRunAt clear))).sendNet .north op).net.enumRun = some (u.enumRunAt clear) :=
    fun op => congrArg Net.enumRun ((send_port _ .north _ .north).2 .net (by simp))
  unfold State.enumBegin
  rw [if_neg (by simp [hb, hr]), if_neg (not_not_intro hp)]
  extract_lets run first
  have hfirst : first = _ := hsend _
  simp only [hfirst, hrun]
  exact if_neg (fun h => Bool.false_ne_true h.2)

theorem enumBegin_spec {clear : Bool} (hb : u.bridge = true) (hr : u.net.enumRun = none) (hp : u.ecp.north.st = .up)
    (hbuf : bufferFree u.ecp.north.buf 1 = true) :
    let t := u.enumBegin clear
    t.net = { u.net with enumRun := some (u.enumRunAt clear) } ∧
      t.ecp.north.buf = u.ecp.north.buf ++ [⟨11, 0, 63, 1, noTag, [if clear = true then 1 else 2, 0, 0, 0]⟩] ∧
      OnlyIn [.ecp, .net] u t := by
  intro t
  have ht : t = _ := enumBegin_begins hb hr hp hbuf
  have hframe := (send_port (u.setEnum (some (u.enumRunAt clear))) .north
    ⟨0xB, 0, 63, 1, noTag, beBytes 1 (if clear = true then 1 else 2) ++ beBytes 3 0⟩ .north).2
  rw [ht]
  refine ⟨hframe .net (by simp), ?_, ((onlyIn_setNet u _).mono (by simp)).trans (hframe.mono (by simp))⟩
  refine (send_held (u := u.setEnum (some (u.enumRunAt clear))) (p := .north) (f := ⟨11, 0, 63, 1, noTag, _⟩) hp hbuf).trans ?_
  cases clear <;> rfl

theorem setRing_ring (u : State) (r : RingSt) : (u.setRing r).net.ring = r := by
  unfold State.setRing
  split
  next h => exact h
  next => rfl

/-- A change of the ring state leaves alone what it does not show (R307, R321). -/
theorem setRing_keeps {α : Type} (g : Net → α) (h : ∀ n r, g { n with ring := r, attn := true } = g n) (u : State) (r : RingSt) :
    g (u.setRing r).net = g u.net := by
  unfold State.setRing
  split
  next => rfl
  next => exact h _ _

theorem onlyIn_setRing (u : State) (r : RingSt) : OnlyIn [.net] u (u.setRing r) := OnlyIn.ite .refl (onlyIn_setNet u _)

section Collection
variable {c : Collect} (hc : u.net.collect = some c)
include hc

/-- Without an answer the ring is open (R323). -/
theorem closeCollect_nil (hg : c.got = []) :
    u.closeCollect = ({ u with net := { u.net with collect := none, split := 0 } }).setRing .open_ := by
  unfold State.closeCollect
  simp only [hc, hg]

/-- With answers the ring is split at the least address that answered (R322, R323). -/
theorem closeCollect_cons {a : Nat} {t : List Nat} (hg : c.got = a :: t) :
    u.closeCollect = ({ u with net := { u.net with collect := none, split := t.foldl min a } }).setRing .split := by
  unfold State.closeCollect
  simp only [hc, hg]

theorem closeCollect_frame : u.closeCollect.net.collect = none ∧ OnlyIn [.net] u u.closeCollect := by
  cases hg : c.got with
  | nil =>
    rw [closeCollect_nil hc hg]
    exact ⟨setRing_keeps Net.collect (fun _ _ => rfl) _ _, (onlyIn_setNet u _).trans (onlyIn_setRing _ _)⟩
  | cons a t =>
    rw [closeCollect_cons hc hg]
    exact ⟨setRing_keeps Net.collect (fun _ _ => rfl) _ _, (onlyIn_setNet u _).trans (onlyIn_setRing _ _)⟩

theorem closeCollect_open (hg : c.got = []) : u.closeCollect.net.ring = .open_ ∧ u.closeCollect.net.split = 0 := by
  rw [closeCollect_nil hc hg]
  exact ⟨setRing_ring _ _, setRing_keeps Net.split (fun _ _ => rfl) _ _⟩

theorem closeCollect_split (hg : c.got ≠ []) :
    u.closeCollect.net.ring = .split ∧ u.closeCollect.net.split ∈ c.got ∧ ∀ a ∈ c.got, u.closeCollect.net.split ≤ a := by
  obtain ⟨a, t, hgot⟩ := List.exists_cons_of_ne_nil hg
  have hmin : (a :: t).min? = some (t.foldl min a) := List.min?_cons'
  rw [List.min?_eq_some_iff] at hmin
  rw [closeCollect_cons hc hgot, hgot, setRing_keeps Net.split (fun _ _ => rfl)]
  exact ⟨setRing_ring _ _, hmin⟩

end Collection

end Operations

/-- Settles O49: a frame that is taken does what its type calls for, each timed command is one branch of its definition, and the operations
have the effects that their laws give. -/
theorem networkManagement : Obligations.NetworkManagement := by
  unfold Obligations.NetworkManagement
  refine ⟨fun s dt p h hops b => ⟨netClear_exec rfl, netAssign_exec rfl, netDiscover_exec rfl, netReverse_exec rfl, netNormal_exec rfl, ?inbound⟩,
    fun s dt => ⟨fun r => enumAssignTimeout_exec rfl, fun h1 h2 h3 h4 => ringLossExpiry_exec rfl h1 h2 h3 h4 rfl,
      fun c => reverseCollectClose_exec rfl⟩,
    fun s dt rq clear => ⟨enumStart_exec rfl, heal_exec rfl⟩,
    fun u tag hops => ⟨takeAssign_taken, takeAssign_ignored, roles_port u, fun clear => ⟨enumBegin_ignored, enumBegin_noPort, enumBegin_spec⟩⟩,
    fun u c hc => ⟨(closeCollect_frame hc).1, (closeCollect_frame hc).2, closeCollect_open hc, closeCollect_split hc⟩,
    fun u f hc => ?late⟩
  case inbound =>
    intro hh
    refine ⟨netAssigned_exec rfl hh, netPresent_exec rfl hh, netReversed_exec rfl hh, ?_, ?_⟩
    · rw [netLinkDown_exec rfl hh, takeLinkDown_eq]
      rfl
    · rw [netHealed_exec rfl hh, takeHealed_eq]
  case late =>
    unfold State.takeReversed
    rw [hc]
    rfl

end Sys2Proof.Machine
end

section
/-! ### The host port, tags and the receive queue (O50) -/

namespace Sys2Proof.Machine

/-! #### Transactions (R302, R307 to R309) -/

section Transaction
variable {e : State} (hs : e.serves .chain = true) (run : State → Out)
include hs

theorem hostDo_none : e.hostDo .none run = run e.hostBegin := if_pos hs

theorem hostDo_crc : e.hostDo .crc run = .next e.hostBegin.hostCrc := if_pos hs

theorem hostDo_format : e.hostDo .format run = .next e.hostBegin.hostFormat := if_pos hs

end Transaction

section Served
variable {s e b : State} {dt : Nat} (he : s.elapse dt = e) (hb : e.hostBegin = b) (hs : e.serves .chain = true)
include he hb hs

theorem hostNop_exec : exec (.hostNop dt) s = .next b := by
  subst he hb
  exact (exec_hostNop ..).trans (hostDo_none hs _)

theorem hostPort_crc (handle typ addr : Nat) (payload : Bytes) (full : Bool) (a n : Nat) (ws : List Word) :
    exec (.txqPut dt handle typ addr payload.length payload .crc) s = .next b.hostCrc ∧
      exec (.rxqGet dt full .crc) s = .next b.hostCrc ∧ exec (.regRd dt a n .crc) s = .next b.hostCrc ∧
      exec (.regWr dt a ws .crc) s = .next b.hostCrc := by
  subst he hb
  rw [exec_txqPut, exec_rxqGet, exec_regRd, exec_regWr]
  exact ⟨hostDo_crc hs _, hostDo_crc hs _, hostDo_crc hs _, hostDo_crc hs _⟩

theorem hostPort_format (handle typ addr : Nat) (payload : Bytes) (full : Bool) (a n : Nat) (ws : List Word) :
    exec (.txqPut dt handle typ addr payload.length payload .format) s = .next b.hostFormat ∧
      exec (.rxqGet dt full .format) s = .next b.hostFormat ∧ exec (.regRd dt a n .format) s = .next b.hostFormat ∧
      exec (.regWr dt a ws .format) s = .next b.hostFormat := by
  subst he hb
  rw [exec_txqPut, exec_rxqGet, exec_regRd, exec_regWr]
  exact ⟨hostDo_format hs _, hostDo_format hs _, hostDo_format hs _, hostDo_format hs _⟩

theorem txqPut_exec_bad {handle typ addr len : Nat} {payload : Bytes}
    (h : b.bridge = false ∨ handle = 0 ∨ len ≠ payload.length ∨ 256 < len ∨ hostTyp typ payload = false) :
    exec (.txqPut dt handle typ addr len payload .none) s = .next b.hostFormat := by
  subst he hb
  rw [exec_txqPut, execTxqPut, hostDo_none hs]
  refine if_pos ?_
  simp only [Bool.or_eq_true, Bool.not_eq_true', decide_eq_true_eq, or_assoc]
  exact h

/-- The frame of a TXQ_PUT (R308). -/
def hostPutFrame (typ addr : Nat) (payload : Bytes) : Frame :=
  ⟨typ, 0, addr, (frameClass typ).getD 0, 0, if typ = 11 then netPayload 3 0 else payload⟩

section Put
variable {handle typ addr : Nat} {payload : Bytes} (hbr : b.bridge = true) (hh : handle ≠ 0) (hlen : payload.length ≤ 256)
  (htyp : hostTyp typ payload = true)
include hbr hh hlen htyp

theorem txqPut_exec :
    exec (.txqPut dt handle typ addr payload.length payload .none) s = b.hostFrame handle (hostPutFrame typ addr payload) := by
  subst he hb
  rw [exec_txqPut, execTxqPut, hostDo_none hs]
  exact if_neg (by simp [hbr, hh, htyp, hlen])

theorem txqPut_exec_full (hq : 16 ≤ b.net.txq.length) :
    exec (.txqPut dt handle typ addr payload.length payload .none) s = .next { b with net := { b.net with hTxFull := true } } :=
  (txqPut_exec he hb hs hbr hh hlen htyp).trans (if_pos hq)

theorem txqPut_exec_queued (hq : b.net.txq.length < 16) (ha : addr ≠ 0 ∨ typ = 13) {v : State}
    (hv : (b.hostPorts (hostPutFrame typ addr payload)).foldl
      (fun v p => v.setPort p (fun q => q.waits b.clk b.thm.parked (hostPutFrame typ addr payload).cls)) b = v) :
    exec (.txqPut dt handle typ addr payload.length payload .none) s =
      .next { v with net := { v.net with txq := v.net.txq ++ [⟨handle, hostPutFrame typ addr payload⟩] } } := by
  have hsame : ∀ (l : List PortId) (v : State), v.clk = b.clk → v.thm = b.thm →
      l.foldl (fun v p => v.setPort p (fun q => q.waits v.clk v.thm.parked (hostPutFrame typ addr payload).cls)) v =
        l.foldl (fun v p => v.setPort p (fun q => q.waits b.clk b.thm.parked (hostPutFrame typ addr payload).cls)) v := by
    intro l
    induction l with
    | nil => exact fun _ _ _ => rfl
    | cons p l ih =>
      intro v hc ht
      rw [List.foldl_cons, List.foldl_cons, hc, ht]
      refine ih _ ?_ ?_
      · cases p <;> exact hc
      · cases p <;> exact ht
  have hsent : ¬((hostPutFrame typ addr payload).addr = 0 ∧ (hostPutFrame typ addr payload).typ ≠ 13) := by
    rintro ⟨h0, h13⟩
    exact ha.elim (fun h => h h0) (fun h => h13 h)
  rw [txqPut_exec he hb hs hbr hh hlen htyp, State.hostFrame, if_neg (by omega), if_neg hsent]
  simp only [hsame _ b rfl rfl, hv]

theorem txqPut_exec_local (hq : b.net.txq.length < 16) (ha : addr = 0) (h13 : typ ≠ 13) :
    exec (.txqPut dt handle typ addr payload.length payload .none) s = b.execLocal (hostPutFrame typ addr payload) (noTag + handle) := by
  rw [txqPut_exec he hb hs hbr hh hlen htyp, State.hostFrame, if_neg (by omega)]
  exact if_pos ⟨ha, h13⟩

end Put

theorem rxqGet_exec_entry {x : RxEnt} {rest : List RxEnt} {full : Bool} (hbr : b.bridge = true) (hq : b.net.rxq = x :: rest) {u : State}
    (hu : b.hostSend (beBytes 2 x.bytes.length ++ x.bytes) = u) :
    exec (.rxqGet dt full .none) s = .next (if full = true then { u with net := { u.net with rxq := rest } } else u) := by
  subst he hb hu
  rw [exec_rxqGet, execRxqGet, hostDo_none hs, if_neg (by simp [hbr])]
  simp only [hq]

theorem rxqGet_exec_empty {full : Bool} (hbr : b.bridge = true) (hq : b.net.rxq = []) :
    exec (.rxqGet dt full .none) s = .next (b.hostSend [0, 0]) := by
  subst he hb
  rw [exec_rxqGet, execRxqGet, hostDo_none hs, if_neg (by simp [hbr])]
  simp only [hq]
  rfl

theorem rxqGet_exec_node {full : Bool} (hbr : b.bridge = false) : exec (.rxqGet dt full .none) s = .next b.hostFormat := by
  subst he hb
  rw [exec_rxqGet, execRxqGet, hostDo_none hs]
  exact if_pos (by simp [hbr])

theorem regRd_exec {a n : Nat} (h1 : 1 ≤ n) (h63 : n ≤ 63) (ha : a + n ≤ 65536) :
    exec (.regRd dt a n .none) s =
      .next ((State.readRegs n b .chain true a).2.hostSend (wordsBe (State.readRegs n b .chain true a).1)) := by
  subst he hb
  rw [exec_regRd, execRegRd, hostDo_none hs]
  exact if_pos (by simp [hostRange, h1, h63, ha])

/-- A write of one register from the host port (R307). -/
theorem regWr_exec {a : Nat} {v : Word} (ha : a < 65536) :
    exec (.regWr dt a [v] .none) s =
      (let w := State.writeRegs [v] b .chain a
       .next (if w.2.2.resets = b.resets ∧ w.2.1 = .denied then { w.2.2 with net := { w.2.2.net with hErrDen := true } } else w.2.2)) := by
  subst he hb
  rw [exec_regWr, execRegWr, hostDo_none hs]
  exact if_pos (by simp [hostRange]; omega)

theorem regWr_exec_accepted {a : Nat} {v : Word} (ha : a < 65536) (h : b.accepts .chain a v) :
    exec (.regWr dt a [v] .none) s = .next (b.writeReg .chain a v).2 := by
  have hw : (State.writeRegs [v] b .chain a).2 = (.ok, (b.writeReg .chain a v).2) := by
    unfold State.writeRegs
    rw [writeReg_accepts h]
    simp only [State.writeRegs]
    split <;> rfl
  rw [regWr_exec he hb hs ha]
  simp only [hw, reduceCtorEq, and_false, if_false]

theorem regWr_exec_refused {a : Nat} {v : Word} (ha : a < 65536) (hc : b.pwr.commit = none) (hr : b.refuses .chain a v = true) :
    exec (.regWr dt a [v] .none) s =
      .next { b.disarm .chain with net := { (b.disarm .chain).net with hErrDen := true } } := by
  have hw : (State.writeRegs [v] b .chain a).2 = (.denied, b.disarm .chain) := by
    unfold State.writeRegs
    rw [writeReg_refused hr hc]
  rw [regWr_exec he hb hs ha]
  simp only [hw]
  exact congrArg _ (if_pos ⟨rfl, trivial⟩)

end Served

/-! #### HSTAT (R302, R307) -/

/-- The bits of a byte that is spelled as a sum of powers of two. -/
theorem hstat_bits : ∀ b7 b6 b5 b4 b3 b2 : Bool,
    let w : Byte := BitVec.ofNat 8 (b2n b7 * 128 + b2n b6 * 64 + b2n b5 * 32 + b2n b4 * 16 + b2n b3 * 8 + b2n b2 * 4 + 1)
    w.getLsbD 0 = true ∧ w.getLsbD 1 = false ∧ w.getLsbD 2 = b2 ∧ w.getLsbD 3 = b3 ∧ w.getLsbD 4 = b4 ∧ w.getLsbD 5 = b5 ∧
      w.getLsbD 7 = b7 := by decide

theorem hstatNow_bits (u : State) :
    u.hstatNow.getLsbD 0 = true ∧ u.hstatNow.getLsbD 1 = false ∧
      u.hstatNow.getLsbD 2 = u.net.hErrFmt ∧ u.hstatNow.getLsbD 3 = u.net.hErrDen ∧ u.hstatNow.getLsbD 4 = u.net.hErrCrc ∧
      u.hstatNow.getLsbD 5 = (u.bridge && u.net.attn) ∧ u.hstatNow.getLsbD 7 = (u.bridge && !u.net.rxq.isEmpty) := by
  have hne : decide (u.net.rxq ≠ []) = !u.net.rxq.isEmpty := by cases u.net.rxq <;> rfl
  rw [← hne]
  exact hstat_bits ..

/-! #### Tags that end by time (R306, R307, R311) -/

theorem windowEnd_eq (u : State) (t : Nat) : u.windowEnd t = t + atLeast1 (u.fld 0x1600 8 8) * 20000 := by
  unfold State.windowEnd
  rw [Nat.mul_assoc]
  rfl

/-- The state after the answers to a tag have been awaited in vain (R311): a TIMEOUT entry, the tag released, the count. -/
def State.tagTimedOut (u : State) (x : TagHold) : State :=
  let room := decide ((u.freeTag x.tag).net.rxq.length < 32)
  let v := (u.freeTag x.tag).rxPut ⟨x.handle, 2, 0, none⟩
  { v with net := { v.net with timeouts := inc 255 v.net.timeouts, attn := v.net.attn || room } }

theorem tagTimedOut_spec (u : State) (x : TagHold) :
    (u.tagTimedOut x).net.tags = u.net.tags.filter (fun y => decide (y.tag ≠ x.tag)) ∧
      (u.tagTimedOut x).net.rxq = (if u.net.rxq.length < 32 then u.net.rxq ++ [⟨x.handle, 2, 0, none⟩] else u.net.rxq) ∧
      (u.tagTimedOut x).net.timeouts = inc 255 u.net.timeouts ∧ OnlyIn [.net] u (u.tagTimedOut x) := by
  refine ⟨?_, ?_, ?_, ?_⟩
  · exact rxPut_tags ..
  · exact rxPut_rxq ..
  · unfold State.tagTimedOut State.rxPut
    split <;> rfl
  · exact (onlyIn_setNet u _).trans ((onlyIn_rxPut _ _).trans (onlyIn_setNet _ _))

theorem tag_of_hold {e : State} {tag : Nat} {x : TagHold} (hx : e.hold tag = some x) : x.tag = tag := by
  simpa using List.find?_some hx

/-- The running enumeration waits for the answers under a tag of the bridge's own. -/
theorem enumWaits_of_hold {u : State} {tag : Nat} {x : TagHold} {r : EnumRun} {step : EnumStep} (hx : u.hold tag = some x) (hh : x.handle = 0)
    (hr : u.net.enumRun = some r) (hst : r.step = step) (ht : r.tag = tag) : u.enumWaits step tag = some r := by
  have hany : u.net.tags.any (fun h => decide (h.tag = tag) && decide (h.handle = 0)) = true :=
    List.any_eq_true.mpr ⟨x, List.mem_of_find?_eq_some hx, by simp [tag_of_hold hx, hh]⟩
  unfold State.enumWaits
  simp only [hr]
  exact if_pos ⟨hst, ht, hany⟩

section Tags
variable {s e : State} {dt tag : Nat} (he : s.elapse dt = e)
include he

theorem tagTimeout_exec {x : TagHold} (hx : e.hold tag = some x) (ha : x.addr ≠ 63) :
    exec (.tagTimeout dt tag) s = .next ((e.until_ (x.since + atLeast1 (e.fld 0x1600 16 8) * 200000)).tagTimedOut x) := by
  subst he
  rw [exec_tagTimeout, execTagTimeout]
  simp only [hx, if_neg ha, State.tagTimedOut, tag_of_hold hx, msTicks] <;> rfl

theorem broadcastWindowEnd_exec_host {x : TagHold} (hx : e.hold tag = some x) (ha : x.addr = 63) (hh : x.handle ≠ 0) :
    exec (.broadcastWindowEnd dt tag) s =
      .next (((e.until_ (x.since + atLeast1 (e.fld 0x1600 8 8) * 20000)).freeTag tag).rxPut ⟨x.handle, 3, x.count, none⟩) := by
  subst he
  rw [exec_broadcastWindowEnd, execBroadcastWindowEnd]
  simp only [hx, if_pos ha, if_pos hh, windowEnd_eq]

theorem broadcastWindowEnd_exec_enum {x : TagHold} {r : EnumRun} (hx : e.hold tag = some x) (ha : x.addr = 63) (hh : x.handle = 0)
    (hr : e.net.enumRun = some r) (hst : r.step = .discover) (ht : r.tag = tag) :
    exec (.broadcastWindowEnd dt tag) s =
      .next (((e.until_ (x.since + atLeast1 (e.fld 0x1600 8 8) * 20000)).freeTag tag).enumEnd r) := by
  subst he
  have hwait : ∀ t, ((s.elapse dt).until_ t).enumWaits .discover tag = some r :=
    fun t => enumWaits_of_hold (u := (s.elapse dt).until_ t) hx hh hr hst ht
  rw [exec_broadcastWindowEnd, execBroadcastWindowEnd]
  simp only [hx, if_pos ha, hh, ne_eq, not_true_eq_false, if_false, hwait, windowEnd_eq]

theorem broadcastWindowEnd_exec_lone {r : EnumRun} (hx : e.hold tag = none) (hr : e.net.enumRun = some r) (hst : r.step = .discover)
    (hl : r.lone = true) :
    exec (.broadcastWindowEnd dt tag) s = .next ((e.until_ (r.since + atLeast1 (e.fld 0x1600 8 8) * 20000)).enumEnd r) := by
  subst he
  rw [exec_broadcastWindowEnd, execBroadcastWindowEnd]
  simp only [hx, hr, windowEnd_eq]
  exact if_pos ⟨hst, hl⟩

end Tags

/-- Settles O50: each transaction is one branch of its command after HSTAT, and the tags end as the rows of R311 say. -/
theorem hostPortTransactions : Obligations.HostPortTransactions := by
  unfold Obligations.HostPortTransactions
  refine ⟨fun s dt => ?transactions, fun u => ?hstat, fun s dt tag x => ?tags, fun s dt tag r => ?lone⟩
  case transactions =>
    intro e b hs
    refine ⟨hostNop_exec rfl rfl hs, fun handle typ addr payload full a n ws => ?_, fun handle typ addr len payload => txqPut_exec_bad rfl rfl hs,
      fun handle typ addr payload hbr hh hlen htyp => ⟨txqPut_exec_full rfl rfl hs hbr hh hlen htyp,
        fun hq ha => txqPut_exec_queued rfl rfl hs hbr hh hlen htyp hq ha rfl, txqPut_exec_local rfl rfl hs hbr hh hlen htyp⟩,
      fun x rest full hbr hq => rxqGet_exec_entry rfl rfl hs hbr hq rfl, fun full => rxqGet_exec_empty rfl rfl hs,
      fun full => rxqGet_exec_node rfl rfl hs, fun a n => regRd_exec rfl rfl hs, fun a v => regWr_exec_accepted rfl rfl hs,
      fun a v => regWr_exec_refused rfl rfl hs⟩
    obtain ⟨hc1, hc2, hc3, hc4⟩ := hostPort_crc (dt := dt) rfl rfl hs handle typ addr payload full a n ws
    exact ⟨hc1, hc2, hc3, hc4, hostPort_format rfl rfl hs handle typ addr payload full a n ws⟩
  case hstat =>
    obtain ⟨h0, h1, h2, h3, h4, h5, h7⟩ := hstatNow_bits u
    exact ⟨rfl, h0, h1, h2, h3, h4, h5, h7, rfl, rfl, rfl, onlyIn_setNet u _⟩
  case tags =>
    intro e hx
    refine ⟨fun ha => ?_, broadcastWindowEnd_exec_host rfl hx, fun r ha hh hr hst ht => ?_⟩
    · have hspec := tagTimedOut_spec (e.until_ (x.since + atLeast1 (e.fld 0x1600 16 8) * 200000)) x
      rw [tag_of_hold hx] at hspec
      exact ⟨_, tagTimeout_exec rfl hx ha, hspec⟩
    · refine ⟨_, broadcastWindowEnd_exec_enum rfl hx ha hh hr hst ht, rfl, rfl, rfl, rfl, ?_⟩
      exact ((onlyIn_until e _).mono (by simp)).trans
        (((onlyIn_setNet _ _).mono (by simp)).trans ((onlyIn_setNet _ _).mono (by simp)))
  case lone =>
    intro e hx hr hst hl
    refine ⟨_, broadcastWindowEnd_exec_lone rfl hx hr hst hl, until_clk .., rfl, rfl, ?_⟩
    exact ((onlyIn_until e _).mono (by simp)).trans ((onlyIn_setNet _ _).mono (by simp))

end Sys2Proof.Machine
end

section
/-! ### The chain time (O51) -/

namespace Sys2Proof.Machine

/-! #### The commands (R313, R315) -/

section Commands
variable {s e : State} {dt : Nat} (he : s.elapse dt = e)
include he

theorem syncFrame_exec {p : PortId} {h : Header} {tOrigin : Tick} {corr sseq hops : Nat} {f : Frame}
    (hf : Header.frame h 8 (beBytes 8 tOrigin.toNat ++ beBytes 4 corr ++ beBytes 2 sseq ++ beBytes 1 hops ++ [0]) = f)
    (hh : e.hears p f h.tail) (hc : corr < 2 ^ 32) (hq : sseq < 65536) :
    exec (.syncFrame dt p h tOrigin corr sseq hops) s = .next ((e.heard p f h.tail).takeSync tOrigin corr sseq) := by
  subst he hf
  rw [exec_syncFrame]
  refine (arrive_hears hh _).trans ?_
  rw [Nat.mod_eq_of_lt hc, Nat.mod_eq_of_lt hq]

theorem syncSend_exec (hb : e.bridge = true) (hon : e.bit 0x1600 28 = true) {u v w : State} {q : Nat}
    (hu : (if e.tbn / 200000 ≤ e.net.tickAt then e.elapseTb ((e.net.tickAt + 1) * 200000 - e.tbn) else e) = u)
    (hq : (u.net.sseq + 1) % 65536 = q)
    (hv : { u with net := { u.net with tickAt := u.tbn / 200000, sseq := q, sseqSet := true } } = v)
    (hw : v.send .north ⟨8, 0, 63, 0, 0, beBytes 8 0 ++ beBytes 4 0 ++ beBytes 2 q ++ [0, 0]⟩ = w) :
    exec (.syncSend dt) s =
      .next (if w.splitOn = true then w.send .south ⟨8, 0, 63, 0, 0, beBytes 8 0 ++ beBytes 4 0 ++ beBytes 2 q ++ [0, 0]⟩ else w) := by
  subst he hw hv hq hu
  rw [exec_syncSend, execSyncSend, hb, hon]
  rfl

theorem syncLossExpiry_exec (hb : e.bridge = false) (hs : e.net.sync = .acquire ∨ e.net.sync = .locked) {u : State}
    (hu : e.until_ (e.net.lastSync + max 2 (e.fld 0x1600 4 4) * 200000) = u) :
    exec (.syncLossExpiry dt) s =
      .next (({ u with net := { u.net with sync := .holdover, good := 0, losses := inc 255 u.net.losses } }).present1 137) := by
  subst he hu
  rw [exec_syncLossExpiry, execSyncLossExpiry]
  refine if_pos ?_
  rw [hb]
  simpa using hs

end Commands

/-! #### The discipline of the timebase (R315, R317) -/

/-- The error e of a sync in 1/256 tick (R315). -/
def State.syncErr (s : State) (tOrigin : Tick) (corr : Nat) : Int := 256 * ((s.tbn : Int) - 2000 - tOrigin.toNat) - corr

/-- The state that a valid sync with the error `e` leads to (Table 11.8). -/
def State.syncNext (s : State) (e : Int) : SyncSt :=
  match s.net.sync with
  | .free => .acquire
  | .holdover => .acquire
  | .acquire => if 4 ≤ (if e.natAbs ≤ e20ns then s.net.good + 1 else 0) ∧ ¬decide (e10us < e.natAbs) then .locked else .acquire
  | .locked => if e1us < e.natAbs then .acquire else .locked

/-- The rate that a valid sync with the error `e` gives. -/
def State.syncRateNext (s : State) (e : Int) : Int :=
  match s.net.sync with
  | .acquire => Config.syncRate s.time.rate e (s.clk - s.net.lastSync)
  | .locked => Config.syncRate s.time.rate e (s.clk - s.net.lastSync)
  | _ => s.time.rate

/-- What a valid sync sets before the timebase steps or slews. -/
def State.syncNoted (s : State) (e : Int) (sseq : Nat) : State :=
  ({ s with net :=
      { s.net with
        sync := s.syncNext e, sseq := sseq, sseqSet := true, ofs := e, lastSync := s.clk
        good := if s.net.sync = SyncSt.acquire then (if e.natAbs ≤ e20ns then s.net.good + 1 else 0) else 0
        lockAt := if s.net.sync ≠ SyncSt.locked ∧ s.syncNext e = SyncSt.locked then s.clk else s.net.lockAt } }).setRate
    (s.syncRateNext e)

theorem takeSync_known {x : State} {q : Nat} (hs : x.net.sseqSet = true) (hq : x.net.sseq = q) (tOrigin : Tick) (corr : Nat) :
    x.takeSync tOrigin corr q = x := if_pos ⟨hs, hq⟩

section TakeSync
variable {x u t : State} {tOrigin : Tick} {corr q : Nat} {err : Int} (hnew : x.net.sseqSet = false ∨ x.net.sseq ≠ q)
  (hu : x.rilSettle 6 = u) (herr : u.syncErr tOrigin corr = err) (ht : x.takeSync tOrigin corr q = t)
include hnew hu herr ht

theorem takeSync_new :
    t = if u.net.sync = .free ∨ decide (e10us < err.natAbs) = true then (u.syncNoted err q).stepTb err else (u.syncNoted err q).slewTb err := by
  subst ht herr hu
  refine (if_neg ?_).trans rfl
  rintro ⟨hs, hq⟩
  exact hnew.elim (fun h => by simp [hs] at h) (fun h => h hq)

theorem takeSync_steps (h : u.net.sync = .free ∨ 512000 < err.natAbs) : t = (u.syncNoted err q).stepTb err :=
  (takeSync_new hnew hu herr ht).trans (if_pos (h.imp_right fun h => decide_eq_true h))

theorem takeSync_slews (h1 : u.net.sync ≠ .free) (h2 : err.natAbs ≤ 512000) : t = (u.syncNoted err q).slewTb err :=
  (takeSync_new hnew hu herr ht).trans (if_neg (fun h => h.elim h1 (fun h => absurd (of_decide_eq_true h) (Nat.not_lt.mpr h2))))

end TakeSync

theorem onlyIn_syncNoted (u : State) (e : Int) (q : Nat) : OnlyIn [.time, .net] u (u.syncNoted e q) :=
  ((onlyIn_setNet u _).mono (by simp)).trans ((onlyIn_setTime _ _).mono (by simp))

theorem onlyIn_slewTb (u : State) (e : Int) : OnlyIn [.time] u (u.slewTb e) := onlyIn_setTime u _

/-- The SYNC frames that wait for a port follow the timebase. -/
def State.movePorts (s : State) (e : Int) : State :=
  [PortId.north, PortId.south].foldl (fun (s : State) p => s.setPort p (fun q => { q with buf := q.buf.map (movedSync e) })) s

/-- The timebase set, before what follows it. -/
def State.tbSet (s : State) (e : Int) : State :=
  { s.cmdReach.wcSet 0x1606 (putb true 29) with time := s.cmdReach.time.step e, net := { s.net with stepped := true } }

theorem stepTb_eq (u : State) (e : Int) :
    u.stepTb e = (((u.tbSet e).slipDecims u.time.tbMax.toNat (u.tbSet e).time.tbMax.toNat).moveWindows u.tbn).movePorts e := rfl

theorem onlyIn_movePorts (u : State) (e : Int) : OnlyIn [.ecp] u (u.movePorts e) := onlyIn_foldl (fun v p => onlyIn_setPort v p _) _ u

theorem onlyIn_tbSet (u : State) (e : Int) : OnlyIn [.time, .cyc, .seq, .net] u (u.tbSet e) := by
  have hseq : OnlyIn [.time, .cyc, .seq, .net] u u.cmdReach := (onlyIn_setSeq u _).mono (by simp)
  have hcyc : OnlyIn [.time, .cyc, .seq, .net] u (u.cmdReach.wcSet 0x1606 (putb true 29)) :=
    hseq.trans ((onlyIn_cycMod _ _).mono (by simp))
  have htime := hcyc.trans ((onlyIn_setTime _ (u.cmdReach.time.step e)).mono (by simp))
  exact htime.trans ((onlyIn_setNet _ { u.net with stepped := true }).mono (by simp))

theorem onlyIn_stepTb_tbSet (u : State) (e : Int) : OnlyIn [.mod, .flt, .ecp] (u.tbSet e) (u.stepTb e) := by
  rw [stepTb_eq]
  exact ((onlyIn_setMod _ _).mono (by simp)).trans (((onlyIn_setFlt _ _).mono (by simp)).trans ((onlyIn_movePorts _ e).mono (by simp)))

theorem onlyIn_stepTb (u : State) (e : Int) : OnlyIn [.time, .cyc, .mod, .seq, .ecp, .net, .flt] u (u.stepTb e) :=
  ((onlyIn_tbSet u e).mono (by simp)).trans ((onlyIn_stepTb_tbSet u e).mono (by simp))

theorem stepTb_time (u : State) (e : Int) : (u.stepTb e).time = u.time.step e := (onlyIn_stepTb_tbSet u e) .time (by simp)

theorem stepTb_net (u : State) (e : Int) : (u.stepTb e).net = { u.net with stepped := true } := (onlyIn_stepTb_tbSet u e) .net (by simp)

section Results
variable {x u t : State} {tOrigin : Tick} {corr q : Nat} {err : Int} (hnew : x.net.sseqSet = false ∨ x.net.sseq ≠ q)
  (hu : x.rilSettle 6 = u) (herr : u.syncErr tOrigin corr = err) (ht : x.takeSync tOrigin corr q = t)
include hnew hu herr ht

/-- Whether the timebase steps or slews, the sync's record is the noted one. -/
theorem takeSync_net :
    t.net.ofs = err ∧ t.net.sseq = q ∧ t.net.lastSync = u.clk ∧ t.net.sync = u.syncNext err := by
  by_cases h : u.net.sync = .free ∨ 512000 < err.natAbs
  · rw [takeSync_steps hnew hu herr ht h, stepTb_net]
    exact ⟨rfl, rfl, rfl, rfl⟩
  · obtain ⟨h1, h2⟩ := not_or.mp h
    rw [takeSync_slews hnew hu herr ht h1 (by omega)]
    exact ⟨rfl, rfl, rfl, rfl⟩

theorem takeSync_stepped (h : u.net.sync = .free ∨ 512000 < err.natAbs) :
    t.tb = BitVec.ofInt 64 ((256 * (u.tbn : Int) - err) / 256) ∧ t.net.stepped = true ∧ t.time.clk = u.clk ∧
      OnlyIn [.time, .cyc, .mod, .seq, .ecp, .net, .flt] u t := by
  rw [takeSync_steps hnew hu herr ht h]
  refine ⟨?_, ?_, ?_, ((onlyIn_syncNoted u err q).mono (by simp)).trans (onlyIn_stepTb _ err)⟩
  · rw [State.tb, stepTb_time]; rfl
  · rw [stepTb_net]
  · rw [stepTb_time]; rfl

theorem takeSync_slewed (h1 : u.net.sync ≠ .free) (h2 : err.natAbs ≤ 512000) :
    t.tb = u.tb ∧ OnlyIn [.time, .net] u t ∧ (err.natAbs ≤ 51200 → t.time.slew = err ∧ t.time.slewEnd = u.clk + 200000) := by
  rw [takeSync_slews hnew hu herr ht h1 h2]
  refine ⟨rfl, (onlyIn_syncNoted u err q).trans ((onlyIn_slewTb _ err).mono (by simp)), fun h => ⟨?_, ?_⟩⟩
  · change max (-51200) (min 51200 err) = err
    omega
  · change u.clk + max 200000 (err.natAbs * 200000 / 51200) = u.clk + 200000
    omega

end Results

theorem syncNext_free {u : State} (h : u.net.sync = .free ∨ u.net.sync = .holdover) (err : Int) : u.syncNext err = .acquire := by
  rcases h with h | h <;> simp [State.syncNext, h]

theorem syncNext_acquire {u : State} (h : u.net.sync = .acquire) (err : Int) :
    u.syncNext err = if err.natAbs ≤ 1024 ∧ 3 ≤ u.net.good then .locked else .acquire := by
  have h20 : e20ns = 1024 := rfl
  have h10 : e10us = 512000 := rfl
  simp only [State.syncNext, h, decide_eq_true_eq]
  refine if_congr ?_ rfl rfl
  split <;> omega

theorem syncNext_locked {u : State} (h : u.net.sync = .locked) (err : Int) :
    u.syncNext err = if err.natAbs ≤ 51200 then .locked else .acquire := by
  have h1 : e1us = 51200 := rfl
  simp only [State.syncNext, h]
  split
  · rw [if_neg (by omega)]
  · rw [if_pos (by omega)]

/-! #### Between syncs (R312) -/

/-- Without a slew in progress the timebase gains INC in each tick. -/
theorem gain_of_noSlew {t : Time} (h : t.slewEnd ≤ t.clk) (n : Nat) : t.gain n = n * t.inc := by
  simp [Time.gain, Nat.sub_eq_zero_of_le h]

theorem elapse_tb_of_noSlew {u : State} (h : u.time.slewEnd ≤ u.clk) (n : Nat) :
    (u.elapse n).tb = u.tb + BitVec.ofNat 64 ((u.time.frac + n * (32000000000 + 32 * u.time.rate).toNat) / 32000000000) := by
  rw [State.elapse_tb, Time.tbAt, gain_of_noSlew h]
  rfl

/-- Settles O51: the commands are cases of their definitions; a new sync's record is the same whether the timebase steps or slews. -/
theorem chainTime : Obligations.ChainTime := by
  unfold Obligations.ChainTime
  refine ⟨fun s dt => ⟨?_, ?_, ?_⟩, fun x tOrigin corr q => ⟨?_, ?_⟩, fun u n => ⟨rfl, onlyIn_elapse u n, ?_⟩⟩
  · exact fun p h tOrigin corr sseq hops hh hc hq => syncFrame_exec rfl rfl hh hc hq
  · exact fun hb hon => syncSend_exec rfl hb hon rfl rfl rfl rfl
  · exact fun hb hs => syncLossExpiry_exec rfl hb hs rfl
  · exact fun hs hq => takeSync_known hs hq tOrigin corr
  · intro hnew
    obtain ⟨hofs, hseq, hlast, hsync⟩ := takeSync_net (tOrigin := tOrigin) (corr := corr) hnew rfl rfl rfl
    refine ⟨hofs, hseq, hlast, fun h => ?_, fun h => ?_, fun h => ?_, fun h => ?_, fun h1 h2 => ?_⟩
    · exact hsync.trans (syncNext_free h _)
    · exact hsync.trans (syncNext_acquire h _)
    · exact hsync.trans (syncNext_locked h _)
    · exact takeSync_stepped hnew rfl rfl rfl h
    · exact takeSync_slewed hnew rfl rfl rfl h1 h2
  · exact fun h => elapse_tb_of_noSlew h n

end Sys2Proof.Machine
end

section
/-! ### Check values (O52) -/

namespace Sys2Proof.Machine

/-! #### A feed on a channel that is not ACTIVE (R331, R333) -/

/-- A device in MEASURE whose channel 15 holds a feed of one word of result SRAM and is not ACTIVE. -/
def idleFeedDevice : State :=
  { atMode .measure with chk := vset (atMode .measure).chk 15 { Chk.init with feed := some ⟨0x40000000, 1, false, 0, 0⟩ } }

/-- How many words the feed of channel 15 has read. -/
def feedGot15 (s : State) : Option Nat := (s.chkOf 15).feed.map Feed.got

theorem idleFeedDevice_accepts_abort : (idleFeedDevice.elapse 1).accepts .chain 0x18F4 (putb true 28) := by decide +kernel

/-- The ABORT takes up the words that the feed has read by now. -/
theorem idleFeedDevice_abort_reads : (nextOf (exec (.chkAbort 1 .chain 15) idleFeedDevice)).map feedGot15 = some (some 1) := by
  decide +kernel

theorem idleFeedDevice_wrote_reads :
    feedGot15 (((idleFeedDevice.elapse 1).wrote .chain 0x18F4 (putb true 28)).answers .ok []) = some 0 := by decide +kernel

/-- Refutes O52: the clause on the ABORT of a channel that is not ACTIVE does not ask that the channel holds no feed, and an ABORT of a
channel with a feed accounts for the words read by now, be it ACTIVE or not. On `idleFeedDevice` one core cycle after the feed's start
the abort leaves the feed with one word read, and the statement has it change nothing there. The statement is about every state, and so
is its refutation: that a run from reset comes to a feed on a channel that is not ACTIVE is not claimed. -/
theorem not_checkValues : ¬ Obligations.CheckValues := by
  unfold Obligations.CheckValues
  rintro ⟨hcommands, -⟩
  obtain ⟨-, -, -, -, -, habort, -⟩ := hcommands idleFeedDevice 1 .chain 15 0 (by decide)
  obtain ⟨hidle, -⟩ := habort idleFeedDevice_accepts_abort
  have hreads := idleFeedDevice_abort_reads
  rw [hidle (by decide +kernel), nextOf, Option.map_some, idleFeedDevice_wrote_reads] at hreads
  exact absurd hreads (by decide)

end Sys2Proof.Machine
end

section
/-! ### The rill bus (O53) -/

namespace Sys2Proof.Machine

/-! #### Supply, faults and the start of searches (R340, R342, R346) -/

/-- What AUTO_SEARCH does 5 ms after RLV first turned on at clock `t0` (R346). -/
def State.autoDue (s : State) (t0 : Nat) : Out :=
  if s.ril.rlv ∧ s.ril.rlvSince = t0 then
    if s.bit 0x1901 30 && s.stw then .next (s.searchStart .steward) else .next s
  else if s.bit 0x1901 30 && s.stw then .next { s with ril := { s.ril with srchRes := 3 } }
  else .next s

theorem autoDue_eq (u : State) (t0 : Nat) :
    u.autoDue t0 =
      .next (if u.bit 0x1901 30 = true ∧ u.stw = true then
        (if u.ril.rlv = true ∧ u.ril.rlvSince = t0 then u.searchStart .steward
        else { u with ril := { u.ril with srchRes := 3 } }) else u) := by
  unfold State.autoDue
  by_cases hgo : (u.bit 0x1901 30 && u.stw) = true
  · rw [if_pos hgo, if_pos hgo, if_pos (Bool.and_eq_true_iff.mp hgo)]
    exact (apply_ite Host.Outcome.next ..).symm
  · rw [if_neg hgo, if_neg hgo, if_neg (fun h => hgo (Bool.and_eq_true_iff.mpr h)), ite_self]

section Commands
variable {s e : State} {dt : Nat} (he : s.rilElapse dt = e)
include he

theorem rlvOn_exec (hen : e.rilEnabled = true) (hoff : e.ril.rlv = false) (hr : e.ril.rlvRetry = none) :
    exec (.rlvOn dt) s = .next e.rlvTurnOn := by
  subst he
  rw [exec_rlvOn, execRlvOn]
  exact if_pos (by simp [hen, hoff, hr])

theorem rlvCurrentLimit_exec (hon : e.ril.rlv = true) {u : State} (hu : e.rlvOff = u) :
    exec (.rlvCurrentLimit dt) s =
      .next ((({ u with ril := { u.ril with rlvFault := true, rlvRetry := some u.clk } }).wcSet 0x1903 (putb true 28)).present1 139) := by
  subst he hu
  rw [exec_rlvCurrentLimit, execRlvCurrentLimit]
  exact if_pos hon

theorem rlvRetry_exec {t0 : Nat} (hr : e.ril.rlvRetry = some t0) {u : State} (hu : e.until_ (t0 + 200000000) = u) :
    exec (.rlvRetry dt) s =
      .next (if u.rilEnabled = true then u.rlvTurnOn else { u with ril := { u.ril with rlvRetry := none } }) := by
  subst he hu
  rw [exec_rlvRetry, execRlvRetry]
  simp only [hr]
  exact (apply_ite Host.Outcome.next ..).symm

theorem busStuck_exec (hon : e.ril.rlv = true) {u : State}
    (hu : { e with ril := { e.ril with stuck := true, freeAt := max e.ril.freeAt (e.clk + 2000000) } } = u) :
    exec (.busStuck dt) s = .next ((u.rilBusFault.wcSet 0x1903 (putb true 27)).present1 139) := by
  subst he hu
  rw [exec_busStuck, execBusStuck]
  exact if_pos hon

theorem autoSearch_exec_entry (hf : e.ril.autoFrom = true) {u : State} (hu : { e with ril := { e.ril with autoFrom := false } } = u) :
    exec (.autoSearch dt) s = .next (if u.bit 0x1901 30 = true ∧ u.stw = true then u.searchStart .steward else u) := by
  subst he hu
  rw [exec_autoSearch, execAutoSearch, apply_ite Host.Outcome.next]
  exact (if_pos hf).trans (if_congr (Bool.and_eq_true ..).to_iff rfl rfl)

theorem autoSearch_exec_rlv (hf : e.ril.autoFrom = false) {t0 : Nat} (ha : e.ril.autoRlv = some t0) {w u : State}
    (hw : (e.until_ (t0 + 1000000)).rilSettle 6 = w) (hu : { w with ril := { w.ril with autoRlv := none } } = u) :
    exec (.autoSearch dt) s =
      .next (if u.bit 0x1901 30 = true ∧ u.stw = true then
        (if u.ril.rlv = true ∧ u.ril.rlvSince = t0 then u.searchStart .steward
        else { u with ril := { u.ril with srchRes := 3 } }) else u) := by
  rw [← autoDue_eq]
  subst he hu hw
  rw [exec_autoSearch, execAutoSearch]
  simp only [hf, ha, Bool.false_eq_true, if_false]
  rfl

/-! #### A search (R344, R347) -/

/-- The CLEAN slots of a query: those with an ID whose check holds. -/
def cleanSlots (slots : List SlotReply) : List (Nat × BitVec 64) :=
  (slots.take 16).zipIdx.filterMap (fun (x : SlotReply × Nat) =>
    match x.1 with | .clean id => if idOk id = true then some (x.2, id) else none | _ => none)

/-- The GARBLED slots of a query. -/
def garbledSlots (slots : List SlotReply) : List Nat :=
  (slots.take 16).zipIdx.filterMap (fun (x : SlotReply × Nat) =>
    match x.1 with | .garbled => some x.2 | .clean id => if idOk id = true then none else some x.2 | .empty => none)

theorem queryDone_exec {slots : List SlotReply} {q q1 : RilSearch} (hq : e.ril.search = some q) (hb : e.ril.bus = some .query)
    (ho : e.opIs 6 .running = true) {u v w : State} (hu : e.until_ (e.requestEnd + 3220000) = u)
    (hv : { u with ril := { u.ril with bus := none, queries := inc 63 u.ril.queries } } = v)
    (hq1 : { q with clean := cleanSlots slots, garbled := garbledSlots slots
                    n := (cleanSlots slots).length + (garbledSlots slots).length } = q1)
    (hw : (if q.cur ≠ [] ∧ q1.n = 0 then v.discrepancy q1 else v.searchStep q1) = w) :
    exec (.queryDone dt slots) s = .next (w.rilStart w.clk) := by
  subst he hw hq1 hv hu
  rw [exec_queryDone, execQueryDone]
  simp only [hq]
  exact if_pos ⟨hb, ho⟩

section Echo
variable (hb : e.ril.bus = some .echo) (ho : e.opIs 6 .running = true)
include hb ho

theorem rilEcho_exec {ok : Bool} {u v : State} (hu : e.until_ e.requestEnd = u)
    (hv : ({ u with ril := { u.ril with bus := none } }).echoDone ok = v) :
    exec (.rilEcho dt ok) s = .next (v.rilStart v.clk) := by
  subst he hv hu
  rw [exec_rilEcho, execRilEcho]
  exact if_pos ⟨hb, ho⟩

theorem rillReply_exec_echo {q : RilSearch} {j : Nat} {id : BitVec 64} {rest : List (Nat × BitVec 64)} (hq : e.ril.search = some q)
    (hc : q.clean = (j, id) :: rest) {bytes : Bytes} {crc : Byte} {ok : Bool} {u v : State} (hu : e.until_ e.requestEnd = u)
    (hok : (decide (bytes.take 1 = beBytes 1 (id.toNat / 2 ^ 56)) && decide (crcOf (crcAlg 3) (bytes.take 1) = crc.toNat)) = ok)
    (hv : ({ u with ril := { u.ril with bus := none } }).echoDone ok = v) :
    exec (.rillReply dt bytes crc) s = .next (v.rilStart v.clk) := by
  subst he hv hok hu
  have hq' : ((s.rilElapse dt).until_ (s.rilElapse dt).requestEnd).ril.search = some q := hq
  rw [exec_rillReply, execRillReply]
  simp only [hb, ho, hq', hc, if_true, List.headD_cons]

theorem replyTimeout_exec_echo {u v : State} (hu : e.until_ (e.requestEnd + 60000) = u)
    (hv : ({ u with ril := { u.ril with bus := none } }).echoDone false = v) :
    exec (.replyTimeout dt) s = .next (v.rilStart v.clk) := by
  subst he hv hu
  rw [exec_replyTimeout, execReplyTimeout]
  simp only [hb]
  exact if_pos ho

end Echo

/-! #### Poll rounds (R350, R351) -/

section PollRound
variable (hp : e.bit 0x1902 31 = true) (hon : e.ril.rlv = true) (hc : e.coreOn = true) {u : State}
  (hu : (e.untilMod (atLeast1 (e.fld 0x1902 0 16) * 2000000) 0).rilSettle 6 = u)
include hp hon hc hu

theorem pollRound_exec :
    exec (.pollRound dt) s =
      if u.ril.round.isSome = true then .next { u with ril := { u.ril with skipped := inc 65535 u.ril.skipped } }
      else .next (({ u with ril := { u.ril with round := some ⟨none, 0, false⟩ } }).rilStart u.clk) := by
  subst he hu
  rw [exec_pollRound, execPollRound]
  exact if_neg (by simp [hp, hon, hc])

end PollRound

theorem pollRead_exec {r : RilRound} {x : Nat} (hr : e.ril.round = some r) (hx : r.convEnd = some x) {u v : State}
    (hu : e.until_ (x + e.fld 0x1902 16 8 * 200000) = u) (hv : u.rilStart u.clk = v) :
    exec (.pollRead dt) s = .next (if v.ril.bus = none then v.roundEnd v.clk else v) := by
  subst he hv hu
  rw [exec_pollRead, execPollRead]
  simp only [hr, hx]
  rfl

section Read
variable {i : Nat} (hb : e.ril.bus = some (.read i))
include hb

theorem replyTimeout_exec_read {u : State} (hu : e.until_ (e.requestEnd + 60000) = u) :
    exec (.replyTimeout dt) s = .next ((u.noAnswer i).readOver i) := by
  subst he hu
  rw [exec_replyTimeout, execReplyTimeout]
  simp only [hb]
  rfl

theorem rillReply_exec_read {bytes b : Bytes} {crc : Byte} {w : State} (hw : e.until_ e.requestEnd = w) (hbs : bytes.take w.rlen = b) :
    exec (.rillReply dt bytes crc) s =
      .next ((w.setRent i (fun q =>
        if crcOf (crcAlg 3) b = crc.toNat then { q with val := readWord b, st := 1 } else { q with st := 2 })).readOver i) := by
  subst he hbs hw
  rw [exec_rillReply, execRillReply]
  simp only [hb]
  split <;> rfl

end Read

/-! #### Direct transactions (R352) -/

section Direct
variable {x : Word} (hb : e.ril.bus = some .direct) (hd : e.ril.direct = some x) (hr : directReply x = true)
include hb hd hr

theorem replyTimeout_exec_direct {u : State} (hu : e.until_ (e.requestEnd + 60000) = u) :
    exec (.replyTimeout dt) s = .next ((u.directEnd 2).rilFree (u.directEnd 2).clk) := by
  subst he hu
  rw [exec_replyTimeout, execReplyTimeout]
  simp only [hb, hd]
  exact if_pos hr

theorem rillReply_exec_direct {bytes b : Bytes} {crc : Byte} {bad : Bool} {w v : State} (hw : e.until_ e.requestEnd = w)
    (hbs : bytes.take (directLen x) = b) (hbad : (x.getLsbD 20 && decide (crcOf (crcAlg 3) b ≠ crc.toNat)) = bad)
    (hv : { w with ril := { w.ril with xr0 := readWord b, xr1 := readWord (b.drop 4) } } = v) :
    exec (.rillReply dt bytes crc) s = .next ((v.directEnd (if bad = true then 3 else 1)).rilFree w.clk) := by
  subst he hv hbad hbs hw
  rw [exec_rillReply, execRillReply]
  simp only [hb, hd]
  exact if_pos hr

end Direct

end Commands

/-! #### The registers that start work (R346, R352) -/

section Writes
variable {s e : State} {dt : Nat} (he : s.elapse dt = e) {rq : Requester}
include he

theorem rilSearch_exec (h : e.accepts rq 0x1900 (putb true 31)) :
    exec (.rilSearch dt rq) s = .next ((((e.wrote rq 0x1900 (putb true 31)).rilSettle 6).searchStart rq).answers .ok []) := by
  rw [exec_rilSearch, execRilSearch, put_high he h (by decide) (by decide) (by decide) (by decide)]
  rfl

theorem directTransaction_exec {v w : Word} (hw : v ||| putb true 31 = w) (h : e.accepts rq 0x1905 w) {u : State}
    (hu : e.wrote rq 0x1905 w = u) :
    exec (.directTransaction dt rq v) s =
      .next ((((u.rilSettle 6).clearWc 0x1905 w).directStart ((u.eff 0x1905 &&& (regRow 0x1905).cfg) ||| putb true 31)).answers .ok []) := by
  have h31 : w.getLsbD 31 = true := by rw [← hw, getLsbD_or_putb v (by decide)]
  rw [exec_directTransaction, execDirectTransaction, hw, put_high he h (by decide) (by decide) (by decide) (by decide), hu]
  unfold State.effectHigh
  rw [← h31]
  rfl

end Writes

/-! #### The operations of the bus (R340, R345 to R347, R352) -/

theorem onlyIn_rilStart (s : State) (t : Nat) : OnlyIn [.ril] s (s.rilStart t) := by
  unfold State.rilStart
  refine .ite .refl ?_
  split
  · exact .refl
  · split <;> exact onlyIn_setRil s _

theorem rilStart_off {s : State} (h : s.ril.rlv = false) (t : Nat) : s.rilStart t = s := if_pos (Or.inr (Or.inl (by simp [h])))

/-- What the start of a transaction leaves of the bus. -/
theorem rilStart_keeps (s : State) (t : Nat) :
    (s.rilStart t).ril.srchRes = s.ril.srchRes ∧ (s.rilStart t).ril.tag = s.ril.tag ∧ (s.rilStart t).ril.search = s.ril.search := by
  unfold State.rilStart
  split
  · exact ⟨rfl, rfl, rfl⟩
  · split
    · exact ⟨rfl, rfl, rfl⟩
    · split <;> exact ⟨rfl, rfl, rfl⟩

section SearchStart
variable {u : State} (rq : Requester)

theorem searchStart_refused (h : (u.modeIn 4 10 && u.ril.rlv) = false) :
    u.searchStart rq = { u with ril := { u.ril with srchRes := 3 } } := if_pos (by simp [h])

theorem searchStart_busy (h : (u.modeIn 4 10 && u.ril.rlv) = true) (hs : u.ril.search.isSome = true) :
    u.searchStart rq = { u with ril := { u.ril with srchRes := 2 } } := (if_neg (by simp [h])).trans (if_pos hs)

/-- The record of a search that starts. -/
def State.newSearch (u : State) (rq : Requester) : RilSearch :=
  { tag := (u.startOp 6 rq).1, todo := [], cur := [], found := [], clean := [], garbled := [], n := 0, want := false
    before := (u.startOp 6 rq).2.rilPresent, restarts := 0, shown := false, lost := false }

/-- The state in which a search that starts asks for the bus. -/
def State.searchBegun (u : State) (rq : Requester) : State :=
  { (u.startOp 6 rq).2 with
    ril := { (u.startOp 6 rq).2.ril with
      srchRes := 1, search := some (u.newSearch rq), tag := (u.startOp 6 rq).1, restarts := 0, queries := 0, gapD := false, gapP := false } }

theorem searchStart_begins (h : (u.modeIn 4 10 && u.ril.rlv) = true) (hs : u.ril.search = none) :
    u.searchStart rq = (u.searchBegun rq).rilStart (u.searchBegun rq).clk :=
  (if_neg (by simp [h])).trans (if_neg (by simp [hs]))

theorem searchStart_results (h : (u.modeIn 4 10 && u.ril.rlv) = true) (hs : u.ril.search = none) {t : State}
    (ht : u.searchStart rq = t) :
    t.ril.srchRes = 1 ∧ t.ril.tag = (u.startOp 6 rq).1 ∧ t.ril.search.isSome = true ∧ OnlyIn [.ril, .seq] u t := by
  subst ht
  rw [searchStart_begins rq h hs]
  obtain ⟨hres, htag, hsearch⟩ := rilStart_keeps (u.searchBegun rq) (u.searchBegun rq).clk
  refine ⟨hres, htag, by rw [hsearch]; rfl, ?_⟩
  exact ((onlyIn_startOp u 6 rq).mono (by simp)).trans
    (((onlyIn_setRil _ _).mono (by simp)).trans ((onlyIn_rilStart (u.searchBegun rq) _).mono (by simp)))

end SearchStart

section DirectStart
variable {u : State} {x : Word} (hx : x.getLsbD 31 = true)
include hx

theorem directStart_busy (hd : u.ril.direct.isSome = true) :
    u.directStart x = ({ u with ril := { u.ril with ign := true } }).wcSet 0x1905 (putb true 29) :=
  (if_neg (by simp [Sys2Proof.bit, hx])).trans (if_pos hd)

theorem directStart_off (hd : u.ril.direct = none) (hoff : (u.rilEnabled && u.ril.rlv) = false) :
    u.directStart x = { u with ril := { u.ril with xst := 6 } } :=
  (if_neg (by simp [Sys2Proof.bit, hx])).trans ((if_neg (by simp [hd])).trans (if_pos (by simp [hoff])))

theorem directStart_absent (hd : u.ril.direct = none) (hon : (u.rilEnabled && u.ril.rlv) = true) (h19 : x.getLsbD 19 = true)
    (hp : (u.rent (fld x 8 5)).present = false) : u.directStart x = { u with ril := { u.ril with xst := 5 } } := by
  have hunit : directUnit x = some (fld x 8 5) := if_pos h19
  rw [State.directStart, hunit]
  exact (if_neg (by simp [Sys2Proof.bit, hx])).trans
    ((if_neg (by simp [hd])).trans ((if_neg (by simp [hon])).trans (if_pos (by simp [hp]))))

end DirectStart

/-! #### The supply turned off (R340) -/

/-- From `a` to `b` the supply, the transaction on the bus and the direct transaction stay as they are. -/
def BusKept (a b : State) : Prop :=
  b.ril.rlv = a.ril.rlv ∧ b.ril.bus = a.ril.bus ∧ b.ril.direct = a.ril.direct ∧ b.ril.xst = a.ril.xst

theorem BusKept.trans {a b c : State} (h : BusKept a b) (k : BusKept b c) : BusKept a c := by
  obtain ⟨h1, h2, h3, h4⟩ := h
  obtain ⟨k1, k2, k3, k4⟩ := k
  exact ⟨k1.trans h1, k2.trans h2, k3.trans h3, k4.trans h4⟩

theorem busKept_of_onlyIn {ps : List Part} {a b : State} (h : OnlyIn ps a b) (hr : Part.ril ∉ ps) : BusKept a b := by
  have hril : b.ril = a.ril := h .ril hr
  exact ⟨by rw [hril], by rw [hril], by rw [hril], by rw [hril]⟩

theorem busKept_setFlag (s : State) (k : Nat) : BusKept s (s.setFlag k) := busKept_of_onlyIn (onlyIn_setFlag s k) (by decide)

theorem busKept_roundEnd (s : State) (t : Nat) : BusKept s (s.roundEnd t) := by
  have hkept : BusKept s s := ⟨rfl, rfl, rfl, rfl⟩
  unfold State.roundEnd
  split
  · split
    · split
      · dsimp only
        split
        · exact (BusKept.trans ⟨rfl, rfl, rfl, rfl⟩ (busKept_setFlag _ _))
        · exact ⟨rfl, rfl, rfl, rfl⟩
      · exact hkept
    · exact hkept
  · exact hkept

/-- The search is over, before its operation ends. -/
def State.searchOver (s : State) (code : Nat) : State :=
  { s with ril := { s.ril with search := none, searches := (s.ril.searches + 1) % 65536, stale := s.ril.stale || decide (2 ≤ code) } }

section Off
variable {s : State} (hrlv : s.ril.rlv = false) (hbus : s.ril.bus = none)
include hrlv hbus

theorem searchEnd_off (st : OpSt) (cause code : Nat) : s.searchEnd st cause code = (s.searchOver code).endOp 6 st cause code := by
  have hoff : ((s.searchOver code).endOp 6 st cause code).ril.rlv = false :=
    (congrArg Ril.rlv (onlyIn_endOp (s.searchOver code) 6 st cause code .ril (by decide))).trans hrlv
  unfold State.searchEnd
  dsimp only
  split
  · rename_i h
    exact absurd (hbus.symm.trans h) (by simp)
  · rename_i h
    exact absurd (hbus.symm.trans h) (by simp)
  · exact rilStart_off hoff _

theorem busKept_searchFail : BusKept s s.searchFail := by
  unfold State.searchFail
  split
  · exact ⟨rfl, rfl, rfl, rfl⟩
  · split
    · rw [searchEnd_off hrlv hbus]
      exact BusKept.trans (b := s.searchOver 3) ⟨rfl, rfl, rfl, rfl⟩ (busKept_of_onlyIn (onlyIn_endOp _ 6 _ _ _) (by decide))
    · exact ⟨rfl, rfl, rfl, rfl⟩

end Off

/-- The transaction on the bus has ended with BUS_FAULT, and the bus is free. -/
def State.busFaulted (s : State) : State :=
  let s := match s.ril.bus with
    | some .direct => s.directEnd 4
    | some .conv => { s with ril := { s.ril with round := s.ril.round.map (fun (r : RilRound) => { r with convEnd := some s.clk }) } }
    | some (.read i) =>
      let s := s.setRent i (fun e => { e with st := 4 })
      { s with ril := { s.ril with round := s.ril.round.map (fun (r : RilRound) => { r with cursor := i + 1 }) } }
    | _ => s
  { s with ril := { s.ril with bus := none } }

theorem rilBusFault_eq (s : State) : s.rilBusFault = (s.busFaulted.roundEnd s.busFaulted.clk).searchFail := rfl

/-- The direct transaction of `a` waits in `b`, or has ended with BUS_FAULT. -/
def DirectEnds (a b : State) : Prop := b.ril.direct = a.ril.direct ∨ (b.ril.direct = none ∧ b.ril.xst = 4)

theorem busFaulted_results (s : State) : s.busFaulted.ril.rlv = s.ril.rlv ∧ s.busFaulted.ril.bus = none ∧ DirectEnds s s.busFaulted := by
  unfold State.busFaulted
  split
  · exact ⟨rfl, rfl, Or.inr ⟨rfl, rfl⟩⟩
  · exact ⟨rfl, rfl, Or.inl rfl⟩
  · exact ⟨rfl, rfl, Or.inl rfl⟩
  · exact ⟨rfl, rfl, Or.inl rfl⟩

theorem rilBusFault_results {s : State} (hrlv : s.ril.rlv = false) :
    s.rilBusFault.ril.rlv = false ∧ s.rilBusFault.ril.bus = none ∧ DirectEnds s s.rilBusFault := by
  obtain ⟨h1, h2, h3⟩ := busFaulted_results s
  have hround := busKept_roundEnd s.busFaulted s.busFaulted.clk
  have hfail := busKept_searchFail (hround.1.trans (h1.trans hrlv)) (hround.2.1.trans h2)
  obtain ⟨k1, k2, k3, k4⟩ := hround.trans hfail
  rw [rilBusFault_eq]
  refine ⟨k1.trans (h1.trans hrlv), k2.trans h2, h3.imp (fun h => k3.trans h) ?_⟩
  rintro ⟨hd, hx⟩
  exact ⟨k3.trans hd, k4.trans hx⟩

theorem rlvOff_eq {u f : State} (h : u.ril.rlv = true) (hf : ({ u with ril := { u.ril with rlv := false } }).rilBusFault = f) :
    u.rlvOff = { (if f.ril.direct.isSome = true then f.directEnd 4 else f) with
      ril := { (if f.ril.direct.isSome = true then f.directEnd 4 else f).ril with round := none } } := by
  subst hf
  exact if_neg (by simp [h])

theorem rlvOff_results {u : State} (h : u.ril.rlv = true) :
    u.rlvOff.ril.rlv = false ∧ u.rlvOff.ril.direct = none ∧ u.rlvOff.ril.bus = none ∧ u.rlvOff.ril.round = none ∧
      (u.ril.direct.isSome = true → u.rlvOff.ril.xst = 4) := by
  generalize hf : ({ u with ril := { u.ril with rlv := false } }).rilBusFault = f
  obtain ⟨hrlv, hbus, hdirect⟩ := rilBusFault_results (s := { u with ril := { u.ril with rlv := false } }) rfl
  rw [hf] at hrlv hbus hdirect
  rw [rlvOff_eq h hf]
  split
  · exact ⟨hrlv, rfl, hbus, rfl, fun _ => rfl⟩
  · rename_i hnone
    rw [Bool.not_eq_true, Option.isSome_eq_false_iff, Option.isNone_iff_eq_none] at hnone
    refine ⟨hrlv, hnone, hbus, rfl, fun hsome => ?_⟩
    rcases hdirect with hd | ⟨-, hx⟩
    · rw [← show f.ril.direct = u.ril.direct from hd, hnone] at hsome
      exact absurd hsome (by simp)
    · exact hx

/-- A sensor that has not answered is not present (R351). -/
theorem noAnswer_results {u : State} {i : Nat} (hi : i < 32) {r : RilRound} (hr : u.ril.round = some r) (hs : r.shown = true) :
    ((u.noAnswer i).rent i).present = false ∧ ((u.noAnswer i).rent i).st = 3 ∧ (u.noAnswer i).ril.stale = true := by
  have hent : (u.noAnswer i).ril.ents = vmod u.ril.ents i (fun q => { q with present := false, st := 3 }) ∧
      (u.noAnswer i).ril.stale = true := by
    unfold State.noAnswer
    simp only [hr, hs, if_true]
    exact ⟨rfl, trivial⟩
  obtain ⟨hents, hstale⟩ := hent
  unfold State.rent
  rw [hents, vget_vmod, if_pos ⟨rfl, hi⟩]
  exact ⟨rfl, rfl, hstale⟩

/-- Settles O53: each command is the branch that the work on the bus selects; with the supply off nothing begins on the bus. -/
theorem rillBus : Obligations.RillBus := by
  unfold Obligations.RillBus
  refine ⟨fun s dt => ⟨?_, ?_, ?_, ?_, ?_, ?_, ?_, ?_, ?_, ?_, ?_, ?_, ?_⟩, fun s dt rq v => ⟨?_, ?_⟩, fun u rq x => ⟨?_, ?_, ?_, ?_, ?_⟩⟩
  · exact fun hen hoff hr => ⟨_, rlvOn_exec rfl hen hoff hr, rfl, rfl, onlyIn_setRil _ _⟩
  · exact fun hon => rlvCurrentLimit_exec rfl hon rfl
  · exact fun t0 hr => rlvRetry_exec rfl hr rfl
  · exact fun hon => busStuck_exec rfl hon rfl
  · exact fun hf => autoSearch_exec_entry rfl hf rfl
  · exact fun t0 hf ha => autoSearch_exec_rlv rfl hf ha rfl rfl
  · exact fun slots q hq hb ho => queryDone_exec rfl hq hb ho rfl rfl rfl rfl
  · exact fun ok hb ho => rilEcho_exec rfl hb ho rfl rfl
  · exact fun q j id rest bytes crc hq hc hb ho =>
      ⟨rillReply_exec_echo rfl hb ho hq hc rfl rfl rfl, replyTimeout_exec_echo rfl hb ho rfl rfl⟩
  · intro hp hon hc
    refine ⟨fun hr => (pollRound_exec rfl hp hon hc rfl).trans (if_pos hr), fun hr => ?_⟩
    exact (pollRound_exec rfl hp hon hc rfl).trans (if_neg (by rw [hr]; decide))
  · exact fun r x hr hx => pollRead_exec rfl hr hx rfl rfl
  · intro i hb hi
    refine ⟨replyTimeout_exec_read rfl hb rfl, fun r hr hs => ?_, fun bytes crc => rillReply_exec_read rfl hb rfl rfl⟩
    exact noAnswer_results hi hr hs
  · exact fun x hb hd hr =>
      ⟨replyTimeout_exec_direct rfl hb hd hr rfl, fun bytes crc => rillReply_exec_direct rfl hb hd hr rfl rfl rfl rfl⟩
  · exact fun h => rilSearch_exec rfl h
  · exact fun h => directTransaction_exec rfl rfl h rfl
  · exact fun h => searchStart_refused rq h
  · exact fun h hs => searchStart_busy rq h hs
  · exact fun h hs => searchStart_results rq h hs rfl
  · exact fun hx => ⟨fun hd => directStart_busy hx hd, fun hd hoff => directStart_off hx hd hoff,
      fun hd hon h19 hp => directStart_absent hx hd hon h19 hp⟩
  · exact fun h => rlvOff_results h

end Sys2Proof.Machine
end

section
/-! ### The fault collector (O54) -/

namespace Sys2Proof.Machine

/-! #### The registers that clear (R360, R364) -/

/-- FLT_STICKYk and FLT_SECk exist, and a write of them sets no selector and changes no configuration. -/
theorem clearRegs : ∀ k < 5,
    (regExists (0x1A10 + k) = true ∧ isSelector (0x1A10 + k) = false ∧ settles (0x1A10 + k) = false) ∧
      (regExists (0x1A20 + k) = true ∧ isSelector (0x1A20 + k) = false ∧ settles (0x1A20 + k) = false) := by decide

section Writes
variable {s e : State} {dt : Nat} (he : s.elapse dt = e) {rq : Requester}
include he

theorem stickyClear_exec {k : Nat} (hk : k < 5) {v : Word} (h : e.accepts rq (0x1A10 + k) v) :
    exec (.stickyClear dt rq k v) s = .next (((e.wrote rq (0x1A10 + k) v).stickyClear k v).answers .ok []) := by
  obtain ⟨⟨hreg, hsel, hset⟩, -⟩ := clearRegs k hk
  rw [exec_stickyClear, execStickyClear, putAt_eq _ _ _ _ hk]
  rw [put_high he h (by omega) hreg hsel hset]
  unfold State.effectHigh
  rw [if_neg (by omega), if_neg (by omega), if_pos (by omega), Nat.add_sub_cancel_left]

theorem secondaryClear_exec {k : Nat} (hk : k < 5) {v : Word} (h : e.accepts rq (0x1A20 + k) v) :
    exec (.secondaryClear dt rq k v) s = .next (((e.wrote rq (0x1A20 + k) v).secClear k v).answers .ok []) := by
  obtain ⟨-, hreg, hsel, hset⟩ := clearRegs k hk
  rw [exec_secondaryClear, execSecondaryClear, putAt_eq _ _ _ _ hk]
  rw [put_high he h (by omega) hreg hsel hset]
  unfold State.effectHigh
  rw [if_neg (by omega), if_neg (by omega), if_neg (by omega), if_pos (by omega), Nat.add_sub_cancel_left]

theorem clearAll_exec (h : e.accepts rq 0x1A0B 0xC1EA) :
    exec (.clearAll dt rq) s = .next ((e.wrote rq 0x1A0B 0xC1EA).clearAll.answers .ok []) := by
  rw [exec_clearAll, execClearAll, put_high he h (by decide) (by decide) (by decide) (by decide)]
  rfl

end Writes

/-! #### Timed actions (R357, R363, R367, R368) -/

theorem flowOk_until (e : State) (t : Nat) : (e.until_ t).flowOk = e.flowOk := rfl

section Timed
variable {s e : State} {dt : Nat} (he : s.elapse dt = e)
include he

theorem shadowEnd_exec_balance {h : Shadow} (hs : e.flt.shadowB = some h) {u : State} (hu : e.until_ h.ends = u) :
    exec (.shadowEnd dt false) s = .next { u with flt := { u.flt with shadowB := none } } := by
  subst he hu
  rw [exec_shadowEnd, execShadowEnd]
  simp only [Bool.false_eq_true, if_false, hs]

theorem shadowEnd_exec_mode {h : Shadow} (hs : e.flt.shadowM = some h) {u : State} (hu : e.until_ h.ends = u) :
    exec (.shadowEnd dt true) s = .next { u with flt := { u.flt with shadowM := none } } := by
  subst he hu
  rw [exec_shadowEnd, execShadowEnd]
  simp only [if_true, hs]

theorem faultWindowExpiry_exec {i : Nat} (hi : i < 160) (ho : (e.fsrc i).winOpen = true) {u : State}
    (hu : e.elapseTb ((e.fsrc i).winStart + atLeast1 (e.fld (0x1B00 + i) 0 16) * 200000 - e.tbn).toNat = u) :
    exec (.faultWindowExpiry dt i) s = .next (u.setFsrc i { u.fsrc i with winOpen := false }) := by
  subst he hu
  rw [exec_faultWindowExpiry, execFaultWindowExpiry]
  exact if_pos ⟨hi, ho⟩

theorem aliveKey_exec (hs : e.stw = true) :
    exec (.aliveKey dt) s = .next { e with flt := { e.flt with stwAlive := true, stwKey := e.clk } } := by
  subst he
  rw [exec_aliveKey]
  exact congrArg Host.Outcome.next (if_pos hs)

theorem stewardWatchdog_exec (hs : e.stw = true) (hc : e.coreOn = true) {u : State}
    (hu : e.until_ (e.flt.stwKey + atLeast1 (e.fld 0x1A00 8 8) * 2000000) = u) :
    exec (.stewardWatchdog dt) s = .next ((({ u with nvm := { u.nvm with launchOk := false } }).present1 159).stewardStop) := by
  subst he hu
  rw [exec_stewardWatchdog, execStewardWatchdog, ← Nat.mul_assoc _ 10 200000]
  exact if_pos ⟨hs, hc⟩

section Start
variable (hs : e.stw = false) (hi : e.nvm.noImg = false) (hw : e.startWaits = false)
include hs hi hw

theorem stewardStart_exec_reset (hm : e.pwr.mode = .reset) (h6 : 6 ≤ e.pwr.step) :
    exec (.stewardStart dt) s = .next e.journalStart.stewardRun := by
  subst he
  rw [exec_stewardStart, execStewardStart]
  refine (if_neg ?_).trans (if_pos hm)
  simp [hs, hi, hw, hm, Nat.not_lt.mpr h6]

theorem stewardStart_exec_stopped (h1 : e.pwr.mode ≠ .ship) (h2 : e.pwr.mode ≠ .still) (hm : e.pwr.mode ≠ .reset) {r : Bool × State}
    (hr : e.loadImage = r) :
    exec (.stewardStart dt) s =
      .next (if r.1 = true then r.2.journalStart.stewardRun else { r.2 with nvm := { r.2.nvm with noImg := true, act := 0 } }) := by
  subst he
  rw [exec_stewardStart, execStewardStart]
  dsimp only
  rw [if_neg (by simp [hs, hi, hw, hm, h1, h2]), if_neg hm, hr]

end Start

theorem flowToggle_exec (hl : e.pwr.lpoRun = true) {u : State} (hu : e.until_ (e.flt.divAt + 98000) = u) :
    exec (.flowToggle dt) s =
      .next { u with flt :=
        { u.flt with
          divAt := u.clk, divHigh := !e.flt.divHigh, flow := !e.flt.divHigh && e.flowOk
          flowRun := e.flowOk && (!e.flt.divHigh || e.flt.flowRun) } } := by
  subst he hu
  rw [← flowOk_until _ ((s.elapse dt).flt.divAt + 98000)]
  rw [exec_flowToggle]
  exact if_pos hl

theorem flowDrop_exec :
    exec (.flowDrop dt) s = .next (if e.flowOk = true then e else { e with flt := { e.flt with flow := false, flowRun := false } }) := by
  subst he
  rw [exec_flowDrop]
  exact (apply_ite Host.Outcome.next ..).symm

end Timed

theorem flowOk_eq_false {e : State} (h : 2 ≤ e.maxClass ∨ e.flt.stwAlive = false ∨ e.pwr.lpoOk = false ∨ e.modeIn 3 10 = false) :
    e.flowOk = false := by
  unfold State.flowOk
  rcases h with h | h | h | h
  · simp [Nat.not_lt.mpr h]
  · simp [h]
  · simp [h]
  · simp [h]

/-! #### Classes and reactions (R355 to R357) -/

theorem baseClass_le (u : State) (i : Nat) : u.baseClass i ≤ 3 := Nat.le_of_lt_succ (Nat.mod_lt _ (by decide))

theorem baseReact_le (u : State) (i : Nat) : u.baseReact i ≤ 5 := Nat.min_le_left ..

theorem baseClass_le_eclass (u : State) (i : Nat) : u.baseClass i ≤ u.eclass i :=
  Nat.le_min.mpr ⟨baseClass_le u i, Nat.le_add_right ..⟩

theorem eclass_of_notEscalated {u : State} {i : Nat} (h : (u.fsrc i).esc = 0) : u.eclass i = u.baseClass i := by
  unfold State.eclass
  rw [h]
  exact Nat.min_eq_right (baseClass_le u i)

theorem classFloor_le : ∀ c, classFloor c ≤ 5
  | 0 => by decide
  | 1 => by decide
  | 2 => by decide
  | _ + 3 => by simp [classFloor]

theorem ereact_bounds (u : State) (i : Nat) : u.baseReact i ≤ u.ereact i ∧ u.ereact i ≤ 5 := by
  have hle := baseReact_le u i
  unfold State.ereact
  split
  · exact ⟨hle, Nat.le_refl 5⟩
  · split
    · exact ⟨Nat.le_refl _, hle⟩
    · exact ⟨Nat.le_max_left .., Nat.max_le.mpr ⟨hle, classFloor_le _⟩⟩

theorem ereact_of_notEscalated {u : State} {i : Nat} (h : (u.fsrc i).esc = 0) (hl : (u.fsrc i).lockDone = false) :
    u.ereact i = u.baseReact i := by
  unfold State.ereact
  rw [hl, if_neg (by decide), if_pos (eclass_of_notEscalated h)]

/-! #### The state of a source after a clear or a presentation (R357, R360, R364) -/

theorem fsrc_setFsrc {u : State} (hwf : Sparse.wf FltSrc.clear u.flt.src = true) (i j : Nat) (f : FltSrc) :
    (u.setFsrc i f).fsrc j = if j = i then f else u.fsrc j := Sparse.get_set_wf _ _ i j f hwf

/-- A source with its sticky bit set is not at its cleared value, so that every table lists it. -/
theorem fsrc_setFsrc_sticky (u : State) (i j : Nat) {f : FltSrc} (h : f.sticky = true) :
    (u.setFsrc i f).fsrc j = if j = i then f else u.fsrc j :=
  Sparse.get_set_of_ne _ _ i f j (by rintro rfl; exact absurd h (by decide))

theorem fsrc_record (u : State) (kind : RecKind) (i : Nat) (sec : Bool) (j : Nat) : (u.record kind i sec).fsrc j = u.fsrc j := by
  unfold State.record
  dsimp only
  split <;> rfl

section ClearSticky
variable {u : State} {i : Nat}

theorem clearSticky_kept (h : u.live i = true ∨ (u.fsrc i).sticky = false ∨ u.srcFresh 0x1A10 i = true) : u.clearSticky i = u := by
  refine if_pos ?_
  simpa [or_assoc] using h

/-- The collector's state of a source whose sticky bit is cleared (R360). -/
def FltSrc.unstuck (f : FltSrc) : FltSrc :=
  { f with sticky := false, esc := 0, lockDone := false, cnt := 0, winOpen := false, first := none, holdT := false, holdS := false }

variable (hl : u.live i = false) (hs : (u.fsrc i).sticky = true) (hf : u.srcFresh 0x1A10 i = false)
include hl hs hf

theorem clearSticky_clears :
    u.clearSticky i =
      ((u.cycMod (fun c => { c with cleared := (i, u.fsrc i) :: c.cleared })).setFsrc i (u.fsrc i).unstuck).record .cleared i false :=
  if_neg (by simp [hl, hs, hf])

theorem clearSticky_fsrc (hwf : Sparse.wf FltSrc.clear u.flt.src = true) (j : Nat) :
    (u.clearSticky i).fsrc j = if j = i then (u.fsrc i).unstuck else u.fsrc j := by
  rw [clearSticky_clears hl hs hf, fsrc_record]
  exact Sparse.get_set_wf _ _ i j _ hwf

theorem onlyIn_clearSticky : OnlyIn [.cyc, .flt] u (u.clearSticky i) := by
  rw [clearSticky_clears hl hs hf]
  exact ((onlyIn_cycMod u _).mono (by simp)).trans
    (((onlyIn_setFsrc _ i _).mono (by simp)).trans ((onlyIn_record _ _ i false).mono (by simp)))

end ClearSticky

section ClearSec
variable {u : State} {i : Nat}

theorem clearSec_kept (h : u.srcFresh 0x1A20 i = true) : u.clearSec i = u := if_pos h

theorem clearSec_fsrc (h : u.srcFresh 0x1A20 i = false) (hwf : Sparse.wf FltSrc.clear u.flt.src = true) (j : Nat) :
    (u.clearSec i).fsrc j = if j = i then { u.fsrc i with sec := false, secCnt := 0 } else u.fsrc j := by
  have hclear : u.clearSec i = u.setFsrc i { u.fsrc i with sec := false, secCnt := 0 } := if_neg (by simp [h])
  rw [hclear, fsrc_setFsrc hwf]

end ClearSec

theorem collect_off {u : State} (h : u.collectorOn = false) (l : List Nat) : u.collect l = u := if_pos (by simp [h])

/-- Sources that have been presented in the cycle are not presented again (R354). -/
theorem collect_shown {u : State} (h : u.collectorOn = true) {l : List Nat} (hl : ∀ j ∈ l, 160 ≤ j ∨ j ∈ u.nowCyc.shown) :
    u.collect l = u.cycMod id := by
  have hnone : (List.range 160).filter (fun i => l.contains i && !u.nowCyc.shown.contains i) = [] := by
    refine List.filter_eq_nil_iff.mpr fun i hi => ?_
    have hlt := List.mem_range.mp hi
    simp only [Bool.and_eq_true, List.contains_iff_mem, Bool.not_eq_true', not_and, Bool.not_eq_false]
    intro hmem
    rcases hl i hmem with hge | hshown
    · omega
    · simpa using hshown
  unfold State.collect
  rw [if_neg (by simp [h]), hnone]
  rfl

/-- The rest of a primary presentation once the source has been counted to `f` (R357). -/
def State.counted (s : State) (i n : Nat) (fresh : Bool) (f : FltSrc) : State :=
  let s := s.setFsrc i f
  let s := if fresh then (s.record .first i false).notify i false else s
  let s := if fresh && s.bit 0x1A00 7 then s.setFlag (s.fld 0x1A00 0 6) else s
  let s := s.setFsrc i { s.fsrc i with last := (s.tb.setWidth 32).toNat }
  if n ≤ f.cnt then
    let s := s.setFsrc i { s.fsrc i with winOpen := false }
    if s.eclass i < 3 then
      ((s.setFsrc i { s.fsrc i with esc := (s.fsrc i).esc + 1, escCnt := inc 255 (s.fsrc i).escCnt }).record
        .escalated i false).notify i false
    else if s.bit (0x1B00 + i) 31 && !(s.fsrc i).lockDone then
      ((s.setFsrc i { s.fsrc i with lockDone := true, escCnt := inc 255 (s.fsrc i).escCnt }).record
        .escalated i false).notify i false
    else s
  else s

/-- The collector's state of a source as a primary presentation counts it, with its window begun anew or not. -/
def FltSrc.counts (f : FltSrc) (anew : Bool) (tb : Tick) : FltSrc :=
  let f := if anew then { f with winOpen := true, winStart := tb.toNat, cnt := 0 } else f
  let f := { f with cnt := f.cnt + 1, notified := f.cnt + 1 }
  if !f.sticky then { f with sticky := true, first := some tb, firstReg := tb } else f

theorem primary_eq (u : State) (i : Nat) :
    u.primary i =
      let s := (u.unclear i).srcSet 0x1A10 i
      let anew := !(s.fsrc i).winOpen || s.winOver i
      let f := if anew then { s.fsrc i with winOpen := true, winStart := s.tbn, cnt := 0 } else s.fsrc i
      s.counted i (atLeast1 (s.fld (0x1B00 + i) 16 8)) (!f.sticky) ((s.fsrc i).counts anew s.tb) := rfl

theorem record_bit (u : State) (kind : RecKind) (i : Nat) (sec : Bool) (a k : Nat) : (u.record kind i sec).bit a k = u.bit a k := by
  unfold State.record
  dsimp only
  split <;> rfl

theorem record_tb (u : State) (kind : RecKind) (i : Nat) (sec : Bool) : (u.record kind i sec).tb = u.tb := by
  unfold State.record
  dsimp only
  split <;> rfl

theorem counted_first {u : State} {i n : Nat} {f : FltSrc} (hn : ¬n ≤ f.cnt) (hs : f.sticky = true) (h31 : u.bit 0x1A00 31 = false)
    (h7 : u.bit 0x1A00 7 = false) :
    u.counted i n true f = ((u.setFsrc i f).record .first i false).setFsrc i { f with last := (u.tb.setWidth 32).toNat } := by
  have hnotify : ((u.setFsrc i f).record .first i false).notify i false = (u.setFsrc i f).record .first i false := by
    unfold State.notify
    rw [record_bit, show (u.setFsrc i f).bit 0x1A00 31 = false from h31]
    rfl
  have hflag : (true && ((u.setFsrc i f).record .first i false).bit 0x1A00 7) = false := by
    rw [record_bit]
    exact h7
  have hsrc : ((u.setFsrc i f).record .first i false).fsrc i = f := by rw [fsrc_record, fsrc_setFsrc_sticky u i i hs, if_pos rfl]
  unfold State.counted
  dsimp only
  rw [if_neg hn, if_pos rfl, hnotify, hflag, if_neg (by decide), hsrc, record_tb]
  rfl

section Primary
variable {u : State} {i : Nat} (hs : (u.fsrc i).sticky = false) (hw : (u.fsrc i).winOpen = false) (hn : 2 ≤ u.fld (0x1B00 + i) 16 8)
  (h31 : u.bit 0x1A00 31 = false) (h7 : u.bit 0x1A00 7 = false) (hc : ∀ x ∈ u.nowCyc.cleared, x.1 ≠ i)
include hs hw hn h31 h7 hc

/-- The collector's state of a source at its first presentation, when the timebase reads `tb` (R357). -/
def FltSrc.firstShown (f : FltSrc) (tb : Tick) : FltSrc :=
  { f with winOpen := true, winStart := tb.toNat, cnt := 1, notified := 1, sticky := true, first := some tb, firstReg := tb }

theorem primary_first :
    u.primary i =
      (((u.srcSet 0x1A10 i).setFsrc i ((u.fsrc i).firstShown u.tb)).record .first i false).setFsrc i
        { (u.fsrc i).firstShown u.tb with last := (u.tb.setWidth 32).toNat } := by
  have hun : u.unclear i = u := by
    have hnone : u.nowCyc.cleared.find? (fun e => decide (e.1 = i)) = none :=
      List.find?_eq_none.mpr fun x hx => by simpa using hc x hx
    unfold State.unclear
    rw [hnone]
  have hf : (u.srcSet 0x1A10 i).fsrc i = u.fsrc i := rfl
  have hcount : ¬atLeast1 ((u.srcSet 0x1A10 i).fld (0x1B00 + i) 16 8) ≤ ((u.fsrc i).firstShown u.tb).cnt := by
    have h2 : 2 ≤ (u.srcSet 0x1A10 i).fld (0x1B00 + i) 16 8 := hn
    unfold atLeast1
    rw [if_neg (by omega)]
    exact Nat.not_le.mpr h2
  have hfirst : (u.fsrc i).counts true u.tb = (u.fsrc i).firstShown u.tb := by
    unfold FltSrc.counts
    simp only [hs, Bool.not_false, if_true]
    rfl
  rw [primary_eq, hun]
  simp only [hf, hw, hs, Bool.not_false, Bool.true_or, if_true]
  exact (congrArg _ hfirst).trans (counted_first hcount rfl h31 h7)

theorem onlyIn_primary_first : OnlyIn [.cyc, .flt] u (u.primary i) := by
  rw [primary_first hs hw hn h31 h7 hc]
  exact ((onlyIn_cycMod u _).mono (by simp)).trans (((onlyIn_setFsrc _ i _).mono (by simp)).trans
    (((onlyIn_record _ _ i false).mono (by simp)).trans ((onlyIn_setFsrc _ i _).mono (by simp))))

theorem primary_fsrc (j : Nat) :
    (u.primary i).fsrc j =
      if j = i then { (u.fsrc i).firstShown u.tb with last := (u.tb.setWidth 32).toNat } else u.fsrc j := by
  rw [primary_first hs hw hn h31 h7 hc, fsrc_setFsrc_sticky _ i j rfl]
  refine ite_congr rfl (fun _ => rfl) fun hj => ?_
  rw [fsrc_record, fsrc_setFsrc_sticky _ i j rfl, if_neg hj]
  rfl

theorem primary_results :
    ((u.primary i).fsrc i).sticky = true ∧ ((u.primary i).fsrc i).cnt = 1 ∧ ((u.primary i).fsrc i).first = some u.tb ∧
      ((u.primary i).fsrc i).winOpen = true ∧ ((u.primary i).fsrc i).winStart = u.tbn ∧ ((u.primary i).fsrc i).esc = (u.fsrc i).esc ∧
      (∀ j, j ≠ i → (u.primary i).fsrc j = u.fsrc j) ∧ OnlyIn [.cyc, .flt] u (u.primary i) := by
  have hsrc := primary_fsrc hs hw hn h31 h7 hc
  rw [hsrc i, if_pos rfl]
  exact ⟨rfl, rfl, rfl, rfl, rfl, rfl, fun j hj => (hsrc j).trans (if_neg hj), onlyIn_primary_first hs hw hn h31 h7 hc⟩

end Primary

/-- Settles O54: each command is one branch of its definition, and a clear or a first presentation replaces the state of its source. -/
theorem faultCollector : Obligations.FaultCollector := by
  unfold Obligations.FaultCollector
  refine ⟨fun s dt rq k v => ⟨?_, ?_, ?_⟩, fun s dt => ⟨?_, ?_, ?_, ?_, ?_, ?_, ?_, ?_, ?_, ?_⟩, fun u i => ?_, fun u i => ⟨?_, ?_, ?_, ?_, ?_, ?_, ?_⟩⟩
  · exact fun hk h => stickyClear_exec rfl hk h
  · exact fun hk h => secondaryClear_exec rfl hk h
  · exact fun h => clearAll_exec rfl h
  · exact fun h hs => shadowEnd_exec_balance rfl hs rfl
  · exact fun h hs => shadowEnd_exec_mode rfl hs rfl
  · exact fun i hi ho => faultWindowExpiry_exec rfl hi ho rfl
  · exact fun hs => aliveKey_exec rfl hs
  · exact fun hs hc => stewardWatchdog_exec rfl hs hc rfl
  · intro hs hi hw h1 h2
    refine ⟨fun hm h6 => stewardStart_exec_reset rfl hs hi hw hm h6, fun hm => ⟨fun hr => ?_, fun hr => ?_⟩⟩
    · exact (stewardStart_exec_stopped rfl hs hi hw h1 h2 hm rfl).trans (by rw [if_pos hr])
    · exact (stewardStart_exec_stopped rfl hs hi hw h1 h2 hm rfl).trans (by rw [if_neg (by simp [hr])])
  · exact fun hl => flowToggle_exec rfl hl rfl
  · exact fun h => (flowDrop_exec rfl).trans (by rw [if_pos h])
  · exact fun h => (flowDrop_exec rfl).trans (by rw [if_neg (by simp [h])])
  · exact flowOk_eq_false
  · obtain ⟨hbase, hmax⟩ := ereact_bounds u i
    exact ⟨baseClass_le_eclass u i, Nat.min_le_left .., hbase, hmax,
      fun hesc hlock => ⟨eclass_of_notEscalated hesc, ereact_of_notEscalated hesc hlock⟩⟩
  · exact clearSticky_kept
  · intro hl hs hf hwf
    have hsrc := clearSticky_fsrc hl hs hf hwf
    dsimp only
    rw [hsrc i, if_pos rfl]
    exact ⟨rfl, rfl, rfl, rfl, rfl, rfl, fun j hj => (hsrc j).trans (if_neg hj), onlyIn_clearSticky hl hs hf⟩
  · exact clearSec_kept
  · intro hf hwf
    have hsrc := clearSec_fsrc hf hwf
    dsimp only
    rw [hsrc i, if_pos rfl]
    exact ⟨rfl, rfl, rfl, fun j hj => (hsrc j).trans (if_neg hj)⟩
  · exact fun h l => collect_off h l
  · exact fun h l hl => collect_shown h hl
  · exact fun hs hw hn h31 h7 hc => primary_results hs hw hn h31 h7 hc

end Sys2Proof.Machine
end

section
/-! ### The ledger (O55) -/

namespace Sys2Proof.Machine

/-! #### Bytes written to the memory, and bytes read back -/

theorem length_leBytes : ∀ n x, (leBytes n x).length = n
  | 0, _ => rfl
  | n + 1, x => congrArg (· + 1) (length_leBytes n (x / 256))

theorem memGet_memSet_wf {m : List Host.Cell} (h : Memory.wf m = true) (k i : Nat) (v : Byte) :
    memGet (memSet m k v) i = if i = k then v else memGet m i := memGet_memSet m none k v i h

theorem memGet_memWrite : ∀ (b : Bytes) {m : List Host.Cell} (_ : Memory.wf m = true) (a i : Nat),
    memGet (memWrite m a b) i = if a ≤ i ∧ i < a + b.length then byteAt b (i - a) else memGet m i
  | [], _, _, a, i => (if_neg (by simp)).symm
  | v :: t, m, h, a, i => by
    rw [memWrite, memGet_memWrite t (memSet_wf m a v h) (a + 1) i, memGet_memSet_wf h, List.length_cons]
    by_cases hi : i = a
    · subst hi
      rw [if_neg (by omega), if_pos rfl, if_pos (by omega), Nat.sub_self]
      rfl
    · rw [if_neg hi]
      by_cases hin : a + 1 ≤ i ∧ i < a + 1 + t.length
      · obtain ⟨k, rfl⟩ := Nat.exists_eq_add_of_le hin.1
        rw [if_pos hin, if_pos (by omega), Nat.add_sub_cancel_left, show a + 1 + k - a = k + 1 by omega]
        rfl
      · rw [if_neg hin, if_neg (by omega)]

theorem memGet_memWrite_in {m : List Host.Cell} (h : Memory.wf m = true) (a : Nat) {b : Bytes} {k : Nat} (hk : k < b.length) :
    memGet (memWrite m a b) (a + k) = byteAt b k := by
  rw [memGet_memWrite b h, if_pos (by omega), Nat.add_sub_cancel_left]

theorem memGet_memWrite_out {m : List Host.Cell} (h : Memory.wf m = true) {a : Nat} {b : Bytes} {i : Nat}
    (hi : i < a ∨ a + b.length ≤ i) : memGet (memWrite m a b) i = memGet m i := by
  rw [memGet_memWrite b h, if_neg (by omega)]

theorem mramStore_mram (u : State) (a : Nat) (b : Bytes) : (u.mramStore a b).nvm.mram = memWrite u.nvm.mram a b := rfl

theorem onlyIn_mramStore (u : State) (a : Nat) (b : Bytes) : OnlyIn [.nvm, .ecc] u (u.mramStore a b) :=
  (onlyIn_wordsDone u a b.length).trans ((onlyIn_setNvm _ _).mono (by simp))

/-! #### An entry and its slot (R414, Table 17.2) -/

theorem take_ledgEntBytes (x : LedgEnt) (q : Nat) : (x.bytes q).take 4 = leBytes 4 q := by
  simp only [LedgEnt.bytes, List.append_assoc]
  exact List.take_left' (length_leBytes 4 q)

theorem length_ledgEntBytes {x : LedgEnt} (h : x.data.length = 12) (q : Nat) : (x.bytes q).length = 32 := by
  simp [LedgEnt.bytes, length_leBytes, h]

theorem ledgPut_eq {u : State} {i q : Nat} (hi : (u.nvm.head + 1) % 2048 = i) (hq : (u.nvm.lastSeq + 1) % 2 ^ 32 = q) (x : LedgEnt) :
    u.ledgPut x =
      let w := u.mramStore (0xA4000 + 32 * i) (x.bytes q)
      { w with nvm := { w.nvm with head := i, lastSeq := q, wrapped := w.nvm.wrapped || decide (i = 2047) } } := by
  unfold State.ledgPut
  dsimp only
  rw [hi, hq]
  rfl

theorem onlyIn_ledgPut (u : State) (x : LedgEnt) : OnlyIn [.nvm, .ecc] u (u.ledgPut x) := by
  rw [ledgPut_eq rfl rfl]
  exact (onlyIn_mramStore u _ _).trans ((onlyIn_setNvm _ _).mono (by simp))

theorem ledgPut_mram {u : State} {i q : Nat} (hi : (u.nvm.head + 1) % 2048 = i) (hq : (u.nvm.lastSeq + 1) % 2 ^ 32 = q) (x : LedgEnt) :
    (u.ledgPut x).nvm.head = i ∧ (u.ledgPut x).nvm.lastSeq = q ∧
      (u.ledgPut x).nvm.mram = memWrite u.nvm.mram (0xA4000 + 32 * i) (x.bytes q) := by
  rw [ledgPut_eq hi hq]
  dsimp only
  refine ⟨rfl, rfl, ?_⟩
  rw [mramStore_mram]

/-! #### What is due (R366, R414, R415) -/

section LedgerWrite
variable {s e : State} {dt : Nat} (he : (s.elapse dt).feedsMram = e) (hs : e.stw = true) (hm : e.mramHeld = false)
include he hs hm

theorem ledgerWrite_exec_due {x : LedgEnt} {rest : List LedgEnt} (hd : e.nvm.ledgDue = x :: rest) :
    exec (.ledgerWrite dt) s = .next (({ e with nvm := { e.nvm with ledgDue := rest } }).flushWrites.ledgPut x) := by
  subst he
  rw [exec_ledgerWrite, execLedgerWrite]
  refine (if_pos ⟨hs, by simp [hm]⟩).trans ?_
  simp only [hd]

theorem ledgerWrite_exec_lost (hd : e.nvm.ledgDue = []) (hl : e.nvm.lostSeen < e.flt.lost) :
    exec (.ledgerWrite dt) s =
      .next (({ e with nvm := { e.nvm with lostSeen := e.flt.lost } }).flushWrites.ledgPut
        ⟨8, 0xFFFF, e.tb, leBytes 1 e.flt.lost ++ leBytes 11 0⟩) := by
  subst he
  rw [exec_ledgerWrite, execLedgerWrite]
  refine (if_pos ⟨hs, by simp [hm]⟩).trans ?_
  simp only [hd]
  exact if_pos hl

theorem ledgerWrite_exec_record {r : FltRec} {rest : List FltRec} (hd : e.nvm.ledgDue = []) (hl : e.flt.lost ≤ e.nvm.lostSeen)
    (hq : e.flt.queue = r :: rest) :
    exec (.ledgerWrite dt) s = .next (({ e with flt := { e.flt with queue := rest } }).flushWrites.ledgPut r.entry) := by
  subst he
  rw [exec_ledgerWrite, execLedgerWrite]
  refine (if_pos ⟨hs, by simp [hm]⟩).trans ?_
  simp only [hd, if_neg (Nat.not_lt.mpr hl), hq]

end LedgerWrite

/-- Settles O55: what is due decides the command, and the entry's bytes are read back by the law of bytes written in a row. -/
theorem ledgerEntries : Obligations.LedgerEntries := by
  unfold Obligations.LedgerEntries
  refine ⟨fun s dt hs hm => ⟨?_, ?_, ?_⟩, fun u x hwf hx => ?_⟩
  · exact fun x rest hd => ledgerWrite_exec_due rfl hs hm hd
  · exact fun hd hl => ledgerWrite_exec_lost rfl hs hm hd hl
  · exact fun r rest hd hl hq => ledgerWrite_exec_record rfl hs hm hd hl hq
  · intro i q t
    obtain ⟨hhead, hseq, hmram⟩ := ledgPut_mram (i := i) (q := q) rfl rfl x
    have hlen := length_ledgEntBytes hx q
    refine ⟨hhead, hseq, ?_, fun k hk => ?_, fun a ha => ?_, take_ledgEntBytes x q, hlen, onlyIn_ledgPut u x⟩
    · rw [hmram]
      exact memWrite_wf _ _ _ hwf
    · rw [hmram]
      exact memGet_memWrite_in hwf _ (by omega)
    · rw [hmram]
      exact memGet_memWrite_out hwf (by omega)

end Sys2Proof.Machine
end

section
/-! ### The self-test (O57) -/

namespace Sys2Proof.Machine

/-! #### The ends of slices (R388, R390 to R397) -/

section Slices
variable {s c : State} {dt : Nat} (hc : State.campNext 420 (s.elapse dt) = c) {unit : Nat} {x : Slice} (hx : c.sliceOf unit = some x)
include hc hx

theorem sliceEnd_exec (hcut : c.mustCut x = none) (hclash : c.sliceClash unit = false) (hdue : c.clk ≤ x.since + sliceBudget unit)
    (resp : List Word) (meas : SliceMeas) :
    exec (.sliceEnd dt unit resp meas) s =
      .next (c.endSlice x (if c.measOk unit meas = true ∧ misr resp = Config.goldenSig (kindOf unit) then 1 else 2) 0 (some (misr resp))) := by
  subst hc
  rw [exec_sliceEnd, execSliceEnd]
  simp only [hx]
  exact if_neg (by simp [hcut, hclash, Nat.not_lt.mpr hdue])

theorem sliceBudgetExpiry_exec :
    exec (.sliceBudgetExpiry dt unit) s = .next ((c.until_ (x.since + sliceBudget unit)).endSlice x 3 5 none) := by
  subst hc
  rw [exec_sliceBudgetExpiry, execSliceBudgetExpiry]
  simp only [hx]

theorem sliceCut_exec {cut : Nat} (h2 : 2 ≤ cut) (hcut : c.mustCut x = some cut) (reinit : Nat) :
    exec (.sliceCut dt unit cut reinit) s = .next (c.endSlice x 3 cut none) := by
  subst hc
  rw [exec_sliceCut, execSliceCut]
  simp only [hx]
  exact (if_neg (by omega)).trans (if_pos ⟨by omega, hcut⟩)

section Served
variable (hclash : c.sliceClash unit = true) {u : State} (hu : c.endSlice x 3 1 none = u) (reinit : Nat)
include hclash hu

theorem sliceCut_exec_sameCycle (hk : kindOf unit = 4 ∨ kindOf unit = 6 ∨ kindOf unit = 8) :
    exec (.sliceCut dt unit 1 reinit) s = .next (u.serveLate unit) := by
  subst hc hu
  rw [exec_sliceCut, execSliceCut]
  simp only [hx]
  refine (if_pos ⟨trivial, hclash⟩).trans (if_neg ?_)
  rcases hk with hk | hk | hk <;> simp [hk]

theorem sliceCut_exec_late (hk : ¬(kindOf unit = 4 ∨ kindOf unit = 6 ∨ kindOf unit = 8)) {v : State}
    (hv : (u.elapse (min reinit 2000)).serveLate unit = v) {r : Nat × Nat} (hr : c.lateReqs unit x.since = r) :
    exec (.sliceCut dt unit 1 reinit) s =
      .next { v with bst :=
        { v.bst with lateN := min 65535 (v.bst.lateN + r.1), lateMax := max v.bst.lateMax (min 65535 (v.clk - r.2)) } } := by
  subst hc hv hu
  rw [exec_sliceCut, execSliceCut]
  simp only [hx]
  refine (if_pos ⟨trivial, hclash⟩).trans ?_
  rw [hr]
  refine if_pos ?_
  simpa [not_or, and_assoc] using hk

end Served

end Slices

/-! #### Background and confirming slices (R393, R402) -/

/-- A turn of the background scheduler that has come (R393, R394): the unit that is tried again, else the next one. -/
def State.bgTurn (s : State) : Out :=
  let again := match s.bst.bgUnit with
    | some u => if (s.unitOf u).last = 3 ∧ s.bst.tries < s.fld 0x1D01 0 4 ∧ s.bgDue u then some u else none
    | none => none
  match again with
  | some u => .next (({ s with bst := { s.bst with tries := s.bst.tries + 1 } }).startTest u .back)
  | none =>
    match s.bgNext with
    | some u =>
      .next (({ s with bst := { s.bst with bgUnit := some u, tries := 0, next := if u = 367 then 52 else u + 1 } }).startTest u .back)
    | none => .next s

section BgTurn
variable {v : State} (hunit : v.bst.bgUnit = none)
include hunit

theorem bgTurn_none (hn : v.bgNext = none) : v.bgTurn = .next v := by
  unfold State.bgTurn
  simp only [hunit, hn]

theorem bgTurn_some {n : Nat} (hn : v.bgNext = some n) :
    v.bgTurn =
      .next (({ v with bst := { v.bst with bgUnit := some n, tries := 0, next := if n = 367 then 52 else n + 1 } }).startTest n .back) := by
  unfold State.bgTurn
  simp only [hunit, hn]

end BgTurn

/-- The wait for a turn changes nothing about the unit that is tried again. -/
theorem bgUnit_turned (e : State) (t : Nat) :
    ({ e.until_ t with bst := { (e.until_ t).bst with bgAt := (e.until_ t).clk } } : State).bst.bgUnit = e.bst.bgUnit := rfl

section Background
variable {s e : State} {dt : Nat} (he : s.elapse dt = e)
include he

theorem backgroundSlice_exec_off (h : e.bgOn = false ∨ e.bgBusy = true) : exec (.backgroundSlice dt) s = .next e := by
  subst he
  rw [exec_backgroundSlice, execBackgroundSlice]
  refine if_pos ?_
  simpa using h

section Turn
variable (hon : e.bgOn = true) (hfree : e.bgBusy = false) {u v : State}
  (hu : e.until_ (e.bst.bgAt + atLeast1 (e.fld 0x1D01 16 8) * 2000000) = u) (hv : { u with bst := { u.bst with bgAt := u.clk } } = v)
include hon hfree hu hv

theorem backgroundSlice_exec : exec (.backgroundSlice dt) s = v.bgTurn := by
  subst he hv hu
  rw [exec_backgroundSlice, execBackgroundSlice, ← Nat.mul_assoc _ 10 200000]
  exact if_neg (by simp [hon, hfree])

end Turn

end Background

section Confirm
variable {s h : State} {dt : Nat} (hh : (s.elapse dt).handsDue = h) (hs : h.stw = true) (hm : h.sliceMode = true)
  (hc : h.bst.camp = none) {u : State}
  (hu : ((List.range 52).filter (fun n => h.confDue n && !h.confReady n)).foldl State.confAsk h = u)
include hh hs hm hc hu

theorem confirmSlice_exec_some {n : Nat} (hn : (List.range 368).find? (fun n => u.confDue n && u.confReady n) = some n) :
    exec (.confirmSlice dt) s = .next (u.startTest n .back) := by
  subst hh hu
  rw [exec_confirmSlice, execConfirmSlice]
  refine (if_neg (by simp [hs, hm, hc])).trans ?_
  simp only [hn]

theorem confirmSlice_exec_none (hn : (List.range 368).find? (fun n => u.confDue n && u.confReady n) = none) :
    exec (.confirmSlice dt) s = .next u := by
  subst hh hu
  rw [exec_confirmSlice, execConfirmSlice]
  refine (if_neg (by simp [hs, hm, hc])).trans ?_
  simp only [hn]

end Confirm

/-! #### The repair map (R406) -/

section MapStore
variable {s e : State} {dt : Nat} (he : s.elapse dt = e) (hp : e.bst.mapPend = true) (hs : e.stw = true) (hm : e.mramHeld = false)
  (hf : e.noFeed)

/-- The stored copy of the repair map that is in use (R406). -/
def State.mapInUse (s : State) : MapCopy := if s.bst.useB = true then s.bst.copyB else s.bst.copyA

/-- The pages of the map's copy not in use written. -/
def State.mapPages (s : State) : State := s.wordsDone (if s.bst.useB then 0xB4800 else 0xB4C00) 0x400

/-- A new copy of the map in the place of the one not in use. -/
def State.mapPut (s : State) (new : MapCopy) : State :=
  { s.mapPages with bst := if (!s.bst.useB) = true then { s.bst with copyB := new } else { s.bst with copyA := new } }

/-- A copy put is the one not in use, and the one in use stays (R406). -/
theorem mapPut_copies (s : State) (new : MapCopy) :
    (if (!s.bst.useB) = true then (s.mapPut new).bst.copyB else (s.mapPut new).bst.copyA) = new ∧
      (if s.bst.useB = true then (s.mapPut new).bst.copyB else (s.mapPut new).bst.copyA) = s.mapInUse ∧
      (s.mapPut new).bst.useB = s.bst.useB ∧ (s.mapPut new).bst.mapPend = s.bst.mapPend := by
  have hbst : (s.mapPut new).bst = if (!s.bst.useB) = true then { s.bst with copyB := new } else { s.bst with copyA := new } := rfl
  unfold State.mapInUse
  rw [hbst]
  cases h : s.bst.useB
  · exact ⟨rfl, rfl, h, rfl⟩
  · exact ⟨rfl, rfl, h, rfl⟩

theorem onlyIn_mapPut (s : State) (new : MapCopy) : OnlyIn [.bst, .nvm, .ecc] s (s.mapPut new) :=
  ((onlyIn_wordsDone s _ _).mono (by simp)).trans ((onlyIn_setBst s.mapPages _).mono (by simp))

include he hp hs hm hf

theorem repairMapStore_exec (ok : Bool) {w : State} (hw : e.mapPut ⟨ok, (e.mapInUse.gen + 1) % 2 ^ 32, e.bst.entries⟩ = w) :
    exec (.repairMapStore dt ok) s =
      .next (if ok = true then { w with bst := { w.bst with useB := !e.bst.useB, mapPend := false } } else w) := by
  have hpage : e.pageDone (if e.bst.useB then 0xB4800 else 0xB4C00) 0x400 = e.mapPages := by
    unfold State.pageDone
    rw [feedsMram_id hf]
    rfl
  subst he hw
  rw [exec_repairMapStore, execRepairMapStore]
  refine (if_pos ⟨hp, hs, by simp [hm]⟩).trans ?_
  rw [hpage]
  rfl

end MapStore

/-! #### The control register (R398, R403, R408) -/

theorem fld_or_above {w x : Word} {len : Nat} (h : len ≤ 32) (hw : fld w 0 len = 0) : fld (w ||| x) 0 len = fld x 0 len := by
  rw [fld_zero_eq _ h] at hw ⊢
  rw [fld_zero_eq _ h, BitVec.and_or_distrib_right, BitVec.eq_of_toNat_eq (y := 0#32) hw, BitVec.zero_or]

/-- The word of a repair request: REPAIR and the unit. -/
theorem repairWord {unit : Nat} (h : unit < 512) {v : Word} (hv : putb true 30 ||| put unit 0 9 = v) :
    fld v 0 9 = unit ∧ v.getLsbD 31 = false ∧ v.getLsbD 30 = true ∧ v.getLsbD 29 = false := by
  have hbit (i : Nat) (hi : 9 ≤ i) : v.getLsbD i = (putb true 30).getLsbD i := by
    rw [← hv, BitVec.getLsbD_or, getLsbD_put_above unit 0 9 hi (by decide), Bool.or_false]
  have hunit : fld v 0 9 = unit := by
    rw [← hv, fld_or_above (by decide) (by decide), fld_put_zero unit (by decide)]
    exact Nat.mod_eq_of_lt h
  exact ⟨hunit, hbit 31 (by decide), hbit 30 (by decide), hbit 29 (by decide)⟩

section Writes
variable {s e : State} {dt : Nat} (he : s.elapse dt = e) {rq : Requester}
include he

/-- A write of BST_CTRL. -/
theorem bstCtrl_put {v : Word} (h : e.accepts rq 0x1D00 v) {u : State} (hu : e.wrote rq 0x1D00 v = u) :
    s.put dt rq 0x1D00 v = .next ((u.bstWrite rq v).answers .ok []) := by
  subst hu
  rw [put_high he h (by decide) (by decide) (by decide) (by decide)]
  rfl

theorem campaign_exec (h : e.accepts rq 0x1D00 (putb true 31)) {u : State} (hu : e.wrote rq 0x1D00 (putb true 31) = u) :
    exec (.campaign dt rq) s = .next ((u.campStart rq).answers .ok []) := by
  rw [exec_campaign, execCampaign, bstCtrl_put he h hu]
  rfl

theorem bstCounterClear_exec (h : e.accepts rq 0x1D00 (putb true 29)) {u : State} (hu : e.wrote rq 0x1D00 (putb true 29) = u) :
    exec (.bstCounterClear dt rq) s =
      .next ({ u with bst := { u.bst with count := 0, fails := 0, incs := 0, lateN := 0, lateMax := 0 } }.answers .ok []) := by
  rw [exec_bstCounterClear, execBstCounterClear, bstCtrl_put he h hu]
  rfl

theorem repair_exec {unit : Nat} (hunit : unit < 512) {v : Word} (hv : putb true 30 ||| put unit 0 9 = v) (h : e.accepts rq 0x1D00 v)
    {u : State} (hu : e.wrote rq 0x1D00 v = u) :
    exec (.repair dt rq unit) s = .next ((if (u.unitOf unit).conf = true then u.repairUnit unit 5 else u).answers .ok []) := by
  obtain ⟨hfld, h31, h30, h29⟩ := repairWord hunit hv
  rw [exec_repair, execRepair, hv, bstCtrl_put he h hu, State.bstWrite, hfld, h31, h30, h29]
  simp only [Bool.false_eq_true, if_false, Bool.true_and]

end Writes

theorem campStart_mode {u : State} (h : u.pwr.mode ≠ .selftest) (rq : Requester) :
    u.campStart rq = { u with bst := { u.bst with startRes := 2 } } := if_pos h

theorem campStart_busy {u : State} (h : u.pwr.mode = .selftest) (ho : (u.oper 2).isSome = true) (rq : Requester) :
    u.campStart rq = { u with bst := { u.bst with startRes := 3 } } := (if_neg (not_not.mpr h)).trans (if_pos ho)

/-! #### A slice and its unit (R388, R389, R392, R408) -/

/-- The end of a slice with PASS as the counters and FLT registers show it (R408). -/
def State.passNoted (s : State) (n cut : Nat) : State :=
  { s with bst :=
    { s.bst with
      slices := s.bst.slices.filter (fun x => decide (x.unit ≠ n)), count := (s.bst.count + 1) % 65536
      lastKind := kindOf n, lastRes := 1, lastCut := cut, lastUnit := n } }

/-- What is kept for a unit whose slice has ended with PASS, in a campaign or outside one. -/
def UnitRes.passed (r : UnitRes) (camp : Bool) (sig : Option Word) : UnitRes :=
  { r with last := 1, camp := if camp then 1 else r.camp, sig := sig.getD r.sig }

/-- No page is under test any more where the unit was one. -/
def State.pageBack (s : State) (n : Nat) : State :=
  if s.bsn.testPage = some (n - 64) ∧ kindOf n = 4 then { s with bsn := { s.bsn with testPage := none } } else s

theorem sliceOver_eq (u : State) (n cut : Nat) (sig : Option Word) :
    u.sliceOver n 1 cut sig =
      ((u.passNoted n cut).setUnit n (fun r =>
        r.passed (match u.sliceOf n with | some x => decide (x.of_ = SliceOf.camp) | none => false) sig)).pageBack n := rfl

theorem pageBack_bst (s : State) (n : Nat) : (s.pageBack n).bst = s.bst := by
  unfold State.pageBack
  split <;> rfl

theorem onlyIn_pageBack (s : State) (n : Nat) : OnlyIn [.bsn] s (s.pageBack n) := .ite (onlyIn_setBsn s _) .refl

theorem unitOf_passed (s : State) (n : Nat) (camp : Bool) (sig : Option Word) (m : Nat) :
    (s.setUnit n (fun r => r.passed camp sig)).unitOf m = if m = n then (s.unitOf n).passed camp sig else s.unitOf m :=
  Sparse.get_set_of_ne _ _ n _ m (fun h => absurd (congrArg UnitRes.last h) Nat.one_ne_zero)

theorem sliceOver_pass {u t : State} {n cut : Nat} {sig : Option Word} (ht : u.sliceOver n 1 cut sig = t) :
    (t.unitOf n).last = 1 ∧ t.sliceOf n = none ∧ t.bst.count = (u.bst.count + 1) % 65536 ∧ t.bst.fails = u.bst.fails ∧
      t.bst.lastUnit = n ∧ (∀ m, m ≠ n → t.unitOf m = u.unitOf m) ∧ OnlyIn [.bst, .bsn] u t := by
  rw [sliceOver_eq] at ht
  generalize (match u.sliceOf n with | some x => decide (x.of_ = SliceOf.camp) | none => false) = camp at ht
  subst ht
  have hunit (m : Nat) : (((u.passNoted n cut).setUnit n (fun r => r.passed camp sig)).pageBack n).unitOf m =
      if m = n then (u.unitOf n).passed camp sig else u.unitOf m := by
    unfold State.unitOf
    rw [pageBack_bst]
    exact unitOf_passed (u.passNoted n cut) n camp sig m
  refine ⟨?_, ?_, ?_, ?_, ?_, fun m hm => (hunit m).trans (if_neg hm), ?_⟩
  · rw [hunit n, if_pos rfl]
    rfl
  · unfold State.sliceOf
    rw [pageBack_bst]
    refine List.find?_eq_none.mpr fun x hx => ?_
    have hne := (List.mem_filter.mp hx).2
    simpa using hne
  · rw [pageBack_bst]
    rfl
  · rw [pageBack_bst]
    rfl
  · rw [pageBack_bst]
    rfl
  · exact ((onlyIn_setBst u _).mono (by simp)).trans
      (((onlyIn_setBst (u.passNoted n cut) _).mono (by simp)).trans ((onlyIn_pageBack _ n).mono (by simp)))

theorem kindOf_modulator {n : Nat} (h : kindOf n = 3) : n < 64 := by
  unfold kindOf at h
  split_ifs at h <;> omega

theorem kindOf_page {n : Nat} (h : kindOf n = 4) : 64 ≤ n := by
  unfold kindOf at h
  split_ifs at h <;> omega

theorem kindOf_switch {n : Nat} (h : kindOf n = 7) : 368 ≤ n ∧ n < 392 := by
  unfold kindOf at h
  split_ifs at h <;> omega

/-- A slice of a unit that is no result page is noted, and that is all. -/
theorem startSlice_noPage {n : Nat} (h : kindOf n ≠ 4) (u : State) (o : SliceOf) :
    u.startSlice n o = { u with bst := { u.bst with slices := u.bst.slices ++ [⟨n, u.clk, o⟩] } } := if_neg h

theorem startSlice_slices (u : State) (n : Nat) (o : SliceOf) : (u.startSlice n o).bst.slices = u.bst.slices ++ [⟨n, u.clk, o⟩] := by
  unfold State.startSlice
  dsimp only
  split <;> rfl

theorem onlyIn_startSlice {n : Nat} (h : kindOf n ≠ 4) (u : State) (o : SliceOf) : OnlyIn [.bst] u (u.startSlice n o) := by
  rw [startSlice_noPage h]
  exact onlyIn_setBst u _

/-- Entries of a table that a filter keeps are found as before. -/
theorem Sparse.get_filter {α : Type} (d : α) (p : Nat → Bool) {k : Nat} (hk : p k = true) :
    ∀ t : Sparse α, Sparse.get d (t.filter (fun e => p e.1)) k = Sparse.get d t k
  | [] => rfl
  | (n, v) :: t => by
    by_cases hn : n = k
    · subst hn
      rw [List.filter_cons_of_pos (by exact hk)]
      simp [Sparse.get]
    · by_cases hp : p n = true
      · rw [List.filter_cons_of_pos (by exact hp)]
        simp [Sparse.get, hn, Sparse.get_filter d p hk t]
      · rw [List.filter_cons_of_neg (by exact hp)]
        simp [Sparse.get, hn, Sparse.get_filter d p hk t]

theorem startSlice_page {n : Nat} (h : kindOf n = 4) (u : State) (o : SliceOf) :
    (u.startSlice n o).bsn.testPage = some (n - 64) ∧
      ∀ i, i < (n - 64) * 256 ∨ (n - 63) * 256 ≤ i → (u.startSlice n o).sramWord i = u.sramWord i := by
  unfold State.startSlice
  dsimp only
  rw [if_pos h]
  refine ⟨rfl, fun i hi => ?_⟩
  have hkept : (!(decide ((n - 64) * 256 ≤ i) && decide (i < (n - 63) * 256))) = true := by
    simp only [Bool.not_eq_true', Bool.and_eq_false_iff, decide_eq_false_iff_not]
    omega
  have hget := Sparse.get_filter none (fun k => !(decide ((n - 64) * 256 ≤ k) && decide (k < (n - 63) * 256))) hkept u.bsn.sram
  rw [sramWord_eq, sramWord_eq]
  exact congrArg (fun w => w.getD (Config.sramWord 0 u.resets i)) hget

theorem startTest_modulator {n : Nat} (h : kindOf n = 3) (u : State) (o : SliceOf) : ((u.startTest n o).modul n).decim = none := by
  have ht : u.startTest n o = (u.startSlice n o).stopDecim n := by
    unfold State.startTest
    simp only [h]
  rw [ht]
  refine (congrArg Modul.decim (vget_vmod _ _ n n _)).trans ?_
  rw [if_pos ⟨rfl, kindOf_modulator h⟩]

theorem startTest_switch {n : Nat} (h : kindOf n = 7) (u : State) (o : SliceOf) :
    ((u.startTest n o).bal (n - 367)).on = true ∧ ((u.startTest n o).bal (n - 367)).pulse = some (u.clk + 10000) := by
  obtain ⟨hlo, hhi⟩ := kindOf_switch h
  unfold State.startTest
  simp only [h]
  rw [bal_setBal_self _ _ (by omega) (by omega), startSlice_noPage (by omega)]
  exact ⟨rfl, rfl⟩

/-- Settles O57: a slice's end is the branch of its cause, and a start notes the slice and puts its unit on test. -/
theorem selfTest : Obligations.SelfTest := by
  unfold Obligations.SelfTest
  refine ⟨?_, fun s dt rq unit => ⟨?_, ?_, ?_⟩, fun u rq => ⟨?_, ?_⟩, ?_, fun u n o => ⟨?_, ?_, ?_, ?_, ?_⟩⟩
  · intro s dt e c
    refine ⟨?_, ?_, ?_, ?_, ?_, ?_, ?_, ?_⟩
    · exact fun unit x resp meas hx hcut hclash hdue => sliceEnd_exec rfl hx hcut hclash hdue resp meas
    · exact fun unit x hx => sliceBudgetExpiry_exec rfl hx
    · exact fun unit x cut reinit hx h2 hcut => sliceCut_exec rfl hx h2 hcut reinit
    · intro unit x reinit hx hclash u r v
      split
      next hk => exact sliceCut_exec_sameCycle rfl hx hclash rfl reinit hk
      next hk => exact sliceCut_exec_late rfl hx hclash rfl reinit hk rfl rfl
    · exact fun h => backgroundSlice_exec_off rfl h
    · intro n hon hfree hunit u v
      have hturn : exec (.backgroundSlice dt) s = v.bgTurn := backgroundSlice_exec (u := u) rfl hon hfree rfl rfl
      have hidle : v.bst.bgUnit = none := (bgUnit_turned e _).trans hunit
      exact ⟨fun hn => hturn.trans (bgTurn_none hidle hn), fun hn => hturn.trans (bgTurn_some hidle hn)⟩
    · exact fun hs hm hc => ⟨fun n hn => confirmSlice_exec_some rfl hs hm hc rfl hn, fun hn => confirmSlice_exec_none rfl hs hm hc rfl hn⟩
    · intro hp hs hm hf old
      obtain ⟨hnew, hkept, -, -⟩ := mapPut_copies e ⟨true, (e.mapInUse.gen + 1) % 2 ^ 32, e.bst.entries⟩
      obtain ⟨-, hold, hb, hpend⟩ := mapPut_copies e ⟨false, (e.mapInUse.gen + 1) % 2 ^ 32, e.bst.entries⟩
      refine ⟨⟨_, repairMapStore_exec rfl hp hs hm hf true rfl, rfl, rfl, ?_, hnew, hkept⟩,
        ⟨_, repairMapStore_exec rfl hp hs hm hf false rfl, hpend.trans hp, hb, ?_, onlyIn_mapPut e _⟩⟩
      · exact (onlyIn_mapPut e _).trans ((onlyIn_setBst _ _).mono (by simp))
      · rw [← hb] at hold
        exact hold
  · exact fun h => campaign_exec rfl h rfl
  · exact fun hunit h => repair_exec rfl hunit rfl h rfl
  · exact fun h => bstCounterClear_exec rfl h rfl
  · exact fun h => campStart_mode h rq
  · exact fun h ho => campStart_busy h ho rq
  · intro u n res cut sig hres
    subst hres
    exact sliceOver_pass rfl
  · exact startSlice_slices u n o
  · exact fun h => onlyIn_startSlice h u o
  · exact fun h => startSlice_page h u o
  · exact fun h => startTest_modulator h u o
  · exact fun h => startTest_switch h u o

end Sys2Proof.Machine
end

section
/-! ### The stored memory (O58) -/

namespace Sys2Proof.Machine

/-! #### Page writes, rows, the scrub and the binding (R405, R410, R412, R413, R417) -/

/-- The lowest of the spare rows that are free (R405). -/
theorem find_freeRow {rows : List (Nat × Nat)} {k : Nat} (hk : k < 64) (hfree : ∀ x ∈ rows, x.2 ≠ k)
    (hlow : ∀ i < k, ∃ x ∈ rows, x.2 = i) :
    (List.range 64).find? (fun k => rows.all (fun x => decide (x.2 ≠ k))) = some k := by
  refine List.find?_range_eq_some.mpr ⟨?_, List.mem_range.mpr hk, fun i hi => ?_⟩
  · simpa using hfree
  · obtain ⟨x, hx, rfl⟩ := hlow i hi
    simpa using ⟨x.1, hx⟩

section Commands
variable {s e : State} {dt : Nat} (he : s.elapse dt = e)
include he

theorem mramPageWrite_exec (hf : e.noFeed) {w : PageWr} {rest : List PageWr} (hq : e.nvm.wq = w :: rest) :
    exec (.mramPageWrite dt) s =
      .next (if e.mramHeld = true then e else ({ e with nvm := { e.nvm with wq := rest } }).pageWrite w) := by
  have hfeeds : (s.elapse dt).feedsMram = e := by rw [he, feedsMram_id hf]
  rw [exec_mramPageWrite]
  delta execMramPageWrite
  rw [hfeeds]
  simp only [hq]

theorem mramRowRepair_exec {row k : Nat} (hd : e.nvm.rowDue.contains row = true) (hm : e.mramHeld = false)
    (hk : (List.range 64).find? (fun k => e.nvm.rows.all (fun x => decide (x.2 ≠ k))) = some k) {v u : State}
    (hv : (e.mramRead (1024 * row) 1024).2 = v)
    (hu : { v with
      nvm := { v.nvm with
        rowDue := v.nvm.rowDue.filter (fun r => decide (r ≠ row)), pulse := pulseOf v.thm.band, rows := (row, k) :: v.nvm.rows
        rowErrs := Sparse.set 0 v.nvm.rowErrs row 0, hotWords := v.nvm.hotWords.filter (fun w => decide (rowOf w ≠ row)) }
      ecc := v.ecc.filter (fun x => !(decide (x.1 = EccArea.mram) && decide (rowOf x.2.1 = row) && !x.2.2)) } = u) :
    exec (.mramRowRepair dt row) s = .next (u.repaired ⟨4, 4, row, k⟩) := by
  subst he hu hv
  rw [exec_mramRowRepair, execMramRowRepair]
  refine (if_pos ⟨hd, by simp [hm]⟩).trans ?_
  simp only [hk]

theorem scrubStart_exec_timed (hs : e.stw = true) (hb : e.bit 0x1E02 31 = true) :
    exec (.scrubStart dt none) s = .next ((e.until_ (e.nvm.scrubAt + e.scrubTicks)).scrubBegin .steward) := by
  subst he
  rw [exec_scrubStart, execScrubStart]
  exact if_pos (by simp [hs, hb])

theorem scrubPage_exec {tag p : Nat} {bad : Bool} {o : Oper} (hsc : e.nvm.scrub = some (tag, p, bad)) (hs : e.stw = true)
    (ho : e.oper 5 = some o) (hst : o.st = .running) (hp : o.pend = false) {u v : State} (hu : e.until_ (e.nvm.pageAt + 200000) = u)
    {r : Bool × State} (hr : u.mramRead (256 * p) 256 = r)
    (hv : { r.2 with nvm := { r.2.nvm with scrub := some (tag, p + 1, bad || !r.1), pageAt := r.2.clk } } = v) :
    exec (.scrubPage dt) s = .next (if p = 4095 then v.scrubEnd .done 1 else v) := by
  subst he hv hr hu
  rw [exec_scrubPage, execScrubPage]
  simp only [hsc]
  refine if_pos ?_
  simp [hs, ho, hst, hp]

/-- The copy of the pack binding that is written (R417): the one not in use. -/
def State.bindPut (s : State) (c : BindCopy) : State :=
  let toB := decide (s.binding = some s.nvm.bindA)
  let p := s.pageDone (if toB = true then 0xB4440 else 0xB4400) 0x40
  { p with nvm := if toB = true then { p.nvm with bindB := c, bindBusy := none } else { p.nvm with bindA := c, bindBusy := none } }

section Binding
variable {c : BindCopy} (hb : e.nvm.bindBusy = some c) (hm : e.mramHeld = false)
include hb hm

theorem bindingWriteDone_exec_failed :
    exec (.bindingWriteDone dt false) s = .next (e.bindPut { c with ok := false }).bindCheck := by
  subst he
  rw [exec_bindingWriteDone, execBindingWriteDone]
  simp only [hb]
  exact if_neg (by simp [hm])

theorem bindingWriteDone_exec_stored {u : State} (hu : e.bindPut { c with ok := true } = u) :
    exec (.bindingWriteDone dt true) s =
      .next (u.ledger ⟨5, 0xFFFF, u.tb, leBytes 1 c.pos ++ leBytes 3 0 ++ leBytes 4 c.cnt ++ leBytes 4 c.pack.toNat⟩).bindCheck := by
  subst he hu
  rw [exec_bindingWriteDone, execBindingWriteDone]
  simp only [hb]
  exact if_neg (by simp [hm])

end Binding

/-! #### The registers (R413, R418, R423) -/

variable {rq : Requester}

theorem scrubStart_exec_request {v : Word} (hv : e.keep 0x1E02 ||| putb true 30 = v) (h : e.accepts rq 0x1E02 v) {u : State}
    (hu : e.wrote rq 0x1E02 v = u) : exec (.scrubStart dt (some rq)) s = .next ((u.scrubBegin rq).answers .ok []) := by
  have h30 : v.getLsbD 30 = true := by rw [← hv, getLsbD_or_putb _ (by decide)]
  have hkeep : s.keep 0x1E02 = e.keep 0x1E02 := by rw [← he]; rfl
  rw [exec_scrubStart, execScrubStart]
  rw [hkeep, hv, put_high he h (by decide) (by decide) (by decide) (by decide), hu]
  exact congrArg (fun w : State => Host.Outcome.next (w.answers .ok [])) (if_pos h30)

theorem customerWrite_exec {v : Word} (h : e.accepts rq 0x1E21 v) {u : State} (hu : e.wrote rq 0x1E21 v = u) :
    exec (.customerWrite dt rq v) s = .next (((u.custWrite rq v).advance rq 0x1E20 17 131071).answers .ok []) := by
  rw [exec_customerWrite, execCustomerWrite, put_high he h (by decide) (by decide) (by decide) (by decide), hu]
  rfl

theorem bindReg_put {v : Word} (h : e.accepts rq 0x1E15 v) {u : State} (hu : e.wrote rq 0x1E15 v = u) :
    s.put dt rq 0x1E15 v = .next (((u.bindKey (fld v 0 16)).getD u).answers .ok []) := by
  rw [put_high he h (by decide) (by decide) (by decide) (by decide), hu]
  rfl

end Commands

section Bind
variable {u : State} (hb : u.nvm.bindBusy = none) (hc : u.bound.cnt ≠ 0xFFFFFFFF)
include hb hc

theorem bindKey_bind :
    u.bindKey 0xB1D5 =
      some { u with nvm :=
        { u.nvm with
          bindBusy := some ⟨true, u.eff 0x1E33 ++ u.eff 0x1E32 ++ u.eff 0x1E31 ++ u.eff 0x1E30, u.fld 0x1E14 0 8, u.bound.cnt + 1⟩ } } := by
  unfold State.bindKey
  rw [if_pos (Or.inl rfl), if_neg (by simp [hb, hc]), if_pos rfl]

theorem bindKey_unbind :
    u.bindKey 0x0B1D =
      some { u with nvm := { u.nvm with bindBusy := some ⟨true, 0, u.fld 0x1E14 0 8, u.bound.cnt + 1⟩ } } := by
  unfold State.bindKey
  rw [if_pos (Or.inr rfl), if_neg (by simp [hb, hc]), if_neg (by decide)]

end Bind

theorem onlyIn_wrote_bind (e : State) (rq : Requester) (v : Word) : OnlyIn [.cyc, .pwr] e (e.wrote rq 0x1E15 v) :=
  onlyIn_wrote_of_noBits (by decide) (by decide) (fun _ => rfl) e rq v

theorem bound_of_nvm {s t : State} (h : t.nvm = s.nvm) : t.bound = s.bound := by
  unfold State.bound State.binding
  rw [h]

/-- A key that starts a write of the pack binding. -/
theorem bindReg_completes {s e : State} {dt : Nat} (he : s.elapse dt = e) {rq : Requester} {v : Word} (h : e.accepts rq 0x1E15 v) {u : State}
    (hu : e.wrote rq 0x1E15 v = u) {c : BindCopy}
    (hkey : u.bindKey (fld v 0 16) = some { u with nvm := { u.nvm with bindBusy := some c } }) :
    ∃ t, s.put dt rq 0x1E15 v = .next t ∧ t.nvm.bindBusy = some c ∧ OnlyIn [.cyc, .pwr, .regs, .rwo, .nvm, .answer] e t := by
  refine ⟨_, bindReg_put he h hu, ?_⟩
  rw [hkey, Option.getD_some]
  have hwrote : OnlyIn [.cyc, .pwr] e u := hu ▸ onlyIn_wrote_bind e rq v
  exact ⟨rfl, (hwrote.mono (by simp)).trans (((onlyIn_setNvm u _).mono (by simp)).trans ((onlyIn_answers _ _ _).mono (by simp)))⟩

section BindExec
variable {s e : State} {dt : Nat} (he : s.elapse dt = e) {rq : Requester} (hb : e.nvm.bindBusy = none) (hc : e.bound.cnt ≠ 0xFFFFFFFF)
include he hb hc

theorem bind_completes (h : e.accepts rq 0x1E15 0xB1D5) :
    Completes (.bind dt rq) s (fun t =>
      t.nvm.bindBusy = some ⟨true, e.eff 0x1E33 ++ e.eff 0x1E32 ++ e.eff 0x1E31 ++ e.eff 0x1E30, e.fld 0x1E14 0 8, e.bound.cnt + 1⟩ ∧
        OnlyIn [.cyc, .pwr, .regs, .rwo, .nvm, .answer] e t) := by
  have hwrote := onlyIn_wrote_bind e rq 0xB1D5
  have hnvm : (e.wrote rq 0x1E15 0xB1D5).nvm = e.nvm := hwrote .nvm (by simp)
  have hkey := bindKey_bind (u := e.wrote rq 0x1E15 0xB1D5) (by rw [hnvm]; exact hb) (by rw [bound_of_nvm hnvm]; exact hc)
  unfold State.fld at hkey
  simp only [eff_of_onlyIn hwrote (by simp) (by simp), bound_of_nvm hnvm] at hkey
  exact bindReg_completes he h rfl hkey

theorem unbind_completes (h : e.accepts rq 0x1E15 0x0B1D) :
    Completes (.unbind dt rq) s (fun t =>
      t.nvm.bindBusy = some ⟨true, 0, e.fld 0x1E14 0 8, e.bound.cnt + 1⟩ ∧ OnlyIn [.cyc, .pwr, .regs, .rwo, .nvm, .answer] e t) := by
  have hwrote := onlyIn_wrote_bind e rq 0x0B1D
  have hnvm : (e.wrote rq 0x1E15 0x0B1D).nvm = e.nvm := hwrote .nvm (by simp)
  have hkey := bindKey_unbind (u := e.wrote rq 0x1E15 0x0B1D) (by rw [hnvm]; exact hb) (by rw [bound_of_nvm hnvm]; exact hc)
  unfold State.fld at hkey
  simp only [eff_of_onlyIn hwrote (by simp) (by simp), bound_of_nvm hnvm] at hkey
  exact bindReg_completes he h rfl hkey

end BindExec

/-! #### Words read clean, and bytes stored (R410, R411, R423) -/

/-- The state with other words noted as corrected before (R412). -/
def State.setHot (s : State) (l : List Nat) : State := { s with nvm := { s.nvm with hotWords := l } }

theorem mramTouch_clean {u : State} {w : Nat} (h : u.eccOf .mram w = none) :
    u.mramTouch w = u.setHot (u.nvm.hotWords.filter (fun x => decide (x ≠ w))) := by
  unfold State.mramTouch
  rw [h]
  rfl

theorem foldl_mramTouch_clean {u : State} : ∀ (ws : List Nat) (l : List Nat), (∀ w ∈ ws, u.eccOf .mram w = none) →
    ∃ l', ws.foldl State.mramTouch (u.setHot l) = u.setHot l'
  | [], l, _ => ⟨l, rfl⟩
  | w :: ws, l, h => by
    have hw : (u.setHot l).eccOf .mram w = none := h w (List.mem_cons_self ..)
    rw [List.foldl_cons, mramTouch_clean hw]
    exact foldl_mramTouch_clean ws _ (fun x hx => h x (List.mem_cons_of_mem _ hx))

section PageWrite
variable {u : State} {a : Nat} {b : Bytes} (hst : u.stageOff a = none) (hclean : ∀ w ∈ partWords a b.length, u.eccOf .mram w = none)
include hst hclean

/-- A page write outside a copy that a session writes, over words without an error. -/
theorem pageWrite_clean : ∃ l, u.pageWrite (.bytes a b) = (u.setHot l).mramStore a b := by
  obtain ⟨l, hl⟩ := foldl_mramTouch_clean (partWords a b.length) u.nvm.hotWords hclean
  have hst' : (u.setHot l).stageOff a = none := hst
  refine ⟨l, ?_⟩
  unfold State.pageWrite
  dsimp only
  rw [show (partWords a b.length).foldl State.mramTouch u = u.setHot l from hl, hst']

theorem pageWrite_stores (hwf : Memory.wf u.nvm.mram = true) {t : State} (ht : u.pageWrite (.bytes a b) = t) :
    Memory.wf t.nvm.mram = true ∧ (∀ k, k < b.length → memGet t.nvm.mram (a + k) = byteAt b k) ∧
      (∀ x, (x < a ∨ a + b.length ≤ x) → memGet t.nvm.mram x = memGet u.nvm.mram x) ∧ OnlyIn [.nvm, .ecc] u t := by
  obtain ⟨l, hl⟩ := pageWrite_clean hst hclean
  have hm : t.nvm.mram = memWrite u.nvm.mram a b := by rw [← ht, hl]; exact mramStore_mram (u.setHot l) a b
  rw [hm]
  refine ⟨memWrite_wf _ _ _ hwf, fun k hk => memGet_memWrite_in hwf a hk, fun x hx => memGet_memWrite_out hwf hx, ?_⟩
  rw [← ht, hl]
  exact ((onlyIn_setNvm u _).mono (by simp)).trans (onlyIn_mramStore (u.setHot l) a b)

end PageWrite

/-! #### Requested writes (R410, R423) -/

/-- The page writes of a string of bytes store bytes of it alone. -/
theorem pageWrites_bytes : ∀ (n a : Nat) (b : Bytes), ∀ w ∈ pageWrites n a b,
    ∃ i l, w = .bytes i l ∧ 0 < l.length ∧ a ≤ i ∧ i + l.length ≤ a + b.length
  | 0, _, _, w, hw => absurd hw List.not_mem_nil
  | n + 1, a, b, w, hw => by
    unfold pageWrites at hw
    split at hw
    · exact absurd hw List.not_mem_nil
    · rename_i hne
      have hlen : 0 < b.length := List.length_pos_iff.mpr hne
      rcases List.mem_cons.mp hw with rfl | hw
      · refine ⟨a, _, rfl, ?_, Nat.le_refl a, ?_⟩
        · rw [List.length_take]; omega
        · rw [List.length_take]; omega
      · obtain ⟨i, l, rfl, hpos, hi, hl⟩ := pageWrites_bytes n _ _ w hw
        rw [List.length_drop] at hl
        exact ⟨i, l, rfl, hpos, by omega, by omega⟩

theorem pageWrites_at {n a : Nat} {b : Bytes} {x : Nat} (hx : x < a ∨ a + b.length ≤ x) :
    (pageWrites n a b).filterMap (fun w => w.at_ x) = [] := by
  refine List.filterMap_eq_nil_iff.mpr fun w hw => ?_
  obtain ⟨i, l, rfl, -, hi, hl⟩ := pageWrites_bytes n a b w hw
  by_cases hlow : i ≤ x
  · exact (if_pos hlow).trans (List.getElem?_eq_none (by omega))
  · exact if_neg hlow

section MramPut
variable {u : State} (hf : u.noFeed) {a : Nat} {b : Bytes}
include hf

theorem mramPut_noFeed : u.mramPut a b = { u with nvm := { u.nvm with wq := u.nvm.wq ++ pageWrites (b.length / 256 + 2) a b } } := by
  unfold State.mramPut
  rw [feedsMram_id hf]

theorem mramPut_jrnCopies : (u.mramPut a b).jrnCopies = u.jrnCopies := by
  rw [mramPut_noFeed hf]
  unfold State.jrnCopies
  dsimp only
  rw [List.filterMap_append]
  refine congrArg _ ((congrArg _ (List.filterMap_eq_nil_iff.mpr fun w hw => ?_)).trans (List.append_nil _))
  obtain ⟨i, l, rfl, -⟩ := pageWrites_bytes _ _ _ w hw
  rfl

theorem mramPut_heldByte (x : Nat) : (u.mramPut a b).heldByte x = u.heldByte x := by
  unfold State.heldByte
  rw [mramPut_jrnCopies hf, mramPut_noFeed hf]

theorem mramPut_mramStored (x : Nat) : (u.mramPut a b).mramStored x = u.mramStored x := by
  have hstaged : (u.mramPut a b).stagedByte x = u.stagedByte x := by rw [mramPut_noFeed hf]; rfl
  have hmram : (u.mramPut a b).nvm.mram = u.nvm.mram := by rw [mramPut_noFeed hf]
  unfold State.mramStored
  rw [hstaged, mramPut_heldByte hf, hmram]

theorem mramPut_mramByte {x : Nat} (hx : x < a ∨ a + b.length ≤ x) : (u.mramPut a b).mramByte x = u.mramByte x := by
  have hwq : (u.mramPut a b).nvm.wq = u.nvm.wq ++ pageWrites (b.length / 256 + 2) a b := by rw [mramPut_noFeed hf]
  unfold State.mramByte
  rw [mramPut_mramStored hf, hwq, List.filterMap_append, pageWrites_at hx, List.append_nil]

end MramPut

/-! #### The journal record and the scrub (R413, R428, R429) -/

/-- The copy in use is the second where it is not the first. -/
theorem jrnUse_other {c : Option Jrn × Option Jrn} (h : ¬(c.1.isSome = true ∧ Jrn.use c.1 c.2 = c.1)) {k : Jrn}
    (hk : Jrn.use c.1 c.2 = some k) : c.2 = some k := by
  obtain ⟨c1, c2⟩ := c
  cases c1 with
  | none => exact hk
  | some a =>
    cases c2 with
    | none => exact absurd ⟨rfl, rfl⟩ h
    | some b =>
      by_cases hgen : a.gen < b.gen
      · exact (if_pos hgen).symm.trans hk
      · exact absurd ⟨rfl, if_neg hgen⟩ h

theorem jrnPut_stores (c : Option Jrn × Option Jrn) (j : Jrn) :
    ((Jrn.put c j).1 = some j ∨ (Jrn.put c j).2 = some j) ∧ ((Jrn.put c j).1 = c.1 ∨ (Jrn.put c j).2 = c.2) ∧
      ∀ k, Jrn.use c.1 c.2 = some k → k.gen < j.gen →
        Jrn.use (Jrn.put c j).1 (Jrn.put c j).2 = some j ∧ ((Jrn.put c j).1 = some k ∨ (Jrn.put c j).2 = some k) := by
  unfold Jrn.put
  split
  next h =>
    obtain ⟨-, huse⟩ := h
    refine ⟨Or.inr rfl, Or.inl rfl, fun k hk hgen => ⟨?_, Or.inl (huse.symm.trans hk)⟩⟩
    rw [← huse, hk]
    exact if_pos hgen
  next h =>
    refine ⟨Or.inl rfl, Or.inr rfl, fun k hk hgen => ?_⟩
    have hother : c.2 = some k := jrnUse_other h hk
    rw [hother]
    exact ⟨if_neg (by omega), Or.inr rfl⟩

theorem onlyIn_pageWrite_jrn (u : State) (j : Jrn) : OnlyIn [.nvm] u (u.pageWrite (.jrn j)) := onlyIn_setNvm u _

theorem scrubBegin_refused {u : State} (h : u.nvm.scrub.isSome = true ∨ u.modeIn 4 10 = false) (rq : Requester) : u.scrubBegin rq = u := by
  refine if_pos ?_
  simpa using h

section ScrubBegin
variable {u : State} (hs : u.nvm.scrub = none) (hm : u.modeIn 4 10 = true) (rq : Requester)
include hs hm

theorem scrubBegin_begins :
    (u.scrubBegin rq).nvm.scrub = some ((u.startOp 5 rq).1, 0, false) ∧ OnlyIn [.nvm, .seq] u (u.scrubBegin rq) := by
  unfold State.scrubBegin
  rw [if_neg (by simp [hs, hm])]
  exact ⟨rfl, ((onlyIn_startOp u 5 rq).mono (by simp)).trans ((onlyIn_setNvm _ _).mono (by simp))⟩

end ScrubBegin

/-- Settles O58: each command is a branch of its definition, and bytes stored are read back by the law of bytes written in a row. -/
theorem storedMemory : Obligations.StoredMemory := by
  unfold Obligations.StoredMemory
  refine ⟨fun s dt => ⟨?_, ?_, ?_, ?_, ?_, ?_⟩, fun s dt rq => ⟨?_, ?_, ?_, ?_⟩, ?_, ?_, fun u j => ?_, fun u rq => ⟨?_, ?_⟩, ?_⟩
  · exact fun w rest hf hq => ⟨fun hm => (mramPageWrite_exec rfl hf hq).trans (by rw [if_pos hm]),
      fun hm => (mramPageWrite_exec rfl hf hq).trans (by rw [if_neg (by simp [hm])])⟩
  · exact fun row k hd hm hk hfree hlow => mramRowRepair_exec rfl hd hm (find_freeRow hk hfree hlow) rfl rfl
  · exact fun hs hb => scrubStart_exec_timed rfl hs hb
  · exact fun tag p bad o hsc hs ho hst hp => scrubPage_exec rfl hsc hs ho hst hp rfl rfl rfl
  · exact fun c hb hm => bindingWriteDone_exec_failed rfl hb hm
  · exact fun c hb hm => bindingWriteDone_exec_stored rfl hb hm rfl
  · exact fun h => scrubStart_exec_request rfl rfl h rfl
  · exact fun h hb hc => bind_completes rfl hb hc h
  · exact fun h hb hc => unbind_completes rfl hb hc h
  · exact fun v h => customerWrite_exec rfl h rfl
  · exact fun u a b hwf hst hclean => pageWrite_stores hst hclean hwf rfl
  · exact fun u a b x hf hx => mramPut_mramByte hf hx
  · obtain ⟨hput, hkept, huse⟩ := jrnPut_stores (u.nvm.jrnA, u.nvm.jrnB) j
    exact ⟨hput, hkept, huse, onlyIn_pageWrite_jrn u j⟩
  · exact fun h => scrubBegin_refused h rq
  · exact fun hs hm => scrubBegin_begins hs hm rq
  · exact fun u w h => ⟨(readsClean_mramTouch h).onlyIn, by rw [mramTouch_clean h]; rfl⟩

end Sys2Proof.Machine
end

section
/-! ### Update sessions (O59) -/

namespace Sys2Proof.Machine

/-! #### How a request is served (R44, R50, R425, R436) -/

section Serve
variable {s e : State} {q : SvcReq} (he : s.sessPkt q.sid = e) (hon : s.svcOn q.srv = true)
include he hon

theorem serve_runs {op : Nat} (hb : e.svcBusy op = none) (hm : e.pwr.mode ≠ .lockout) (open_ : Bool) (run : State → State) :
    s.serve q op open_ run = run e := by
  subst he
  unfold State.serve
  rw [if_neg (by simp [hon])]
  dsimp only
  rw [hb]
  exact if_neg (fun h => hm h.1)

theorem serve_busy {op st d : Nat} (hb : e.svcBusy op = some (st, d)) (open_ : Bool) (run : State → State) :
    s.serve q op open_ run = e.reply q op st d [] := by
  subst he
  unfold State.serve
  rw [if_neg (by simp [hon])]
  dsimp only
  rw [hb]

end Serve

section InSess
variable {e : State} (q : SvcReq) (op : Nat) (hsvc : e.pwr.mode = .service ∨ e.nvm.noImg = true) (run : State → Sess → State)
include hsvc

theorem not_sessionMode : ¬(e.pwr.mode ≠ .service ∧ ¬e.nvm.noImg = true) := fun h => hsvc.elim h.1 h.2

theorem inSess_none (h : e.nvm.sess = none) : e.inSess q op run = e.reply q op 2 0 [] := by
  unfold State.inSess
  rw [if_neg (not_sessionMode hsvc), h]

theorem inSess_runs {x : Sess} (h : e.nvm.sess = some x) (hsid : x.sid = q.sid) (hsrv : x.srv = q.srv) : e.inSess q op run = run e x := by
  unfold State.inSess
  rw [if_neg (not_sessionMode hsvc), h]
  exact if_pos ⟨hsid, hsrv⟩

end InSess

/-- Without the steward, requests that the loader does not handle are refused. -/
theorem svcBusy_stopped {e : State} {op : Nat} (hs : e.stw = false) (h : e.nvm.noImg = false ∨ loaderOp op = false) :
    e.svcBusy op = some (1, 2) := by
  refine if_neg ?_
  rcases h with h | h <;> simp [hs, h]

/-! #### Requests without a session (R416, R422, R425, R432) -/

/-- The identifier of a new session (R425): a free value that is not 0. -/
def sessionId (n : Nat) : Nat := match Config.newSid n % 65536 with | 0 => 1 | k + 1 => k + 1

theorem sessionId_range (n : Nat) : sessionId n ≠ 0 ∧ sessionId n < 65536 := by
  have hlt : Config.newSid n % 65536 < 65536 := Nat.mod_lt _ (by decide)
  unfold sessionId
  split
  · decide
  · omega

section Requests
variable {s e : State} {dt : Nat} {q : SvcReq} (he : (s.elapse dt).sessPkt q.sid = e) (hon : (s.elapse dt).svcOn q.srv = true)
  (hm : e.pwr.mode ≠ .lockout) (hsvc : e.pwr.mode = .service ∨ e.nvm.noImg = true)

section Open
variable (hb : e.svcBusy 1 = none) {target : Nat}
include he hon hm hsvc hb

theorem svcOpen_exec_busy (h : e.nvm.sess.isSome = true) : exec (.svcOpen dt q target) s = .next (e.reply q 1 1 1 []) := by
  rw [exec_svcOpen, execSvcOpen, serve_runs he hon hb hm, if_neg (not_sessionMode hsvc), if_pos h]

theorem svcOpen_exec_window (h : e.nvm.sess = none) (ha : e.nvm.act = 1) :
    exec (.svcOpen dt q target) s = .next (e.reply q 1 3 0 []) := by
  rw [exec_svcOpen, execSvcOpen, serve_runs he hon hb hm, if_neg (not_sessionMode hsvc), if_neg (by simp [h]), if_pos ha]

theorem svcOpen_exec_range (h : e.nvm.sess = none) (ha : e.nvm.act ≠ 1) (ht : target = 0 ∨ 6 < target) :
    exec (.svcOpen dt q target) s = .next (e.reply q 1 4 0 []) := by
  rw [exec_svcOpen, execSvcOpen, serve_runs he hon hb hm, if_neg (not_sessionMode hsvc), if_neg (by simp [h]), if_neg ha, if_pos ht]

section Session
variable (h : e.nvm.sess = none) (ha : e.nvm.act ≠ 1) (hlo : 1 ≤ target) (hhi : target ≤ 6) (himg : e.nvm.noImg = true → target = 1)
  {r : Nat × State} {v w : State} {sid : Nat} {x : Sess} (hr : e.startOp 4 (svcRq q) = r)
  (hv : r.2.setOp 4 (fun o => { o with st := .running, scStw := false }) = v) (hsid : sessionId v.nvm.nextSid = sid)
  (hw : { v with nvm :=
    { v.nvm with
      nextSid := v.nvm.nextSid + 1, ifc := if q.srv = true then 2 else 1, tgt := target, sid := sid, rcvN := 0, rcvC := 0 } } = w)
  (hx : { st := .open_, srv := q.srv, target := target, sid := sid, tag := r.1, chunks := [], good := [], hdr := [], stage := []
          tact := 0, now := false, goAt := 0, begun := false, lastPkt := e.clk } = x)
include h ha hlo hhi himg hr hv hsid hw hx

theorem svcOpen_exec_session :
    exec (.svcOpen dt q target) s = .next (((w.setSess x).logSess x 1 0).reply q 1 0 0 (beBytes 2 sid ++ beBytes 2 r.1)) := by
  have hclk : v.clk = e.clk := by
    have hop : v.time = r.2.time := hv ▸ onlyIn_setOp r.2 4 _ .time (by simp)
    have hstart : r.2.time = e.time := hr ▸ onlyIn_startOp e 4 (svcRq q) .time (by simp)
    exact congrArg Time.clk (hop.trans hstart)
  rw [← hclk] at hx
  subst hx hw hsid hv hr
  rw [exec_svcOpen, execSvcOpen, serve_runs he hon hb hm, if_neg (not_sessionMode hsvc), if_neg (by simp [h]), if_neg ha,
    if_neg (by omega), if_neg (fun hno => hno.2 (himg hno.1))]
  rfl

end Session

end Open

section NoSession
variable (h : e.nvm.sess = none)
include he hon hm hsvc h

theorem svcWrite_exec_none (hb : e.svcBusy 2 = none) (block chunk : Nat) (data : Bytes) :
    exec (.svcWrite dt q block chunk data) s = .next (e.reply q 2 2 0 []) := by
  rw [exec_svcWrite, execSvcWrite, serve_runs he hon hb hm, inSess_none q 2 hsvc _ h]

theorem svcVerify_exec_none (hb : e.svcBusy 4 = none) : exec (.svcVerify dt q) s = .next (e.reply q 4 2 0 []) := by
  rw [exec_svcVerify, execSvcVerify, serve_runs he hon hb hm, inSess_none q 4 hsvc _ h]

theorem svcActivate_exec_none (hb : e.svcBusy 5 = none) (tact : Tick) (lo hi : Nat) :
    exec (.svcActivate dt q tact lo hi) s = .next (e.reply q 5 2 0 []) := by
  rw [exec_svcActivate, execSvcActivate, serve_runs he hon hb hm, inSess_none q 5 hsvc _ h]

theorem svcClose_exec_none (hb : e.svcBusy 6 = none) : exec (.svcClose dt q) s = .next (e.reply q 6 2 0 []) := by
  rw [exec_svcClose, execSvcClose, serve_runs he hon hb hm, inSess_none q 6 hsvc _ h]

theorem svcRestart_exec_none (hb : e.svcBusy 8 = none) : exec (.svcRestart dt q) s = .next (e.reply q 8 2 0 []) := by
  rw [exec_svcRestart, execSvcRestart, serve_runs he hon hb hm, inSess_none q 8 hsvc _ h]

end NoSession

section Stopped
variable (hs : e.stw = false)
include he hon hs

theorem svcClose_exec_stopped : exec (.svcClose dt q) s = .next (e.reply q 6 1 2 []) := by
  rw [exec_svcClose, execSvcClose, serve_busy he hon (svcBusy_stopped hs (Or.inr (by decide)))]

theorem svcRestart_exec_stopped : exec (.svcRestart dt q) s = .next (e.reply q 8 1 2 []) := by
  rw [exec_svcRestart, execSvcRestart, serve_busy he hon (svcBusy_stopped hs (Or.inr (by decide)))]

theorem svcConfirm_exec_stopped : exec (.svcConfirm dt q) s = .next (e.reply q 7 1 2 []) := by
  rw [exec_svcConfirm, execSvcConfirm, serve_busy he hon (svcBusy_stopped hs (Or.inr (by decide)))]

theorem svcStatus_exec_stopped (hi : e.nvm.noImg = false) : exec (.svcStatus dt q) s = .next (e.reply q 3 1 2 []) := by
  rw [exec_svcStatus, execSvcStatus, serve_busy he hon (svcBusy_stopped hs (Or.inl hi))]

end Stopped

section Others
include he hon hm

theorem svcStatus_exec (hb : e.svcBusy 3 = none) :
    exec (.svcStatus dt q) s = .next (e.reply q 3 0 0 (wordsBe [e.updStat, e.updRcv, e.updAct])) := by
  rw [exec_svcStatus, execSvcStatus, serve_runs he hon hb hm]

theorem svcConfirm_exec (hb : e.svcBusy 7 = none) :
    exec (.svcConfirm dt q) s =
      .next (if e.nvm.act = 1 then ({ e with nvm := { e.nvm with confirm := true } }).reply q 7 0 0 [] else e.reply q 7 3 0 []) := by
  rw [exec_svcConfirm, execSvcConfirm, serve_runs he hon hb hm]

theorem svcRead_exec (hb : e.svcBusy 0x10 = none) (a n : Nat) :
    exec (.svcRead dt q a n) s =
      .next (if n = 0 ∨ 248 < n ∨ 0x100000 < a + n then e.reply q 0x10 4 0 []
        else (e.mramRead a n).2.reply q 0x10 0 0 (e.mramBytes a n)) := by
  rw [exec_svcRead, execSvcRead, serve_runs he hon hb hm]

theorem svcKeyslot_exec_denied (hb : e.svcBusy 0x11 = none) (h : e.keyGiven = true ∨ e.pwr.lockOwner ≠ some (svcRq q)) (req : Bool)
    (x y : Bytes) : exec (.svcKeyslot dt q req x y) s = .next (e.reply q 0x11 10 0 []) := by
  rw [exec_svcKeyslot, execSvcKeyslot, serve_runs he hon hb hm, if_pos h]

theorem svcKeyslot_exec_given (hb : e.svcBusy 0x11 = none) (hk : e.keyGiven = false) (ho : e.pwr.lockOwner = some (svcRq q)) (req : Bool)
    {x y : Bytes} (hp : pointOk x y = true) {w : State} (hw : e.feedsMram = w) :
    exec (.svcKeyslot dt q req x y) s =
      .next (({ w with nvm := { w.nvm with wq := w.nvm.wq ++ [PageWr.key req x y] } }).reply q 0x11 0 0 []) := by
  subst hw
  rw [exec_svcKeyslot, execSvcKeyslot, serve_runs he hon hb hm, if_neg (by simp [hk, ho]), if_neg (by simp [hp])]

end Others

end Requests

/-! #### Requests of the open session (R421, R426, R427, R430, R431) -/

/-- What a WRITE does with the chunk that the session `x` has taken for block `block` (R427). -/
def State.chunkTaken (s : State) (q : SvcReq) (block : Nat) (x : Sess) : State :=
  let s := s.setSess x
  match x.block block with
  | none => s.reply q 2 0 0 []
  | some b =>
    let kept := x.chunks.filter (fun e => decide (e.1 / 8 ≠ block))
    if leField b 1020 4 ≠ crc32c (b.take 1020) then (s.setSess { x with chunks := kept }).reply q 2 5 0 []
    else
      let x := { x with chunks := kept, good := insertAsc block x.good, hdr := if block = 0 then b.take 512 else x.hdr }
      let s := s.setSess x
      let s := { s with nvm :=
        { s.nvm with rcvC := x.good.length, rcvN := if block = 0 then hdrField x.hdr 0x24 2 else s.nvm.rcvN } }
      let (ok, s) := s.putBlock x block b
      if ok then s.reply q 2 0 0 [] else (s.endSess .failed 4 4 true).reply q 2 2 0 []

section Chunk
variable {u : State} {q : SvcReq} {block : Nat} {z : Sess}

theorem chunkTaken_none (h : z.block block = none) : u.chunkTaken q block z = (u.setSess z).reply q 2 0 0 [] := by
  unfold State.chunkTaken
  rw [h]

variable {b : Bytes} (h : z.block block = some b) {kept : Sparse Bytes}
  (hkept : z.chunks.filter (fun k => decide (k.1 / 8 ≠ block)) = kept)
include h hkept

theorem chunkTaken_bad (hcrc : leField b 1020 4 ≠ crc32c (b.take 1020)) :
    u.chunkTaken q block z = ((u.setSess z).setSess { z with chunks := kept }).reply q 2 5 0 [] := by
  subst hkept
  unfold State.chunkTaken
  rw [h]
  exact if_pos hcrc

theorem chunkTaken_good (hcrc : leField b 1020 4 = crc32c (b.take 1020)) {z1 : Sess} {v w : State} {r : Bool × State}
    (hz1 : { z with chunks := kept, good := insertAsc block z.good, hdr := if block = 0 then b.take 512 else z.hdr } = z1)
    (hv : (u.setSess z).setSess z1 = v)
    (hw : { v with nvm :=
      { v.nvm with rcvC := z1.good.length, rcvN := if block = 0 then hdrField z1.hdr 0x24 2 else v.nvm.rcvN } } = w)
    (hr : w.putBlock z1 block b = r) :
    u.chunkTaken q block z =
      if r.1 = true then r.2.reply q 2 0 0 [] else (r.2.endSess .failed 4 4 true).reply q 2 2 0 [] := by
  subst hr hw hv hz1 hkept
  unfold State.chunkTaken
  rw [h]
  exact if_neg (not_not.mpr hcrc)

end Chunk

section OpenSession
variable {s e u : State} {dt : Nat} {q : SvcReq} {x y : Sess} (he : s.elapse dt = e) (hon : e.svcOn q.srv = true)
  (hm : e.pwr.mode ≠ .lockout) (hsvc : e.pwr.mode = .service ∨ e.nvm.noImg = true) (hx : e.nvm.sess = some x) (hid : x.sid = q.sid)
  (hsrv : x.srv = q.srv) (hy : { x with lastPkt := e.clk } = y) (hu : { e with nvm := { e.nvm with sess := some y } } = u)

section Served
include hon hm hsvc hx hid hsrv hy hu

theorem serve_session {op : Nat} (hb : e.svcBusy op = none) (run : State → Sess → State) :
    e.serve q op false (fun s => s.inSess q op run) = run u y := by
  have hpkt : e.sessPkt q.sid = u := by
    subst hy hu
    unfold State.sessPkt
    rw [hx, Option.map_some, if_pos hid]
  have hub : u.svcBusy op = none := by rw [← hu]; exact hb
  have hum : u.pwr.mode ≠ .lockout := by rw [← hu]; exact hm
  have husvc : u.pwr.mode = .service ∨ u.nvm.noImg = true := by rw [← hu]; exact hsvc
  rw [serve_runs hpkt hon hub hum]
  exact inSess_runs q op husvc run (by rw [← hu]) (by rw [← hy]; exact hid) (by rw [← hy]; exact hsrv)

end Served

section Write
variable (hb : e.svcBusy 2 = none)
include he hon hm hsvc hx hid hsrv hy hu hb

theorem svcWrite_exec_length {block chunk : Nat} {data : Bytes} (hd : data.length ≠ 128) :
    exec (.svcWrite dt q block chunk data) s = .next (u.reply q 2 8 0 []) := by
  rw [exec_svcWrite, execSvcWrite, he, serve_session hon hm hsvc hx hid hsrv hy hu hb, if_pos hd]

variable (hop : e.opIs 4 .running = true) (hst : x.st = .open_ ∨ x.st = .verified) {block chunk : Nat} {data : Bytes}
  (hd : data.length = 128) (hc : chunk ≤ 7) (hk : block ≤ blockMax x.target) {z : Sess}
  (hz : { y with st := .open_, chunks := Sparse.set [] y.chunks (8 * block + chunk) data } = z)
include hop hst hd hc hk hz

theorem svcWrite_exec_chunk : exec (.svcWrite dt q block chunk data) s = .next (u.chunkTaken q block z) := by
  have huop : u.opIs 4 .running = true := by rw [← hu]; exact hop
  have hyst : y.st = .open_ ∨ y.st = .verified := by rw [← hy]; exact hst
  have hyk : block ≤ blockMax y.target := by rw [← hy]; exact hk
  subst hz
  rw [exec_svcWrite, execSvcWrite, he, serve_session hon hm hsvc hx hid hsrv hy hu hb, if_neg (by omega), if_neg (by simp [huop]; tauto),
    if_neg (by omega)]
  rfl

end Write

theorem svcVerify_exec (he : s.elapse dt = e) (hon : e.svcOn q.srv = true)
    (hm : e.pwr.mode ≠ .lockout) (hsvc : e.pwr.mode = .service ∨ e.nvm.noImg = true) (hx : e.nvm.sess = some x) (hid : x.sid = q.sid)
    (hsrv : x.srv = q.srv) (hy : { x with lastPkt := e.clk } = y) (hu : { e with nvm := { e.nvm with sess := some y } } = u)
    (hb : e.svcBusy 4 = none) (hop : e.opIs 4 .running = true) (hst : x.st = .open_ ∨ x.st = .verified) {r : Nat × State} {v : State}
    (hr : u.verify y = r) (hv : { r.2 with nvm := { r.2.nvm with check := r.1 } } = v) :
    exec (.svcVerify dt q) s =
      .next (if r.1 = 0 then (r.2.setSess { y with st := .verified }).reply q 4 0 0 []
        else (v.setSess { y with st := .open_ }).reply q 4 6 r.1 []) := by
  have huop : u.opIs 4 .running = true := by rw [← hu]; exact hop
  have hyst : y.st = .open_ ∨ y.st = .verified := by rw [← hy]; exact hst
  subst hv
  rw [exec_svcVerify, execSvcVerify, he, serve_session hon hm hsvc hx hid hsrv hy hu hb, if_neg (by simp [huop]; tauto), hr]

section Activate
variable (hb : e.svcBusy 5 = none) {tact : Tick} {lo hi : Nat}
include he hon hm hsvc hx hid hsrv hy hu hb

theorem svcActivate_exec_notVerified (h : e.opIs 4 .running = false ∨ x.st ≠ .verified) :
    exec (.svcActivate dt q tact lo hi) s = .next (u.reply q 5 3 0 []) := by
  have huop : u.opIs 4 .running = e.opIs 4 .running := by rw [← hu]; rfl
  have hyst : y.st = x.st := by rw [← hy]
  have hbad : ¬u.opIs 4 .running = true ∨ y.st ≠ .verified := by
    rw [huop, hyst]
    exact h.imp_left (fun h => by simp [h])
  rw [exec_svcActivate, execSvcActivate, he, serve_session hon hm hsvc hx hid hsrv hy hu hb]
  exact congrArg _ (if_pos hbad)

variable (hop : e.opIs 4 .running = true) (hst : x.st = .verified)
  (ht : tact = 0 ∨ (e.nvm.noImg = false ∧ e.tbn + 2000000 ≤ tact.toNat ∧ tact.toNat ≤ e.tbn + 120000000000)) {i : Img} (hi' : hdrImg x.hdr = i)
include hop hst ht hi'

/-- The time of an ACTIVATE is now, or 10 ms to 10 min ahead (R431). -/
theorem svcActivate_exec_inTime :
    exec (.svcActivate dt q tact lo hi) s =
      .next (if !(decide (i.pmin ≤ lo) && decide (lo ≤ i.pmax) && decide (i.pmin ≤ hi) && decide (hi ≤ i.pmax)) then
        ({ u with nvm := { u.nvm with check := 9 } }).reply q 5 6 9 []
      else (({ u with nvm := { u.nvm with tactReg := tact.setWidth 32 } }).setSess
        { y with st := .scheduled, tact := tact, now := decide (tact = 0), goAt := e.clk + e.cycle }).reply q 5 0 0 []) := by
  have hgood : ¬(¬u.opIs 4 .running = true ∨ y.st ≠ .verified) := by
    rw [← hu, ← hy]
    exact fun h => h.elim (fun h => h hop) (fun h => h hst)
  have htime : ¬(tact ≠ 0 ∧ (u.nvm.noImg = true ∨ (tact.toNat : Int) - u.tbn < 2000000 ∨ 120000000000 < (tact.toNat : Int) - u.tbn)) := by
    have himg : u.nvm.noImg = e.nvm.noImg := by rw [← hu]
    have htb : u.tbn = e.tbn := by rw [← hu]
    rw [himg, htb]
    rintro ⟨h0, h⟩
    rcases ht with ht | ⟨hno, hlo, hhi⟩
    · exact h0 ht
    · rw [hno] at h
      rcases h with h | h | h
      · exact absurd h (by decide)
      · omega
      · omega
  rw [exec_svcActivate, execSvcActivate, he, serve_session hon hm hsvc hx hid hsrv hy hu hb]
  refine congrArg _ ((if_neg hgood).trans ((if_neg htime).trans ?_))
  subst hu hy hi'
  rfl

theorem svcActivate_exec_protocol (h : lo < i.pmin ∨ i.pmax < lo ∨ hi < i.pmin ∨ i.pmax < hi) :
    exec (.svcActivate dt q tact lo hi) s = .next (({ u with nvm := { u.nvm with check := 9 } }).reply q 5 6 9 []) := by
  rw [svcActivate_exec_inTime he hon hm hsvc hx hid hsrv hy hu hb hop hst ht hi', if_pos]
  simp only [Bool.not_eq_true', Bool.and_eq_false_iff, decide_eq_false_iff_not]
  omega

theorem svcActivate_exec_scheduled (h1 : i.pmin ≤ lo) (h2 : lo ≤ i.pmax) (h3 : i.pmin ≤ hi) (h4 : hi ≤ i.pmax) {z : Sess}
    (hz : { y with st := .scheduled, tact := tact, now := decide (tact = 0), goAt := e.clk + e.cycle } = z) :
    exec (.svcActivate dt q tact lo hi) s =
      .next ((({ u with nvm := { u.nvm with tactReg := tact.setWidth 32 } }).setSess z).reply q 5 0 0 []) := by
  rw [svcActivate_exec_inTime he hon hm hsvc hx hid hsrv hy hu hb hop hst ht hi', if_neg (by simp [h1, h2, h3, h4]), hz]

end Activate

section Ends
include he hon hm hsvc hx hid hsrv hy hu

theorem svcClose_exec (hb : e.svcBusy 6 = none) (hst : x.st ≠ .activating) :
    exec (.svcClose dt q) s = .next ((u.endSess .cancelled 2 0 true).reply q 6 0 0 []) := by
  have hyst : y.st ≠ .activating := by rw [← hy]; exact hst
  rw [exec_svcClose, execSvcClose, he, serve_session hon hm hsvc hx hid hsrv hy hu hb, if_neg hyst]

theorem svcRestart_exec (hb : e.svcBusy 8 = none) : exec (.svcRestart dt q) s = .next (u.reply q 8 0 0 []).stewardStop := by
  rw [exec_svcRestart, execSvcRestart, he, serve_session hon hm hsvc hx hid hsrv hy hu hb]

end Ends

end OpenSession

/-! #### The answer on the service port (R423, R424) -/

theorem reply_service (u : State) {q : SvcReq} (h : q.srv = true) (op st d : Nat) (b : Bytes) :
    u.reply q op st d b =
      { u with nvm :=
        { u.nvm with srvOut := srvFrame (beBytes 1 (op % 128 + 128) ++ beBytes 1 q.seq ++ beBytes 1 st ++ beBytes 1 d ++ b) } } := if_pos h

/-- Settles O59: a request is refused, or served on the session that it names, as the state of the update decides. -/
theorem updateSessions : Obligations.UpdateSessions := by
  unfold Obligations.UpdateSessions
  refine ⟨?_, ?_, fun u q op st d b h => reply_service u h op st d b, fun p => rfl⟩
  · intro s dt q e hon hm hsvc
    refine ⟨fun target hb => ⟨?_, ?_, ?_, ?_⟩, fun block chunk data tact lo hi h => ⟨?_, ?_, ?_, ?_, ?_⟩, ?_, ?_, ?_, ?_, ?_, ?_, ?_, ?_⟩
    · exact fun h => svcOpen_exec_busy rfl hon hm hsvc hb h
    · exact fun h ha => svcOpen_exec_window rfl hon hm hsvc hb h ha
    · exact fun h ha ht => svcOpen_exec_range rfl hon hm hsvc hb h ha ht
    · intro h ha hlo hhi himg r v
      obtain ⟨h0, hmax⟩ := sessionId_range v.nvm.nextSid
      exact ⟨_, h0, hmax, svcOpen_exec_session rfl hon hm hsvc hb h ha hlo hhi himg rfl rfl rfl rfl rfl⟩
    · exact fun hb => svcWrite_exec_none rfl hon hm hsvc h hb block chunk data
    · exact fun hb => svcVerify_exec_none rfl hon hm hsvc h hb
    · exact fun hb => svcActivate_exec_none rfl hon hm hsvc h hb tact lo hi
    · exact fun hb => svcClose_exec_none rfl hon hm hsvc h hb
    · exact fun hb => svcRestart_exec_none rfl hon hm hsvc h hb
    · exact fun hs => ⟨svcClose_exec_stopped rfl hon hs, svcRestart_exec_stopped rfl hon hs, svcConfirm_exec_stopped rfl hon hs,
        fun hi => svcStatus_exec_stopped rfl hon hs hi⟩
    · exact fun hb => svcStatus_exec rfl hon hm hb
    · exact fun hb ha => (svcConfirm_exec rfl hon hm hb).trans (by rw [if_pos ha])
    · exact fun hb ha => (svcConfirm_exec rfl hon hm hb).trans (by rw [if_neg ha])
    · exact fun a n hb h1 h2 h3 => (svcRead_exec rfl hon hm hb a n).trans (by rw [if_neg (by omega)])
    · exact fun a n hb h => (svcRead_exec rfl hon hm hb a n).trans (by rw [if_pos h])
    · exact fun req x y hb h => svcKeyslot_exec_denied rfl hon hm hb h req x y
    · exact fun req x y hb hk ho hp => svcKeyslot_exec_given rfl hon hm hb hk ho req hp rfl
  · intro s dt q x e y u hon hm hsvc hx hid hsrv
    refine ⟨?_, ?_, ?_, ?_, ?_, ?_, ?_, ?_⟩
    · intro block chunk data hb hop hst hd hc hk z hblock
      refine (svcWrite_exec_chunk rfl hon hm hsvc hx hid hsrv rfl rfl hb hop hst hd hc hk rfl).trans ?_
      exact congrArg _ (chunkTaken_none hblock)
    · intro block chunk data b hb hop hst hd hc hk z kept hblock
      have hchunk : exec (.svcWrite dt q block chunk data) s = .next (u.chunkTaken q block z) :=
        svcWrite_exec_chunk rfl hon hm hsvc hx hid hsrv rfl rfl hb hop hst hd hc hk rfl
      refine ⟨fun hcrc => ?_, fun hcrc => ?_⟩
      · exact hchunk.trans (congrArg _ (chunkTaken_bad hblock rfl hcrc))
      · exact hchunk.trans (congrArg _ (chunkTaken_good hblock rfl hcrc rfl rfl rfl rfl))
    · exact fun block chunk data hb hd => svcWrite_exec_length rfl hon hm hsvc hx hid hsrv rfl rfl hb hd
    · exact fun hb hop hst => svcVerify_exec rfl hon hm hsvc hx hid hsrv rfl rfl hb hop hst rfl rfl
    · exact fun tact lo hi hb h => svcActivate_exec_notVerified rfl hon hm hsvc hx hid hsrv rfl rfl hb h
    · exact fun tact lo hi hb hop hst ht =>
        ⟨fun h => svcActivate_exec_protocol rfl hon hm hsvc hx hid hsrv rfl rfl hb hop hst ht rfl h,
          fun h1 h2 h3 h4 => svcActivate_exec_scheduled rfl hon hm hsvc hx hid hsrv rfl rfl hb hop hst ht rfl h1 h2 h3 h4 rfl⟩
    · exact fun hb hst => svcClose_exec rfl hon hm hsvc hx hid hsrv rfl rfl hb hst
    · exact fun hb => svcRestart_exec rfl hon hm hsvc hx hid hsrv rfl rfl hb

end Sys2Proof.Machine
end

section
/-! ### Activation, confirmation and the ends of an update (O60) -/

namespace Sys2Proof.Machine

/-! #### The session's timeout and its activation (R426, R431, R432) -/

section Session
variable {s e : State} {dt : Nat} {x : Sess} (he : s.elapse dt = e) (hx : e.nvm.sess = some x)
include he hx

theorem sessionTimeout_exec (hst : x.st = .open_ ∨ x.st = .verified) (hs : e.stw = true ∨ e.nvm.noImg = true) :
    exec (.sessionTimeout dt) s = .next ((e.until_ (x.lastPkt + 6000000000)).endSess .failed 4 3 true) := by
  subst he
  rw [exec_sessionTimeout, execSessionTimeout]
  simp only [hx]
  exact if_pos ⟨hst, hs⟩

/-- What an activation does to the image of the session `x` in the state in which its time has come (R431, R432). -/
def State.activation (s : State) (x : Sess) : Out :=
  if s.mramHeld then .next s
  else
    let s := s.flushWrites
    if x.target = 3 then .next (s.activateProgram x)
    else if x.target = 1 then .next (s.launch x)
    else
      let (good, s) := s.imageRead x
      match (if good then s.activated x else none) with
      | some t =>
        let t := t.doneSess true
        .next (if x.target = 4 ∧ t.pwr.commit.isNone then t.beginCommit t.pwr.mode .auto else t)
      | none => .next (s.endSess .failed 4 2 true)

theorem activation_exec (hst : x.st = .scheduled ∨ x.st = .activating) (hs : e.stw = true ∨ e.nvm.noImg = true)
    (hop : e.opIs 4 .running = true) {y : Sess} {u : State} (hy : { x with st := .activating } = y)
    (hu : (if x.now = true then e.until_ x.goAt else e.untilTb x.tact).setSess y = u) :
    exec (.activation dt) s = u.activation y := by
  subst he hu hy
  rw [exec_activation, execActivation]
  simp only [hx]
  exact if_pos ⟨hst, hs, hop⟩

end Session

section Activation
variable {u : State} {y : Sess}

theorem activation_held (h : u.mramHeld = true) : u.activation y = .next u := if_pos h

theorem activation_program (h : u.mramHeld = false) (ht : y.target = 3) : u.activation y = .next (u.flushWrites.activateProgram y) :=
  (if_neg (by simp [h])).trans (if_pos ht)

theorem activation_firmware (h : u.mramHeld = false) (ht : y.target = 1) : u.activation y = .next (u.flushWrites.launch y) :=
  (if_neg (by simp [h])).trans ((if_neg (by omega)).trans (if_pos ht))

section Copies
variable (h : u.mramHeld = false) (h1 : y.target ≠ 1) (h3 : y.target ≠ 3) {r : Bool × State} (hr : u.flushWrites.imageRead y = r)
include h h1 h3 hr

theorem activation_fails (hf : r.1 = false ∨ r.2.activated y = none) : u.activation y = .next (r.2.endSess .failed 4 2 true) := by
  have hnone : (if r.1 = true then r.2.activated y else none) = none := by
    rcases hf with hf | hf
    · rw [hf, if_neg (by decide)]
    · rw [hf, ite_self]
  subst hr
  unfold State.activation
  rw [if_neg (by simp [h])]
  dsimp only
  rw [if_neg h3, if_neg h1, hnone]

theorem activation_succeeds (hgood : r.1 = true) {w : State} (hw : r.2.activated y = some w) {d : State} (hd : w.doneSess true = d) :
    u.activation y = .next (if y.target = 4 ∧ d.pwr.commit.isNone = true then d.beginCommit d.pwr.mode .auto else d) := by
  have hsome : (if r.1 = true then r.2.activated y else none) = some w := by rw [hgood, if_pos rfl, hw]
  subst hr hd
  unfold State.activation
  rw [if_neg (by simp [h])]
  dsimp only
  rw [if_neg h3, if_neg h1, hsome]

end Copies

end Activation

/-! #### Confirmation and fall-back (R432, R433) -/

section Confirm
variable {s e : State} {dt : Nat} (he : s.elapse dt = e)
include he

theorem imageConfirm_exec {t0 : Nat} (hl : e.linkSince = some t0) (ha : e.nvm.act = 1) (hs : e.stw = true) (ho : e.nvm.launchOk = true)
    (hb : e.stwSramBad = false) (hc : e.bit 0x1F03 31 = true → e.nvm.confirm = true) (hm : e.mramHeld = false) {u v : State}
    (hu : e.until_ (t0 + 1000000000) = u) (ht : u.clk ≤ u.nvm.actAt + u.confirmTicks)
    (hv : (u.jrnStep (fun j => { j with st := .idle, slots := [] })).flushWrites = v) :
    exec (.imageConfirm dt) s = .next ((v.logUpdate 5 1 0 v.nvm.img.ver v.nvm.prev).setAct 2 0) := by
  rw [exec_imageConfirm]
  delta execImageConfirm
  dsimp only
  rw [he, hl]
  dsimp only
  rw [if_pos ⟨ha, hs, ho, by simp [hb], hc, by simp [hm]⟩]
  have hms : t0 + 5000 * msTicks = t0 + 1000000000 := rfl
  simp only [hms, hu]
  rw [if_neg (Nat.not_lt.mpr ht), hv]

theorem confirmWindowExpiry_exec (ha : e.nvm.act = 1) (hs : e.stw = true) :
    exec (.confirmWindowExpiry dt) s = .next (((e.until_ (e.nvm.actAt + e.confirmTicks)).fallBack 1).stewardStop) := by
  subst he
  rw [exec_confirmWindowExpiry, execConfirmWindowExpiry]
  exact if_pos ⟨ha, hs⟩

end Confirm

theorem serviceFrameGap_exec {s e : State} {dt : Nat} (he : s.elapse dt = e) (got : Bytes) :
    exec (.serviceFrameGap ⟨dt, got⟩) s = .next ((srvPackets (got.length + 1) got).foldl State.srvTake e) := by
  subst he
  rw [exec_serviceFrameGap]
  rfl

theorem fallBack_inReset {u : State} (h : u.pwr.mode = .reset) (cause : Nat) :
    (u.fallBack cause).nvm.act = 3 ∧ (u.fallBack cause).nvm.fbCause = cause ∧ (u.fallBack cause).nvm.fbDue = true ∧
      OnlyIn [.nvm] u (u.fallBack cause) := by
  unfold State.fallBack
  dsimp only
  rw [if_pos (by exact h)]
  exact ⟨rfl, rfl, rfl, (onlyIn_setNvm u _).trans (onlyIn_setNvm _ _)⟩

theorem dropSess_results (u : State) : u.dropSess.nvm.sess = none ∧ u.dropSess.nvm.ifc = 0 ∧ OnlyIn [.nvm] u u.dropSess :=
  ⟨rfl, rfl, onlyIn_setNvm u _⟩

/-! #### Service frames (R424) -/

theorem length_beBytes : ∀ n x, (beBytes n x).length = n
  | 0, _ => rfl
  | n + 1, x => congrArg (· + 1) (length_beBytes n x)

theorem beNat_beBytes_two {k : Nat} (h : k < 65536) : beNat (beBytes 2 k) = k := by
  simp only [beNat, beBytes, List.foldl_cons, List.foldl_nil, BitVec.toNat_ofNat]
  omega

/-- A field of two bytes in its place. -/
theorem beField_two {pre post : Bytes} {k : Nat} (h : k < 65536) : beField (pre ++ (beBytes 2 k ++ post)) pre.length 2 = k := by
  have hlen : 2 - ((pre ++ (beBytes 2 k ++ post)).length - pre.length) = 0 := by
    simp only [List.length_append, length_beBytes]
    omega
  unfold beField
  rw [List.drop_left, List.take_left' (length_beBytes 2 k), hlen, List.replicate_zero, List.append_nil, beNat_beBytes_two h]

theorem crcShift_lt {w poly : Nat} (hp : poly < 2 ^ w) (v : Nat) : crcShift w poly v < 2 ^ w := by
  have hmod : v * 2 % 2 ^ w < 2 ^ w := Nat.mod_lt _ (Nat.two_pow_pos w)
  unfold crcShift
  split
  · exact Nat.xor_lt_two_pow hmod hp
  · exact hmod

theorem crcByte_lt {w poly : Nat} (hp : poly < 2 ^ w) (v b : Nat) : crcByte w poly v b < 2 ^ w := by
  unfold crcByte
  rw [List.range_succ, List.foldl_concat]
  exact crcShift_lt hp _

/-- The check value of a service frame fits its two bytes. -/
theorem crcOf_lt (l : Bytes) : crcOf (crcAlg 0) l < 65536 := by
  have hfeed : ∀ (l : Bytes) (v : Nat), v < 2 ^ 16 → crcFeed (crcAlg 0) v l < 2 ^ 16 := by
    intro l
    induction l with
    | nil => exact fun v hv => hv
    | cons b t ih => exact fun v _ => ih _ (crcByte_lt (by decide) v _)
  have hend : crcOf (crcAlg 0) l = crcFeed (crcAlg 0) (crcAlg 0).init l := Nat.xor_zero _
  rw [hend]
  exact hfeed l _ (by decide)

/-- A frame whose length and check value are right gives its packet (R424). -/
theorem srvPackets_frame {p : Bytes} (h4 : 4 ≤ p.length) (h256 : p.length ≤ 256) (rest : Bytes) (n : Nat) :
    srvPackets (n + 1) (srvFrame p ++ rest) = p :: srvPackets n rest := by
  obtain ⟨hd, hhd⟩ : ∃ hd, beBytes 2 p.length = hd := ⟨_, rfl⟩
  obtain ⟨c, hc⟩ : ∃ c, crcOf (crcAlg 0) (hd ++ p) = c := ⟨_, rfl⟩
  have hhlen : hd.length = 2 := by rw [← hhd, length_beBytes]
  have hblen : (hd ++ p).length = p.length + 2 := by rw [List.length_append, hhlen, Nat.add_comm]
  have hcrc : c < 65536 := hc ▸ crcOf_lt _
  obtain ⟨t, ht⟩ : ∃ t, (hd ++ p) ++ (beBytes 2 c ++ rest) = t := ⟨_, rfl⟩
  have htlen : t.length = p.length + 4 + rest.length := by
    rw [← ht, List.length_append, hblen, List.length_append, length_beBytes, Nat.add_assoc, ← Nat.add_assoc 2 2, ← Nat.add_assoc]
  have hframe : srvFrame p ++ rest = 0x7E :: t := by
    rw [← ht, ← hc, ← hhd, ← List.append_assoc]
    rfl
  have hn : beField t 0 2 = p.length := by
    rw [← ht, ← hhd, List.append_assoc]
    exact beField_two (pre := []) (by omega)
  have hcheck : beField t (p.length + 2) 2 = c := by
    rw [← ht, ← hblen]
    exact beField_two hcrc
  have htake : t.take (p.length + 2) = hd ++ p := by rw [← ht, List.take_left' hblen]
  have hdrop : t.drop (p.length + 4) = rest := by
    rw [← ht, ← List.append_assoc]
    exact List.drop_left' (by rw [List.length_append, hblen, length_beBytes])
  have hpacket : (t.drop 2).take p.length = p := by
    rw [← ht, List.append_assoc, List.drop_left' hhlen, List.take_left' rfl]
  rw [hframe, srvPackets]
  dsimp only
  rw [hn, if_neg (by decide), if_neg (by omega), if_neg (by omega), if_neg (by omega), hcheck, htake, hc, if_pos rfl, hdrop, hpacket]

/-- A length out of range is passed over, and what follows it is read (R424). -/
theorem srvPackets_long {k : Nat} (h : 256 < k) (hk : k < 65536) (n : Nat) (rest : Bytes) :
    srvPackets (n + 1) (0x7E :: (beBytes 2 k ++ rest)) = srvPackets n rest := by
  have hn : beField (beBytes 2 k ++ rest) 0 2 = k := beField_two (pre := []) hk
  have hlen : (beBytes 2 k ++ rest).length = 2 + rest.length := by rw [List.length_append, length_beBytes]
  rw [srvPackets]
  dsimp only
  rw [hn, if_neg (by decide), if_neg (by omega), if_pos (Or.inr h), List.drop_left' (length_beBytes 2 k)]

/-- Settles O60: each command is one branch of its definition, and a frame's parts are found where they were put. -/
theorem updateActivation : Obligations.UpdateActivation := by
  unfold Obligations.UpdateActivation
  refine ⟨?_, fun s dt => ⟨?_, ?_, ?_⟩, ?_, ?_, ?_, dropSess_results⟩
  · intro s dt x e hx
    refine ⟨fun hst hs => sessionTimeout_exec rfl hx hst hs, ?_⟩
    intro hst hs hop y u
    have hexec : exec (.activation dt) s = u.activation y := activation_exec rfl hx hst hs hop rfl rfl
    rw [hexec]
    refine ⟨fun hm => activation_held hm, fun hm ht => activation_program hm ht, fun hm ht => activation_firmware hm ht, ?_⟩
    intro hm h1 h3 r v
    have hr : u.flushWrites.imageRead y = r := rfl
    refine ⟨fun hf => activation_fails (y := y) hm h1 h3 hr hf, fun w hg hw h4 => ?_, fun w hg hw h4 => ?_⟩
    · exact (activation_succeeds (y := y) hm h1 h3 hr hg hw rfl).trans (by rw [if_neg (fun h => h4 h.1)])
    · refine (activation_succeeds (y := y) hm h1 h3 hr hg hw rfl).trans (congrArg _ (if_congr ?_ rfl rfl))
      rw [Option.isNone_iff_eq_none]
      exact and_iff_right h4
  · exact fun t0 hl ha hs ho hb hc hm ht => imageConfirm_exec rfl hl ha hs ho hb hc hm rfl ht rfl
  · exact fun ha hs => confirmWindowExpiry_exec rfl ha hs
  · exact fun got => serviceFrameGap_exec rfl got
  · exact fun p rest n h4 h256 => srvPackets_frame h4 h256 rest n
  · exact fun k n rest h hk => srvPackets_long h hk n rest
  · exact fun u cause h => fallBack_inReset h cause

end Sys2Proof.Machine
end
